-- ==== Sys2Proof/Word.lean ====
section
/-!
DEFINITION. The words the device works on: a 48-bit register value (R13) and a byte (R11).
-/

namespace Sys2Proof

/-- The content of a register slot: registers are 48 bits wide (R13). -/
abbrev Word := BitVec 48

/-- A byte of memory. -/
abbrev Byte := BitVec 8

end Sys2Proof
end

