-- ==== Sys2Proof/Syntax.lean ====
section
/-!
DEFINITION. The commands of the device: one constructor for each row of opcode_table.json, with the values that come
with it from outside (the initiator of an access, a register value, a received frame, a measured level).
-/

namespace Sys2Proof

/-- The ID of an interconnect initiator (R466). -/
abbrev Init := Fin 16

/-- A core: LC0 to LC3, SC0, SC1 and SV (R212). -/
abbrev CoreId := Fin 7

/-- A sample port and its head. -/
abbrev Port := Fin 32

/-- A band stream BSn and its conditioner (R17). -/
abbrev Stream := Fin 128

/-- A tracking channel. -/
abbrev Chan := Fin 4096

/-- What a received PTP message shows of its AUTHENTICATION TLV: none, or one with its SPP, its keyID and its ICV (R406). -/
inductive Tlv where
  | absent
  | present (spp : Byte) (keyId : BitVec 32) (icv : List Byte)
  deriving DecidableEq, Repr

/-- A Delay_Req as a port receives it (R401). -/
structure DelayReq where
  multicast : Bool
  /-- Its sourcePortIdentity, 10 bytes. -/
  source : List Byte
  /-- Its transport as ETHn_PTPCFG.TRANSPORT codes it, and the addresses it comes from and goes to (R401). -/
  transport : Fin 3
  smac : BitVec 48
  sip : List Byte
  dmac : BitVec 48
  dip : List Byte
  seq : BitVec 16
  /-- Its correctionField in 2^-16 ns. -/
  corr : BitVec 64
  tlv : Tlv
  /-- Fine steps from the tick of the command to the timestamp point at the PCS. -/
  fine : Fin 256
  /-- The device already answers as many as it can (R401). -/
  beyond : Bool
  /-- The frame without its FCS. -/
  frame : List Byte
  deriving DecidableEq, Repr

/-- One exchange of a time receiver with its parent (R408): the times in 2^-48 s, the sums of the correctionFields in
2^-16 ns, whether every message of it was verified, and whether a stamp of it was taken during a clock fault. -/
structure PtpExchange where
  t1 : BitVec 96
  t2 : BitVec 96
  t3 : BitVec 96
  t4 : BitVec 96
  cs : BitVec 64
  cr : BitVec 64
  verified : Bool
  clkFlt : Bool
  deriving DecidableEq, Repr

/-- What SV has of a port's parent from its Announce messages (R410): its portIdentity and clockClass, whether they have timed
out, and timeTraceable. -/
structure PtpParent where
  identity : List Byte
  cls : Byte
  timedOut : Bool
  traceable : Bool
  deriving DecidableEq, Repr

/-- A request for unicast transmission, as a Signaling message carries it (R398): the portIdentity of the time receiver, its transport
and addresses, whether it asks for Sync or for Delay_Resp, the logInterMessagePeriod and the durationField. -/
structure GrantReq where
  rxpid : List Byte
  transport : Fin 3
  mac : BitVec 48
  ip : List Byte
  sync : Bool
  log : Byte
  duration : BitVec 32
  deriving DecidableEq, Repr

/-- What a received frame is (R414); of the PTP messages a Signaling message that asks for a grant stands apart (R398). -/
inductive FrameKind where
  | ptpEvent | ptpGeneral | arpIcmp | other
  | grantRequest (r : GrantReq)
  deriving DecidableEq, Repr

/-- A complete receive frame as a port takes it from its lane (R26, R31, R47). -/
structure RxFrame where
  /-- The code groups in their order, bit a of each in bit 9: 3,840 at 2.4576 Gbaud, 1,920 at 1.2288 Gbaud (R28). -/
  groups : List (BitVec 10)
  /-- Its first code group stands at the position that R63 expects. -/
  inPlace : Bool
  /-- Fine steps from the tick of the command to the arrival (R30). -/
  sub : Fin 256
  /-- Samples by which each slot's buffer has gained since the previous frame boundary, on the head's clock (R52). -/
  drift : List Int
  deriving DecidableEq, Repr

/-- A parallel move that is present (R255): its direction, REG, PTR and MOD. -/
structure Move where
  store : Bool
  reg : Fin 32
  ptr : Fin 8
  mod : Fin 4
  deriving DecidableEq, Repr

/-- A command of an EMP frame (R550), with the operands that its payload spells; `body` is what the response carries beside
its status where the layout is SV's own. -/
inductive EmpCmd where
  | sysVersion
  | sysCaps
  | sysReset
  | sysRestartcore (core : CoreId) (image : List Byte)
  | sysStats
  | sysOutcfg (cls num : Byte) (links : BitVec 5) (period : BitVec 16)
  | cfgGet (word : Byte)
  | cfgSet (word : Byte) (value : BitVec 64)
  | cfgPtprx (minex accclass : Byte)
  | timeStatus
  | timeLoad (sec frac : Word)
  | timeStep (ps : Word)
  | timeSlew (ps rate : Word)
  | timeUtc (cur new : BitVec 16) (pend : Bool) (leapsec : Word)
  | measSubscribe (antennas : BitVec 32)
  | chanRequest (antenna sys svid sig : Byte) (at_ : BitVec 12) (entry : List Byte)
  | chanRelease (at_ : BitVec 12) (entry : List Byte)
  | pwrState (target : Fin 8)
  | pwrLevel (target : Fin 4)
  | chainRead
  | chainCommit (addr : BitVec 26) (image : List Byte)
  | chainLock
  | chainSigned (addr : BitVec 26) (image : List Byte)
  | logRead (seq : BitVec 16)
  | logWrite (value : Word)
  | ptpPortcfg (port : Fin 4) (writes : List (Byte × Word))
  | ptpGrants (index : Byte) (entry : List Byte)
  | extTod (unit : Fin 8) (year : BitVec 16) (month day hour minute second : Byte)
  | extTemp (temp : BitVec 16)
  | extZdain (uart : Fin 2) (unit : Fin 8)
  | nmeaCfg (version : Byte) (sentences : Byte) (uarts : BitVec 2) (pshat : Bool)
  | bootData (offset : BitVec 32) (bytes : List Byte)
  | bootGo (len : BitVec 32)
  deriving DecidableEq, Repr

/-- What the payload of a frame spells under its class and number (R546, R550). -/
inductive EmpReading where
  | cmd (c : EmpCmd)
  | badLen
  | badArg (offset : Byte)
  deriving DecidableEq, Repr

/-- What the loop closures of a loop core give for one dump record, the manual fixing no discriminator, filter or estimator
(R272, R277, R282): the rates and NCOH to post, the loop-filter words W17 to W24, the transmit time of the epoch in the
satellite's system time in 2^-48 s, the output of the carrier discriminator in 2^-16 cycle, C/N0 in 0.01 dB-Hz, the 1σ of PR and
of CPH, and the three flags of MFLAGS that its decoding and its lock decide. -/
structure LoopOut where
  carrRate : Word
  codeRate : Word
  ncoh : BitVec 7
  filter : Vector Word 8
  ttx : BitVec 96
  disc : BitVec 32
  cn0 : BitVec 16
  prsig : BitVec 16
  phsig : Byte
  prValid : Bool
  phValid : Bool
  halfCyc : Bool
  deriving DecidableEq, Repr

/-- A satellite of an antenna pair in the consistency test (R289), its index in the satellite table being 64 SYS + SVID: the
predicted single difference and the phases of the two antennas, in 2^-32 cycle. -/
structure SatPhase where
  sat : Nat
  pi : Int
  phA : Int
  phRef : Int
  deriving DecidableEq, Repr

/-- A request for a change of the channels (R269): a channel of an antenna, SYS, SVID and SIG started, a channel stopped, or a channel
moved to another loop core. -/
inductive ChanReq where
  | start (antenna sys svid sig : Byte)
  | stop
  | move
  deriving DecidableEq, Repr

/-- An entry of the request queue as a core posts it (R269): its place, its bytes, and what it asks for. -/
structure ChanPost where
  at_ : BitVec 12
  entry : List Byte
  ask : ChanReq
  deriving DecidableEq, Repr

/-- What the active solution core decides on a request of the queue (R269): a channel started with the context words W0 to W7
for a loop core, a channel stopped, a channel moved to a loop core, or nothing. -/
inductive ChanGrant where
  | start (chan : Chan) (core : Fin 4) (ctx : Vector (BitVec 64) 8)
  | stop (chan : Chan)
  | move (chan : Chan) (core : Fin 4)
  | nothing
  deriving DecidableEq, Repr

/-- UTC parameters as the satellites broadcast them, or as the time transmitter of the selected PTP source gives them (R337). -/
structure UtcParams where
  cur : BitVec 16
  new : BitVec 16
  pend : Bool
  leapsec : Word
  deriving DecidableEq, Repr

/-- What a solution epoch takes from outside (R269, R337): the tag of its commands, its decisions on the requests that wait, and the
UTC parameters. -/
structure SolOut where
  tag : Byte
  grants : List ChanGrant
  utc : Option UtcParams
  deriving DecidableEq, Repr

/-- What a block of OSNMA messages spells (R294): a root key with its signature under P-521 or P-256, a public key with its path
in the Merkle tree (each node with whether it stands at the left), a TESLA key of the chain by its number, a tag over the data of a
satellite under the key of a number, data in use that differ from authenticated ones, and the messages that revoke the
chain or raise the alert.  The leaf of a Merkle tree holds its public key. -/
inductive OsnmaItem where
  | kroot (p521 : Bool) (sha3 : Bool) (number : Nat) (key : List Byte) (message : List Byte) (signature : List Byte)
  | pkr (p521 : Bool) (leaf : List Byte) (path : List (Bool × List Byte))
  | key (number : Nat) (bytes : List Byte)
  | tag (svid : Fin 64) (cmac : Bool) (number : Nat) (data : List Byte) (mac : List Byte)
  | differs (svid : Fin 64)
  | revoke
  | alert
  deriving DecidableEq, Repr

/-- A block of E1-B navigation data with an OSNMA item, as an antenna delivers it, the second of Galileo time at which the satellite
sent it, and whether its CRC is right (R294). -/
structure OsnmaBlock where
  antenna : Port
  crc : Bool
  second : BitVec 32
  item : OsnmaItem
  deriving DecidableEq, Repr

/-- What a transaction does (R234, R458): a read of some bytes, a write of bytes, or one of the two atomic operations on an
aligned word of 32 bits. -/
inductive BusOp where
  | read (n : Nat)
  | write (b : List Byte)
  | atomicAdd (v : BitVec 32)
  | atomicSwap (v : BitVec 32)
  deriving DecidableEq, Repr

/-- An inbound PCIe request (R535 to R538): a memory read or write at an offset of BAR0, or a configuration write that sets
Bus Master Enable and MSI-X Enable. -/
inductive PcieReq where
  | read (addr : BitVec 29) (n : Nat)
  | write (addr : BitVec 29) (b : List Byte)
  | config (bme msix mask : Bool)
  | configBar (value : BitVec 32)
  | configRead (dword : BitVec 10)
  deriving DecidableEq, Repr


/-- The commands of the device, one constructor for each row of the table of operations and events. -/
inductive Instr where
  /-- REGISTER_WRITE (R14): A write to a register with no row of its own sets its fields by type code, subject to ownership, Chain lock and firewall rules. -/
  | registerWrite (init : Init) (addr : BitVec 32) (value : Word)
  /-- HALF_WRITE_STAGE (R561): A 4-byte write at slot offset 4 stages the upper half for the writing initiator; the next offset-0 write applies both halves together. -/
  | halfWriteStage (init : Init) (addr : BitVec 32) (value : BitVec 32)
  /-- HALF_READ_LATCH (R562): A 4-byte read at offset 0 latches bits [47:32] for the same initiator's next read at offset 4. -/
  | halfReadLatch (init : Init) (addr : BitVec 32)
  /-- IC_TRANSACTION (R469): An interconnect transaction is checked once by the firewall, arbitrated at its bank and answered or refused with a cause. -/
  | icTransaction (init : Init) (addr : BitVec 32) (op : BusOp)
  /-- IC_TIMEOUT (R468): A transaction not answered within 4,096 CLK_SYS cycles ends with an error response of cause TIMEOUT. -/
  | icTimeout (init : Init) (addr : BitVec 32) (write : Bool)
  /-- IC_ERRLOG_READ (R472): A read of IC_ERRLOG returns the oldest entry's address and latches its IC_ERRINFO. -/
  | icErrlogRead (init : Init)
  /-- IC_ERRINFO_READ (R472): A read of IC_ERRINFO returns the latched information and removes the entry. -/
  | icErrinfoRead (init : Init)
  /-- FIREWALL_LOCK (R470): A write of 1 to IC_FWCTRL.LOCK freezes the firewall registers until the next cold reset or wake from DEEP. -/
  | firewallLock (init : Init)
  /-- SP_ENABLE (R38): Setting SPn_CTRL.EN checks the slot configuration against R37 and starts the hunt for SOF pairs. -/
  | spEnable (port : Port)
  /-- SP_DISABLE (R42): Clearing EN stops decoding at the next frame boundary, stops dependent channels, plans and captures, drops LINK_UP and abandons a pending mask change. -/
  | spDisable (port : Port)
  /-- BCEN_ENABLE (R35): Setting BCEN starts transmission of back-channel frames on the marker grid. -/
  | bcenEnable (port : Port)
  /-- BCEN_DISABLE (R42): Clearing BCEN ends the back-channel after the frame in progress. -/
  | bcenDisable (port : Port)
  /-- SP_CONFIG_WRITE (R41): A write that would change FMT, SLOTRATE or BAUD is applied only while EN and BCEN are both 0, otherwise ignored with CFGERR. -/
  | spConfigWrite (port : Port) (value : Word)
  /-- MASK_WRITE (R43): A write to SPn_SLOTMASK.MASK applies at once while EN is 0, or queues the change as PENDING while EN is 1. -/
  | maskWrite (port : Port) (mask : BitVec 4)
  /-- MASK_TIMEOUT (R45): When no frame echoes the pending mask within MASKTO frame periods, the change is abandoned with MASK_FAIL. -/
  | maskTimeout (port : Port)
  /-- BACKCHANNEL_FRAME (R29): At each marker instant a back-channel frame leaves with MSEQ, slot, rate and format requests and any FEC command. -/
  | backchannelFrame (port : Port)
  /-- RECEIVE_FRAME (R47): A complete receive frame is checked, muted or decoded, given its Slate and handed with its tag to the conditioners. -/
  | receiveFrame (port : Port) (frame : RxFrame)
  /-- FRAME_MISSING (R63): No SOF pair at the expected position substitutes a muted frame; the fourth in a row takes the link down. -/
  | frameMissing (port : Port)
  /-- LINKDOWN_MUTED_FRAME (R64): While the link is down each active stream delivers a muted frame at the nominal period with an extrapolated Slate. -/
  | linkdownMutedFrame (port : Port)
  /-- SP_SLATEFRAC_READ (R77): A read of SPn_SLATEFRAC latches SPn_SLATESEC for the next read. -/
  | spSlatefracRead (init : Init) (port : Port)
  /-- CLAPPER_ARM (R66): Writing ARM captures the instant and port set, refusing with PAST or BUSY, and holds the streams of the set. -/
  | clapperArm
  /-- CLAPPER_DISARM (R69): Writing DISARM cancels an armed Clapper, and held ports resume at their next frame boundary. -/
  | clapperDisarm
  /-- CLAPPER_FIRE (R68): At Tc each ready port in the set begins delivery with the first sample at or after Tc, and missing ports are recorded. -/
  | clapperFire
  /-- CONDITION_FRAME (R79): A conditioner passes a frame's samples through expansion or decimation, DC removal, blanker, notches, AGC and requantiser, and hands the COND4 tap with its tag to the Band Router. -/
  | conditionFrame (stream : Stream)
  /-- BLANKER_BLOCK (R87): At the end of each 1,024 non-Z sample block the blanker mean m is updated. -/
  | blankerBlock (stream : Stream)
  /-- NOTCH_BLOCK (R89): At the end of each block an ADAPT notch measures DEPTH and enters or leaves the path, tagging NOTCHCHG. -/
  | notchBlock (stream : Stream)
  /-- AGC_BLOCK (R91): At the end of each block of 1,024 non-Z samples the AUTO AGC updates GAIN. -/
  | agcBlock (stream : Stream)
  /-- STAT_INTERVAL_END (R93): At the end of each 1 ms interval the statistics registers change together, STATRDY is set and INTF is checked. -/
  | statIntervalEnd (stream : Stream)
  /-- COND_SOFTRST (R97): Writing CNDn_CTRL.SOFTRST resets the DC, notch, AGC and blanker loops at once. -/
  | condSoftrst (stream : Stream)
  /-- FEC_START (R106): START from IDLE sends CONFIG, SET_LO, SET_GAIN and CAL to the head. -/
  | fecStart (port : Port)
  /-- FEC_BANDCHG (R106): BANDCHG from RUN sends CONFIG, changed SET_LO commands and CAL. -/
  | fecBandchg (port : Port)
  /-- FEC_REFORMAT (R108): REFORMAT checks the format, sends CONFIG, SET_FORMAT and CAL, loading FMT and SLOTRATE into SPn_CTRL with SET_FORMAT. -/
  | fecReformat (port : Port)
  /-- FEC_GAIN (R106): GAIN sends SET_GAIN for each slot whose gain changed. -/
  | fecGain (port : Port)
  /-- FEC_STOP (R106): STOP sends IDLE after any outstanding command ends, taking the head to IDLE. -/
  | fecStop (port : Port)
  /-- FEC_RESTART (R106): RESTART from FAULT sends RESET and then the START commands once the head shows IDLE. -/
  | fecRestart (port : Port)
  /-- FEC_TLMPAGE (R106): TLMPAGE sends TLM_PAGE with FECn_CMD.PAGE. -/
  | fecTlmpage (port : Port) (page : Byte)
  /-- FEC_HEADRESET (R106): HEADRESET sends RESET after any outstanding command ends, taking the head to IDLE. -/
  | fecHeadreset (port : Port)
  /-- CMD_TIMEOUT (R103): An unacknowledged command is resent after CMDTO frame periods; after RETRY resends the head enters FAULT with NOACK. -/
  | cmdTimeout (port : Port)
  /-- CALLIM_EXPIRY (R106): CALLIM frame periods in CAL resend CAL once, and a second expiry gives FAULT with CALFAIL. -/
  | callimExpiry (port : Port)
  /-- SETTLE_EXPIRY (R106): When SETTLE frame periods have elapsed FEC sends RUN. -/
  | settleExpiry (port : Port)
  /-- HELD_CMD_TIMEOUT (R111): A held command fails with HEAD_NOT_READY after CALTO frame periods. -/
  | heldCmdTimeout (port : Port)
  /-- BRT_ROUTE_WRITE (R114): A write to BRT_SEk or BRT_REELk is ignored with ROUTE_BUSY while the consumer runs, otherwise applies at the new stream's next frame boundary. -/
  | brtRouteWrite (input : Fin 12) (value : Word)
  /-- ENGINE_BLOCK (R121): An engine correlates one channel's block of 256 samples, advancing NCOs and tap sums, and writes the context back. -/
  | engineBlock (chan : Chan)
  /-- RING_DB_TIMEOUT (R148): The dump ring doorbell is raised when WP differs from RP and TO µs pass without an RP write. -/
  | ringDbTimeout (ring : Fin 4)
  /-- RING_RP_WRITE (R148): A write of CA_RINGk_RP is ignored with CFGERR if it would make WP − RP negative or above 4,096. -/
  | ringRpWrite (ring : Fin 4) (value : Word)
  /-- RING_BASE_WRITE (R148): A write of CA_RINGk_BASE is ignored with CFGERR if misaligned, outside shared memory or while a channel names the ring. -/
  | ringBaseWrite (ring : Fin 4) (value : Word)
  /-- CONTEXT_WRITE (R127): A write to a channel context is refused with CTX_LOCKED for W0–W7 of a HELD or ACTIVE channel or for W8–W15. -/
  | contextWrite (init : Init) (chan : Chan) (word : Fin 32) (value : BitVec 64)
  /-- CSH_START (R140): A START is checked in order and the channel is admitted, held or refused with a response code. -/
  | cshStart (init : Init) (port : Fin 8) (tag : Byte) (chan : Chan)
  /-- CSH_STOP (R142): A STOP ends an ACTIVE channel at its next block boundary, cancels a HELD start, or responds NOTACTIVE. -/
  | cshStop (init : Init) (port : Fin 8) (tag : Byte) (chan : Chan)
  /-- CSH_REMAP (R143): REMAP sets a channel's RING to RINGNEW for records begun afterwards. -/
  | cshRemap (init : Init) (port : Fin 8) (tag : Byte) (chan : Chan) (ringNew : Fin 4)
  /-- CSH_RINGMOVE (R143): RINGMOVE sets RINGNEW in every channel whose RING equals RINGFROM. -/
  | cshRingmove (init : Init) (port : Fin 8) (tag : Byte) (ringFrom ringNew : Fin 4)
  /-- CSH_RSP_READ (R157): A read of CSH_RSPj returning VALID 1 removes that response from the queue. -/
  | cshRspRead (port : Fin 8)
  /-- AIDING_COMMIT (R149): A write to CA_AIDi_HDR copies the holding registers as one record into the port's queue, or discards it if full or invalid. -/
  | aidingCommit (init : Init) (port : CoreId) (value : Word)
  /-- AIDING_TRANSFER (R150): A queued aiding record moves into the channel's pending items, merging with those pending or being discarded for an inactive channel. -/
  | aidingTransfer (port : CoreId)
  /-- CODE_RAM_WRITE (R172): A write to a code RAM block in use is refused with CODE_LOCKED and counted. -/
  | codeRamWrite (init : Init) (word : Fin 16384) (value : BitVec 64)
  /-- CGN_CRC_CHECK (R174): Writing CGN_CRCCMD.GO starts a CRC-32C check over a range of code blocks, or is ignored with CFGERR. -/
  | cgnCrcCheck (first count : Fin 256)
  /-- CGN_CRC_DONE (R174): At the end of the check CRCRES holds the result and CRCDONE is set. -/
  | cgnCrcDone
  /-- SE_START (R186): A START to SEk_CMD is checked in order, copies the plan, and enters WAIT or HELD or fails. -/
  | seStart (slot : Fin 4)
  /-- SE_ABORT (R191): ABORT ends the plan at the end of the current transform, or at once from HELD or WAIT, with ABORTED. -/
  | seAbort (slot : Fin 4)
  /-- SE_GRID_ORIGIN (R187): At the grid origin the slot enters RUN and decimation groups start. -/
  | seGridOrigin (slot : Fin 4)
  /-- SE_BLOCK (R188): The datapath takes a slot's qualifying block and runs its transforms. -/
  | seBlock (slot : Fin 4)
  /-- SE_BLOCK_COMPLETE (R189): A block's transforms end and its powers are accumulated; after NNC blocks peaks are selected and reports written. -/
  | seBlockComplete (slot : Fin 4)
  /-- SE_RPT_DB_TIMEOUT (R194): The report ring doorbell is raised on timeout with reports unconsumed. -/
  | seRptDbTimeout
  /-- REEL_ARM (R203): ARM to REELk_CMD is checked in order and the input enters ARMED or HELD or fails. -/
  | reelArm (input : Fin 8)
  /-- REEL_STOP (R205): STOP ends a running capture at the end of the frame in progress, or ends a HELD or ARMED input with ABORTED. -/
  | reelStop (input : Fin 8)
  /-- REEL_TRIGGER (R204): At its trigger the input writes its first sample and enters RUN. -/
  | reelTrigger (input : Fin 8)
  /-- REEL_FRAC_READ (R206): A read of a REEL FRAC register latches its SEC register for the next read. -/
  | reelFracRead (init : Init) (input : Fin 8) (last : Bool)
  /-- PMOV (R256): Performs parallel moves only. -/
  | pmov (core : CoreId) (mv1 mv2 : Option Move)
  /-- MPY (R256): Accumulator takes the product of X and Y. -/
  | mpy (core : CoreId) (ad : Fin 2) (x y : Fin 16) (mv1 mv2 : Option Move)
  /-- MAC (R256): Accumulator adds the product of X and Y. -/
  | mac (core : CoreId) (ad : Fin 2) (x y : Fin 16) (mv1 mv2 : Option Move)
  /-- MSU (R256): Accumulator subtracts the product of X and Y. -/
  | msu (core : CoreId) (ad : Fin 2) (x y : Fin 16) (mv1 mv2 : Option Move)
  /-- MPYSU (R256): Accumulator takes the signed by unsigned product. -/
  | mpysu (core : CoreId) (ad : Fin 2) (x y : Fin 16) (mv1 mv2 : Option Move)
  /-- MACSU (R256): Accumulator adds the signed by unsigned product. -/
  | macsu (core : CoreId) (ad : Fin 2) (x y : Fin 16) (mv1 mv2 : Option Move)
  /-- MACUU (R256): Accumulator adds the unsigned by unsigned product. -/
  | macuu (core : CoreId) (ad : Fin 2) (x y : Fin 16) (mv1 mv2 : Option Move)
  /-- ACCX (R256): Accumulator adds X scaled by 2^(48F). -/
  | accx (core : CoreId) (ad : Fin 2) (x : Fin 16) (mv1 mv2 : Option Move)
  /-- MOV (R257): D takes S1. -/
  | mov (core : CoreId) (d s1 s2 : Fin 16) (mv : Option Move)
  /-- ADD (R257): D takes S1 plus S2, wrapping. -/
  | add (core : CoreId) (d s1 s2 : Fin 16) (mv : Option Move)
  /-- ADC (R257): D takes S1 plus S2 plus carry. -/
  | adc (core : CoreId) (d s1 s2 : Fin 16) (mv : Option Move)
  /-- SUB (R257): D takes S1 minus S2, wrapping. -/
  | sub (core : CoreId) (d s1 s2 : Fin 16) (mv : Option Move)
  /-- SBC (R257): D takes S1 minus S2 minus borrow. -/
  | sbc (core : CoreId) (d s1 s2 : Fin 16) (mv : Option Move)
  /-- ADDS (R257): D takes the saturated sum. -/
  | adds (core : CoreId) (d s1 s2 : Fin 16) (mv : Option Move)
  /-- SUBS (R257): D takes the saturated difference. -/
  | subs (core : CoreId) (d s1 s2 : Fin 16) (mv : Option Move)
  /-- NEG (R257): D takes minus S1. -/
  | neg (core : CoreId) (d s1 s2 : Fin 16) (mv : Option Move)
  /-- ABS (R257): D takes the saturated absolute value of S1. -/
  | abs (core : CoreId) (d s1 s2 : Fin 16) (mv : Option Move)
  /-- AND (R257): D takes the bitwise AND. -/
  | and (core : CoreId) (d s1 s2 : Fin 16) (mv : Option Move)
  /-- OR (R257): D takes the bitwise OR. -/
  | or (core : CoreId) (d s1 s2 : Fin 16) (mv : Option Move)
  /-- XOR (R257): D takes the bitwise exclusive OR. -/
  | xor (core : CoreId) (d s1 s2 : Fin 16) (mv : Option Move)
  /-- ANDN (R257): D takes S1 AND NOT S2. -/
  | andn (core : CoreId) (d s1 s2 : Fin 16) (mv : Option Move)
  /-- NOT (R257): D takes NOT S1. -/
  | not (core : CoreId) (d s1 s2 : Fin 16) (mv : Option Move)
  /-- SHL (R257): D takes S1 shifted left. -/
  | shl (core : CoreId) (d s1 s2 : Fin 16) (mv : Option Move)
  /-- SHR (R257): D takes S1 shifted right with zero fill. -/
  | shr (core : CoreId) (d s1 s2 : Fin 16) (mv : Option Move)
  /-- SRA (R257): D takes S1 arithmetically shifted right. -/
  | sra (core : CoreId) (d s1 s2 : Fin 16) (mv : Option Move)
  /-- MIN (R257): D takes the signed minimum. -/
  | min (core : CoreId) (d s1 s2 : Fin 16) (mv : Option Move)
  /-- MAX (R257): D takes the signed maximum. -/
  | max (core : CoreId) (d s1 s2 : Fin 16) (mv : Option Move)
  /-- CMP (R257): Sets flags of S1 minus S2. -/
  | cmp (core : CoreId) (d s1 s2 : Fin 16) (mv : Option Move)
  /-- TST (R257): Sets flags of S1 AND S2. -/
  | tst (core : CoreId) (d s1 s2 : Fin 16) (mv : Option Move)
  /-- CLS (R257): D takes the count of leading sign bits minus one. -/
  | cls (core : CoreId) (d s1 s2 : Fin 16) (mv : Option Move)
  /-- MULL (R257): D takes the low 48 bits of the product. -/
  | mull (core : CoreId) (d s1 s2 : Fin 16) (mv : Option Move)
  /-- LDI (R258): D takes the sign-extended immediate. -/
  | ldi (core : CoreId) (d : Fin 16) (imm : BitVec 32)
  /-- LDIH (R258): D[47:32] takes IMM[15:0], flags unchanged. -/
  | ldih (core : CoreId) (d : Fin 16) (imm : BitVec 16)
  /-- ADDI (R258): D takes S plus the immediate. -/
  | addi (core : CoreId) (d src : Fin 16) (imm : BitVec 32)
  /-- ANDI (R258): D takes S AND the immediate. -/
  | andi (core : CoreId) (d src : Fin 16) (imm : BitVec 32)
  /-- ORI (R258): D takes S OR the immediate. -/
  | ori (core : CoreId) (d src : Fin 16) (imm : BitVec 32)
  /-- XORI (R258): D takes S XOR the immediate. -/
  | xori (core : CoreId) (d src : Fin 16) (imm : BitVec 32)
  /-- CMPI (R258): Sets flags of S minus the immediate. -/
  | cmpi (core : CoreId) (d src : Fin 16) (imm : BitVec 32)
  /-- SHLI (R258): D takes S shifted left by an immediate count. -/
  | shli (core : CoreId) (d src : Fin 16) (n : Fin 128)
  /-- SHRI (R258): D takes S shifted right by an immediate count with zero fill. -/
  | shri (core : CoreId) (d src : Fin 16) (n : Fin 128)
  /-- SRAI (R258): D takes S arithmetically shifted right by an immediate count. -/
  | srai (core : CoreId) (d src : Fin 16) (n : Fin 128)
  /-- CLRA (R259): Clears the accumulator and its latch. -/
  | clra (core : CoreId) (ad asel : Fin 2) (g : Fin 16) (n : Fin 64)
  /-- MVA (R226): G takes the scaled, saturated accumulator value, with automatic scaling. -/
  | mva (core : CoreId) (ad asel : Fin 2) (g : Fin 16) (n : Fin 64)
  /-- RDAL (R259): G takes A[47:0]. -/
  | rdal (core : CoreId) (ad asel : Fin 2) (g : Fin 16) (n : Fin 64)
  /-- RDAH (R259): G takes A[95:48]. -/
  | rdah (core : CoreId) (ad asel : Fin 2) (g : Fin 16) (n : Fin 64)
  /-- RDAG (R259): G takes the sign-extended guard bits. -/
  | rdag (core : CoreId) (ad asel : Fin 2) (g : Fin 16) (n : Fin 64)
  /-- WRAL (R259): A[47:0] takes G. -/
  | wral (core : CoreId) (ad asel : Fin 2) (g : Fin 16) (n : Fin 64)
  /-- WRAH (R259): A[95:48] takes G. -/
  | wrah (core : CoreId) (ad asel : Fin 2) (g : Fin 16) (n : Fin 64)
  /-- WRAG (R259): A[111:96] takes G[15:0]. -/
  | wrag (core : CoreId) (ad asel : Fin 2) (g : Fin 16) (n : Fin 64)
  /-- LDA (R228): Accumulator takes G scaled by 2^(48F), clearing the latch. -/
  | lda (core : CoreId) (ad asel : Fin 2) (g : Fin 16) (n : Fin 64)
  /-- ADDA (R259): Accumulator adds the other accumulator, saturating. -/
  | adda (core : CoreId) (ad asel : Fin 2) (g : Fin 16) (n : Fin 64)
  /-- SUBA (R259): Accumulator subtracts the other accumulator, saturating. -/
  | suba (core : CoreId) (ad asel : Fin 2) (g : Fin 16) (n : Fin 64)
  /-- NEGA (R259): Accumulator is negated, saturating. -/
  | nega (core : CoreId) (ad asel : Fin 2) (g : Fin 16) (n : Fin 64)
  /-- ASLA (R259): Accumulator is shifted left by N, saturating. -/
  | asla (core : CoreId) (ad asel : Fin 2) (g : Fin 16) (n : Fin 64)
  /-- ASRA (R259): Accumulator is shifted arithmetically right by N. -/
  | asra (core : CoreId) (ad asel : Fin 2) (g : Fin 16) (n : Fin 64)
  /-- NORMA (R259): G takes the redundant sign bits of the accumulator. -/
  | norma (core : CoreId) (ad asel : Fin 2) (g : Fin 16) (n : Fin 64)
  /-- MOVA (R259): Accumulator takes the other accumulator with its latch. -/
  | mova (core : CoreId) (ad asel : Fin 2) (g : Fin 16) (n : Fin 64)
  /-- TSTA (R259): Sets Z and N from the accumulator. -/
  | tsta (core : CoreId) (ad asel : Fin 2) (g : Fin 16) (n : Fin 64)
  /-- LDX (R260): Register takes a data-memory word at pointer plus offset. -/
  | ldx (core : CoreId) (reg : Fin 32) (ptr : Fin 8) (ofs : BitVec 15)
  /-- STX (R260): Data-memory word at pointer plus offset takes the register. -/
  | stx (core : CoreId) (reg : Fin 32) (ptr : Fin 8) (ofs : BitVec 15)
  /-- LDD (R260): Register takes the data-memory word at an absolute address. -/
  | ldd (core : CoreId) (reg : Fin 32) (addr : BitVec 15)
  /-- STD (R260): Data-memory word at an absolute address takes the register. -/
  | std (core : CoreId) (reg : Fin 32) (addr : BitVec 15)
  /-- LDG (R232): Issues a global load of 1 to 6 bytes at G plus offset. -/
  | ldg (core : CoreId) (reg : Fin 32) (base : Fin 16) (size : Fin 8) (sx : Bool) (ofs : BitVec 24)
  /-- STG (R232): Posts a global store of 1 to 6 bytes at G plus offset. -/
  | stg (core : CoreId) (reg : Fin 32) (base : Fin 16) (size : Fin 8) (sx : Bool) (ofs : BitVec 24)
  /-- AADD (R234): Atomically adds to an aligned shared-memory word and returns the old word. -/
  | aadd (core : CoreId) (reg : Fin 32) (base : Fin 16) (size : Fin 8) (sx : Bool) (ofs : BitVec 24)
  /-- ASWP (R234): Atomically swaps an aligned shared-memory word and returns the old word. -/
  | aswp (core : CoreId) (reg : Fin 32) (base : Fin 16) (size : Fin 8) (sx : Bool) (ofs : BitVec 24)
  /-- LDPI (R261): Pn takes the immediate. -/
  | ldpi (core : CoreId) (ptr : Fin 8) (kind : Fin 4) (g : Fin 16) (imm : BitVec 15)
  /-- LDBI (R261): Bn takes the immediate. -/
  | ldbi (core : CoreId) (ptr : Fin 8) (kind : Fin 4) (g : Fin 16) (imm : BitVec 15)
  /-- LDLI (R231): Ln takes the immediate, rewrapping a pointer inside the old buffer. -/
  | ldli (core : CoreId) (ptr : Fin 8) (kind : Fin 4) (g : Fin 16) (imm : BitVec 15)
  /-- LDMI (R261): Mn takes the immediate. -/
  | ldmi (core : CoreId) (ptr : Fin 8) (kind : Fin 4) (g : Fin 16) (imm : BitVec 15)
  /-- LDPG (R261): Pn takes G[14:0]. -/
  | ldpg (core : CoreId) (ptr : Fin 8) (kind : Fin 4) (g : Fin 16) (imm : BitVec 15)
  /-- LDBG (R261): Bn takes G[14:0]. -/
  | ldbg (core : CoreId) (ptr : Fin 8) (kind : Fin 4) (g : Fin 16) (imm : BitVec 15)
  /-- LDLG (R231): Ln takes G[14:0], rewrapping a pointer inside the old buffer. -/
  | ldlg (core : CoreId) (ptr : Fin 8) (kind : Fin 4) (g : Fin 16) (imm : BitVec 15)
  /-- LDMG (R261): Mn takes G[14:0]. -/
  | ldmg (core : CoreId) (ptr : Fin 8) (kind : Fin 4) (g : Fin 16) (imm : BitVec 15)
  /-- RDAR (R261): G takes Pn, Bn, Ln or Mn. -/
  | rdar (core : CoreId) (ptr : Fin 8) (kind : Fin 4) (g : Fin 16) (imm : BitVec 15)
  /-- MODP (R230): Pn is modified by a signed immediate with circular wrap. -/
  | modp (core : CoreId) (ptr : Fin 8) (kind : Fin 4) (g : Fin 16) (imm : BitVec 15)
  /-- MODPM (R230): Pn is modified by Mn with circular wrap. -/
  | modpm (core : CoreId) (ptr : Fin 8) (kind : Fin 4) (g : Fin 16) (imm : BitVec 15)
  /-- BR (R262): Branches to a relative target if COND holds. -/
  | br (core : CoreId) (cond g : Fin 16) (count : BitVec 16) (target : BitVec 14)
  /-- JMP (R262): Jumps to an absolute target. -/
  | jmp (core : CoreId) (cond g : Fin 16) (count : BitVec 16) (target : BitVec 14)
  /-- JR (R262): Jumps to G[13:0]. -/
  | jr (core : CoreId) (cond g : Fin 16) (count : BitVec 16) (target : BitVec 14)
  /-- CALL (R262): Pushes the return address and jumps. -/
  | call (core : CoreId) (cond g : Fin 16) (count : BitVec 16) (target : BitVec 14)
  /-- CALLR (R262): Pushes the return address and jumps to G[13:0]. -/
  | callr (core : CoreId) (cond g : Fin 16) (count : BitVec 16) (target : BitVec 14)
  /-- RET (R262): Pops the return stack and jumps. -/
  | ret (core : CoreId) (cond g : Fin 16) (count : BitVec 16) (target : BitVec 14)
  /-- RTE (R242): Restores ST from EST and resumes at EPC. -/
  | rte (core : CoreId) (cond g : Fin 16) (count : BitVec 16) (target : BitVec 14)
  /-- LOOP (R239): Starts a hardware loop of COUNT iterations to END. -/
  | loop (core : CoreId) (cond g : Fin 16) (count : BitVec 16) (target : BitVec 14)
  /-- LOOPG (R239): Starts a hardware loop of G[15:0] iterations to END. -/
  | loopg (core : CoreId) (cond g : Fin 16) (count : BitVec 16) (target : BitVec 14)
  /-- DBNZ (R262): Decrements G and branches if non-zero. -/
  | dbnz (core : CoreId) (cond g : Fin 16) (count : BitVec 16) (target : BitVec 14)
  /-- TRAP (R262): Raises TRAP with its number in ECAUSE. -/
  | trap (core : CoreId) (cond g : Fin 16) (count : BitVec 16) (target : BitVec 14)
  /-- BRK (R262): Raises BRK. -/
  | brk (core : CoreId) (cond g : Fin 16) (count : BitVec 16) (target : BitVec 14)
  /-- NOP (R263): Does nothing. -/
  | nop (core : CoreId) (g : Fin 16) (spec : Fin 32) (arg : BitVec 16)
  /-- MVS (R221): G takes a special register. -/
  | mvs (core : CoreId) (g : Fin 16) (spec : Fin 32) (arg : BitVec 16)
  /-- MVSR (R221): A writable special register takes G. -/
  | mvsr (core : CoreId) (g : Fin 16) (spec : Fin 32) (arg : BitVec 16)
  /-- SETM (R263): Clears then sets mode bits FRAC, IE, AOVE and MSATE. -/
  | setm (core : CoreId) (g : Fin 16) (spec : Fin 32) (arg : BitVec 16)
  /-- CLRST (R263): Clears the chosen sticky status bits. -/
  | clrst (core : CoreId) (g : Fin 16) (spec : Fin 32) (arg : BitVec 16)
  /-- FENCE (R233): Stalls until every outstanding transaction of the core has completed. -/
  | fence (core : CoreId) (g : Fin 16) (spec : Fin 32) (arg : BitVec 16)
  /-- WAIT (R248): Stops issue until NMI or an enabled line is pending. -/
  | wait (core : CoreId) (g : Fin 16) (spec : Fin 32) (arg : BitVec 16)
  /-- HALT (R263): Enters STOPPED after earlier instructions complete. -/
  | halt (core : CoreId) (g : Fin 16) (spec : Fin 32) (arg : BitVec 16)
  /-- SIGNAL (R249): Sets the signalling core's bit in another core's doorbell. -/
  | signal (core : CoreId) (g : Fin 16) (spec : Fin 32) (arg : BitVec 16)
  /-- IRQ_ENTRY (R243): At an instruction boundary the lowest pending enabled line is taken while IE is 1 and EXL is 0. -/
  | irqEntry (core : CoreId)
  /-- NMI_ENTRY (R241): A pending NMI is taken at an instruction boundary while EXL is 0. -/
  | nmiEntry (core : CoreId)
  /-- GLOBAL_LOAD_RETURN (R233): A global load's data return and are written to its destination, releasing stalls. -/
  | globalLoadReturn (core : CoreId)
  /-- BUS_ERROR_RESPONSE (R235): An error response to a global load or store raises LDERR or STERR at the next instruction boundary and records the address. -/
  | busErrorResponse (core : CoreId)
  /-- KC_START (R250): START takes a core from RESET to RUN at BOOTPC, or from STOPPED to RUN. -/
  | kcStart (core : CoreId)
  /-- KC_RESET (R252): RESET zeroes the core's registers and stacks and discards load results. -/
  | kcReset (core : CoreId)
  /-- KC_NMI (R241): Writing KCn_CTRL.NMI raises NMI on the core. -/
  | kcNmi (core : CoreId)
  /-- KC_HALTREQ (R253): DBG sets or clears HALTREQ, halting the core at an instruction boundary or resuming it. -/
  | kcHaltreq (core : CoreId) (on : Bool)
  /-- KC_STEP (R253): DBG executes one instruction on a HALTED core. -/
  | kcStep (core : CoreId)
  /-- KC_TIMER_EXPIRY (R266): The core timer reaches zero, sets TEXP and reloads if periodic. -/
  | kcTimerExpiry (core : CoreId)
  /-- CORE_WINDOW_ACCESS (R214): Another initiator accesses a core's local memory through its window, taking a free slot, with instruction writes only while the core is not running. -/
  | coreWindowAccess (init : Init) (core : CoreId) (offset : BitVec 20) (op : BusOp)
  /-- LC_BATCH (R272): On its doorbell a loop core processes dump records, posts aiding, writes measurement records and checkpoints, and signals the solution cores. -/
  | lcBatch (core : Fin 4) (outs : List LoopOut)
  /-- LC_WATCHDOG_KICK_TIMER (R273): A loop core kicks its watchdog from its timer when no batch has ended in 50 µs. -/
  | lcWatchdogKickTimer (core : Fin 4)
  /-- SOLUTION_EPOCH (R285): At each epoch the active solution core fuses measurements, selects the source, decides steering and writes the solution record. -/
  | solutionEpoch (out : SolOut)
  /-- STANDBY_SC_EPOCH (R287): At each epoch the standby solution core posts vector aiding and runs the consistency test. -/
  | standbyScEpoch (osnma : List OsnmaBlock) (requests : List ChanPost)
  /-- PLANNED_HANDOVER (R278): The active solution core moves a channel between loop cores through HANDOVER and RELEASED. -/
  | plannedHandover (chan : Chan) (target : Fin 4) (tag : Byte)
  /-- LC_MIGRATION (R302): On a loop-core fault the active solution core clears ALIVE, issues RINGMOVE to an adopter and writes HANDOVER. -/
  | lcMigration (core : Fin 4) (tag : Byte)
  /-- RING_ADOPTION (R303): The adopter drains the failed core's ring from its checkpoints and clears HANDOVER. -/
  | ringAdoption (outs : List LoopOut)
  /-- SC_FAILOVER (R307): On a solution-core fault the survivor becomes active if needed and runs both roles degraded. -/
  | scFailover (second : Bool)
  /-- HOLDOVER_FREQ_UPDATE (R336): During holdover the active solution core writes TB_FREQ from the model once per second. -/
  | holdoverFreqUpdate
  /-- TB_LOAD (R325): A LOAD request is checked and, if accepted, waits for its instant. -/
  | tbLoad (init : Init)
  /-- LOAD_TAKE_EFFECT (R325): At the tick at or after the loaded value less 4 ticks the counter takes the value and TIMESET becomes 1. -/
  | loadTakeEffect
  /-- TB_STEP (R317): A STEP request is checked against NOTSET, BACKWARD, LIMIT and WINDOW and accepted or refused. -/
  | tbStep (init : Init)
  /-- STEP_TICK (R318): At the step tick the counter adds the converted step with TB_RATE and STEPPED is set. -/
  | stepTick
  /-- TB_SLEW (R321): A SLEW request is checked and replaces any slew in progress from the next tick. -/
  | tbSlew (init : Init)
  /-- SLEW_END (R323): When the remainder is smaller than one share the final tick adds it, the slew ends and SLEW_DONE is set. -/
  | slewEnd
  /-- TB_SLEWSTOP (R324): SLEWSTOP ends a slew at the next tick without SLEW_DONE. -/
  | tbSlewstop (init : Init)
  /-- TB_FREQ_WRITE (R314): A write of TB_FREQ sets the target correction, applies at once before TIMESET, or starts a ramp, or is refused with RANGE. -/
  | tbFreqWrite (init : Init) (value : Word)
  /-- FREQ_RAMP_MOVE (R314): Every 600,000 ticks of a ramp FREQNOW moves toward FREQ by the slope step. -/
  | freqRampMove
  /-- LEAP_APPLY (R338): At the first tick at or after TB_LEAPSEC with PEND set, CUR takes NEW, PEND clears and LEAP is set. -/
  | leapApply
  /-- TB_FRAC_READ (R311): A read of TB_FRAC latches TB_SEC of that tick for the initiator's next TB_SEC read. -/
  | tbFracRead (init : Init)
  /-- TPG_ARM (R345): ARM is checked in order and the generator becomes ARMED, possibly late-aligned, or is refused. -/
  | tpgArm (init : Init) (gen : Fin 16)
  /-- TPG_DISARM (R346): DISARM takes effect after the pulse in progress and the generator becomes IDLE. -/
  | tpgDisarm (init : Init) (gen : Fin 16)
  /-- TPG_LEADING_EDGE (R342): At a firing instant the leading edge is placed in fine steps and the next target is scheduled. -/
  | tpgLeadingEdge (gen : Fin 16)
  /-- TPG_TRAILING_EDGE (R343): At target plus WIDTH the trailing edge is placed; a one-shot becomes DONE. -/
  | tpgTrailingEdge (gen : Fin 16)
  /-- TPG_NEXTLAST_FRAC_READ (R347): A read of a NEXT or LAST FRAC register latches its SEC register for that initiator. -/
  | tpgNextlastFracRead (init : Init) (gen : Fin 16) (last : Bool)
  /-- TOD_STRING_START (R351): DELAY µs after the paired edge the UART begins the queued string or sets TODMISS. -/
  | todStringStart
  /-- UNIT_CLAIM (R358): CLAIM makes the writer owner of an unowned TPG or EVC, or is refused and logged. -/
  | unitClaim (init : Init) (unit : Fin 24)
  /-- UNIT_RELEASE (R358): RELEASE by the owner frees the unit; otherwise it is refused with OWNER. -/
  | unitRelease (init : Init) (unit : Fin 24)
  /-- UNIT_FORCE_RELEASE (R358): FREL by SV frees the unit and is logged. -/
  | unitForceRelease (init : Init) (unit : Fin 24)
  /-- EVC_INPUT_EDGE (R352): A transition on an EVC input starts the glitch filter. -/
  | evcInputEdge (unit : Fin 8) (fine : Fin 256)
  /-- EVC_CAPTURE (R353): A transition held for FILT ticks is accepted and its time, less the path, is queued with range checks. -/
  | evcCapture (unit : Fin 8)
  /-- EVC_WINDOW_MISS (R355): When the time base passes E_k + WIN with no capture, MISS is set and counted. -/
  | evcWindowMiss (unit : Fin 8)
  /-- EVC_FLUSH (R354): FLUSH empties the capture queue. -/
  | evcFlush (init : Init) (unit : Fin 8)
  /-- EVC_CAPFRAC_READ (R354): A read of EVCn_CAPFRAC returns the oldest capture's fraction and latches its SEC and INFO. -/
  | evcCapfracRead (init : Init) (unit : Fin 8)
  /-- EVC_CAPINFO_READ (R354): A read of EVCn_CAPINFO returns the latched information and removes the capture. -/
  | evcCapinfoRead (init : Init) (unit : Fin 8)
  /-- EXT_PULSE_OFFSET (R357): A capture paired with its time of day gives the source offset of an external pulse for that second. -/
  | extPulseOffset (unit : Fin 8)
  /-- CLK_RELOCK (R373): RELOCK freezes the root, applies the reference path, reselects the band and reacquires lock. -/
  | clkRelock
  /-- CLK_SWITCH (R373): SWITCH performs a reference switch to the non-selected reference, or is refused with CMDREF. -/
  | clkSwitch
  /-- REF_LOS (R371): The selected reference is ABSENT for 4 periods: the root freezes, a clock fault is declared and an automatic switch may start. -/
  | refLos
  /-- REF_ABSENT (R368): A non-selected reference with no edge for 4 periods becomes ABSENT and ALTVALID falls. -/
  | refAbsent
  /-- REF_PRESENT (R368): Edges appear on an ABSENT input, which becomes PRESENT and begins qualification. -/
  | refPresent (ref : Fin 2)
  /-- REF_QUALIFIED (R368): An input PRESENT for QUAL × 10 ms within tolerance becomes VALID, and a FROZEN root relocks on it. -/
  | refQualified (ref : Fin 2)
  /-- REFCMP_WINDOW (R369): Each 1 s comparator window writes YOTHER, sets ALTVALID or returns an out-of-tolerance input to PRESENT. -/
  | refcmpWindow (y : BitVec 48)
  /-- REF_SWITCH_TICK (R372): At the switch tick the loop closes on the new reference with a preset word and the time base applies FREQALT. -/
  | refSwitchTick
  /-- PLL_LOCKED (R370): The root phase error stays within ±100 ps for 256 cycles and LOCKED is declared. -/
  | pllLocked
  /-- PLL_LOL (R370): The phase error exceeds ±1 ns on 4 cycles and the loop freezes with LOL. -/
  | pllLol
  /-- RELOCK_TIMEOUT (R372): Lock not reached within 400 µs sets RELOCKFAIL and leaves the root FROZEN. -/
  | relockTimeout
  /-- ROOT_BOOT_TIMEOUT (R374): At cold reset REFB is used if REFA is absent for 1 ms, and SV is released at lock or 2 ms. -/
  | rootBootTimeout (late : Bool)
  /-- OSY_ENABLE (R381): Setting EN checks the VCO range and band and starts lock acquisition. -/
  | osyEnable (unit : Fin 4)
  /-- OSY_DISABLE (R381): Clearing EN stops outputs and the VCO and clears the ramp state. -/
  | osyDisable (unit : Fin 4)
  /-- OSY_LOCKED (R381): The synthesiser reaches LOCK and enabled outputs start at the next boundary. -/
  | osyLocked (unit : Fin 4)
  /-- OSY_LOL (R376): The synthesiser loses lock, freezes and sets LOL. -/
  | osyLol (unit : Fin 4)
  /-- OSY_RELOCK (R382): RELOCK applies the held MULT, rescales W, reselects the band and reacquires lock. -/
  | osyRelock (unit : Fin 4)
  /-- OSY_OUTPUT_ENABLE (R380): OEk rising is checked and the output starts at the next rising-edge boundary. -/
  | osyOutputEnable (unit : Fin 4) (out : Fin 2)
  /-- OSY_OUTPUT_DISABLE (R380): OEk falling stops the output at the end of the cycle in progress. -/
  | osyOutputDisable (unit : Fin 4) (out : Fin 2)
  /-- RAMPGO (R383): RAMPGO clears PHASEACC and runs the ramp segments from the next tick. -/
  | rampgo (unit : Fin 4)
  /-- RAMP_SEGMENT_END (R383): A segment's duration ends; the next runs, or the ramp becomes IDLE with RAMPDONE. -/
  | rampSegmentEnd (unit : Fin 4)
  /-- RAMPSTOP (R384): RAMPSTOP ends the profile at the next tick and holds RAMPFREQ. -/
  | rampstop (unit : Fin 4)
  /-- PHMEAS (R385): PHMEAS arms the measurement of the next rising edge of output PHOUT. -/
  | phmeas (unit : Fin 4) (out : Fin 2)
  /-- OSY_PHASE_CAPTURE (R385): The edge is measured into PHSEC and PHFRAC and PHDONE is set. -/
  | osyPhaseCapture (unit : Fin 4)
  /-- BANDMEAS (R385): BANDMEAS starts a 50 µs measurement of band BMBAND while EN is 0. -/
  | bandmeas (unit : Fin 4) (band : Fin 64)
  /-- BANDMEAS_DONE (R385): The band measurement writes OSYn_BANDMEAS and sets BMDONE. -/
  | bandmeasDone (unit : Fin 4) (flo fhi : BitVec 13)
  /-- ETH_ENABLE (R390): Setting EN checks the mode combination and starts the port. -/
  | ethEnable (port : Fin 4)
  /-- ETH_LINK_CHANGE (R390): LINK_UP follows the PCS as the link comes up or goes down. -/
  | ethLinkChange (port : Fin 4) (up : Bool)
  /-- SYNC_INSTANT (R400): At each Sync instant the port queues and sends Sync, and Follow_Up under two-step, for the multicast stream and grants. -/
  | syncInstant (port : Fin 4) (waits : List (Fin 256))
  /-- DELAY_REQ_RECEIVED (R401): A Delay_Req on a time-transmitter port is answered by hardware with Delay_Resp or dropped. -/
  | delayReqReceived (port : Fin 4) (req : DelayReq)
  /-- ETH_FRAME_RECEIVED (R414): A received frame not consumed by the port is verified, stamped and written to the receive ring or discarded. -/
  | ethFrameReceived (port : Fin 4) (kind : FrameKind) (tlv : Tlv) (fine : Fin 256) (frame : List Byte)
  /-- ETH_TX_SLOT (R414): The port sends a frame queued by SV in the transmit ring and writes back its time and DONE. -/
  | ethTxSlot (port : Fin 4) (fine : Fin 256)
  /-- ETH_REF_FALLBACK (R391): 1 ms after OSY3 output 1 stops, the port changes over to the root and sets REFFB. -/
  | ethRefFallback (port : Fin 4)
  /-- ESMC_INFO_PDU (R412): Once per second the port sends an ESMC information PDU. -/
  | esmcInfoPdu (port : Fin 4)
  /-- ESMC_EVENT_PDU (R412): Within 10 ms of a TXQL change the port sends an ESMC event PDU. -/
  | esmcEventPdu (port : Fin 4)
  /-- ESMC_RECEIVED (R413): A received ESMC PDU updates RXQL. -/
  | esmcReceived (port : Fin 4) (ql : BitVec 4)
  /-- ESMC_TIMEOUT (R413): With no ESMC PDU for 5 s RXQL reads 0xF and ESMCTO is set. -/
  | esmcTimeout (port : Fin 4)
  /-- RXFREQ_WINDOW (R411): Each 1 s window updates RXFREQ and RXFVALID. -/
  | rxfreqWindow (port : Fin 4) (freq : BitVec 48)
  /-- PTP_SOURCE_OFFSET (R409): Once per second SV writes each receiver port's offset and SRCINFO. -/
  | ptpSourceOffset (port : Fin 4) (exchanges : List PtpExchange) (parent : PtpParent) (unc : Nat)
  /-- PAGE_GIVE (R425): GIVE hands a key page to NEWOWNER, zeroising foreign slots, or is refused while operations are queued. -/
  | pageGive (init : Init) (page : Fin 16) (newOwner : Init)
  /-- PAGE_ZERO (R427): ZERO makes the named slots EMPTY within 16 cycles, affecting operations under R438. -/
  | pageZero (init : Init) (page : Fin 16) (mask : Byte)
  /-- PAGE_RECLAIM (R425): SV's RECLAIM zeroises named pages, ends their queued operations and returns them to SV. -/
  | pageReclaim (init : Init) (pages : BitVec 16)
  /-- CTR_ENC (R432): A CTR encryption runs with an engine-formed IV and advances the invocation counter. -/
  | ctrEnc
  /-- CTR_DEC (R428): A CTR decryption runs with the supplied IV. -/
  | ctrDec
  /-- GCM_ENC (R432): A GCM encryption runs with an engine-formed IV and writes the tag. -/
  | gcmEnc
  /-- GCM_DEC (R436): A GCM decryption writes plaintext, checks the tag and scrubs the destination on failure. -/
  | gcmDec
  /-- CMAC_GEN (R428): A CMAC tag is generated. -/
  | cmacGen
  /-- CMAC_VER (R428): A CMAC tag is verified. -/
  | cmacVer
  /-- HMAC_GEN (R428): An HMAC-SHA-256 tag is generated. -/
  | hmacGen
  /-- HMAC_VER (R428): An HMAC-SHA-256 tag is verified. -/
  | hmacVer
  /-- HMAC384_GEN (R428): An HMAC-SHA-384 tag is generated. -/
  | hmac384Gen
  /-- HMAC384_VER (R428): An HMAC-SHA-384 tag is verified. -/
  | hmac384Ver
  /-- SHA256 (R428): A SHA-256 digest is computed without a key. -/
  | sha256
  /-- SHA384 (R428): A SHA-384 digest is computed without a key. -/
  | sha384
  /-- UNWRAP (R422): A blob is unwrapped under KWK into a slot, raising LOADCNT, or completes with a failure status. -/
  | unwrap
  /-- CXE_OP_COMPLETE (R430): After all writes are acknowledged the engine writes W7 and sets DONE and ERR as needed. -/
  | cxeOpComplete
  /-- SVU_SUBMIT (R440): A submitted verification job is queued and runs ECDSA verification against an anchor. -/
  | svuSubmit (init : Init) (desc : BitVec 26)
  /-- SVU_JOB_COMPLETE (R440): SVU writes W7 with the result and sets DONE. -/
  | svuJobComplete
  /-- LIFECYCLE_REQUEST (R443): An SVU_LCCMD request is checked and, if accepted, zeroises pages, programs OTP and performs a cold reset. -/
  | lifecycleRequest (init : Init) (target : Fin 4) (req : BitVec 26)
  /-- DBG_CERT_SUBMIT (R447): A debug certificate is verified, DBGCNT is raised, and a level is granted or refused. -/
  | dbgCertSubmit (init : Init)
  /-- DBG_LEVEL_REQ (R448): REQ without certificate grants a level in BLANK or RETURNED and fails otherwise. -/
  | dbgLevelReq (init : Init) (level : Fin 4)
  /-- DBG_DROP (R445): DROP returns the debug level to D0 and halted cores resume. -/
  | dbgDrop (init : Init)
  /-- TRUSTREQ_WRITE (R449): A solution core writes TRUSTREQ and TIME_TRUST follows its conditions, setting TRUSTCHG on change. -/
  | trustreqWrite (init : Init) (req : Bool)
  /-- SECURE_BOOT_CHECK (R530): The boot ROM checks an image's header, segments, signature, rollback and hash and copies it on success. -/
  | secureBootCheck
  /-- CONFCLR (R459): Writing CONFCLR zeroes all bank conflict counters. -/
  | confclr
  /-- SCRUB_READ (R461): Every SCRUBINT cycles the scrubber reads a word of each bank and corrects single-bit errors. -/
  | scrubRead
  /-- MARCH_GO (R463): GO starts a destructive or preserving March C− test on a range of banks, or is ignored with MARCHERR. -/
  | marchGo (init : Init) (first last : Fin 64) (preserving : Bool)
  /-- MARCH_COMPLETE (R463): At the end of the test FAILS and MARCHFAIL are written and MARCHDONE is set. -/
  | marchComplete (fails : List (BitVec 32)) (still : List (Fin 48))
  /-- REPAIR_RECORD (R464): MEM_REPAIRCMD records a spare-row repair effective from the next cold reset, or sets REPERR. -/
  | repairRecord (init : Init) (bank : Fin 48) (row : BitVec 11)
  /-- NVS_WORD_WRITE (R474): A queued store word write completes after 200 ns. -/
  | nvsWordWrite
  /-- CHAIN_COMMIT (R481): An unsigned COMMIT writes an image into the other Chain copy after the checks. -/
  | chainCommit (init : Init) (addr : BitVec 26)
  /-- CHAIN_LOCK (R481): LOCK commits the image in force with LOCKED 1. -/
  | chainLock (init : Init)
  /-- CHAIN_SIGNED (R482): A signed COMMIT or UNLOCK is hashed, verified by SVU under INSTPK and committed. -/
  | chainSigned (init : Init) (addr : BitVec 26)
  /-- CHAIN_RELOAD (R481): RELOAD loads the mirrored registers again from the copy in force. -/
  | chainReload (init : Init)
  /-- CHAIN_COMMAND_DONE (R483): A Chain command ends with a result, setting CHDONE or CHFAIL. -/
  | chainCommandDone (ok : Bool)
  /-- OTP_READ (R476): READ loads an OTP row into NVS_OTPDATAH and NVS_OTPDATAL. -/
  | otpRead (init : Init) (row : Fin 128)
  /-- OTP_PROG (R476): PROG sets bits of an OTP row if permitted, or sets OTPERR. -/
  | otpProg (init : Init) (row : Fin 128)
  /-- OTP_PROG_DONE (R476): Programming ends after 100 µs and sets OTPDONE. -/
  | otpProgDone
  /-- LEVEL_CHANGE (R491): A PWR_PERF write is checked and runs the VID and divider sequence, or is deferred or refused. -/
  | levelChange (init : Init) (target : Fin 4)
  /-- LEVEL_SETTLE_END (R491): SETTLE µs or VPG high end the wait; raising then switches dividers, and the change ends with LEVELDONE. -/
  | levelSettleEnd
  /-- VIDFAIL_TIMEOUT (R492): VPG not high within 1 ms restores the former VID code and sets VIDFAIL. -/
  | vidfailTimeout
  /-- STANDBY_ENTRY (R495): A STANDBY request stops plans, captures, channels and cores and unpowers the array blocks. -/
  | standbyEntry (init : Init)
  /-- STANDBY_EXIT (R496): An ACTIVE request powers and zeroes the array blocks and resumes the cores. -/
  | standbyExit (init : Init)
  /-- KEEPTIME_ENTRY (R497): A KEEPTIME request zeroises keys, lowers to P2, clears validity and saves the save list. -/
  | keeptimeEntry (init : Init)
  /-- DEEP_ENTRY (R497): A DEEP request zeroises keys and quiesces the device for CORE_EN to fall. -/
  | deepEntry (init : Init)
  /-- CUTOVER (R497): At the first always-on cycle boundary after the save the domains switch off over 4 cycles. -/
  | cutover
  /-- WAKE_PIN (R502): The WAKE pin at its active level wakes the device or aborts an entry. -/
  | wakePin (level : Bool)
  /-- RTC_ALARM (R502): PWR_RTC reaching PWR_RTCALM wakes the device. -/
  | rtcAlarm
  /-- I2C_ADDR_WAKE (R545): An I²C address match decoded without a clock is acknowledged and wakes the device. -/
  | i2cAddrWake
  /-- EV0_WAKE_EDGE (R502): A held EV0 edge wakes the device. -/
  | ev0WakeEdge (falling : Bool)
  /-- DBGREQ_WAKE (R502): A held DBGREQ rising edge wakes the device outside DEPLOYED. -/
  | dbgreqWake
  /-- POWER_UP (R572): VDD_AON_IN is applied, the always-on domain starts and CORE_EN rises after the sequencing wait. -/
  | powerUp
  /-- COLD_RESET (R374): Every supply within range with RESET_N high starts the cold reset, memory zeroing and root acquisition. -/
  | coldReset
  /-- RESET_PIN (R581): RESET_N low for at least 1 µs gives a cold reset with PIN. -/
  | resetPin
  /-- BROWNOUT (R501): An always-on load above the limit gives a cold reset with BROWNOUT. -/
  | brownout
  /-- FREQ_CHECK (R508): Every 100 µs SAF judges the root against the other reference over 1 ms. -/
  | freqCheck (deviation : BitVec 48)
  /-- GROSS_CHECK (R508): Every 10 µs SAF measures the domain clocks against the monitor RC. -/
  | grossCheck (tb corr sys per : Int)
  /-- CLOCK_FAULT_END (R510): After CFHOLD µs with no cause and LOCK, the clock fault ends with LASTUS and CFEND. -/
  | clockFaultEnd
  /-- WDOG_KICK (R511): Core n writes KICK and its watchdog count restarts. -/
  | wdogKick (init : Init) (core : CoreId)
  /-- WATCHDOG_EXPIRY (R512): The count reaches PERIOD: the core enters FAULT, a SEVERE entry is written and NMI raised on masked cores. -/
  | watchdogExpiry (core : CoreId)
  /-- SUPPLY_SAMPLE (R514): Every 10 µs SAF samples the supplies, flagging excursions or a core-floor reset. -/
  | supplySample (mv : Vector (BitVec 16) 6)
  /-- TEMP_SAMPLE (R515): Every 1 ms SAF reads the die sensors, setting TWARN, TCRIT and THOT and possibly requesting STANDBY. -/
  | tempSample (t : Vector (BitVec 12) 4)
  /-- SWLOG_WRITE (R522): A solution core or SV writes SAF_SWLOG to add a firmware entry. -/
  | swlogWrite (init : Init) (value : Word)
  /-- PIN_CLAIM (R524): CLAIM makes the writer owner of an unowned ball, or is refused and logged. -/
  | pinClaim (init : Init) (pin : Fin 48)
  /-- PIN_RELEASE (R524): RELEASE by the owner frees the ball. -/
  | pinRelease (init : Init) (pin : Fin 48)
  /-- PIN_FORCE_RELEASE (R524): FREL by SV frees the ball and is logged. -/
  | pinForceRelease (init : Init) (pin : Fin 48)
  /-- BOOT_FLASH (R532): Under BOOTSEL 0 the boot ROM reads and checks images from flash slot A and then slot B. -/
  | bootFlash (image : List Byte) (ok : Bool)
  /-- HST_BOOTGO (R533): A write of HST_BOOTGO with GO enables region 31 and checks the staged host image. -/
  | hstBootgo (init : Init) (value : Word)
  /-- BOOTSTAT_OUTPUT (R534): After a failed boot SV sends SYS BOOTSTAT once per second on every host link. -/
  | bootstatOutput
  /-- PCIE_REQUEST (R536): An inbound PCIe request becomes transactions of initiator 10, completing reads or reporting errors. -/
  | pcieRequest (req : PcieReq)
  /-- PCIE_RESET (R538): PERST_N or a hot reset resets the endpoint's configuration space and mailbox FULL bits. -/
  | pcieReset
  /-- MSIX_TRIG (R537): A write to HST_MSIXTRIG raises an MSI-X vector from 3 to 63. -/
  | msixTrig (init : Init) (vector : Fin 64)
  /-- MBIN_POST (R539): The host writes HST_MBIN.LEN to post a frame, setting FULL. -/
  | mbinPost (init : Init) (len : BitVec 13)
  /-- MBIN_ACK (R539): SV acknowledges the inbound mailbox, clearing FULL. -/
  | mbinAck (init : Init)
  /-- MBOUT_POST (R539): SV writes HST_MBOUT.LEN to post a frame and raise vector 0. -/
  | mboutPost (init : Init) (len : BitVec 13)
  /-- MBOUT_ACK (R539): The host acknowledges the outbound mailbox. -/
  | mboutAck (init : Init)
  /-- SPI_STATUS (R541): SPI STATUS returns the status byte and clears WERR. -/
  | spiStatus
  /-- SPI_WRITE (R542): SPI WRITE performs interconnect writes at an address. -/
  | spiWrite (addr : BitVec 32) (bytes : List Byte)
  /-- SPI_READ (R542): SPI READ returns a status byte and data up to the 256-byte block end. -/
  | spiRead (addr : BitVec 32) (n : Nat) (inTime : Bool)
  /-- SPI_EMPW (R541): SPI EMPW delivers bytes to receive ring 0. -/
  | spiEmpw (bytes : List Byte)
  /-- SPI_EMPR (R542): SPI EMPR returns the count and bytes of transmit ring 0. -/
  | spiEmpr (n : Nat)
  /-- UART_BYTE_RECEIVED (R543): A UART byte is stored in its receive ring or discarded on framing error or full ring. -/
  | uartByteReceived (uart : Fin 2) (byte : Byte) (framing brk : Bool)
  /-- UART_BYTE_SENT (R540): A transmit-ring byte leaves the line and TXRP advances. -/
  | uartByteSent (uart : Fin 2)
  /-- I2C_WRITE_TRANSFER (R544): An I²C write transfer delivers its bytes to receive ring 3. -/
  | i2cWriteTransfer (bytes : List Byte)
  /-- I2C_READ_TRANSFER (R544): An I²C read transfer returns the count and bytes of transmit ring 3. -/
  | i2cReadTransfer (n : Nat)
  /-- EMP_FRAME (R547): A complete EMP frame is checked and its command executed, or it is discarded. -/
  | empFrame (link : Fin 5) (reading : EmpReading)
  /-- EMP_FRAME_TIMEOUT (R547): No byte of a frame for 10 ms discards it and SV hunts for the next SYNC pair. -/
  | empFrameTimeout (link : Fin 5)
  /-- EMP_SYS_VERSION (R550): SYS VERSION returns the version information. -/
  | empSysVersion (link : Fin 5)
  /-- EMP_SYS_CAPS (R550): SYS CAPS returns the capabilities. -/
  | empSysCaps (link : Fin 5)
  /-- EMP_SYS_RESET (R550): SYS RESET orders a cold reset. -/
  | empSysReset (link : Fin 5)
  /-- EMP_SYS_RESTARTCORE (R513): SYS RESTARTCORE restarts a failed core unless it holds a channel in HANDOVER. -/
  | empSysRestartcore (link : Fin 5) (core : CoreId) (image : List Byte)
  /-- EMP_SYS_STATS (R550): SYS STATS returns the link statistics. -/
  | empSysStats (link : Fin 5)
  /-- EMP_SYS_OUTCFG (R550): SYS OUTCFG sets the links and period of an output message. -/
  | empSysOutcfg (link : Fin 5) (cls num : Byte) (links : BitVec 5) (period : BitVec 16)
  /-- EMP_CFG_GET (R550): CFG GET returns timing configuration words. -/
  | empCfgGet (link : Fin 5) (word : Byte)
  /-- EMP_CFG_SET (R271): CFG SET changes a timing configuration word from the next epoch. -/
  | empCfgSet (link : Fin 5) (word : Byte) (value : BitVec 64)
  /-- EMP_CFG_PTPRX (R550): CFG PTPRX sets MINEX and ACCCLASS. -/
  | empCfgPtprx (link : Fin 5) (minex accclass : Byte)
  /-- EMP_TIME_STATUS (R550): TIME STATUS returns the time status. -/
  | empTimeStatus (link : Fin 5)
  /-- EMP_TIME_LOAD (R551): TIME LOAD is carried out by SV through TB_CMD.LOAD. -/
  | empTimeLoad (link : Fin 5) (sec frac : Word)
  /-- EMP_TIME_STEP (R551): TIME STEP is carried out by SV through TB_CMD.STEP. -/
  | empTimeStep (link : Fin 5) (ps : Word)
  /-- EMP_TIME_SLEW (R551): TIME SLEW is carried out by SV through TB_CMD.SLEW. -/
  | empTimeSlew (link : Fin 5) (ps rate : Word)
  /-- EMP_TIME_UTC (R550): TIME UTC sets CUR, NEW, PEND and TB_LEAPSEC. -/
  | empTimeUtc (link : Fin 5) (cur new : BitVec 16) (pend : Bool) (leapsec : Word)
  /-- EMP_MEAS_SUBSCRIBE (R551): MEAS SUBSCRIBE sets the antenna mask for measurement output. -/
  | empMeasSubscribe (link : Fin 5) (antennas : BitVec 32)
  /-- EMP_CHAN_REQUEST (R551): CHAN REQUEST passes a channel request to the active solution core. -/
  | empChanRequest (link : Fin 5) (antenna sys svid sig : Byte) (at_ : BitVec 12) (entry : List Byte)
  /-- EMP_CHAN_RELEASE (R551): CHAN RELEASE passes a channel release to the active solution core. -/
  | empChanRelease (link : Fin 5) (at_ : BitVec 12) (entry : List Byte)
  /-- EMP_PWR_STATE (R550): PWR STATE writes PWR_CMD.TARGET. -/
  | empPwrState (link : Fin 5) (target : Fin 8)
  /-- EMP_PWR_LEVEL (R550): PWR LEVEL writes PWR_PERF.TARGET. -/
  | empPwrLevel (link : Fin 5) (target : Fin 4)
  /-- EMP_CHAIN_READ (R550): CHAIN READ returns the Chain image in force. -/
  | empChainRead (link : Fin 5)
  /-- EMP_CHAIN_COMMIT (R550): CHAIN COMMIT issues an unsigned Chain COMMIT. -/
  | empChainCommit (link : Fin 5) (addr : BitVec 26) (image : List Byte)
  /-- EMP_CHAIN_LOCK (R550): CHAIN LOCK issues a Chain LOCK. -/
  | empChainLock (link : Fin 5)
  /-- EMP_CHAIN_SIGNED (R550): CHAIN SIGNED issues a signed Chain command. -/
  | empChainSigned (link : Fin 5) (addr : BitVec 26) (image : List Byte)
  /-- EMP_LOG_READ (R550): LOG READ returns fault-log entries from a SEQ. -/
  | empLogRead (link : Fin 5) (seq : BitVec 16)
  /-- EMP_LOG_WRITE (R550): LOG WRITE adds an entry through SAF_SWLOG. -/
  | empLogWrite (link : Fin 5) (value : Word)
  /-- EMP_PTP_PORTCFG (R550): PTP PORTCFG configures a PTP port. -/
  | empPtpPortcfg (link : Fin 5) (port : Fin 4) (writes : List (Byte × Word))
  /-- EMP_PTP_GRANTS (R550): PTP GRANTS manages unicast grants. -/
  | empPtpGrants (link : Fin 5) (index : Byte) (entry : List Byte)
  /-- EMP_EXT_TOD (R551): EXT TOD delivers the time of day of an EVC unit's last pulse. -/
  | empExtTod (link : Fin 5) (unit : Fin 8) (year : BitVec 16) (month day hour minute second : Byte)
  /-- EMP_EXT_TEMP (R550): EXT TEMP delivers the board temperature. -/
  | empExtTemp (link : Fin 5) (temp : BitVec 16)
  /-- EMP_EXT_ZDAIN (R550): EXT ZDAIN names the UART and EVC unit for ZDA input. -/
  | empExtZdain (link : Fin 5) (uart : Fin 2) (unit : Fin 8)
  /-- EMP_NMEA_CFG (R553): NMEA CFG sets version, sentences, UARTs and time-of-day format. -/
  | empNmeaCfg (link : Fin 5) (version : Byte) (sentences : Byte) (uarts : BitVec 2) (pshat : Bool)
  /-- EMP_BOOT_DATA (R533): BOOT DATA writes image bytes into the staging area under a UART load. -/
  | empBootData (link : Fin 5) (offset : BitVec 32) (bytes : List Byte)
  /-- EMP_BOOT_GO (R533): BOOT GO starts the check of the staged image. -/
  | empBootGo (link : Fin 5) (len : BitVec 32)
  /-- NMEA_OUTPUT (R553): Once per second each selected sentence is sent on the chosen UARTs. -/
  | nmeaOutput
  /-- TOD_QUEUE (R556): SV writes HST_TODu.LEN to queue or cancel a time-of-day string. -/
  | todQueue (init : Init) (uart : Fin 2) (len : BitVec 7)
  /-- DBG_TRACE_ENABLE (R567): A write setting TREN zeroes WP, LOST and TICKS and starts tracing. -/
  | dbgTraceEnable (init : Init) (wrap : Bool)
  /-- TICK (R309): At each CLK_TB tick the time base adds TB_RATE, a slew in progress gives up one share, ramp values and synthesiser words advance and core timers count down. -/
  | tick
  /-- BAUD_SYNTH_LOSS_OF_LOCK (R366): The sample-port baud synthesiser loses lock under R370, freezes and sets CLK_STAT.SPLOL. -/
  | baudSynthLossOfLock
  /-- PCIE_LINK_CHANGE (R538): The PCIe link trains or falls, setting LINKUP or PCIEDOWN. -/
  | pcieLinkChange (up : Bool) (speed : Fin 8) (width : Fin 4)
  /-- CERTIFICATE_VERIFIED (R447): SVU finishes verifying a submitted debug certificate, raises DBGCNT and grants the level with DBGGRANT or sets DBGFAIL. -/
  | certificateVerified (key : List Byte)
  /-- LIFECYCLE_REQUEST_VERIFIED (R443): The lifecycle request's signature check ends and the device sets LCFAIL, or zeroises pages, programs OTP, sets LCDONE and performs a cold reset. -/
  | lifecycleRequestVerified (key : List Byte)
  /-- CRYSTAL_SWITCHOVER (R577): After 64 stable crystal cycles the always-on domain changes from its internal RC to the 32.768 kHz crystal. -/
  | crystalSwitchover
  /-- VDD_AON_IN_LOSS (R572): Removal of VDD_AON_IN loses AON RAM, the fault log, the PWR registers and every other state until the next power-up. -/
  | vddAonInLoss
  deriving DecidableEq, Repr

end Sys2Proof
end

