-- ==== Sys2Proof/Decode.lean ====
section
/-!
DEFINITION. The encoding of the Kloko instructions (R254 to R263): fields of a 48-bit word, the decoder that
KCn_CTRL.STEP reads an instruction of the core's memory with, and its encoder.  The table of commands gives its rows no bits,
so `decodeTableWord` reads none.
-/

namespace Sys2Proof

/-! ### Fields -/

/-- The fields of a number, the widths from the most significant. -/
def unpack : List Nat → Nat → List Nat
  | [], _ => []
  | k :: ks, w => w / 2 ^ ks.sum % 2 ^ k :: unpack ks w

/-- The number with these fields. -/
def pack : List Nat → List Nat → Nat
  | k :: ks, v :: vs => v % 2 ^ k * 2 ^ ks.sum + pack ks vs
  | _, _ => 0

/-- The widths of a move field, and of the eight classes (R255 to R263). -/
def moveW : List Nat := [1, 1, 5, 3, 2]
def macW : List Nat := [3, 4, 1, 4, 4, 8, 12, 12]
def aluW : List Nat := [3, 6, 4, 4, 4, 3, 12, 12]
def immW : List Nat := [3, 5, 4, 4, 32]
def accW : List Nat := [3, 5, 1, 1, 4, 6, 28]
def ldxW : List Nat := [3, 4, 5, 3, 18, 15]
def lddW : List Nat := [3, 4, 5, 21, 15]
def ldgW : List Nat := [3, 4, 5, 4, 3, 1, 4, 24]
def addrW : List Nat := [3, 5, 3, 2, 4, 16, 15]
def flowW : List Nat := [3, 5, 4, 4, 16, 2, 14]
def sysW : List Nat := [3, 5, 4, 5, 15, 16]

/-- A move field (R255): none where EN is 0. -/
def moveOf (v : Nat) : Option Move :=
  match unpack moveW v with
  | [en, dir, reg, ptr, mod] =>
    if en = 1 then some ⟨dir == 1, Fin.ofNat 32 reg, Fin.ofNat 8 ptr, Fin.ofNat 4 mod⟩ else none
  | _ => none

/-- The field of a move. -/
def moveBits : Option Move → Nat
  | none => 0
  | some m => pack moveW [1, if m.store then 1 else 0, m.reg.val, m.ptr.val, m.mod.val]

/-! ### Decoding -/

/-- Class 0, MAC (R256): PMOV has X, Y and AD zero, ACCX has Y zero. -/
def decodeMac (n : CoreId) (op ad x y m1 m2 : Nat) : Option Instr :=
  let a := Fin.ofNat 2 ad
  let xr := Fin.ofNat 16 x
  let yr := Fin.ofNat 16 y
  match op with
  | 0 => if ad = 0 ∧ x = 0 ∧ y = 0 then some (.pmov n (moveOf m1) (moveOf m2)) else none
  | 1 => some (.mpy n a xr yr (moveOf m1) (moveOf m2))
  | 2 => some (.mac n a xr yr (moveOf m1) (moveOf m2))
  | 3 => some (.msu n a xr yr (moveOf m1) (moveOf m2))
  | 4 => some (.mpysu n a xr yr (moveOf m1) (moveOf m2))
  | 5 => some (.macsu n a xr yr (moveOf m1) (moveOf m2))
  | 6 => some (.macuu n a xr yr (moveOf m1) (moveOf m2))
  | 7 => if y = 0 then some (.accx n a xr (moveOf m1) (moveOf m2)) else none
  | _ => none

/-- Class 1, ALU (R257). -/
def decodeAlu (n : CoreId) (op d s1 s2 m : Nat) : Option Instr :=
  let rd := Fin.ofNat 16 d
  let r1 := Fin.ofNat 16 s1
  let r2 := Fin.ofNat 16 s2
  match op with
  | 0 => some (.mov n rd r1 r2 (moveOf m))
  | 1 => some (.add n rd r1 r2 (moveOf m))
  | 2 => some (.adc n rd r1 r2 (moveOf m))
  | 3 => some (.sub n rd r1 r2 (moveOf m))
  | 4 => some (.sbc n rd r1 r2 (moveOf m))
  | 5 => some (.adds n rd r1 r2 (moveOf m))
  | 6 => some (.subs n rd r1 r2 (moveOf m))
  | 7 => some (.neg n rd r1 r2 (moveOf m))
  | 8 => some (.abs n rd r1 r2 (moveOf m))
  | 9 => some (.and n rd r1 r2 (moveOf m))
  | 10 => some (.or n rd r1 r2 (moveOf m))
  | 12 => some (.xor n rd r1 r2 (moveOf m))
  | 13 => some (.andn n rd r1 r2 (moveOf m))
  | 14 => some (.not n rd r1 r2 (moveOf m))
  | 15 => some (.shl n rd r1 r2 (moveOf m))
  | 16 => some (.shr n rd r1 r2 (moveOf m))
  | 17 => some (.sra n rd r1 r2 (moveOf m))
  | 18 => some (.min n rd r1 r2 (moveOf m))
  | 19 => some (.max n rd r1 r2 (moveOf m))
  | 20 => some (.cmp n rd r1 r2 (moveOf m))
  | 21 => some (.tst n rd r1 r2 (moveOf m))
  | 22 => some (.cls n rd r1 r2 (moveOf m))
  | 23 => some (.mull n rd r1 r2 (moveOf m))
  | _ => none

/-- Class 2, IMM (R258): LDI and LDIH have S zero, LDIH and the shifts have their unused immediate bits zero. -/
def decodeImm (n : CoreId) (op d src imm : Nat) : Option Instr :=
  let rd := Fin.ofNat 16 d
  let rs := Fin.ofNat 16 src
  let v := BitVec.ofNat 32 imm
  match op with
  | 0 => if src = 0 then some (.ldi n rd v) else none
  | 1 => if src = 0 ∧ imm < 65536 then some (.ldih n rd (BitVec.ofNat 16 imm)) else none
  | 2 => some (.addi n rd rs v)
  | 3 => some (.andi n rd rs v)
  | 4 => some (.ori n rd rs v)
  | 5 => some (.xori n rd rs v)
  | 6 => some (.cmpi n rd rs v)
  | 7 => if imm < 128 then some (.shli n rd rs (Fin.ofNat 128 imm)) else none
  | 8 => if imm < 128 then some (.shri n rd rs (Fin.ofNat 128 imm)) else none
  | 9 => if imm < 128 then some (.srai n rd rs (Fin.ofNat 128 imm)) else none
  | _ => none

/-- Class 3, ACC (R259). -/
def decodeAcc (n : CoreId) (op ad asel g k : Nat) : Option Instr :=
  let a := Fin.ofNat 2 ad
  let b := Fin.ofNat 2 asel
  let r := Fin.ofNat 16 g
  let i := Fin.ofNat 64 k
  match op with
  | 0 => some (.clra n a b r i)
  | 1 => some (.mva n a b r i)
  | 2 => some (.rdal n a b r i)
  | 3 => some (.rdah n a b r i)
  | 4 => some (.rdag n a b r i)
  | 5 => some (.wral n a b r i)
  | 6 => some (.wrah n a b r i)
  | 7 => some (.wrag n a b r i)
  | 8 => some (.lda n a b r i)
  | 9 => some (.adda n a b r i)
  | 10 => some (.suba n a b r i)
  | 11 => some (.nega n a b r i)
  | 12 => some (.asla n a b r i)
  | 13 => some (.asra n a b r i)
  | 14 => some (.norma n a b r i)
  | 15 => some (.mova n a b r i)
  | 16 => some (.tsta n a b r i)
  | _ => none

/-- Class 4, LDST (R260): the local forms have every other bit zero. -/
def decodeLdst (n : CoreId) (op : Nat) (w : Nat) : Option Instr :=
  match op, unpack ldxW w, unpack lddW w, unpack ldgW w with
  | 0, [_, _, reg, ptr, z, ofs], _, _ =>
    if z = 0 then some (.ldx n (Fin.ofNat 32 reg) (Fin.ofNat 8 ptr) (BitVec.ofNat 15 ofs)) else none
  | 1, [_, _, reg, ptr, z, ofs], _, _ =>
    if z = 0 then some (.stx n (Fin.ofNat 32 reg) (Fin.ofNat 8 ptr) (BitVec.ofNat 15 ofs)) else none
  | 2, _, [_, _, reg, z, addr], _ => if z = 0 then some (.ldd n (Fin.ofNat 32 reg) (BitVec.ofNat 15 addr)) else none
  | 3, _, [_, _, reg, z, addr], _ => if z = 0 then some (.std n (Fin.ofNat 32 reg) (BitVec.ofNat 15 addr)) else none
  | 4, _, _, [_, _, reg, base, size, sx, z, ofs] =>
    if z = 0 then
      some (.ldg n (Fin.ofNat 32 reg) (Fin.ofNat 16 base) (Fin.ofNat 8 size) (sx == 1) (BitVec.ofNat 24 ofs))
    else none
  | 5, _, _, [_, _, reg, base, size, sx, z, ofs] =>
    if z = 0 then
      some (.stg n (Fin.ofNat 32 reg) (Fin.ofNat 16 base) (Fin.ofNat 8 size) (sx == 1) (BitVec.ofNat 24 ofs))
    else none
  | 6, _, _, [_, _, reg, base, size, sx, z, ofs] =>
    if z = 0 then
      some (.aadd n (Fin.ofNat 32 reg) (Fin.ofNat 16 base) (Fin.ofNat 8 size) (sx == 1) (BitVec.ofNat 24 ofs))
    else none
  | 7, _, _, [_, _, reg, base, size, sx, z, ofs] =>
    if z = 0 then
      some (.aswp n (Fin.ofNat 32 reg) (Fin.ofNat 16 base) (Fin.ofNat 8 size) (sx == 1) (BitVec.ofNat 24 ofs))
    else none
  | _, _, _, _ => none

/-- Class 5, ADDR (R261). -/
def decodeAddr (n : CoreId) (op ptr kind g imm : Nat) : Option Instr :=
  let p := Fin.ofNat 8 ptr
  let k := Fin.ofNat 4 kind
  let r := Fin.ofNat 16 g
  let v := BitVec.ofNat 15 imm
  match op with
  | 0 => some (.ldpi n p k r v)
  | 1 => some (.ldbi n p k r v)
  | 2 => some (.ldli n p k r v)
  | 3 => some (.ldmi n p k r v)
  | 4 => some (.ldpg n p k r v)
  | 5 => some (.ldbg n p k r v)
  | 6 => some (.ldlg n p k r v)
  | 7 => some (.ldmg n p k r v)
  | 8 => some (.rdar n p k r v)
  | 9 => some (.modp n p k r v)
  | 10 => some (.modpm n p k r v)
  | _ => none

/-- Class 6, FLOW (R262). -/
def decodeFlow (n : CoreId) (op cond g count target : Nat) : Option Instr :=
  let q := Fin.ofNat 16 cond
  let r := Fin.ofNat 16 g
  let k := BitVec.ofNat 16 count
  let t := BitVec.ofNat 14 target
  match op with
  | 0 => some (.br n q r k t)
  | 1 => some (.jmp n q r k t)
  | 2 => some (.jr n q r k t)
  | 3 => some (.call n q r k t)
  | 4 => some (.callr n q r k t)
  | 5 => some (.ret n q r k t)
  | 6 => some (.rte n q r k t)
  | 7 => some (.loop n q r k t)
  | 8 => some (.loopg n q r k t)
  | 9 => some (.dbnz n q r k t)
  | 10 => some (.trap n q r k t)
  | 11 => some (.brk n q r k t)
  | _ => none

/-- Class 7, SYS (R263). -/
def decodeSys (n : CoreId) (op g spec arg : Nat) : Option Instr :=
  let r := Fin.ofNat 16 g
  let p := Fin.ofNat 32 spec
  let v := BitVec.ofNat 16 arg
  match op with
  | 0 => some (.nop n r p v)
  | 1 => some (.mvs n r p v)
  | 2 => some (.mvsr n r p v)
  | 3 => some (.setm n r p v)
  | 4 => some (.clrst n r p v)
  | 5 => some (.fence n r p v)
  | 6 => some (.wait n r p v)
  | 7 => some (.halt n r p v)
  | 8 => some (.signal n r p v)
  | _ => none

/-- The instruction that a word of core `n`'s memory spells; none where R254 raises ILLOP: an opcode that its class does not
list, or a reserved field that is not zero. -/
def decodeKloko (n : CoreId) (w : Word) : Option Instr :=
  let w := w.toNat
  match w / 2 ^ 45 with
  | 0 =>
    match unpack macW w with
    | [_, op, ad, x, y, z, m1, m2] => if z = 0 then decodeMac n op ad x y m1 m2 else none
    | _ => none
  | 1 =>
    match unpack aluW w with
    | [_, op, d, s1, s2, z, m, z'] => if z = 0 ∧ z' = 0 then decodeAlu n op d s1 s2 m else none
    | _ => none
  | 2 =>
    match unpack immW w with
    | [_, op, d, src, imm] => decodeImm n op d src imm
    | _ => none
  | 3 =>
    match unpack accW w with
    | [_, op, ad, asel, g, k, z] => if z = 0 then decodeAcc n op ad asel g k else none
    | _ => none
  | 4 => decodeLdst n (w / 2 ^ 41 % 16) w
  | 5 =>
    match unpack addrW w with
    | [_, op, ptr, kind, g, z, imm] => if z = 0 then decodeAddr n op ptr kind g imm else none
    | _ => none
  | 6 =>
    match unpack flowW w with
    | [_, op, cond, g, count, z, target] => if z = 0 then decodeFlow n op cond g count target else none
    | _ => none
  | _ =>
    match unpack sysW w with
    | [_, op, g, spec, z, arg] => if z = 0 then decodeSys n op g spec arg else none
    | _ => none

/-! ### Encoding -/

/-- The word of an instruction and its core; none for a command that is no Kloko instruction. -/
def encodeKloko : Instr → Option (CoreId × Word)
  | .pmov n m1 m2 => some (n, BitVec.ofNat 48 (pack macW [0, 0, 0, 0, 0, 0, moveBits m1, moveBits m2]))
  | .mpy n a x y m1 m2 => some (n, BitVec.ofNat 48 (pack macW [0, 1, a, x, y, 0, moveBits m1, moveBits m2]))
  | .mac n a x y m1 m2 => some (n, BitVec.ofNat 48 (pack macW [0, 2, a, x, y, 0, moveBits m1, moveBits m2]))
  | .msu n a x y m1 m2 => some (n, BitVec.ofNat 48 (pack macW [0, 3, a, x, y, 0, moveBits m1, moveBits m2]))
  | .mpysu n a x y m1 m2 => some (n, BitVec.ofNat 48 (pack macW [0, 4, a, x, y, 0, moveBits m1, moveBits m2]))
  | .macsu n a x y m1 m2 => some (n, BitVec.ofNat 48 (pack macW [0, 5, a, x, y, 0, moveBits m1, moveBits m2]))
  | .macuu n a x y m1 m2 => some (n, BitVec.ofNat 48 (pack macW [0, 6, a, x, y, 0, moveBits m1, moveBits m2]))
  | .accx n a x m1 m2 => some (n, BitVec.ofNat 48 (pack macW [0, 7, a, x, 0, 0, moveBits m1, moveBits m2]))
  | .mov n d s1 s2 m => some (n, BitVec.ofNat 48 (pack aluW [1, 0, d, s1, s2, 0, moveBits m, 0]))
  | .add n d s1 s2 m => some (n, BitVec.ofNat 48 (pack aluW [1, 1, d, s1, s2, 0, moveBits m, 0]))
  | .adc n d s1 s2 m => some (n, BitVec.ofNat 48 (pack aluW [1, 2, d, s1, s2, 0, moveBits m, 0]))
  | .sub n d s1 s2 m => some (n, BitVec.ofNat 48 (pack aluW [1, 3, d, s1, s2, 0, moveBits m, 0]))
  | .sbc n d s1 s2 m => some (n, BitVec.ofNat 48 (pack aluW [1, 4, d, s1, s2, 0, moveBits m, 0]))
  | .adds n d s1 s2 m => some (n, BitVec.ofNat 48 (pack aluW [1, 5, d, s1, s2, 0, moveBits m, 0]))
  | .subs n d s1 s2 m => some (n, BitVec.ofNat 48 (pack aluW [1, 6, d, s1, s2, 0, moveBits m, 0]))
  | .neg n d s1 s2 m => some (n, BitVec.ofNat 48 (pack aluW [1, 7, d, s1, s2, 0, moveBits m, 0]))
  | .abs n d s1 s2 m => some (n, BitVec.ofNat 48 (pack aluW [1, 8, d, s1, s2, 0, moveBits m, 0]))
  | .and n d s1 s2 m => some (n, BitVec.ofNat 48 (pack aluW [1, 9, d, s1, s2, 0, moveBits m, 0]))
  | .or n d s1 s2 m => some (n, BitVec.ofNat 48 (pack aluW [1, 10, d, s1, s2, 0, moveBits m, 0]))
  | .xor n d s1 s2 m => some (n, BitVec.ofNat 48 (pack aluW [1, 12, d, s1, s2, 0, moveBits m, 0]))
  | .andn n d s1 s2 m => some (n, BitVec.ofNat 48 (pack aluW [1, 13, d, s1, s2, 0, moveBits m, 0]))
  | .not n d s1 s2 m => some (n, BitVec.ofNat 48 (pack aluW [1, 14, d, s1, s2, 0, moveBits m, 0]))
  | .shl n d s1 s2 m => some (n, BitVec.ofNat 48 (pack aluW [1, 15, d, s1, s2, 0, moveBits m, 0]))
  | .shr n d s1 s2 m => some (n, BitVec.ofNat 48 (pack aluW [1, 16, d, s1, s2, 0, moveBits m, 0]))
  | .sra n d s1 s2 m => some (n, BitVec.ofNat 48 (pack aluW [1, 17, d, s1, s2, 0, moveBits m, 0]))
  | .min n d s1 s2 m => some (n, BitVec.ofNat 48 (pack aluW [1, 18, d, s1, s2, 0, moveBits m, 0]))
  | .max n d s1 s2 m => some (n, BitVec.ofNat 48 (pack aluW [1, 19, d, s1, s2, 0, moveBits m, 0]))
  | .cmp n d s1 s2 m => some (n, BitVec.ofNat 48 (pack aluW [1, 20, d, s1, s2, 0, moveBits m, 0]))
  | .tst n d s1 s2 m => some (n, BitVec.ofNat 48 (pack aluW [1, 21, d, s1, s2, 0, moveBits m, 0]))
  | .cls n d s1 s2 m => some (n, BitVec.ofNat 48 (pack aluW [1, 22, d, s1, s2, 0, moveBits m, 0]))
  | .mull n d s1 s2 m => some (n, BitVec.ofNat 48 (pack aluW [1, 23, d, s1, s2, 0, moveBits m, 0]))
  | .ldi n d v => some (n, BitVec.ofNat 48 (pack immW [2, 0, d, 0, v.toNat]))
  | .ldih n d v => some (n, BitVec.ofNat 48 (pack immW [2, 1, d, 0, v.toNat]))
  | .addi n d r v => some (n, BitVec.ofNat 48 (pack immW [2, 2, d, r, v.toNat]))
  | .andi n d r v => some (n, BitVec.ofNat 48 (pack immW [2, 3, d, r, v.toNat]))
  | .ori n d r v => some (n, BitVec.ofNat 48 (pack immW [2, 4, d, r, v.toNat]))
  | .xori n d r v => some (n, BitVec.ofNat 48 (pack immW [2, 5, d, r, v.toNat]))
  | .cmpi n d r v => some (n, BitVec.ofNat 48 (pack immW [2, 6, d, r, v.toNat]))
  | .shli n d r v => some (n, BitVec.ofNat 48 (pack immW [2, 7, d, r, v]))
  | .shri n d r v => some (n, BitVec.ofNat 48 (pack immW [2, 8, d, r, v]))
  | .srai n d r v => some (n, BitVec.ofNat 48 (pack immW [2, 9, d, r, v]))
  | .clra n a b g i => some (n, BitVec.ofNat 48 (pack accW [3, 0, a, b, g, i, 0]))
  | .mva n a b g i => some (n, BitVec.ofNat 48 (pack accW [3, 1, a, b, g, i, 0]))
  | .rdal n a b g i => some (n, BitVec.ofNat 48 (pack accW [3, 2, a, b, g, i, 0]))
  | .rdah n a b g i => some (n, BitVec.ofNat 48 (pack accW [3, 3, a, b, g, i, 0]))
  | .rdag n a b g i => some (n, BitVec.ofNat 48 (pack accW [3, 4, a, b, g, i, 0]))
  | .wral n a b g i => some (n, BitVec.ofNat 48 (pack accW [3, 5, a, b, g, i, 0]))
  | .wrah n a b g i => some (n, BitVec.ofNat 48 (pack accW [3, 6, a, b, g, i, 0]))
  | .wrag n a b g i => some (n, BitVec.ofNat 48 (pack accW [3, 7, a, b, g, i, 0]))
  | .lda n a b g i => some (n, BitVec.ofNat 48 (pack accW [3, 8, a, b, g, i, 0]))
  | .adda n a b g i => some (n, BitVec.ofNat 48 (pack accW [3, 9, a, b, g, i, 0]))
  | .suba n a b g i => some (n, BitVec.ofNat 48 (pack accW [3, 10, a, b, g, i, 0]))
  | .nega n a b g i => some (n, BitVec.ofNat 48 (pack accW [3, 11, a, b, g, i, 0]))
  | .asla n a b g i => some (n, BitVec.ofNat 48 (pack accW [3, 12, a, b, g, i, 0]))
  | .asra n a b g i => some (n, BitVec.ofNat 48 (pack accW [3, 13, a, b, g, i, 0]))
  | .norma n a b g i => some (n, BitVec.ofNat 48 (pack accW [3, 14, a, b, g, i, 0]))
  | .mova n a b g i => some (n, BitVec.ofNat 48 (pack accW [3, 15, a, b, g, i, 0]))
  | .tsta n a b g i => some (n, BitVec.ofNat 48 (pack accW [3, 16, a, b, g, i, 0]))
  | .ldx n r p v => some (n, BitVec.ofNat 48 (pack ldxW [4, 0, r, p, 0, v.toNat]))
  | .stx n r p v => some (n, BitVec.ofNat 48 (pack ldxW [4, 1, r, p, 0, v.toNat]))
  | .ldd n r v => some (n, BitVec.ofNat 48 (pack lddW [4, 2, r, 0, v.toNat]))
  | .std n r v => some (n, BitVec.ofNat 48 (pack lddW [4, 3, r, 0, v.toNat]))
  | .ldg n r b z x v => some (n, BitVec.ofNat 48 (pack ldgW [4, 4, r, b, z, if x then 1 else 0, 0, v.toNat]))
  | .stg n r b z x v => some (n, BitVec.ofNat 48 (pack ldgW [4, 5, r, b, z, if x then 1 else 0, 0, v.toNat]))
  | .aadd n r b z x v => some (n, BitVec.ofNat 48 (pack ldgW [4, 6, r, b, z, if x then 1 else 0, 0, v.toNat]))
  | .aswp n r b z x v => some (n, BitVec.ofNat 48 (pack ldgW [4, 7, r, b, z, if x then 1 else 0, 0, v.toNat]))
  | .ldpi n p k g v => some (n, BitVec.ofNat 48 (pack addrW [5, 0, p, k, g, 0, v.toNat]))
  | .ldbi n p k g v => some (n, BitVec.ofNat 48 (pack addrW [5, 1, p, k, g, 0, v.toNat]))
  | .ldli n p k g v => some (n, BitVec.ofNat 48 (pack addrW [5, 2, p, k, g, 0, v.toNat]))
  | .ldmi n p k g v => some (n, BitVec.ofNat 48 (pack addrW [5, 3, p, k, g, 0, v.toNat]))
  | .ldpg n p k g v => some (n, BitVec.ofNat 48 (pack addrW [5, 4, p, k, g, 0, v.toNat]))
  | .ldbg n p k g v => some (n, BitVec.ofNat 48 (pack addrW [5, 5, p, k, g, 0, v.toNat]))
  | .ldlg n p k g v => some (n, BitVec.ofNat 48 (pack addrW [5, 6, p, k, g, 0, v.toNat]))
  | .ldmg n p k g v => some (n, BitVec.ofNat 48 (pack addrW [5, 7, p, k, g, 0, v.toNat]))
  | .rdar n p k g v => some (n, BitVec.ofNat 48 (pack addrW [5, 8, p, k, g, 0, v.toNat]))
  | .modp n p k g v => some (n, BitVec.ofNat 48 (pack addrW [5, 9, p, k, g, 0, v.toNat]))
  | .modpm n p k g v => some (n, BitVec.ofNat 48 (pack addrW [5, 10, p, k, g, 0, v.toNat]))
  | .br n q g k t => some (n, BitVec.ofNat 48 (pack flowW [6, 0, q, g, k.toNat, 0, t.toNat]))
  | .jmp n q g k t => some (n, BitVec.ofNat 48 (pack flowW [6, 1, q, g, k.toNat, 0, t.toNat]))
  | .jr n q g k t => some (n, BitVec.ofNat 48 (pack flowW [6, 2, q, g, k.toNat, 0, t.toNat]))
  | .call n q g k t => some (n, BitVec.ofNat 48 (pack flowW [6, 3, q, g, k.toNat, 0, t.toNat]))
  | .callr n q g k t => some (n, BitVec.ofNat 48 (pack flowW [6, 4, q, g, k.toNat, 0, t.toNat]))
  | .ret n q g k t => some (n, BitVec.ofNat 48 (pack flowW [6, 5, q, g, k.toNat, 0, t.toNat]))
  | .rte n q g k t => some (n, BitVec.ofNat 48 (pack flowW [6, 6, q, g, k.toNat, 0, t.toNat]))
  | .loop n q g k t => some (n, BitVec.ofNat 48 (pack flowW [6, 7, q, g, k.toNat, 0, t.toNat]))
  | .loopg n q g k t => some (n, BitVec.ofNat 48 (pack flowW [6, 8, q, g, k.toNat, 0, t.toNat]))
  | .dbnz n q g k t => some (n, BitVec.ofNat 48 (pack flowW [6, 9, q, g, k.toNat, 0, t.toNat]))
  | .trap n q g k t => some (n, BitVec.ofNat 48 (pack flowW [6, 10, q, g, k.toNat, 0, t.toNat]))
  | .brk n q g k t => some (n, BitVec.ofNat 48 (pack flowW [6, 11, q, g, k.toNat, 0, t.toNat]))
  | .nop n g p v => some (n, BitVec.ofNat 48 (pack sysW [7, 0, g, p, 0, v.toNat]))
  | .mvs n g p v => some (n, BitVec.ofNat 48 (pack sysW [7, 1, g, p, 0, v.toNat]))
  | .mvsr n g p v => some (n, BitVec.ofNat 48 (pack sysW [7, 2, g, p, 0, v.toNat]))
  | .setm n g p v => some (n, BitVec.ofNat 48 (pack sysW [7, 3, g, p, 0, v.toNat]))
  | .clrst n g p v => some (n, BitVec.ofNat 48 (pack sysW [7, 4, g, p, 0, v.toNat]))
  | .fence n g p v => some (n, BitVec.ofNat 48 (pack sysW [7, 5, g, p, 0, v.toNat]))
  | .wait n g p v => some (n, BitVec.ofNat 48 (pack sysW [7, 6, g, p, 0, v.toNat]))
  | .halt n g p v => some (n, BitVec.ofNat 48 (pack sysW [7, 7, g, p, 0, v.toNat]))
  | .signal n g p v => some (n, BitVec.ofNat 48 (pack sysW [7, 8, g, p, 0, v.toNat]))
  | _ => none

/-! ### The host's table -/

/-- The command that a word spells by the table's bits: the table gives no row any. -/
def decodeTableWord (_nbits _w : Nat) : Option Instr := none

end Sys2Proof
end

