-- ==== Sys2Proof/Config.lean ====
section
/-!
DEFINITION. What the manual fixes once for the device, and the values it leaves open.  Every open value is an opaque
constant without a body: a statement about it holds whatever it is.
-/

namespace Sys2Proof.Config

/-- A value the manual leaves open, drawn afresh: the n-th one drawn. [DESIGN CHOICE, safe: notes/assumptions/8] -/
opaque freeValue : (n : Nat) → Nat

/-- Chip `idx` of a ranging code that the manual takes from the constellation's own interface specification (R158): true
is logic 1.  The family is W1.CGMODE and the code is W1.CODEID. [DESIGN CHOICE, safe: notes/assumptions/9] -/
opaque rangingChip : (family codeid idx : Nat) → Bool

/-- Chip `idx` of a secondary code that the manual names and does not list (R163): SECSEL 1 to 5 and 7 to 9.
[DESIGN CHOICE, safe: notes/assumptions/9] -/
opaque secondaryChip : (sel idx : Nat) → Bool

/-- The error of the search engine's estimate for descriptor `d`, bin `b` and lag or entry `i` in the block drawn as number `n`,
I and Q in units of 2^-60: R178 bounds it and fixes no value. [DESIGN CHOICE, safe: notes/assumptions/10] -/
opaque searchError : (n d b i : Nat) → Int × Int

/-- The sample of a frame that finds the buffer of a Reel input full, where one does, for the frame drawn as number `n`: how long
the interconnect stalls the writes is not stated (R199, R205). [DESIGN CHOICE, safe: notes/assumptions/34] -/
opaque reelLost : (n : Nat) → Option Nat

/-- Whether an event lies in the CLK_SYS cycle of the trace word before it, for the event drawn as number `n`: the ticks of CLK_TB do
not say it (R567). [DESIGN CHOICE, safe: notes/assumptions/53] -/
opaque traceLost : (n : Nat) → Bool

/-- The fraction bits that a conditioner's DC estimate keeps (R86 gives its recurrence and no width).
[DESIGN CHOICE, safe: notes/assumptions/11] -/
opaque dcFraction : Nat

/-- Coefficient `j` and 46 - `j` of the 47 of the D1 decimator's FIR filter, the right shift behind it, and which of the two whole
numbers of rail samples beside its group delay of 150 and a half compensates it: R84 gives the filters' orders and lengths and their
limits, and not these. [DESIGN CHOICE, safe: notes/assumptions/12] -/
opaque firTap : (j : Nat) → Int
opaque firShift : Nat
opaque decimatorLate : Bool

/-- The fraction bits that a notch keeps, and whether I and Q of its unit phasor at a centre are rounded up to them (R88 gives a
notch's zero and pole and no widths). [DESIGN CHOICE, safe: notes/assumptions/31] -/
opaque notchFraction : Nat
opaque notchUp : (centre : Int) → Bool × Bool

/-- The error by which an ADAPT notch finds the strongest narrowband component off its centre, before the adaptation step 2^-MUSH,
from its input and its output before and now (R88 names no detector). [DESIGN CHOICE, safe: notes/assumptions/31] -/
opaque notchError : (x0 y0 x1 y1 : Int × Int) → Int

/-- The bytes of a number that the derivation of the key-wrap key takes: item 0 its counter, 1 DEVID, 2 the length in bits (R420 names
the derivation and not how these are laid out). [DESIGN CHOICE, safe: notes/assumptions/13] -/
opaque kdfBytes : (item value : Nat) → List (BitVec 8)
/-- The bytes of a PTP message that hardware forms, of an Announce and of the answer to a request for a grant that SV forms: from their
fields and body, laid out as IEEE 1588 does (R396, R398, R402). [DESIGN CHOICE, safe: notes/assumptions/39] -/
opaque ptpBytes : (fields : List Int) → (body : List (BitVec 8)) → List (BitVec 8)
opaque announceFrame : (fields : List Int) → List (BitVec 8)
opaque grantFrame : (fields : List Int) → List (BitVec 8)

/-- The destination of a PTP message to all under UDP over IPv6, and SV's logAnnounceInterval on a port, which the manual leaves open
(R395, R402). [DESIGN CHOICE, safe: notes/assumptions/39] -/
opaque ptpGroup6 : List (BitVec 8)
opaque announceLog : (port : Nat) → Int

/-- The bytes of a PTP message that its ICV covers, its correctionField as zero: of one that hardware forms from its fields and body, of
one that SV queues or that arrives from its frame (R404 leaves them to the standard). [DESIGN CHOICE, safe: notes/assumptions/39] -/
opaque authInput : (fields : List Int) → (bytes : List (BitVec 8)) → List (BitVec 8)

/-- The SHA-256 of the Shaura RMA key, which is in ROM (R441). [DESIGN CHOICE, safe: notes/assumptions/13] -/
opaque rmaKeyHash : BitVec 256

/-- The value of a word of CONFIG whose encoding R271 does not give, and the word that spells its default: TOL in 2^-32 cycle, VCN0
and SCN0 in 0.01 dB-Hz. [DESIGN CHOICE, safe: notes/assumptions/14] -/
opaque cfgValue : (word raw : Nat) → Nat
opaque cfgDefault : (word : Nat) → Nat

/-- What the broadcast ephemeris and clock of a satellite give at an instant of 2^-48 s: quantity 0 to 2 the position in 0.1 mm, 3 to
5 the velocity in 0.1 mm/s, 6 the clock offset in 2^-48 s, 7 its drift in 2^-48, 8 other than zero where the satellite is flagged
unhealthy (R285 to R287). [DESIGN CHOICE, safe: notes/assumptions/67] -/
opaque satellite : (sat time quantity : Nat) → Int

/-- The ionospheric and tropospheric delays of a satellite at an antenna for a signal, in 0.1 mm, and the Earth-rotation correction of
their distance in 0.1 mm (R285). [DESIGN CHOICE, safe: notes/assumptions/67] -/
opaque atmosphere : (sat antenna sig time : Nat) → Int
opaque earthRotation : (sat antenna time : Nat) → Int

/-- Entry `k` of the rotation R_a from local north-east-up axes to ECEF at a position in 0.1 mm, row by row in 2^-30 (R285).
[DESIGN CHOICE, safe: notes/assumptions/67] -/
opaque localAxes : (x y z : Int) → (k : Nat) → Int

/-- The GLONASS frequency number of a slot plus 7, taken modulo 14 (R168). [DESIGN CHOICE, safe: notes/assumptions/67] -/
opaque glonassNumber : (slot : Nat) → Nat

/-- The time filter and its estimates from the observations of an epoch, each spelled by its system, antenna, satellite, time,
residual and 1σ (R285): quantity 0 its next state, 1 b in 2^-48 s, 2 the rate in 2^-16 ppb, 3 and 4 their 1σ in ps and in 0.01 ppb, 5
other than zero where it has an estimate, 8 + SYS the offset d_sys in 2^-48 s. [DESIGN CHOICE, safe: notes/assumptions/67] -/
opaque timeFilter : (filter : Nat) → (observations : List (List Int)) → (quantity : Nat) → Int

/-- The 1σ of an external pulse as a source, in ps (R334). [DESIGN CHOICE, safe: notes/assumptions/67] -/
opaque pulseSigma : (unit : Nat) → Nat

/-- The measurement bytes 16 to 45 of a holdover record that the firmware learns for the reference `ref` (R335).
[DESIGN CHOICE, safe: notes/assumptions/67] -/
opaque learnt : (ref n k : Nat) → Nat

/-- Byte `k` of an entry of the satellite table, whose layout R270 does not give, for its health, OSNMA state, SPOOF_SAT and SPOOF_SITE.
[DESIGN CHOICE, safe: notes/assumptions/67] -/
opaque satByte : (sat health osnma spoof site k : Nat) → Nat

/-- The public key that a leaf of OSNMA's Merkle tree holds (R294: the OSNMA specification lays the leaf out).
[DESIGN CHOICE, safe: notes/assumptions/68] -/
opaque leafKey : (leaf : List (BitVec 8)) → List (BitVec 8)

/-- SHA3-256, and what the chain of TESLA keys hashes to go one key back from key `n` (R294: the OSNMA specification fixes both).
[DESIGN CHOICE, safe: notes/assumptions/68] -/
opaque sha3 : (message : List (BitVec 8)) → BitVec 256
opaque teslaInput : (n : Nat) → (key : List (BitVec 8)) → List (BitVec 8)

/-- The length and byte `k` of the payload of SYS STATS for its counts, whose layout R550 does not give.
[DESIGN CHOICE, safe: notes/assumptions/58] -/
opaque statsLength : Nat
opaque statsByte : (counts : List Nat) → (k : Nat) → Nat

/-- The length and byte `k` of the payload of an output message whose layout R550 does not give, for the numbers it reports, and the
ticks of a period of SYS OUTCFG. [DESIGN CHOICE, safe: notes/assumptions/58] -/
opaque outputLength : (cls num : Nat) → Nat
opaque outputByte : (cls num : Nat) → (numbers : List Nat) → (k : Nat) → Nat
opaque outputPeriod : (period : Nat) → Nat

/-- The fields of an NMEA sentence that R553 leaves to NMEA 0183: the latitude and longitude of a position in mm, the fields behind
those that the model forms, and all fields of each GSA (4) and GSV (5) sentence with its system or signal ID; a field stands beside the
set of the versions that define it, bit 0 for 4.11, 1 for 3.01, 2 for 2.3. [DESIGN CHOICE, safe: notes/assumptions/58] -/
opaque nmeaPosition : (x y z : Int) → List (List (BitVec 8))
opaque nmeaRest : (sentence : Nat) → (numbers : List Int) → List (Nat × List (BitVec 8))
opaque nmeaLists : (sentence : Nat) → (numbers : List Int) → List (List (Nat × List (BitVec 8)) × List (BitVec 8))

end Sys2Proof.Config
end

