-- ==== Sys2Proof/Machine/Regs.lean ====
section
/-!
DEFINITION. The register map (R4–R6, R14, R559, R564–R568 and the field maps of every chapter): one address for each
register, one field for each row of a field map, and the table of access types and cold-reset values that a write and
a reset go by.  Names are the manual's: `SPn_CTRL n` is the address of SPn_CTRL and `SPn_CTRL_EN n` its EN field.
-/

namespace Sys2Proof.Machine

/-- A field of a register: its slot address and its bit range. -/
structure Fld where
  reg : Nat
  hi : Nat
  lo : Nat
  deriving DecidableEq, Repr

/-- The number of bits of a field. -/
def Fld.width (f : Fld) : Nat := f.hi + 1 - f.lo

/-- The type codes of R14; a reserved field has no row. -/
inductive Access where
  | rw | ro | wo | w1c | w1s | rc
  deriving DecidableEq, Repr

/-- One row of a field map: the bits and the type code. -/
structure FieldSpec where
  hi : Nat
  lo : Nat
  access : Access
  deriving DecidableEq, Repr

/-- One register of the manual with all its instances: instance (i, j) lies at
`base + s1 * i + s2 * j` for `i < c1` and `j < c2`. -/
structure RegSpec where
  base : Nat
  s1 : Nat := 0
  c1 : Nat := 1
  s2 : Nat := 0
  c2 : Nat := 1
  /-- The cold-reset value of every instance (R564). -/
  reset : Nat := 0
  fields : List FieldSpec
  deriving DecidableEq, Repr

/-- Whether an address is an instance of the register. -/
def RegSpec.has (r : RegSpec) (a : Nat) : Bool :=
  if a < r.base then false
  else
    let off := a - r.base
    let i := if r.s1 = 0 then 0 else Nat.min (off / r.s1) (r.c1 - 1)
    let rest := off - r.s1 * i
    let j := if r.s2 = 0 then 0 else Nat.min (rest / r.s2) (r.c2 - 1)
    rest == r.s2 * j

/-- SYS_ID (R566). -/
def SYS_ID : Nat := 0x10000000
/-- SYS_ID.PART [31:16] RO: Part number. -/
def SYS_ID_PART : Fld := ⟨SYS_ID, 31, 16⟩
/-- SYS_ID.FAMILY [15:8] RO: Mirisk family, ASCII "M". -/
def SYS_ID_FAMILY : Fld := ⟨SYS_ID, 15, 8⟩
/-- SYS_ID.PKG [7:0] RO: Ball array edge (37). -/
def SYS_ID_PKG : Fld := ⟨SYS_ID, 7, 0⟩

/-- SYS_REV (R566). -/
def SYS_REV : Nat := 0x10000008
/-- SYS_REV.ROMVER [31:16] RO: Boot ROM version. -/
def SYS_REV_ROMVER : Fld := ⟨SYS_REV, 31, 16⟩
/-- SYS_REV.MAJOR [15:8] RO: Revision letter, ASCII; "A" on A1. -/
def SYS_REV_MAJOR : Fld := ⟨SYS_REV, 15, 8⟩
/-- SYS_REV.MINOR [7:0] RO: Revision digit; 0x01 on A1. -/
def SYS_REV_MINOR : Fld := ⟨SYS_REV, 7, 0⟩

/-- SYS_COMPAT (R566). -/
def SYS_COMPAT : Nat := 0x10000010
/-- SYS_COMPAT.LEVEL [7:0] RO: Compatibility level (R8, R9, R10). -/
def SYS_COMPAT_LEVEL : Fld := ⟨SYS_COMPAT, 7, 0⟩

/-- SYS_STRAP (R566). -/
def SYS_STRAP : Nat := 0x10000018
/-- SYS_STRAP.I2CADDR [4:3] RO: I²C address straps (R544). Reset: Strap. -/
def SYS_STRAP_I2CADDR : Fld := ⟨SYS_STRAP, 4, 3⟩
/-- SYS_STRAP.BOOTSEL [2:0] RO: Boot straps (R528). Reset: Strap. -/
def SYS_STRAP_BOOTSEL : Fld := ⟨SYS_STRAP, 2, 0⟩

/-- SYS_CAP0 (R4). -/
def SYS_CAP0 : Nat := 0x10000040
/-- SYS_CAP0.CA_ENGINES [39:32] RO: Number of correlation array engines (128). -/
def SYS_CAP0_CA_ENGINES : Fld := ⟨SYS_CAP0, 39, 32⟩
/-- SYS_CAP0.BAND_STREAMS [31:24] RO: Number of band streams (128). -/
def SYS_CAP0_BAND_STREAMS : Fld := ⟨SYS_CAP0, 31, 24⟩
/-- SYS_CAP0.SAMPLE_PORTS [23:16] RO: Number of sample ports (32). -/
def SYS_CAP0_SAMPLE_PORTS : Fld := ⟨SYS_CAP0, 23, 16⟩
/-- SYS_CAP0.CHANNELS [15:0] RO: Number of tracking channels (4,096). -/
def SYS_CAP0_CHANNELS : Fld := ⟨SYS_CAP0, 15, 0⟩

/-- SYS_CAP1 (R5). -/
def SYS_CAP1 : Nat := 0x10000048
/-- SYS_CAP1.TPG_UNITS [39:32] RO: Number of time-pulse generators (16). -/
def SYS_CAP1_TPG_UNITS : Fld := ⟨SYS_CAP1, 39, 32⟩
/-- SYS_CAP1.EVC_UNITS [31:28] RO: Number of event-capture units (8). -/
def SYS_CAP1_EVC_UNITS : Fld := ⟨SYS_CAP1, 31, 28⟩
/-- SYS_CAP1.ETH_PORTS [27:24] RO: Number of Ethernet timing ports (4). -/
def SYS_CAP1_ETH_PORTS : Fld := ⟨SYS_CAP1, 27, 24⟩
/-- SYS_CAP1.LOOP_CORES [23:20] RO: Number of loop cores (4). -/
def SYS_CAP1_LOOP_CORES : Fld := ⟨SYS_CAP1, 23, 20⟩
/-- SYS_CAP1.SOLN_CORES [19:16] RO: Number of solution cores (2). -/
def SYS_CAP1_SOLN_CORES : Fld := ⟨SYS_CAP1, 19, 16⟩
/-- SYS_CAP1.OSY_UNITS [15:12] RO: Number of output synthesisers (4). -/
def SYS_CAP1_OSY_UNITS : Fld := ⟨SYS_CAP1, 15, 12⟩
/-- SYS_CAP1.SE_INPUTS [11:8] RO: Number of search engine inputs (4). -/
def SYS_CAP1_SE_INPUTS : Fld := ⟨SYS_CAP1, 11, 8⟩
/-- SYS_CAP1.REEL_INPUTS [7:4] RO: Number of Reel inputs (8). -/
def SYS_CAP1_REEL_INPUTS : Fld := ⟨SYS_CAP1, 7, 4⟩

/-- SYS_CAP2 (R6). -/
def SYS_CAP2 : Nat := 0x10000050
/-- SYS_CAP2.SHMEM_BANKS [31:24] RO: Number of 512 KiB shared-memory banks (48). -/
def SYS_CAP2_SHMEM_BANKS : Fld := ⟨SYS_CAP2, 31, 24⟩
/-- SYS_CAP2.FW_REGIONS [23:16] RO: Number of firewall regions (32). -/
def SYS_CAP2_FW_REGIONS : Fld := ⟨SYS_CAP2, 23, 16⟩
/-- SYS_CAP2.MAX_TAPS [15:8] RO: Maximum correlator taps per channel (16). -/
def SYS_CAP2_MAX_TAPS : Fld := ⟨SYS_CAP2, 15, 8⟩
/-- SYS_CAP2.KEY_PAGES [7:0] RO: Number of cipher key pages (16). -/
def SYS_CAP2_KEY_PAGES : Fld := ⟨SYS_CAP2, 7, 0⟩

/-- SYS_SCRATCHi (R566). -/
def SYS_SCRATCHi (i : Nat) : Nat := 0x10000400 + 0x8 * i
/-- SYS_SCRATCHi.DATA [47:0] RW: Free for firmware and host. -/
def SYS_SCRATCHi_DATA (i : Nat) : Fld := ⟨SYS_SCRATCHi i, 47, 0⟩

/-- PWR_CMD (R507). -/
def PWR_CMD : Nat := 0x10010000
/-- PWR_CMD.TARGET [2:0] WO: 0 ACTIVE; 1 STANDBY; 2 KEEPTIME; 3 DEEP; 4–7 ignored. -/
def PWR_CMD_TARGET : Fld := ⟨PWR_CMD, 2, 0⟩

/-- PWR_STAT (R507). -/
def PWR_STAT : Nat := 0x10010008
/-- PWR_STAT.RESULT [23:16] RO: 0 OK; 1 PWR_BUSY; 2 BADSTATE; 3 PWR_DEBUG_HOLD; 4 WAKE_ACTIVE; 5 PWR_BUDGET; 6 ABORTED; 7 VIDFAIL. -/
def PWR_STAT_RESULT : Fld := ⟨PWR_STAT, 23, 16⟩
/-- PWR_STAT.STATE [15:14] RO: 0 ACTIVE; 1 STANDBY; 2 ENTERING; 3 EXITING. -/
def PWR_STAT_STATE : Fld := ⟨PWR_STAT, 15, 14⟩
/-- PWR_STAT.LEVELBUSY [13:13] RO: A level change is running. -/
def PWR_STAT_LEVELBUSY : Fld := ⟨PWR_STAT, 13, 13⟩
/-- PWR_STAT.DEFERRED [12:12] RO: A level change is deferred (R493). -/
def PWR_STAT_DEFERRED : Fld := ⟨PWR_STAT, 12, 12⟩
/-- PWR_STAT.LEVEL [9:8] RO: Level in force: 0 P0; 1 P1; 2 P2. -/
def PWR_STAT_LEVEL : Fld := ⟨PWR_STAT, 9, 8⟩
/-- PWR_STAT.SAVEBAD [5:5] W1C: The save list failed its check (R499). -/
def PWR_STAT_SAVEBAD : Fld := ⟨PWR_STAT, 5, 5⟩
/-- PWR_STAT.VIDFAIL [4:4] W1C: VPG did not rise (R492). -/
def PWR_STAT_VIDFAIL : Fld := ⟨PWR_STAT, 4, 4⟩
/-- PWR_STAT.ABORTED [3:3] W1C: An entry was aborted (R503). -/
def PWR_STAT_ABORTED : Fld := ⟨PWR_STAT, 3, 3⟩
/-- PWR_STAT.REFUSED [2:2] W1C: A request was refused (R494). -/
def PWR_STAT_REFUSED : Fld := ⟨PWR_STAT, 2, 2⟩
/-- PWR_STAT.LEVELDONE [1:1] W1C: A level change ended. -/
def PWR_STAT_LEVELDONE : Fld := ⟨PWR_STAT, 1, 1⟩
/-- PWR_STAT.WOKE [0:0] W1C: An exit or wake completed. -/
def PWR_STAT_WOKE : Fld := ⟨PWR_STAT, 0, 0⟩

/-- PWR_INTEN (R506). -/
def PWR_INTEN : Nat := 0x10010010
/-- PWR_INTEN.EN [5:0] RW: Enables of the matching STAT bits. -/
def PWR_INTEN_EN : Fld := ⟨PWR_INTEN, 5, 0⟩

/-- PWR_PERF (R507). -/
def PWR_PERF : Nat := 0x10010018
/-- PWR_PERF.TARGET [1:0] RW: Requested level; a write starts a request (R491); a refused request restores the former value (R494). -/
def PWR_PERF_TARGET : Fld := ⟨PWR_PERF, 1, 0⟩

/-- PWR_CFG (R507). -/
def PWR_CFG : Nat := 0x10010020
/-- PWR_CFG.AONLP [32:32] RW: Low-power regulator mode in DEEP (R501). -/
def PWR_CFG_AONLP : Fld := ⟨PWR_CFG, 32, 32⟩
/-- PWR_CFG.VPGEN [31:31] RW: Wait for VPG when raising. -/
def PWR_CFG_VPGEN : Fld := ⟨PWR_CFG, 31, 31⟩
/-- PWR_CFG.COREUP [30:16] RW: Core supply wait on DEEP wake, 10 µs units (2 ms). -/
def PWR_CFG_COREUP : Fld := ⟨PWR_CFG, 30, 16⟩
/-- PWR_CFG.SETTLE [15:0] RW: VID settling time in µs (200); 0 treated as 1. -/
def PWR_CFG_SETTLE : Fld := ⟨PWR_CFG, 15, 0⟩

/-- PWR_WAKEEN (R507). -/
def PWR_WAKEEN : Nat := 0x10010028
/-- PWR_WAKEEN.DBGREQ [4:4] RW: Wake on DBGREQ; ignored in DEPLOYED. -/
def PWR_WAKEEN_DBGREQ : Fld := ⟨PWR_WAKEEN, 4, 4⟩
/-- PWR_WAKEEN.EV0 [3:3] RW: Wake on EV0. -/
def PWR_WAKEEN_EV0 : Fld := ⟨PWR_WAKEEN, 3, 3⟩
/-- PWR_WAKEEN.I2C [2:2] RW: Wake on I²C address match. -/
def PWR_WAKEEN_I2C : Fld := ⟨PWR_WAKEEN, 2, 2⟩
/-- PWR_WAKEEN.RTC [1:1] RW: Wake on the real-time alarm. -/
def PWR_WAKEEN_RTC : Fld := ⟨PWR_WAKEEN, 1, 1⟩
/-- PWR_WAKEEN.WAKE [0:0] RW: Wake on the WAKE pin. -/
def PWR_WAKEEN_WAKE : Fld := ⟨PWR_WAKEEN, 0, 0⟩

/-- PWR_WAKECFG (R507). -/
def PWR_WAKECFG : Nat := 0x10010030
/-- PWR_WAKECFG.EV0EDGE [2:1] RW: 0 rising; 1 falling; 2 both; 3 treated as 2. -/
def PWR_WAKECFG_EV0EDGE : Fld := ⟨PWR_WAKECFG, 2, 1⟩
/-- PWR_WAKECFG.WAKEPOL [0:0] RW: 0 WAKE active high; 1 active low. -/
def PWR_WAKECFG_WAKEPOL : Fld := ⟨PWR_WAKECFG, 0, 0⟩

/-- PWR_WAKESRC (R507). -/
def PWR_WAKESRC : Nat := 0x10010038
/-- PWR_WAKESRC.CODE [34:32] RO: Source of the last wake (R502); 0 none. -/
def PWR_WAKESRC_CODE : Fld := ⟨PWR_WAKESRC, 34, 32⟩
/-- PWR_WAKESRC.AT [31:0] RO: PWR_RTC bits [31:0] at the event. -/
def PWR_WAKESRC_AT : Fld := ⟨PWR_WAKESRC, 31, 0⟩

/-- PWR_RTC (R507). -/
def PWR_RTC : Nat := 0x10010040
/-- PWR_RTC.COUNT [47:0] RO: Always-on cycles since power-up of VDD_AON_IN; wraps after 272 years. -/
def PWR_RTC_COUNT : Fld := ⟨PWR_RTC, 47, 0⟩

/-- PWR_RTCALM (R507). -/
def PWR_RTCALM : Nat := 0x10010048
/-- PWR_RTCALM.ALARM [47:0] RW: Alarm value. -/
def PWR_RTCALM_ALARM : Fld := ⟨PWR_RTCALM, 47, 0⟩

/-- PWR_RSTCAUSE (R507). -/
def PWR_RSTCAUSE : Nat := 0x10010050
/-- PWR_RSTCAUSE.PIN [5:5] W1C: External reset. -/
def PWR_RSTCAUSE_PIN : Fld := ⟨PWR_RSTCAUSE, 5, 5⟩
/-- PWR_RSTCAUSE.DEEPWAKE [4:4] W1C: Wake from DEEP (R500). -/
def PWR_RSTCAUSE_DEEPWAKE : Fld := ⟨PWR_RSTCAUSE, 4, 4⟩
/-- PWR_RSTCAUSE.SAFRST [3:3] W1C: Cold reset ordered by SAF. -/
def PWR_RSTCAUSE_SAFRST : Fld := ⟨PWR_RSTCAUSE, 3, 3⟩
/-- PWR_RSTCAUSE.LCRESET [2:2] W1C: Lifecycle transition (R443). -/
def PWR_RSTCAUSE_LCRESET : Fld := ⟨PWR_RSTCAUSE, 2, 2⟩
/-- PWR_RSTCAUSE.BROWNOUT [1:1] W1C: Always-on brown-out (R501). -/
def PWR_RSTCAUSE_BROWNOUT : Fld := ⟨PWR_RSTCAUSE, 1, 1⟩
/-- PWR_RSTCAUSE.POR [0:0] W1C: Power-up of VDD_AON_IN. -/
def PWR_RSTCAUSE_POR : Fld := ⟨PWR_RSTCAUSE, 0, 0⟩

/-- PWR_COUNT (R507). -/
def PWR_COUNT : Nat := 0x10010058
/-- PWR_COUNT.WAKES [47:32] RO: Wakes and exits; wraps. -/
def PWR_COUNT_WAKES : Fld := ⟨PWR_COUNT, 47, 32⟩
/-- PWR_COUNT.ABORTS [31:16] RO: Aborted entries; wraps. -/
def PWR_COUNT_ABORTS : Fld := ⟨PWR_COUNT, 31, 16⟩
/-- PWR_COUNT.LEVELCHG [15:0] RO: Completed level changes; wraps. -/
def PWR_COUNT_LEVELCHG : Fld := ⟨PWR_COUNT, 15, 0⟩

/-- CLK_CTRL (R388). -/
def CLK_CTRL : Nat := 0x10020000
/-- CLK_CTRL.AUTOSW [0:0] RW: Switch on LOS (R371). -/
def CLK_CTRL_AUTOSW : Fld := ⟨CLK_CTRL, 0, 0⟩

/-- CLK_STAT (R388). -/
def CLK_STAT : Nat := 0x10020008
/-- CLK_STAT.BAND [23:16] RO: Root band in use. -/
def CLK_STAT_BAND : Fld := ⟨CLK_STAT, 23, 16⟩
/-- CLK_STAT.STATE [15:13] RO: 0 ACQUIRE; 1 LOCKED; 2 FROZEN; 3 RELOCK; 4 SWITCH. -/
def CLK_STAT_STATE : Fld := ⟨CLK_STAT, 15, 13⟩
/-- CLK_STAT.SEL [12:12] RO: 0 REFA; 1 REFB. -/
def CLK_STAT_SEL : Fld := ⟨CLK_STAT, 12, 12⟩
/-- CLK_STAT.LOCK [11:11] RO: Root locked. -/
def CLK_STAT_LOCK : Fld := ⟨CLK_STAT, 11, 11⟩
/-- CLK_STAT.ALTVALID [10:10] RO: YOTHER valid and FREQALT within range (R369). -/
def CLK_STAT_ALTVALID : Fld := ⟨CLK_STAT, 10, 10⟩
/-- CLK_STAT.SPLOL [8:8] W1C: Baud synthesiser lost lock. -/
def CLK_STAT_SPLOL : Fld := ⟨CLK_STAT, 8, 8⟩
/-- CLK_STAT.CFGERR [7:7] W1C: A configuration write was ignored. -/
def CLK_STAT_CFGERR : Fld := ⟨CLK_STAT, 7, 7⟩
/-- CLK_STAT.CMDREF [6:6] W1C: A command was refused. -/
def CLK_STAT_CMDREF : Fld := ⟨CLK_STAT, 6, 6⟩
/-- CLK_STAT.NOBAND [5:5] W1C: No band qualified. -/
def CLK_STAT_NOBAND : Fld := ⟨CLK_STAT, 5, 5⟩
/-- CLK_STAT.RELOCKFAIL [4:4] W1C: Lock not reached. -/
def CLK_STAT_RELOCKFAIL : Fld := ⟨CLK_STAT, 4, 4⟩
/-- CLK_STAT.SWITCHED [3:3] W1C: A reference switch completed. -/
def CLK_STAT_SWITCHED : Fld := ⟨CLK_STAT, 3, 3⟩
/-- CLK_STAT.LOSB [2:2] W1C: REFB lost. -/
def CLK_STAT_LOSB : Fld := ⟨CLK_STAT, 2, 2⟩
/-- CLK_STAT.LOSA [1:1] W1C: REFA lost. -/
def CLK_STAT_LOSA : Fld := ⟨CLK_STAT, 1, 1⟩
/-- CLK_STAT.LOL [0:0] W1C: Root lost lock. -/
def CLK_STAT_LOL : Fld := ⟨CLK_STAT, 0, 0⟩

/-- CLK_INTEN (R388). -/
def CLK_INTEN : Nat := 0x10020010
/-- CLK_INTEN.EN [8:0] RW: Enables of the matching STAT bits. -/
def CLK_INTEN_EN : Fld := ⟨CLK_INTEN, 8, 0⟩

/-- CLK_CMD (R388). -/
def CLK_CMD : Nat := 0x10020018
/-- CLK_CMD.SWITCH [1:1] WO: Switch reference (R372). -/
def CLK_CMD_SWITCH : Fld := ⟨CLK_CMD, 1, 1⟩
/-- CLK_CMD.RELOCK [0:0] WO: Relock (R373). -/
def CLK_CMD_RELOCK : Fld := ⟨CLK_CMD, 0, 0⟩

/-- CLK_REFCFG (R388). -/
def CLK_REFCFG : Nat := 0x10020020
/-- CLK_REFCFG.QUAL [39:32] RW: Qualification in 10 ms units; 0 treated as 1. -/
def CLK_REFCFG_QUAL : Fld := ⟨CLK_REFCFG, 39, 32⟩
/-- CLK_REFCFG.REFTOL [31:24] RW: Tolerance in ppm (50); 0 treated as 1. -/
def CLK_REFCFG_REFTOL : Fld := ⟨CLK_REFCFG, 31, 24⟩
/-- CLK_REFCFG.BMULT [13:12] RW: REFB path (R364). Reset: OTP. -/
def CLK_REFCFG_BMULT : Fld := ⟨CLK_REFCFG, 13, 12⟩
/-- CLK_REFCFG.BFSEL [11:8] RW: REFB frequency (R363). Reset: OTP. -/
def CLK_REFCFG_BFSEL : Fld := ⟨CLK_REFCFG, 11, 8⟩
/-- CLK_REFCFG.AMULT [5:4] RW: REFA path. Reset: OTP. -/
def CLK_REFCFG_AMULT : Fld := ⟨CLK_REFCFG, 5, 4⟩
/-- CLK_REFCFG.AFSEL [3:0] RW: REFA frequency. Reset: OTP. -/
def CLK_REFCFG_AFSEL : Fld := ⟨CLK_REFCFG, 3, 0⟩

/-- CLK_REFMON (R388). -/
def CLK_REFMON : Nat := 0x10020028
/-- CLK_REFMON.BSTATE [3:2] RO: 0 ABSENT; 1 PRESENT; 2 VALID. -/
def CLK_REFMON_BSTATE : Fld := ⟨CLK_REFMON, 3, 2⟩
/-- CLK_REFMON.ASTATE [1:0] RO: As BSTATE, for REFA. -/
def CLK_REFMON_ASTATE : Fld := ⟨CLK_REFMON, 1, 0⟩

/-- CLK_REFCMP (R388). -/
def CLK_REFCMP : Nat := 0x10020030
/-- CLK_REFCMP.YOTHER [47:0] RO: Other reference's offset, signed, 2^-48. -/
def CLK_REFCMP_YOTHER : Fld := ⟨CLK_REFCMP, 47, 0⟩

/-- CLK_DTW (R388). -/
def CLK_DTW : Nat := 0x10020038
/-- CLK_DTW.POS [31:24] RO: Word position in the band, 0–255. -/
def CLK_DTW_POS : Fld := ⟨CLK_DTW, 31, 24⟩
/-- CLK_DTW.DTW [23:0] RO: Tuning word in use. -/
def CLK_DTW_DTW : Fld := ⟨CLK_DTW, 23, 0⟩

/-- CLK_DIV (R388). -/
def CLK_DIV : Nat := 0x10020040
/-- CLK_DIV.SYSDIV [7:4] RO: CLK_SYS divider. -/
def CLK_DIV_SYSDIV : Fld := ⟨CLK_DIV, 7, 4⟩
/-- CLK_DIV.CORRDIV [3:0] RO: CLK_CORR divider. -/
def CLK_DIV_CORRDIV : Fld := ⟨CLK_DIV, 3, 0⟩

/-- CLK_COUNT (R388). -/
def CLK_COUNT : Nat := 0x10020048
/-- CLK_COUNT.RELOCKS [47:32] RO: Completed relocks and switches; wraps. -/
def CLK_COUNT_RELOCKS : Fld := ⟨CLK_COUNT, 47, 32⟩
/-- CLK_COUNT.LOS [31:16] RO: LOS events; wraps. -/
def CLK_COUNT_LOS : Fld := ⟨CLK_COUNT, 31, 16⟩
/-- CLK_COUNT.LOL [15:0] RO: Losses of lock; wraps. -/
def CLK_COUNT_LOL : Fld := ⟨CLK_COUNT, 15, 0⟩

/-- CLK_BANDk (R388). -/
def CLK_BANDk (k : Nat) : Nat := 0x10020100 + 0x8 * k
/-- CLK_BANDk.VALID [31:31] RW: Band usable. Reset: OTP. -/
def CLK_BANDk_VALID (k : Nat) : Fld := ⟨CLK_BANDk k, 31, 31⟩
/-- CLK_BANDk.FHI [28:16] RW: Highest frequency, MHz. Reset: OTP. -/
def CLK_BANDk_FHI (k : Nat) : Fld := ⟨CLK_BANDk k, 28, 16⟩
/-- CLK_BANDk.FLO [12:0] RW: Lowest frequency, MHz. Reset: OTP. -/
def CLK_BANDk_FLO (k : Nat) : Fld := ⟨CLK_BANDk k, 12, 0⟩

/-- OSYn_CTRL (R389). -/
def OSYn_CTRL (n : Nat) : Nat := 0x10030000 + 0x800 * n
/-- OSYn_CTRL.TRACK [11:10] RW: 0 none; 1 FREQNOW; 2 FREQNOW + S; 3 treated as 2. -/
def OSYn_CTRL_TRACK (n : Nat) : Fld := ⟨OSYn_CTRL n, 11, 10⟩
/-- OSYn_CTRL.MULT [9:8] RW: Reference path (R376). -/
def OSYn_CTRL_MULT (n : Nat) : Fld := ⟨OSYn_CTRL n, 9, 8⟩
/-- OSYn_CTRL.EN [0:0] RW: Synthesiser enable (R381). -/
def OSYn_CTRL_EN (n : Nat) : Fld := ⟨OSYn_CTRL n, 0, 0⟩

/-- OSYn_STAT (R389). -/
def OSYn_STAT (n : Nat) : Nat := 0x10030008 + 0x800 * n
/-- OSYn_STAT.BAND [15:10] RO: Band in use. -/
def OSYn_STAT_BAND (n : Nat) : Fld := ⟨OSYn_STAT n, 15, 10⟩
/-- OSYn_STAT.LOCK [9:9] RO: Locked. -/
def OSYn_STAT_LOCK (n : Nat) : Fld := ⟨OSYn_STAT n, 9, 9⟩
/-- OSYn_STAT.RSAT [7:7] W1C: RAMPFREQ held at its limit. -/
def OSYn_STAT_RSAT (n : Nat) : Fld := ⟨OSYn_STAT n, 7, 7⟩
/-- OSYn_STAT.BMDONE [6:6] W1C: Band measurement complete. -/
def OSYn_STAT_BMDONE (n : Nat) : Fld := ⟨OSYn_STAT n, 6, 6⟩
/-- OSYn_STAT.PHDONE [5:5] W1C: Phase measurement complete. -/
def OSYn_STAT_PHDONE (n : Nat) : Fld := ⟨OSYn_STAT n, 5, 5⟩
/-- OSYn_STAT.RAMPDONE [4:4] W1C: Profile complete. -/
def OSYn_STAT_RAMPDONE (n : Nat) : Fld := ⟨OSYn_STAT n, 4, 4⟩
/-- OSYn_STAT.CFGERR [3:3] W1C: A write or command was refused. -/
def OSYn_STAT_CFGERR (n : Nat) : Fld := ⟨OSYn_STAT n, 3, 3⟩
/-- OSYn_STAT.NOBAND [2:2] W1C: No band qualified. -/
def OSYn_STAT_NOBAND (n : Nat) : Fld := ⟨OSYn_STAT n, 2, 2⟩
/-- OSYn_STAT.RELOCKED [1:1] W1C: RELOCK complete. -/
def OSYn_STAT_RELOCKED (n : Nat) : Fld := ⟨OSYn_STAT n, 1, 1⟩
/-- OSYn_STAT.LOL [0:0] W1C: Lost lock. -/
def OSYn_STAT_LOL (n : Nat) : Fld := ⟨OSYn_STAT n, 0, 0⟩

/-- OSYn_INTEN (R389). -/
def OSYn_INTEN (n : Nat) : Nat := 0x10030010 + 0x800 * n
/-- OSYn_INTEN.EN [7:0] RW: Enables of the matching STAT bits. -/
def OSYn_INTEN_EN (n : Nat) : Fld := ⟨OSYn_INTEN n, 7, 0⟩

/-- OSYn_CMD (R389). -/
def OSYn_CMD (n : Nat) : Nat := 0x10030018 + 0x800 * n
/-- OSYn_CMD.BMBAND [13:8] WO: Band to measure. -/
def OSYn_CMD_BMBAND (n : Nat) : Fld := ⟨OSYn_CMD n, 13, 8⟩
/-- OSYn_CMD.BANDMEAS [5:5] WO: Measure band BMBAND (R385). -/
def OSYn_CMD_BANDMEAS (n : Nat) : Fld := ⟨OSYn_CMD n, 5, 5⟩
/-- OSYn_CMD.PHOUT [4:4] WO: Output to measure. -/
def OSYn_CMD_PHOUT (n : Nat) : Fld := ⟨OSYn_CMD n, 4, 4⟩
/-- OSYn_CMD.PHMEAS [3:3] WO: Measure an edge (R385). -/
def OSYn_CMD_PHMEAS (n : Nat) : Fld := ⟨OSYn_CMD n, 3, 3⟩
/-- OSYn_CMD.RAMPSTOP [2:2] WO: Stop the profile (R384). -/
def OSYn_CMD_RAMPSTOP (n : Nat) : Fld := ⟨OSYn_CMD n, 2, 2⟩
/-- OSYn_CMD.RAMPGO [1:1] WO: Start the profile (R383). -/
def OSYn_CMD_RAMPGO (n : Nat) : Fld := ⟨OSYn_CMD n, 1, 1⟩
/-- OSYn_CMD.RELOCK [0:0] WO: Relock (R382). -/
def OSYn_CMD_RELOCK (n : Nat) : Fld := ⟨OSYn_CMD n, 0, 0⟩

/-- OSYn_NINT (R389). -/
def OSYn_NINT (n : Nat) : Nat := 0x10030020 + 0x800 * n
/-- OSYn_NINT.NINT [7:0] RW: Integer part of W (60). -/
def OSYn_NINT_NINT (n : Nat) : Fld := ⟨OSYn_NINT n, 7, 0⟩

/-- OSYn_NFRAC (R389). -/
def OSYn_NFRAC (n : Nat) : Nat := 0x10030028 + 0x800 * n
/-- OSYn_NFRAC.NFRAC [47:0] RW: Fractional part of W, 2^-48. -/
def OSYn_NFRAC_NFRAC (n : Nat) : Fld := ⟨OSYn_NFRAC n, 47, 0⟩

/-- OSYn_DTW (R389). -/
def OSYn_DTW (n : Nat) : Nat := 0x10030030 + 0x800 * n
/-- OSYn_DTW.POS [31:24] RO: Word position in the band, 0–255. -/
def OSYn_DTW_POS (n : Nat) : Fld := ⟨OSYn_DTW n, 31, 24⟩
/-- OSYn_DTW.DTW [23:0] RO: Tuning word in use. -/
def OSYn_DTW_DTW (n : Nat) : Fld := ⟨OSYn_DTW n, 23, 0⟩

/-- OSYn_OUTCTRL (R389). -/
def OSYn_OUTCTRL (n : Nat) : Nat := 0x10030038 + 0x800 * n
/-- OSYn_OUTCTRL.FMT1 [11:10] RW: 0 LVDS; 1 HCSL; 2 LVCMOS 1.8 V; 3 treated as 0. -/
def OSYn_OUTCTRL_FMT1 (n : Nat) : Fld := ⟨OSYn_OUTCTRL n, 11, 10⟩
/-- OSYn_OUTCTRL.SQ1 [9:9] RW: Stop output 1 during a clock fault. -/
def OSYn_OUTCTRL_SQ1 (n : Nat) : Fld := ⟨OSYn_OUTCTRL n, 9, 9⟩
/-- OSYn_OUTCTRL.OE1 [8:8] RW: Output 1 enable (R379, R380). -/
def OSYn_OUTCTRL_OE1 (n : Nat) : Fld := ⟨OSYn_OUTCTRL n, 8, 8⟩
/-- OSYn_OUTCTRL.FMT0 [3:2] RW: As FMT1. -/
def OSYn_OUTCTRL_FMT0 (n : Nat) : Fld := ⟨OSYn_OUTCTRL n, 3, 2⟩
/-- OSYn_OUTCTRL.SQ0 [1:1] RW: As SQ1. -/
def OSYn_OUTCTRL_SQ0 (n : Nat) : Fld := ⟨OSYn_OUTCTRL n, 1, 1⟩
/-- OSYn_OUTCTRL.OE0 [0:0] RW: Output 0 enable. -/
def OSYn_OUTCTRL_OE0 (n : Nat) : Fld := ⟨OSYn_OUTCTRL n, 0, 0⟩

/-- OSYn_DIVj (R389). -/
def OSYn_DIVj (n j : Nat) : Nat := 0x10030040 + 0x800 * n + 0x10 * j
/-- OSYn_DIVj.INT [23:0] RW: Integer divider (600). -/
def OSYn_DIVj_INT (n j : Nat) : Fld := ⟨OSYn_DIVj n j, 23, 0⟩

/-- OSYn_FRACj (R389). -/
def OSYn_FRACj (n j : Nat) : Nat := 0x10030048 + 0x800 * n + 0x10 * j
/-- OSYn_FRACj.DEN [47:24] RW: Denominator. -/
def OSYn_FRACj_DEN (n j : Nat) : Fld := ⟨OSYn_FRACj n j, 47, 24⟩
/-- OSYn_FRACj.NUM [23:0] RW: Numerator, below DEN. -/
def OSYn_FRACj_NUM (n j : Nat) : Fld := ⟨OSYn_FRACj n j, 23, 0⟩

/-- OSYn_RAMPCTRL (R389). -/
def OSYn_RAMPCTRL (n : Nat) : Nat := 0x10030060 + 0x800 * n
/-- OSYn_RAMPCTRL.STATE [9:8] RO: 0 IDLE; 1 RUN; 2 HELD. -/
def OSYn_RAMPCTRL_STATE (n : Nat) : Fld := ⟨OSYn_RAMPCTRL n, 9, 8⟩
/-- OSYn_RAMPCTRL.SEG [7:4] RO: Segment running. -/
def OSYn_RAMPCTRL_SEG (n : Nat) : Fld := ⟨OSYn_RAMPCTRL n, 7, 4⟩
/-- OSYn_RAMPCTRL.NSEGM1 [3:0] RW: Segments minus one. -/
def OSYn_RAMPCTRL_NSEGM1 (n : Nat) : Fld := ⟨OSYn_RAMPCTRL n, 3, 0⟩

/-- OSYn_RAMPFREQ (R389). -/
def OSYn_RAMPFREQ (n : Nat) : Nat := 0x10030068 + 0x800 * n
/-- OSYn_RAMPFREQ.FREQ [47:0] RO: Ramp offset, signed, 2^-48. -/
def OSYn_RAMPFREQ_FREQ (n : Nat) : Fld := ⟨OSYn_RAMPFREQ n, 47, 0⟩

/-- OSYn_PHASEACC (R389). -/
def OSYn_PHASEACC (n : Nat) : Nat := 0x10030070 + 0x800 * n
/-- OSYn_PHASEACC.PHASE [47:0] RO: Advance since RAMPGO, signed, ps. -/
def OSYn_PHASEACC_PHASE (n : Nat) : Fld := ⟨OSYn_PHASEACC n, 47, 0⟩

/-- OSYn_PHSEC (R389). -/
def OSYn_PHSEC (n : Nat) : Nat := 0x10030078 + 0x800 * n
/-- OSYn_PHSEC.SEC [47:0] RO: Seconds of the measured edge. -/
def OSYn_PHSEC_SEC (n : Nat) : Fld := ⟨OSYn_PHSEC n, 47, 0⟩

/-- OSYn_PHFRAC (R389). -/
def OSYn_PHFRAC (n : Nat) : Nat := 0x10030080 + 0x800 * n
/-- OSYn_PHFRAC.FRAC [47:0] RO: Fraction of the measured edge, 2^-48 s. -/
def OSYn_PHFRAC_FRAC (n : Nat) : Fld := ⟨OSYn_PHFRAC n, 47, 0⟩

/-- OSYn_BANDMEAS (R389). -/
def OSYn_BANDMEAS (n : Nat) : Nat := 0x10030088 + 0x800 * n
/-- OSYn_BANDMEAS.FHI [28:16] RO: Measured highest frequency, MHz. -/
def OSYn_BANDMEAS_FHI (n : Nat) : Fld := ⟨OSYn_BANDMEAS n, 28, 16⟩
/-- OSYn_BANDMEAS.FLO [12:0] RO: Measured lowest frequency, MHz. -/
def OSYn_BANDMEAS_FLO (n : Nat) : Fld := ⟨OSYn_BANDMEAS n, 12, 0⟩

/-- OSYn_SEGsRATE (R389). -/
def OSYn_SEGsRATE (n s : Nat) : Nat := 0x10030100 + 0x800 * n + 0x10 * s
/-- OSYn_SEGsRATE.RATE [23:0] RW: Segment rate, signed, 1/256 ppb/s. -/
def OSYn_SEGsRATE_RATE (n s : Nat) : Fld := ⟨OSYn_SEGsRATE n s, 23, 0⟩

/-- OSYn_SEGsDUR (R389). -/
def OSYn_SEGsDUR (n s : Nat) : Nat := 0x10030108 + 0x800 * n + 0x10 * s
/-- OSYn_SEGsDUR.DUR [39:0] RW: Segment duration in ticks. -/
def OSYn_SEGsDUR_DUR (n s : Nat) : Fld := ⟨OSYn_SEGsDUR n s, 39, 0⟩

/-- OSYn_BANDk (R389). -/
def OSYn_BANDk (n k : Nat) : Nat := 0x10030200 + 0x800 * n + 0x8 * k
/-- OSYn_BANDk.VALID [31:31] RW: Band usable. Reset: OTP. -/
def OSYn_BANDk_VALID (n k : Nat) : Fld := ⟨OSYn_BANDk n k, 31, 31⟩
/-- OSYn_BANDk.FHI [28:16] RW: Highest frequency, MHz. Reset: OTP. -/
def OSYn_BANDk_FHI (n k : Nat) : Fld := ⟨OSYn_BANDk n k, 28, 16⟩
/-- OSYn_BANDk.FLO [12:0] RW: Lowest frequency, MHz. Reset: OTP. -/
def OSYn_BANDk_FLO (n k : Nat) : Fld := ⟨OSYn_BANDk n k, 12, 0⟩

/-- TB_SEC (R340). -/
def TB_SEC : Nat := 0x10040000
/-- TB_SEC.SEC [47:0] RO: Seconds; latched by a TB_FRAC read (R311). -/
def TB_SEC_SEC : Fld := ⟨TB_SEC, 47, 0⟩

/-- TB_FRAC (R340). -/
def TB_FRAC : Nat := 0x10040008
/-- TB_FRAC.FRAC [47:0] RO: Fraction, 2^-48 s. -/
def TB_FRAC_FRAC : Fld := ⟨TB_FRAC, 47, 0⟩

/-- TB_RATEH (R340). -/
def TB_RATEH : Nat := 0x10040010
/-- TB_RATEH.RATE [47:0] RO: Increment in force, upper 48 bits. -/
def TB_RATEH_RATE : Fld := ⟨TB_RATEH, 47, 0⟩

/-- TB_RATEL (R340). -/
def TB_RATEL : Nat := 0x10040018
/-- TB_RATEL.RATE [47:0] RO: Increment in force, lower 48 bits. -/
def TB_RATEL_RATE : Fld := ⟨TB_RATEL, 47, 0⟩

/-- TB_FREQ (R340). -/
def TB_FREQ : Nat := 0x10040020
/-- TB_FREQ.FREQ [47:0] RW: Target frequency correction, signed, 2^-48. -/
def TB_FREQ_FREQ : Fld := ⟨TB_FREQ, 47, 0⟩

/-- TB_FREQNOW (R340). -/
def TB_FREQNOW : Nat := 0x10040028
/-- TB_FREQNOW.FREQ [47:0] RO: Correction in force, signed, 2^-48. -/
def TB_FREQNOW_FREQ : Fld := ⟨TB_FREQNOW, 47, 0⟩

/-- TB_FREQALT (R340). -/
def TB_FREQALT : Nat := 0x10040030
/-- TB_FREQALT.FREQ [47:0] RO: Correction for the other reference (R315). -/
def TB_FREQALT_FREQ : Fld := ⟨TB_FREQALT, 47, 0⟩

/-- TB_STEP (R340). -/
def TB_STEP : Nat := 0x10040038
/-- TB_STEP.STEP [47:0] RW: Step request, signed, ps. -/
def TB_STEP_STEP : Fld := ⟨TB_STEP, 47, 0⟩

/-- TB_SLEW (R340). -/
def TB_SLEW : Nat := 0x10040040
/-- TB_SLEW.AMOUNT [47:0] RW: Slew amount, signed, ps. -/
def TB_SLEW_AMOUNT : Fld := ⟨TB_SLEW, 47, 0⟩

/-- TB_SLEWRATE (R340). -/
def TB_SLEWRATE : Nat := 0x10040048
/-- TB_SLEWRATE.RATE [19:0] RW: Slew rate, 1/256 ppb. -/
def TB_SLEWRATE_RATE : Fld := ⟨TB_SLEWRATE, 19, 0⟩

/-- TB_SLEWREM (R340). -/
def TB_SLEWREM : Nat := 0x10040050
/-- TB_SLEWREM.REM [47:0] RO: Amount not yet slewed, signed, ps. -/
def TB_SLEWREM_REM : Fld := ⟨TB_SLEWREM, 47, 0⟩

/-- TB_LOADSEC (R340). -/
def TB_LOADSEC : Nat := 0x10040058
/-- TB_LOADSEC.SEC [47:0] RW: Seconds of the load value. -/
def TB_LOADSEC_SEC : Fld := ⟨TB_LOADSEC, 47, 0⟩

/-- TB_LOADFRAC (R340). -/
def TB_LOADFRAC : Nat := 0x10040060
/-- TB_LOADFRAC.FRAC [47:0] RW: Fraction of the load value. -/
def TB_LOADFRAC_FRAC : Fld := ⟨TB_LOADFRAC, 47, 0⟩

/-- TB_CMD (R340). -/
def TB_CMD : Nat := 0x10040068
/-- TB_CMD.SLEWSTOP [3:3] WO: End the slew (R324). -/
def TB_CMD_SLEWSTOP : Fld := ⟨TB_CMD, 3, 3⟩
/-- TB_CMD.SLEW [2:2] WO: Request a slew (R321). -/
def TB_CMD_SLEW : Fld := ⟨TB_CMD, 2, 2⟩
/-- TB_CMD.STEP [1:1] WO: Request a step (R317). -/
def TB_CMD_STEP : Fld := ⟨TB_CMD, 1, 1⟩
/-- TB_CMD.LOAD [0:0] WO: Request a load (R325). -/
def TB_CMD_LOAD : Fld := ⟨TB_CMD, 0, 0⟩

/-- TB_STAT (R340). -/
def TB_STAT : Nat := 0x10040070
/-- TB_STAT.ALTVALID [11:11] RO: FREQALT valid. -/
def TB_STAT_ALTVALID : Fld := ⟨TB_STAT, 11, 11⟩
/-- TB_STAT.RAMPING [10:10] RO: FREQNOW differs from FREQ. -/
def TB_STAT_RAMPING : Fld := ⟨TB_STAT, 10, 10⟩
/-- TB_STAT.SLEWING [9:9] RO: Slew in progress. -/
def TB_STAT_SLEWING : Fld := ⟨TB_STAT, 9, 9⟩
/-- TB_STAT.TIMESET [8:8] RO: Time base loaded. -/
def TB_STAT_TIMESET : Fld := ⟨TB_STAT, 8, 8⟩
/-- TB_STAT.REFSW [7:7] W1C: Reference switch applied. -/
def TB_STAT_REFSW : Fld := ⟨TB_STAT, 7, 7⟩
/-- TB_STAT.LEAP [6:6] W1C: UTC offset changed. -/
def TB_STAT_LEAP : Fld := ⟨TB_STAT, 6, 6⟩
/-- TB_STAT.FREQ_REFUSED [5:5] W1C: Frequency write refused. -/
def TB_STAT_FREQ_REFUSED : Fld := ⟨TB_STAT, 5, 5⟩
/-- TB_STAT.SLEW_CLAMP [4:4] W1C: Slew rate clamped. -/
def TB_STAT_SLEW_CLAMP : Fld := ⟨TB_STAT, 4, 4⟩
/-- TB_STAT.SLEW_REFUSED [3:3] W1C: Slew or load refused. -/
def TB_STAT_SLEW_REFUSED : Fld := ⟨TB_STAT, 3, 3⟩
/-- TB_STAT.SLEW_DONE [2:2] W1C: Slew completed. -/
def TB_STAT_SLEW_DONE : Fld := ⟨TB_STAT, 2, 2⟩
/-- TB_STAT.STEP_REFUSED [1:1] W1C: Step refused. -/
def TB_STAT_STEP_REFUSED : Fld := ⟨TB_STAT, 1, 1⟩
/-- TB_STAT.STEPPED [0:0] W1C: Step applied. -/
def TB_STAT_STEPPED : Fld := ⟨TB_STAT, 0, 0⟩

/-- TB_INTEN (R340). -/
def TB_INTEN : Nat := 0x10040078
/-- TB_INTEN.EN [7:0] RW: Enables of the matching STAT bits. -/
def TB_INTEN_EN : Fld := ⟨TB_INTEN, 7, 0⟩

/-- TB_TIMESTAT (R340). -/
def TB_TIMESTAT : Nat := 0x10040080
/-- TB_TIMESTAT.TIME_VALID [11:11] RO: VALIDREQ, TIMESET and not CLKFAULT. -/
def TB_TIMESTAT_TIME_VALID : Fld := ⟨TB_TIMESTAT, 11, 11⟩
/-- TB_TIMESTAT.CLKFAULT [10:10] RO: SAF clock fault in force. -/
def TB_TIMESTAT_CLKFAULT : Fld := ⟨TB_TIMESTAT, 10, 10⟩
/-- TB_TIMESTAT.VALIDREQ [9:9] RW: Firmware validity request (R334). -/
def TB_TIMESTAT_VALIDREQ : Fld := ⟨TB_TIMESTAT, 9, 9⟩
/-- TB_TIMESTAT.HOLDOVER [8:8] RW: Holdover in force. -/
def TB_TIMESTAT_HOLDOVER : Fld := ⟨TB_TIMESTAT, 8, 8⟩
/-- TB_TIMESTAT.SOURCE [3:0] RW: Source code of R329; 14 and 15 treated as 0. -/
def TB_TIMESTAT_SOURCE : Fld := ⟨TB_TIMESTAT, 3, 0⟩

/-- TB_STEPATSEC (R340). -/
def TB_STEPATSEC : Nat := 0x10040088
/-- TB_STEPATSEC.SEC [47:0] RO: Seconds just after the last step tick. -/
def TB_STEPATSEC_SEC : Fld := ⟨TB_STEPATSEC, 47, 0⟩

/-- TB_STEPATFRAC (R340). -/
def TB_STEPATFRAC : Nat := 0x10040090
/-- TB_STEPATFRAC.FRAC [47:0] RO: Fraction just after the last step tick. -/
def TB_STEPATFRAC_FRAC : Fld := ⟨TB_STEPATFRAC, 47, 0⟩

/-- TB_REFVAL (R340). -/
def TB_REFVAL : Nat := 0x10040098
/-- TB_REFVAL.VALUE [47:0] RO: Last refused value (R319). -/
def TB_REFVAL_VALUE : Fld := ⟨TB_REFVAL, 47, 0⟩

/-- TB_REFINFO (R340). -/
def TB_REFINFO : Nat := 0x100400A0
/-- TB_REFINFO.INIT [23:20] RO: Initiator ID. -/
def TB_REFINFO_INIT : Fld := ⟨TB_REFINFO, 23, 20⟩
/-- TB_REFINFO.KIND [19:16] RO: 0 LOAD; 1 STEP; 2 SLEW; 3 FREQ. -/
def TB_REFINFO_KIND : Fld := ⟨TB_REFINFO, 19, 16⟩
/-- TB_REFINFO.CAUSE [7:0] RO: 1 NOTSET; 2 BACKWARD; 3 LIMIT; 4 WINDOW; 5 ALREADYSET; 6 RANGE; 7 BADRATE. -/
def TB_REFINFO_CAUSE : Fld := ⟨TB_REFINFO, 7, 0⟩

/-- TB_UTCOFS (R340). -/
def TB_UTCOFS : Nat := 0x100400A8
/-- TB_UTCOFS.VALID [33:33] RW: CUR is known. -/
def TB_UTCOFS_VALID : Fld := ⟨TB_UTCOFS, 33, 33⟩
/-- TB_UTCOFS.PEND [32:32] RW: NEW applies at TB_LEAPSEC; cleared by hardware. -/
def TB_UTCOFS_PEND : Fld := ⟨TB_UTCOFS, 32, 32⟩
/-- TB_UTCOFS.NEW [31:16] RW: Next TAI − UTC, signed, s. -/
def TB_UTCOFS_NEW : Fld := ⟨TB_UTCOFS, 31, 16⟩
/-- TB_UTCOFS.CUR [15:0] RW: TAI − UTC in force, signed, s. -/
def TB_UTCOFS_CUR : Fld := ⟨TB_UTCOFS, 15, 0⟩

/-- TB_LEAPSEC (R340). -/
def TB_LEAPSEC : Nat := 0x100400B0
/-- TB_LEAPSEC.SEC [47:0] RW: TB_SEC at which NEW applies. -/
def TB_LEAPSEC_SEC : Fld := ⟨TB_LEAPSEC, 47, 0⟩

/-- TB_STEPLIM (R340). -/
def TB_STEPLIM : Nat := 0x100400B8
/-- TB_STEPLIM.LIMIT [39:0] RW: STEP_LIMIT in ps (100 ns); values above 10^12 treated as 10^12; Chain. -/
def TB_STEPLIM_LIMIT : Fld := ⟨TB_STEPLIM, 39, 0⟩

/-- TB_SLEWLIM (R340). -/
def TB_SLEWLIM : Nat := 0x100400C0
/-- TB_SLEWLIM.LIMIT [19:0] RW: SLEW_LIMIT in 1/256 ppb (10 ppb); 0 treated as 1; above 256,000 treated as 256,000; Chain. -/
def TB_SLEWLIM_LIMIT : Fld := ⟨TB_SLEWLIM, 19, 0⟩

/-- TB_FSLOPE (R340). -/
def TB_FSLOPE : Nat := 0x100400C8
/-- TB_FSLOPE.SLOPE [23:0] RW: FREQ_SLOPE in 1/256 ppb/s (1 ppb/s); 0 treated as 1; Chain. -/
def TB_FSLOPE_SLOPE : Fld := ⟨TB_FSLOPE, 23, 0⟩

/-- TB_OWNERS (R340). -/
def TB_OWNERS : Nat := 0x100400D0
/-- TB_OWNERS.MASK [15:0] RW: Bit n: initiator n may steer (SC0, SC1, SV); Chain. -/
def TB_OWNERS_MASK : Fld := ⟨TB_OWNERS, 15, 0⟩

/-- TB_SRCCFG (R340). -/
def TB_SRCCFG : Nat := 0x100400D8
/-- TB_SRCCFG.LOSSE [47:40] RW: Missed offsets that disqualify; 0 treated as 1. -/
def TB_SRCCFG_LOSSE : Fld := ⟨TB_SRCCFG, 47, 40⟩
/-- TB_SRCCFG.XTOL [39:24] RW: Offset change limit in ns (1,000). -/
def TB_SRCCFG_XTOL : Fld := ⟨TB_SRCCFG, 39, 24⟩
/-- TB_SRCCFG.QUALT [23:16] RW: Qualification time in s (10); 0 treated as 1. -/
def TB_SRCCFG_QUALT : Fld := ⟨TB_SRCCFG, 23, 16⟩
/-- TB_SRCCFG.EN [12:0] RW: Source enables, R329. -/
def TB_SRCCFG_EN : Fld := ⟨TB_SRCCFG, 12, 0⟩

/-- TB_COUNT (R340). -/
def TB_COUNT : Nat := 0x100400E0
/-- TB_COUNT.STEPS [47:32] RO: Steps applied; wraps. -/
def TB_COUNT_STEPS : Fld := ⟨TB_COUNT, 47, 32⟩
/-- TB_COUNT.REFUSED [31:16] RO: Refusals of every kind; wraps. -/
def TB_COUNT_REFUSED : Fld := ⟨TB_COUNT, 31, 16⟩
/-- TB_COUNT.SLEWS [15:0] RO: Slews started; wraps. -/
def TB_COUNT_SLEWS : Fld := ⟨TB_COUNT, 15, 0⟩

/-- TPGn_CTRL (R361). -/
def TPGn_CTRL (n : Nat) : Nat := 0x10050000 + 0x80 * n
/-- TPGn_CTRL.OUTEN [2:2] RW: Drive the pin (R343). -/
def TPGn_CTRL_OUTEN (n : Nat) : Fld := ⟨TPGn_CTRL n, 2, 2⟩
/-- TPGn_CTRL.POL [1:1] RW: 0 idle low; 1 idle high. -/
def TPGn_CTRL_POL (n : Nat) : Fld := ⟨TPGn_CTRL n, 1, 1⟩
/-- TPGn_CTRL.MODE [0:0] RW: 0 one-shot; 1 periodic. -/
def TPGn_CTRL_MODE (n : Nat) : Fld := ⟨TPGn_CTRL n, 0, 0⟩

/-- TPGn_CMD (R361). -/
def TPGn_CMD (n : Nat) : Nat := 0x10050008 + 0x80 * n
/-- TPGn_CMD.DISARM [1:1] WO: End the schedule (R346). -/
def TPGn_CMD_DISARM (n : Nat) : Fld := ⟨TPGn_CMD n, 1, 1⟩
/-- TPGn_CMD.ARM [0:0] WO: Arm (R345). -/
def TPGn_CMD_ARM (n : Nat) : Fld := ⟨TPGn_CMD n, 0, 0⟩

/-- TPGn_STAT (R361). -/
def TPGn_STAT (n : Nat) : Nat := 0x10050010 + 0x80 * n
/-- TPGn_STAT.STATE [13:12] RO: 0 IDLE; 1 ARMED; 2 DONE; 3 not used. -/
def TPGn_STAT_STATE (n : Nat) : Fld := ⟨TPGn_STAT n, 13, 12⟩
/-- TPGn_STAT.SUPPNOW [11:11] RO: Output held under a clock fault. -/
def TPGn_STAT_SUPPNOW (n : Nat) : Fld := ⟨TPGn_STAT n, 11, 11⟩
/-- TPGn_STAT.LEVEL [10:10] RO: Logical output level. -/
def TPGn_STAT_LEVEL (n : Nat) : Fld := ⟨TPGn_STAT n, 10, 10⟩
/-- TPGn_STAT.BUSY [8:8] W1C: ARM refused: already armed. -/
def TPGn_STAT_BUSY (n : Nat) : Fld := ⟨TPGn_STAT n, 8, 8⟩
/-- TPGn_STAT.CFGERR [7:7] W1C: Configuration refused or write ignored. -/
def TPGn_STAT_CFGERR (n : Nat) : Fld := ⟨TPGn_STAT n, 7, 7⟩
/-- TPGn_STAT.LOADSKIP [6:6] W1C: A load passed a target. -/
def TPGn_STAT_LOADSKIP (n : Nat) : Fld := ⟨TPGn_STAT n, 6, 6⟩
/-- TPGn_STAT.TRUNC [5:5] W1C: A pulse was cut by a clock fault. -/
def TPGn_STAT_TRUNC (n : Nat) : Fld := ⟨TPGn_STAT n, 5, 5⟩
/-- TPGn_STAT.SUPP [4:4] W1C: A target fell in a clock fault. -/
def TPGn_STAT_SUPP (n : Nat) : Fld := ⟨TPGn_STAT n, 4, 4⟩
/-- TPGn_STAT.STEPHIT [3:3] W1C: A step jumped over an edge. -/
def TPGn_STAT_STEPHIT (n : Nat) : Fld := ⟨TPGn_STAT n, 3, 3⟩
/-- TPGn_STAT.LATE_ALIGNED [2:2] W1C: The schedule was moved to a later target. -/
def TPGn_STAT_LATE_ALIGNED (n : Nat) : Fld := ⟨TPGn_STAT n, 2, 2⟩
/-- TPGn_STAT.PAST [1:1] W1C: A one-shot was not armed. -/
def TPGn_STAT_PAST (n : Nat) : Fld := ⟨TPGn_STAT n, 1, 1⟩
/-- TPGn_STAT.EDGE [0:0] W1C: A leading edge left. -/
def TPGn_STAT_EDGE (n : Nat) : Fld := ⟨TPGn_STAT n, 0, 0⟩

/-- TPGn_INTEN (R361). -/
def TPGn_INTEN (n : Nat) : Nat := 0x10050018 + 0x80 * n
/-- TPGn_INTEN.EN [8:0] RW: Enables of the matching STAT bits. -/
def TPGn_INTEN_EN (n : Nat) : Fld := ⟨TPGn_INTEN n, 8, 0⟩

/-- TPGn_OWNER (R361). -/
def TPGn_OWNER (n : Nat) : Nat := 0x10050020 + 0x80 * n
/-- TPGn_OWNER.FREL [10:10] WO: Force release; SV only. -/
def TPGn_OWNER_FREL (n : Nat) : Fld := ⟨TPGn_OWNER n, 10, 10⟩
/-- TPGn_OWNER.RELEASE [9:9] WO: Release; owner only. -/
def TPGn_OWNER_RELEASE (n : Nat) : Fld := ⟨TPGn_OWNER n, 9, 9⟩
/-- TPGn_OWNER.CLAIM [8:8] WO: Claim (R358). -/
def TPGn_OWNER_CLAIM (n : Nat) : Fld := ⟨TPGn_OWNER n, 8, 8⟩
/-- TPGn_OWNER.OWNED [7:7] RO: The unit has an owner. -/
def TPGn_OWNER_OWNED (n : Nat) : Fld := ⟨TPGn_OWNER n, 7, 7⟩
/-- TPGn_OWNER.ID [3:0] RO: Owner's initiator ID. -/
def TPGn_OWNER_ID (n : Nat) : Fld := ⟨TPGn_OWNER n, 3, 0⟩

/-- TPGn_TGTSEC (R361). -/
def TPGn_TGTSEC (n : Nat) : Nat := 0x10050028 + 0x80 * n
/-- TPGn_TGTSEC.SEC [47:0] RW: Seconds of the first target. -/
def TPGn_TGTSEC_SEC (n : Nat) : Fld := ⟨TPGn_TGTSEC n, 47, 0⟩

/-- TPGn_TGTFRAC (R361). -/
def TPGn_TGTFRAC (n : Nat) : Nat := 0x10050030 + 0x80 * n
/-- TPGn_TGTFRAC.FRAC [47:0] RW: Fraction of the first target, 2^-48 s. -/
def TPGn_TGTFRAC_FRAC (n : Nat) : Fld := ⟨TPGn_TGTFRAC n, 47, 0⟩

/-- TPGn_PERSEC (R361). -/
def TPGn_PERSEC (n : Nat) : Nat := 0x10050038 + 0x80 * n
/-- TPGn_PERSEC.SEC [15:0] RW: Whole seconds of the period. -/
def TPGn_PERSEC_SEC (n : Nat) : Fld := ⟨TPGn_PERSEC n, 15, 0⟩

/-- TPGn_PERFRAC (R361). -/
def TPGn_PERFRAC (n : Nat) : Nat := 0x10050040 + 0x80 * n
/-- TPGn_PERFRAC.FRAC [47:0] RW: Fraction of the period, 2^-48 s. -/
def TPGn_PERFRAC_FRAC (n : Nat) : Fld := ⟨TPGn_PERFRAC n, 47, 0⟩

/-- TPGn_WIDTH (R361). -/
def TPGn_WIDTH (n : Nat) : Nat := 0x10050048 + 0x80 * n
/-- TPGn_WIDTH.FRAC [47:0] RW: Pulse width, 2^-48 s. -/
def TPGn_WIDTH_FRAC (n : Nat) : Fld := ⟨TPGn_WIDTH n, 47, 0⟩

/-- TPGn_PATH (R361). -/
def TPGn_PATH (n : Nat) : Nat := 0x10050050 + 0x80 * n
/-- TPGn_PATH.PATH [23:0] RW: Board output path in fine steps; Chain. -/
def TPGn_PATH_PATH (n : Nat) : Fld := ⟨TPGn_PATH n, 23, 0⟩

/-- TPGn_NEXTSEC (R361). -/
def TPGn_NEXTSEC (n : Nat) : Nat := 0x10050058 + 0x80 * n
/-- TPGn_NEXTSEC.SEC [47:0] RO: Seconds of the next target. -/
def TPGn_NEXTSEC_SEC (n : Nat) : Fld := ⟨TPGn_NEXTSEC n, 47, 0⟩

/-- TPGn_NEXTFRAC (R361). -/
def TPGn_NEXTFRAC (n : Nat) : Nat := 0x10050060 + 0x80 * n
/-- TPGn_NEXTFRAC.FRAC [47:0] RO: Fraction of the next target. -/
def TPGn_NEXTFRAC_FRAC (n : Nat) : Fld := ⟨TPGn_NEXTFRAC n, 47, 0⟩

/-- TPGn_LASTSEC (R361). -/
def TPGn_LASTSEC (n : Nat) : Nat := 0x10050068 + 0x80 * n
/-- TPGn_LASTSEC.SEC [47:0] RO: Seconds of the last leading edge (R347). -/
def TPGn_LASTSEC_SEC (n : Nat) : Fld := ⟨TPGn_LASTSEC n, 47, 0⟩

/-- TPGn_LASTFRAC (R361). -/
def TPGn_LASTFRAC (n : Nat) : Nat := 0x10050070 + 0x80 * n
/-- TPGn_LASTFRAC.FRAC [47:0] RO: Fraction of the last leading edge. -/
def TPGn_LASTFRAC_FRAC (n : Nat) : Fld := ⟨TPGn_LASTFRAC n, 47, 0⟩

/-- TPGn_COUNT (R361). -/
def TPGn_COUNT (n : Nat) : Nat := 0x10050078 + 0x80 * n
/-- TPGn_COUNT.NOTEMIT [47:32] RO: Targets not emitted (R348); wraps. -/
def TPGn_COUNT_NOTEMIT (n : Nat) : Fld := ⟨TPGn_COUNT n, 47, 32⟩
/-- TPGn_COUNT.EDGES [31:0] RO: Leading edges emitted; wraps. -/
def TPGn_COUNT_EDGES (n : Nat) : Fld := ⟨TPGn_COUNT n, 31, 0⟩

/-- EVCn_CTRL (R362). -/
def EVCn_CTRL (n : Nat) : Nat := 0x10050800 + 0x80 * n
/-- EVCn_CTRL.FILT [15:8] RW: Glitch filter in ticks; 0 off. -/
def EVCn_CTRL_FILT (n : Nat) : Fld := ⟨EVCn_CTRL n, 15, 8⟩
/-- EVCn_CTRL.FLUSH [5:5] WO: Empty the queue. -/
def EVCn_CTRL_FLUSH (n : Nat) : Fld := ⟨EVCn_CTRL n, 5, 5⟩
/-- EVCn_CTRL.OUTDROP [4:4] RW: Do not store OUTWIN captures. -/
def EVCn_CTRL_OUTDROP (n : Nat) : Fld := ⟨EVCn_CTRL n, 4, 4⟩
/-- EVCn_CTRL.RANGEEN [3:3] RW: Range check (R355). -/
def EVCn_CTRL_RANGEEN (n : Nat) : Fld := ⟨EVCn_CTRL n, 3, 3⟩
/-- EVCn_CTRL.EDGE [2:1] RW: 0 rising; 1 falling; 2 both; 3 treated as 2. -/
def EVCn_CTRL_EDGE (n : Nat) : Fld := ⟨EVCn_CTRL n, 2, 1⟩
/-- EVCn_CTRL.EN [0:0] RW: Capture enable. -/
def EVCn_CTRL_EN (n : Nat) : Fld := ⟨EVCn_CTRL n, 0, 0⟩

/-- EVCn_STAT (R362). -/
def EVCn_STAT (n : Nat) : Nat := 0x10050808 + 0x80 * n
/-- EVCn_STAT.FILL [14:10] RO: Captures queued, 0 to 16. -/
def EVCn_STAT_FILL (n : Nat) : Fld := ⟨EVCn_STAT n, 14, 10⟩
/-- EVCn_STAT.CLKFLT [5:5] W1C: A capture was taken in a clock fault. -/
def EVCn_STAT_CLKFLT (n : Nat) : Fld := ⟨EVCn_STAT n, 5, 5⟩
/-- EVCn_STAT.MISS [4:4] W1C: An expected window closed empty. -/
def EVCn_STAT_MISS (n : Nat) : Fld := ⟨EVCn_STAT n, 4, 4⟩
/-- EVCn_STAT.OUTWIN [3:3] W1C: A capture fell outside its window. -/
def EVCn_STAT_OUTWIN (n : Nat) : Fld := ⟨EVCn_STAT n, 3, 3⟩
/-- EVCn_STAT.OVF [2:2] W1C: A capture was discarded. -/
def EVCn_STAT_OVF (n : Nat) : Fld := ⟨EVCn_STAT n, 2, 2⟩
/-- EVCn_STAT.CFGERR [1:1] W1C: A control write was ignored. -/
def EVCn_STAT_CFGERR (n : Nat) : Fld := ⟨EVCn_STAT n, 1, 1⟩
/-- EVCn_STAT.CAP [0:0] W1C: A capture was stored. -/
def EVCn_STAT_CAP (n : Nat) : Fld := ⟨EVCn_STAT n, 0, 0⟩

/-- EVCn_INTEN (R362). -/
def EVCn_INTEN (n : Nat) : Nat := 0x10050810 + 0x80 * n
/-- EVCn_INTEN.EN [5:0] RW: Enables of the matching STAT bits. -/
def EVCn_INTEN_EN (n : Nat) : Fld := ⟨EVCn_INTEN n, 5, 0⟩

/-- EVCn_OWNER (R361). -/
def EVCn_OWNER (n : Nat) : Nat := 0x10050818 + 0x80 * n
/-- EVCn_OWNER.FREL [10:10] WO: Force release; SV only. -/
def EVCn_OWNER_FREL (n : Nat) : Fld := ⟨EVCn_OWNER n, 10, 10⟩
/-- EVCn_OWNER.RELEASE [9:9] WO: Release; owner only. -/
def EVCn_OWNER_RELEASE (n : Nat) : Fld := ⟨EVCn_OWNER n, 9, 9⟩
/-- EVCn_OWNER.CLAIM [8:8] WO: Claim (R358). -/
def EVCn_OWNER_CLAIM (n : Nat) : Fld := ⟨EVCn_OWNER n, 8, 8⟩
/-- EVCn_OWNER.OWNED [7:7] RO: The unit has an owner. -/
def EVCn_OWNER_OWNED (n : Nat) : Fld := ⟨EVCn_OWNER n, 7, 7⟩
/-- EVCn_OWNER.ID [3:0] RO: Owner's initiator ID. -/
def EVCn_OWNER_ID (n : Nat) : Fld := ⟨EVCn_OWNER n, 3, 0⟩

/-- EVCn_PATH (R362). -/
def EVCn_PATH (n : Nat) : Nat := 0x10050820 + 0x80 * n
/-- EVCn_PATH.PATH [23:0] RW: Board input path in fine steps; Chain. -/
def EVCn_PATH_PATH (n : Nat) : Fld := ⟨EVCn_PATH n, 23, 0⟩

/-- EVCn_EXPSEC (R362). -/
def EVCn_EXPSEC (n : Nat) : Nat := 0x10050828 + 0x80 * n
/-- EVCn_EXPSEC.SEC [47:0] RW: Seconds of EXP. -/
def EVCn_EXPSEC_SEC (n : Nat) : Fld := ⟨EVCn_EXPSEC n, 47, 0⟩

/-- EVCn_EXPFRAC (R362). -/
def EVCn_EXPFRAC (n : Nat) : Nat := 0x10050830 + 0x80 * n
/-- EVCn_EXPFRAC.FRAC [47:0] RW: Fraction of EXP, 2^-48 s. -/
def EVCn_EXPFRAC_FRAC (n : Nat) : Fld := ⟨EVCn_EXPFRAC n, 47, 0⟩

/-- EVCn_PERSEC (R362). -/
def EVCn_PERSEC (n : Nat) : Nat := 0x10050838 + 0x80 * n
/-- EVCn_PERSEC.SEC [15:0] RW: Whole seconds of PER. -/
def EVCn_PERSEC_SEC (n : Nat) : Fld := ⟨EVCn_PERSEC n, 15, 0⟩

/-- EVCn_PERFRAC (R362). -/
def EVCn_PERFRAC (n : Nat) : Nat := 0x10050840 + 0x80 * n
/-- EVCn_PERFRAC.FRAC [47:0] RW: Fraction of PER. -/
def EVCn_PERFRAC_FRAC (n : Nat) : Fld := ⟨EVCn_PERFRAC n, 47, 0⟩

/-- EVCn_WIN (R362). -/
def EVCn_WIN (n : Nat) : Nat := 0x10050848 + 0x80 * n
/-- EVCn_WIN.WIN [23:0] RW: Window half-width in ns (1,000). -/
def EVCn_WIN_WIN (n : Nat) : Fld := ⟨EVCn_WIN n, 23, 0⟩

/-- EVCn_CAPFRAC (R362). -/
def EVCn_CAPFRAC (n : Nat) : Nat := 0x10050850 + 0x80 * n
/-- EVCn_CAPFRAC.FRAC [47:0] RO: Fraction of the oldest capture (R354). -/
def EVCn_CAPFRAC_FRAC (n : Nat) : Fld := ⟨EVCn_CAPFRAC n, 47, 0⟩

/-- EVCn_CAPSEC (R362). -/
def EVCn_CAPSEC (n : Nat) : Nat := 0x10050858 + 0x80 * n
/-- EVCn_CAPSEC.SEC [47:0] RO: Seconds of the latched capture. -/
def EVCn_CAPSEC_SEC (n : Nat) : Fld := ⟨EVCn_CAPSEC n, 47, 0⟩

/-- EVCn_CAPINFO (R362). -/
def EVCn_CAPINFO (n : Nat) : Nat := 0x10050860 + 0x80 * n
/-- EVCn_CAPINFO.VALID [7:7] RO: A capture was latched. -/
def EVCn_CAPINFO_VALID (n : Nat) : Fld := ⟨EVCn_CAPINFO n, 7, 7⟩
/-- EVCn_CAPINFO.FALL [6:6] RO: 1: falling edge. -/
def EVCn_CAPINFO_FALL (n : Nat) : Fld := ⟨EVCn_CAPINFO n, 6, 6⟩
/-- EVCn_CAPINFO.OUTWIN [5:5] RO: Outside its window. -/
def EVCn_CAPINFO_OUTWIN (n : Nat) : Fld := ⟨EVCn_CAPINFO n, 5, 5⟩
/-- EVCn_CAPINFO.CLKFLT [4:4] RO: Taken in a clock fault. -/
def EVCn_CAPINFO_CLKFLT (n : Nat) : Fld := ⟨EVCn_CAPINFO n, 4, 4⟩
/-- EVCn_CAPINFO.STEPPED [3:3] RO: First capture after a step tick. -/
def EVCn_CAPINFO_STEPPED (n : Nat) : Fld := ⟨EVCn_CAPINFO n, 3, 3⟩
/-- EVCn_CAPINFO.OVFBEFORE [2:2] RO: Captures were lost before this one. -/
def EVCn_CAPINFO_OVFBEFORE (n : Nat) : Fld := ⟨EVCn_CAPINFO n, 2, 2⟩

/-- EVCn_COUNT (R362). -/
def EVCn_COUNT (n : Nat) : Nat := 0x10050868 + 0x80 * n
/-- EVCn_COUNT.CAPS [47:32] RO: Captures stored; wraps. -/
def EVCn_COUNT_CAPS (n : Nat) : Fld := ⟨EVCn_COUNT n, 47, 32⟩
/-- EVCn_COUNT.OUTWIN [31:16] RO: OUTWIN captures; wraps. -/
def EVCn_COUNT_OUTWIN (n : Nat) : Fld := ⟨EVCn_COUNT n, 31, 16⟩
/-- EVCn_COUNT.MISS [15:8] RO: Empty windows; wraps. -/
def EVCn_COUNT_MISS (n : Nat) : Fld := ⟨EVCn_COUNT n, 15, 8⟩
/-- EVCn_COUNT.OVF [7:0] RO: Captures discarded; wraps. -/
def EVCn_COUNT_OVF (n : Nat) : Fld := ⟨EVCn_COUNT n, 7, 0⟩

/-- TPE_TODCFG (R362). -/
def TPE_TODCFG : Nat := 0x10050C00
/-- TPE_TODCFG.DELAY [23:8] RW: Delay after the leading edge, µs. -/
def TPE_TODCFG_DELAY : Fld := ⟨TPE_TODCFG, 23, 8⟩
/-- TPE_TODCFG.EN [7:7] RW: Pairing enable (R351). -/
def TPE_TODCFG_EN : Fld := ⟨TPE_TODCFG, 7, 7⟩
/-- TPE_TODCFG.UART [6:6] RW: 0 UART0; 1 UART1. -/
def TPE_TODCFG_UART : Fld := ⟨TPE_TODCFG, 6, 6⟩
/-- TPE_TODCFG.TPG [3:0] RW: Paired generator. -/
def TPE_TODCFG_TPG : Fld := ⟨TPE_TODCFG, 3, 0⟩

/-- TPE_TODSTAT (R362). -/
def TPE_TODSTAT : Nat := 0x10050C08
/-- TPE_TODSTAT.TODMISS [1:1] W1C: No string queued at the start instant. -/
def TPE_TODSTAT_TODMISS : Fld := ⟨TPE_TODSTAT, 1, 1⟩
/-- TPE_TODSTAT.TODSENT [0:0] W1C: A string began. -/
def TPE_TODSTAT_TODSENT : Fld := ⟨TPE_TODSTAT, 0, 0⟩

/-- TPE_SUMMARY (R362). -/
def TPE_SUMMARY : Nat := 0x10050C10
/-- TPE_SUMMARY.EVC [23:16] RO: Bit n: EVCn has an enabled status bit at 1. -/
def TPE_SUMMARY_EVC : Fld := ⟨TPE_SUMMARY, 23, 16⟩
/-- TPE_SUMMARY.TPG [15:0] RO: Bit n: TPGn has an enabled status bit at 1. -/
def TPE_SUMMARY_TPG : Fld := ⟨TPE_SUMMARY, 15, 0⟩

/-- SPn_CTRL (R72). -/
def SPn_CTRL (n : Nat) : Nat := 0x10060000 + 0x800 * n
/-- SPn_CTRL.MASKTO [31:24] RW: Mask-change timeout in frames (64); 0 is treated as 1. -/
def SPn_CTRL_MASKTO (n : Nat) : Fld := ⟨SPn_CTRL n, 31, 24⟩
/-- SPn_CTRL.SLOTRATE [23:16] RW: Rate code of slot s in bits [2s+17:2s+16]. -/
def SPn_CTRL_SLOTRATE (n : Nat) : Fld := ⟨SPn_CTRL n, 23, 16⟩
/-- SPn_CTRL.FMT [9:8] RW: 0b00 D1, 0b01 M2, 0b10 M3, 0b11 M4. -/
def SPn_CTRL_FMT (n : Nat) : Fld := ⟨SPn_CTRL n, 9, 8⟩
/-- SPn_CTRL.BAUD [4:4] RW: 0: 1.2288 Gbaud; 1: 2.4576 Gbaud. -/
def SPn_CTRL_BAUD (n : Nat) : Fld := ⟨SPn_CTRL n, 4, 4⟩
/-- SPn_CTRL.BCEN [1:1] RW: Back-channel transmit enable. -/
def SPn_CTRL_BCEN (n : Nat) : Fld := ⟨SPn_CTRL n, 1, 1⟩
/-- SPn_CTRL.EN [0:0] RW: Receive enable. -/
def SPn_CTRL_EN (n : Nat) : Fld := ⟨SPn_CTRL n, 0, 0⟩

/-- SPn_SLOTMASK (R73). -/
def SPn_SLOTMASK (n : Nat) : Nat := 0x10060008 + 0x800 * n
/-- SPn_SLOTMASK.CHG_PEND [12:12] RO: A mask change is pending. -/
def SPn_SLOTMASK_CHG_PEND (n : Nat) : Fld := ⟨SPn_SLOTMASK n, 12, 12⟩
/-- SPn_SLOTMASK.PENDING [11:8] RO: Mask awaiting echo. -/
def SPn_SLOTMASK_PENDING (n : Nat) : Fld := ⟨SPn_SLOTMASK n, 11, 8⟩
/-- SPn_SLOTMASK.ACTIVE [7:4] RO: Mask in use for decoding. -/
def SPn_SLOTMASK_ACTIVE (n : Nat) : Fld := ⟨SPn_SLOTMASK n, 7, 4⟩
/-- SPn_SLOTMASK.MASK [3:0] RW: Last accepted mask write; a write queues or applies a change. -/
def SPn_SLOTMASK_MASK (n : Nat) : Fld := ⟨SPn_SLOTMASK n, 3, 0⟩

/-- SPn_STAT (R74). -/
def SPn_STAT (n : Nat) : Nat := 0x10060010 + 0x800 * n
/-- SPn_STAT.CLAP_HELD [14:14] RO: Streams held awaiting the Clapper. -/
def SPn_STAT_CLAP_HELD (n : Nat) : Fld := ⟨SPn_STAT n, 14, 14⟩
/-- SPn_STAT.DELAY_FAULT [13:13] RO: Delay fault in force. -/
def SPn_STAT_DELAY_FAULT (n : Nat) : Fld := ⟨SPn_STAT n, 13, 13⟩
/-- SPn_STAT.DLY_SETTLE [12:12] RO: Delay filter settling. -/
def SPn_STAT_DLY_SETTLE (n : Nat) : Fld := ⟨SPn_STAT n, 12, 12⟩
/-- SPn_STAT.HEAD_LOCK [11:11] RO: LOCK from the last CRC-valid header. -/
def SPn_STAT_HEAD_LOCK (n : Nat) : Fld := ⟨SPn_STAT n, 11, 11⟩
/-- SPn_STAT.LINK_UP [10:10] RO: Link up. -/
def SPn_STAT_LINK_UP (n : Nat) : Fld := ⟨SPn_STAT n, 10, 10⟩
/-- SPn_STAT.MASK_FAIL [9:9] W1C: Mask change abandoned. -/
def SPn_STAT_MASK_FAIL (n : Nat) : Fld := ⟨SPn_STAT n, 9, 9⟩
/-- SPn_STAT.MASK_BUSY [8:8] W1C: Mask write ignored while pending. -/
def SPn_STAT_MASK_BUSY (n : Nat) : Fld := ⟨SPn_STAT n, 8, 8⟩
/-- SPn_STAT.CFGERR [7:7] W1C: Configuration refused. -/
def SPn_STAT_CFGERR (n : Nat) : Fld := ⟨SPn_STAT n, 7, 7⟩
/-- SPn_STAT.EB_ERR [6:6] W1C: Elastic buffer reached a limit. -/
def SPn_STAT_EB_ERR (n : Nat) : Fld := ⟨SPn_STAT n, 6, 6⟩
/-- SPn_STAT.RESYNC [5:5] W1C: Resynchronisation occurred. -/
def SPn_STAT_RESYNC (n : Nat) : Fld := ⟨SPn_STAT n, 5, 5⟩
/-- SPn_STAT.SLIP [4:4] W1C: A slip occurred. -/
def SPn_STAT_SLIP (n : Nat) : Fld := ⟨SPn_STAT n, 4, 4⟩
/-- SPn_STAT.RTT_RANGE [3:3] W1C: Round trip discarded. -/
def SPn_STAT_RTT_RANGE (n : Nat) : Fld := ⟨SPn_STAT n, 3, 3⟩
/-- SPn_STAT.MUTE [2:2] W1C: A frame was muted. -/
def SPn_STAT_MUTE (n : Nat) : Fld := ⟨SPn_STAT n, 2, 2⟩
/-- SPn_STAT.DLY_EVT [1:1] W1C: Delay fault entered. -/
def SPn_STAT_DLY_EVT (n : Nat) : Fld := ⟨SPn_STAT n, 1, 1⟩
/-- SPn_STAT.LINK_DOWN [0:0] W1C: Link went down. -/
def SPn_STAT_LINK_DOWN (n : Nat) : Fld := ⟨SPn_STAT n, 0, 0⟩

/-- SPn_INTEN (R74). -/
def SPn_INTEN (n : Nat) : Nat := 0x10060018 + 0x800 * n
/-- SPn_INTEN.EN [9:0] RW: Enables of the matching STAT bits. -/
def SPn_INTEN_EN (n : Nat) : Fld := ⟨SPn_INTEN n, 9, 0⟩

/-- SPn_SLIPCNT (R75). -/
def SPn_SLIPCNT (n : Nat) : Nat := 0x10060020 + 0x800 * n
/-- SPn_SLIPCNT.SLOT3 [47:36] RO: Slips on slot 3. -/
def SPn_SLIPCNT_SLOT3 (n : Nat) : Fld := ⟨SPn_SLIPCNT n, 47, 36⟩
/-- SPn_SLIPCNT.SLOT2 [35:24] RO: Slips on slot 2. -/
def SPn_SLIPCNT_SLOT2 (n : Nat) : Fld := ⟨SPn_SLIPCNT n, 35, 24⟩
/-- SPn_SLIPCNT.SLOT1 [23:12] RO: Slips on slot 1. -/
def SPn_SLIPCNT_SLOT1 (n : Nat) : Fld := ⟨SPn_SLIPCNT n, 23, 12⟩
/-- SPn_SLIPCNT.SLOT0 [11:0] RO: Slips on slot 0. -/
def SPn_SLIPCNT_SLOT0 (n : Nat) : Fld := ⟨SPn_SLIPCNT n, 11, 0⟩

/-- SPn_MUTECNT0 (R75). -/
def SPn_MUTECNT0 (n : Nat) : Nat := 0x10060028 + 0x800 * n
/-- SPn_MUTECNT0.TYPE [47:32] RO: Priority 4 mutes. -/
def SPn_MUTECNT0_TYPE (n : Nat) : Fld := ⟨SPn_MUTECNT0 n, 47, 32⟩
/-- SPn_MUTECNT0.CRC [31:16] RO: Priority 3 mutes. -/
def SPn_MUTECNT0_CRC (n : Nat) : Fld := ⟨SPn_MUTECNT0 n, 31, 16⟩
/-- SPn_MUTECNT0.CODE [15:0] RO: Priority 2 mutes. -/
def SPn_MUTECNT0_CODE (n : Nat) : Fld := ⟨SPn_MUTECNT0 n, 15, 0⟩

/-- SPn_MUTECNT1 (R75). -/
def SPn_MUTECNT1 (n : Nat) : Nat := 0x10060030 + 0x800 * n
/-- SPn_MUTECNT1.ECHO [47:32] RO: Priority 6 mutes. -/
def SPn_MUTECNT1_ECHO (n : Nat) : Fld := ⟨SPn_MUTECNT1 n, 47, 32⟩
/-- SPn_MUTECNT1.STUCK [31:16] RO: Priority 7 mutes. -/
def SPn_MUTECNT1_STUCK (n : Nat) : Fld := ⟨SPn_MUTECNT1 n, 31, 16⟩
/-- SPn_MUTECNT1.FCNT [15:0] RO: Priority 5 mutes. -/
def SPn_MUTECNT1_FCNT (n : Nat) : Fld := ⟨SPn_MUTECNT1 n, 15, 0⟩

/-- SPn_MUTECNT2 (R75). -/
def SPn_MUTECNT2 (n : Nat) : Nat := 0x10060038 + 0x800 * n
/-- SPn_MUTECNT2.MISSING [47:32] RO: Priority 1 mutes. -/
def SPn_MUTECNT2_MISSING (n : Nat) : Fld := ⟨SPn_MUTECNT2 n, 47, 32⟩
/-- SPn_MUTECNT2.DELAY [31:16] RO: Priority 8 mutes. -/
def SPn_MUTECNT2_DELAY (n : Nat) : Fld := ⟨SPn_MUTECNT2 n, 31, 16⟩
/-- SPn_MUTECNT2.RESYNC [15:0] RO: Recoveries and recentrings. -/
def SPn_MUTECNT2_RESYNC (n : Nat) : Fld := ⟨SPn_MUTECNT2 n, 15, 0⟩

/-- SPn_RTT (R76). -/
def SPn_RTT (n : Nat) : Nat := 0x10060040 + 0x800 * n
/-- SPn_RTT.FILT [47:24] RO: Filtered round trip. -/
def SPn_RTT_FILT (n : Nat) : Fld := ⟨SPn_RTT n, 47, 24⟩
/-- SPn_RTT.LAST [23:0] RO: Last accepted round trip. -/
def SPn_RTT_LAST (n : Nat) : Fld := ⟨SPn_RTT n, 23, 0⟩

/-- SPn_OWD (R76). -/
def SPn_OWD (n : Nat) : Nat := 0x10060048 + 0x800 * n
/-- SPn_OWD.OWD [23:0] RO: One-way delay in use. -/
def SPn_OWD_OWD (n : Nat) : Fld := ⟨SPn_OWD n, 23, 0⟩

/-- SPn_RTTWIN (R76). -/
def SPn_RTTWIN (n : Nat) : Nat := 0x10060050 + 0x800 * n
/-- SPn_RTTWIN.MAX [47:24] RW: Largest accepted round trip; Chain. -/
def SPn_RTTWIN_MAX (n : Nat) : Fld := ⟨SPn_RTTWIN n, 47, 24⟩
/-- SPn_RTTWIN.MIN [23:0] RW: Smallest accepted round trip; Chain. -/
def SPn_RTTWIN_MIN (n : Nat) : Fld := ⟨SPn_RTTWIN n, 23, 0⟩

/-- SPn_ASYM (R76). -/
def SPn_ASYM (n : Nat) : Nat := 0x10060058 + 0x800 * n
/-- SPn_ASYM.ASYM [23:0] RW: Asymmetry, two's complement; Chain. -/
def SPn_ASYM_ASYM (n : Nat) : Fld := ⟨SPn_ASYM n, 23, 0⟩

/-- SPn_HEADLAT (R76). -/
def SPn_HEADLAT (n : Nat) : Nat := 0x10060060 + 0x800 * n
/-- SPn_HEADLAT.HEADLAT [23:0] RW: Head latency; Chain. -/
def SPn_HEADLAT_HEADLAT (n : Nat) : Fld := ⟨SPn_HEADLAT n, 23, 0⟩

/-- SPn_CABLE (R76). -/
def SPn_CABLE (n : Nat) : Nat := 0x10060068 + 0x800 * n
/-- SPn_CABLE.CABLE [23:0] RW: Antenna cable delay; Chain. -/
def SPn_CABLE_CABLE (n : Nat) : Fld := ⟨SPn_CABLE n, 23, 0⟩

/-- SPn_DLYCFG (R76). -/
def SPn_DLYCFG (n : Nat) : Nat := 0x10060070 + 0x800 * n
/-- SPn_DLYCFG.CLEARN [23:16] RW: Accepted round trips that end a delay fault; 0 is treated as 1. -/
def SPn_DLYCFG_CLEARN (n : Nat) : Fld := ⟨SPn_DLYCFG n, 23, 16⟩
/-- SPn_DLYCFG.FAULTN [15:8] RW: Discarded round trips that start a delay fault; 0 is treated as 1. -/
def SPn_DLYCFG_FAULTN (n : Nat) : Fld := ⟨SPn_DLYCFG n, 15, 8⟩
/-- SPn_DLYCFG.AVG [2:0] RW: Filter length 2^AVG; 7 is treated as 6. -/
def SPn_DLYCFG_AVG (n : Nat) : Fld := ⟨SPn_DLYCFG n, 2, 0⟩

/-- SPn_EBCFG (R77). -/
def SPn_EBCFG (n : Nat) : Nat := 0x10060078 + 0x800 * n
/-- SPn_EBCFG.THRESH [9:0] RW: Slip threshold in samples, 1 to 512; 0 is treated as 1. -/
def SPn_EBCFG_THRESH (n : Nat) : Fld := ⟨SPn_EBCFG n, 9, 0⟩

/-- SPn_EBFILL (R77). -/
def SPn_EBFILL (n : Nat) : Nat := 0x10060080 + 0x800 * n
/-- SPn_EBFILL.FILL3 [47:36] RO: Slot 3 fill in samples. -/
def SPn_EBFILL_FILL3 (n : Nat) : Fld := ⟨SPn_EBFILL n, 47, 36⟩
/-- SPn_EBFILL.FILL2 [35:24] RO: Slot 2 fill. -/
def SPn_EBFILL_FILL2 (n : Nat) : Fld := ⟨SPn_EBFILL n, 35, 24⟩
/-- SPn_EBFILL.FILL1 [23:12] RO: Slot 1 fill. -/
def SPn_EBFILL_FILL1 (n : Nat) : Fld := ⟨SPn_EBFILL n, 23, 12⟩
/-- SPn_EBFILL.FILL0 [11:0] RO: Slot 0 fill. -/
def SPn_EBFILL_FILL0 (n : Nat) : Fld := ⟨SPn_EBFILL n, 11, 0⟩

/-- SPn_SLATESEC (R77). -/
def SPn_SLATESEC (n : Nat) : Nat := 0x10060088 + 0x800 * n
/-- SPn_SLATESEC.SEC [47:0] RO: Seconds of the last frame's Slate. -/
def SPn_SLATESEC_SEC (n : Nat) : Fld := ⟨SPn_SLATESEC n, 47, 0⟩

/-- SPn_SLATEFRAC (R77). -/
def SPn_SLATEFRAC (n : Nat) : Nat := 0x10060090 + 0x800 * n
/-- SPn_SLATEFRAC.FRAC [47:0] RO: Fraction of the last frame's Slate, in 2^-48 s. -/
def SPn_SLATEFRAC_FRAC (n : Nat) : Fld := ⟨SPn_SLATEFRAC n, 47, 0⟩

/-- SPn_FCNT (R77). -/
def SPn_FCNT (n : Nat) : Nat := 0x10060098 + 0x800 * n
/-- SPn_FCNT.EXPECT [31:16] RO: Expected FCNT of the next frame. -/
def SPn_FCNT_EXPECT (n : Nat) : Fld := ⟨SPn_FCNT n, 31, 16⟩
/-- SPn_FCNT.LAST [15:0] RO: FCNT of the last frame. -/
def SPn_FCNT_LAST (n : Nat) : Fld := ⟨SPn_FCNT n, 15, 0⟩

/-- SPn_BCOFS (R77). -/
def SPn_BCOFS (n : Nat) : Nat := 0x100600A0 + 0x800 * n
/-- SPn_BCOFS.OFS [13:0] RW: Marker position within the frame period, in ticks. -/
def SPn_BCOFS_OFS (n : Nat) : Fld := ⟨SPn_BCOFS n, 13, 0⟩

/-- SPn_HDR (R77). -/
def SPn_HDR (n : Nat) : Nat := 0x100600A8 + 0x800 * n
/-- SPn_HDR.FTYPE [47:40] RO: Last CRC-valid header, code group 4. -/
def SPn_HDR_FTYPE (n : Nat) : Fld := ⟨SPn_HDR n, 47, 40⟩
/-- SPn_HDR.SLOTECHO [39:32] RO: Code group 5. -/
def SPn_HDR_SLOTECHO (n : Nat) : Fld := ⟨SPn_HDR n, 39, 32⟩
/-- SPn_HDR.HSTATE [31:24] RO: Code group 6. -/
def SPn_HDR_HSTATE (n : Nat) : Fld := ⟨SPn_HDR n, 31, 24⟩
/-- SPn_HDR.EFLAGS [23:16] RO: Code group 10. -/
def SPn_HDR_EFLAGS (n : Nat) : Fld := ⟨SPn_HDR n, 23, 16⟩
/-- SPn_HDR.RATEECHO [15:8] RO: Code group 11. -/
def SPn_HDR_RATEECHO (n : Nat) : Fld := ⟨SPn_HDR n, 15, 8⟩
/-- SPn_HDR.FMTECHO [7:0] RO: Code group 12. -/
def SPn_HDR_FMTECHO (n : Nat) : Fld := ⟨SPn_HDR n, 7, 0⟩

/-- SPn_CLAPRES (R77). -/
def SPn_CLAPRES (n : Nat) : Nat := 0x100600B0 + 0x800 * n
/-- SPn_CLAPRES.RES [23:0] RO: First sample time minus Tc, in fine steps. -/
def SPn_CLAPRES_RES (n : Nat) : Fld := ⟨SPn_CLAPRES n, 23, 0⟩

/-- SP_CLAPSEC (R78). -/
def SP_CLAPSEC : Nat := 0x10070000
/-- SP_CLAPSEC.SEC [47:0] RW: Seconds of Tc. -/
def SP_CLAPSEC_SEC : Fld := ⟨SP_CLAPSEC, 47, 0⟩

/-- SP_CLAPFRAC (R78). -/
def SP_CLAPFRAC : Nat := 0x10070008
/-- SP_CLAPFRAC.FRAC [47:0] RW: Fraction of Tc, in 2^-48 s. -/
def SP_CLAPFRAC_FRAC : Fld := ⟨SP_CLAPFRAC, 47, 0⟩

/-- SP_CLAPMASK (R78). -/
def SP_CLAPMASK : Nat := 0x10070010
/-- SP_CLAPMASK.PORTS [31:0] RW: Bit n selects SPn. -/
def SP_CLAPMASK_PORTS : Fld := ⟨SP_CLAPMASK, 31, 0⟩

/-- SP_CLAPCTRL (R78). -/
def SP_CLAPCTRL : Nat := 0x10070018
/-- SP_CLAPCTRL.DISARM [1:1] WO: Cancel the armed Clapper. -/
def SP_CLAPCTRL_DISARM : Fld := ⟨SP_CLAPCTRL, 1, 1⟩
/-- SP_CLAPCTRL.ARM [0:0] WO: Arm the Clapper. -/
def SP_CLAPCTRL_ARM : Fld := ⟨SP_CLAPCTRL, 0, 0⟩

/-- SP_CLAPSTAT (R78). -/
def SP_CLAPSTAT : Nat := 0x10070020
/-- SP_CLAPSTAT.BUSY [3:3] W1C: Arming refused: already armed. -/
def SP_CLAPSTAT_BUSY : Fld := ⟨SP_CLAPSTAT, 3, 3⟩
/-- SP_CLAPSTAT.PAST [2:2] W1C: Arming refused: Tc less than 8 ticks ahead. -/
def SP_CLAPSTAT_PAST : Fld := ⟨SP_CLAPSTAT, 2, 2⟩
/-- SP_CLAPSTAT.FIRED [1:1] W1C: The Clapper fired. -/
def SP_CLAPSTAT_FIRED : Fld := ⟨SP_CLAPSTAT, 1, 1⟩
/-- SP_CLAPSTAT.ARMED [0:0] RO: A Clapper is armed. -/
def SP_CLAPSTAT_ARMED : Fld := ⟨SP_CLAPSTAT, 0, 0⟩

/-- SP_CLAPMISS (R78). -/
def SP_CLAPMISS : Nat := 0x10070028
/-- SP_CLAPMISS.PORTS [31:0] RO: Ports that did not start at the last firing. -/
def SP_CLAPMISS_PORTS : Fld := ⟨SP_CLAPMISS, 31, 0⟩

/-- SP_LINKSTAT (R78). -/
def SP_LINKSTAT : Nat := 0x10070030
/-- SP_LINKSTAT.UP [31:0] RO: Bit n is SPn_STAT.LINK_UP. -/
def SP_LINKSTAT_UP : Fld := ⟨SP_LINKSTAT, 31, 0⟩

/-- CNDn_CTRL (R116). -/
def CNDn_CTRL (n : Nat) : Nat := 0x10080000 + 0x200 * n
/-- CNDn_CTRL.SOFTRST [8:8] WO: Reset the loops as on entry to SETTLE. -/
def CNDn_CTRL_SOFTRST (n : Nat) : Fld := ⟨CNDn_CTRL n, 8, 8⟩
/-- CNDn_CTRL.DCEN [4:4] RW: DC removal enable. -/
def CNDn_CTRL_DCEN (n : Nat) : Fld := ⟨CNDn_CTRL n, 4, 4⟩
/-- CNDn_CTRL.BLMODE [3:2] RW: 0 off; 1 absolute; 2 relative; 3 treated as 0. -/
def CNDn_CTRL_BLMODE (n : Nat) : Fld := ⟨CNDn_CTRL n, 3, 2⟩
/-- CNDn_CTRL.AGCMODE [1:0] RW: 0 AUTO; 1 MANUAL; 2 FREEZE; 3 treated as 2. -/
def CNDn_CTRL_AGCMODE (n : Nat) : Fld := ⟨CNDn_CTRL n, 1, 0⟩

/-- CNDn_STAT (R116). -/
def CNDn_STAT (n : Nat) : Nat := 0x10080008 + 0x200 * n
/-- CNDn_STAT.HMUTE [8:8] RO: Current frame muted by head state. -/
def CNDn_STAT_HMUTE (n : Nat) : Fld := ⟨CNDn_STAT n, 8, 8⟩
/-- CNDn_STAT.ENGAGED [7:4] RO: Bit k: notch k in the path. -/
def CNDn_STAT_ENGAGED (n : Nat) : Fld := ⟨CNDn_STAT n, 7, 4⟩
/-- CNDn_STAT.NCLASH [3:3] W1C: A notch was returned under R90. -/
def CNDn_STAT_NCLASH (n : Nat) : Fld := ⟨CNDn_STAT n, 3, 3⟩
/-- CNDn_STAT.INTF [2:2] W1C: GAIN below GAINLO at an interval end. -/
def CNDn_STAT_INTF (n : Nat) : Fld := ⟨CNDn_STAT n, 2, 2⟩
/-- CNDn_STAT.BLANKED [1:1] W1C: A sample was blanked. -/
def CNDn_STAT_BLANKED (n : Nat) : Fld := ⟨CNDn_STAT n, 1, 1⟩
/-- CNDn_STAT.STATRDY [0:0] W1C: New statistics. -/
def CNDn_STAT_STATRDY (n : Nat) : Fld := ⟨CNDn_STAT n, 0, 0⟩

/-- CNDn_INTEN (R116). -/
def CNDn_INTEN (n : Nat) : Nat := 0x10080010 + 0x200 * n
/-- CNDn_INTEN.EN [3:0] RW: Enables of the matching STAT bits. -/
def CNDn_INTEN_EN (n : Nat) : Fld := ⟨CNDn_INTEN n, 3, 0⟩

/-- CNDn_MUTECNT (R116). -/
def CNDn_MUTECNT (n : Nat) : Nat := 0x10080018 + 0x200 * n
/-- CNDn_MUTECNT.HFRAMES [47:24] RO: Frames muted by head state; wraps. -/
def CNDn_MUTECNT_HFRAMES (n : Nat) : Fld := ⟨CNDn_MUTECNT n, 47, 24⟩
/-- CNDn_MUTECNT.NCLASHES [23:0] RO: Notch clashes; wraps. -/
def CNDn_MUTECNT_NCLASHES (n : Nat) : Fld := ⟨CNDn_MUTECNT n, 23, 0⟩

/-- CNDn_DC (R116). -/
def CNDn_DC (n : Nat) : Nat := 0x10080020 + 0x200 * n
/-- CNDn_DC.DCSH [28:24] RW: Loop shift, 8 to 20; other values treated as the nearer limit. -/
def CNDn_DC_DCSH (n : Nat) : Fld := ⟨CNDn_DC n, 28, 24⟩
/-- CNDn_DC.DCQ [23:12] RO: Q estimate, two's complement. -/
def CNDn_DC_DCQ (n : Nat) : Fld := ⟨CNDn_DC n, 23, 12⟩
/-- CNDn_DC.DCI [11:0] RO: I estimate, two's complement. -/
def CNDn_DC_DCI (n : Nat) : Fld := ⟨CNDn_DC n, 11, 0⟩

/-- CNDn_BLANK (R116). -/
def CNDn_BLANK (n : Nat) : Nat := 0x10080028 + 0x200 * n
/-- CNDn_BLANK.HOLD [25:16] RW: Hold in samples. -/
def CNDn_BLANK_HOLD (n : Nat) : Fld := ⟨CNDn_BLANK n, 25, 16⟩
/-- CNDn_BLANK.THR [11:0] RW: Absolute threshold, or sixteenths of m. -/
def CNDn_BLANK_THR (n : Nat) : Fld := ⟨CNDn_BLANK n, 11, 0⟩

/-- CNDn_AGC (R116). -/
def CNDn_AGC (n : Nat) : Nat := 0x10080030 + 0x200 * n
/-- CNDn_AGC.SH [35:32] RW: Loop shift. -/
def CNDn_AGC_SH (n : Nat) : Fld := ⟨CNDn_AGC n, 35, 32⟩
/-- CNDn_AGC.GAINLO [31:16] RW: INTF threshold, Q4.12. -/
def CNDn_AGC_GAINLO (n : Nat) : Fld := ⟨CNDn_AGC n, 31, 16⟩
/-- CNDn_AGC.MAGTGT [11:0] RW: Mean magnitude target (610); 0 treated as 1. -/
def CNDn_AGC_MAGTGT (n : Nat) : Fld := ⟨CNDn_AGC n, 11, 0⟩

/-- CNDn_GAIN (R116). -/
def CNDn_GAIN (n : Nat) : Nat := 0x10080038 + 0x200 * n
/-- CNDn_GAIN.MAN [31:16] RW: Manual and reset gain, Q4.12. -/
def CNDn_GAIN_MAN (n : Nat) : Fld := ⟨CNDn_GAIN n, 31, 16⟩
/-- CNDn_GAIN.GAIN [15:0] RO: Gain in use. -/
def CNDn_GAIN_GAIN (n : Nat) : Fld := ⟨CNDn_GAIN n, 15, 0⟩

/-- CNDn_NCTLk (R116). -/
def CNDn_NCTLk (n k : Nat) : Nat := 0x10080040 + 0x200 * n + 0x8 * k
/-- CNDn_NCTLk.CFREQ [47:24] RW: Programmed centre, two's complement, f_s / 2^24. -/
def CNDn_NCTLk_CFREQ (n k : Nat) : Fld := ⟨CNDn_NCTLk n k, 47, 24⟩
/-- CNDn_NCTLk.ENG [19:16] RW: Engage threshold in dB; 0 treated as 1. -/
def CNDn_NCTLk_ENG (n k : Nat) : Fld := ⟨CNDn_NCTLk n k, 19, 16⟩
/-- CNDn_NCTLk.MUSH [15:12] RW: Adaptation shift. -/
def CNDn_NCTLk_MUSH (n k : Nat) : Fld := ⟨CNDn_NCTLk n k, 15, 12⟩
/-- CNDn_NCTLk.RSH [11:8] RW: Pole shift, 3 to 10; other values treated as the nearer limit. -/
def CNDn_NCTLk_RSH (n k : Nat) : Fld := ⟨CNDn_NCTLk n k, 11, 8⟩
/-- CNDn_NCTLk.MODE [1:0] RW: 0 OFF; 1 FIXED; 2 ADAPT; 3 treated as 0. -/
def CNDn_NCTLk_MODE (n k : Nat) : Fld := ⟨CNDn_NCTLk n k, 1, 0⟩

/-- CNDn_NFRQk (R116). -/
def CNDn_NFRQk (n k : Nat) : Nat := 0x10080060 + 0x200 * n + 0x8 * k
/-- CNDn_NFRQk.DEPTH [31:24] RO: Last block DEPTH in dB. -/
def CNDn_NFRQk_DEPTH (n k : Nat) : Fld := ⟨CNDn_NFRQk n k, 31, 24⟩
/-- CNDn_NFRQk.FREQ [23:0] RO: Centre in use. -/
def CNDn_NFRQk_FREQ (n k : Nat) : Fld := ⟨CNDn_NFRQk n k, 23, 0⟩

/-- CNDn_STPWR (R116). -/
def CNDn_STPWR (n : Nat) : Nat := 0x10080080 + 0x200 * n
/-- CNDn_STPWR.PRE [47:24] RO: Mean power at the blanker input. -/
def CNDn_STPWR_PRE (n : Nat) : Fld := ⟨CNDn_STPWR n, 47, 24⟩
/-- CNDn_STPWR.POST [23:0] RO: Mean power after notch 3. -/
def CNDn_STPWR_POST (n : Nat) : Fld := ⟨CNDn_STPWR n, 23, 0⟩

/-- CNDn_STBLANK (R116). -/
def CNDn_STBLANK (n : Nat) : Nat := 0x10080088 + 0x200 * n
/-- CNDn_STBLANK.BLANKED [47:24] RO: Blanked samples. -/
def CNDn_STBLANK_BLANKED (n : Nat) : Fld := ⟨CNDn_STBLANK n, 47, 24⟩
/-- CNDn_STBLANK.ZCOUNT [23:0] RO: Z samples on COND4. -/
def CNDn_STBLANK_ZCOUNT (n : Nat) : Fld := ⟨CNDn_STBLANK n, 23, 0⟩

/-- CNDn_STCLIP (R116). -/
def CNDn_STCLIP (n : Nat) : Nat := 0x10080090 + 0x200 * n
/-- CNDn_STCLIP.CLIP [47:24] RO: Clipped samples. -/
def CNDn_STCLIP_CLIP (n : Nat) : Fld := ⟨CNDn_STCLIP n, 47, 24⟩
/-- CNDn_STCLIP.NENG [23:20] RO: Notches in the path at the interval end. -/
def CNDn_STCLIP_NENG (n : Nat) : Fld := ⟨CNDn_STCLIP n, 23, 20⟩
/-- CNDn_STCLIP.GAIN [15:0] RO: GAIN at the interval end. -/
def CNDn_STCLIP_GAIN (n : Nat) : Fld := ⟨CNDn_STCLIP n, 15, 0⟩

/-- CNDn_STPEAK (R116). -/
def CNDn_STPEAK (n : Nat) : Nat := 0x10080098 + 0x200 * n
/-- CNDn_STPEAK.PEAK [43:32] RO: Largest e. -/
def CNDn_STPEAK_PEAK (n : Nat) : Fld := ⟨CNDn_STPEAK n, 43, 32⟩
/-- CNDn_STPEAK.SEQ [31:0] RO: Millisecond of the interval, modulo 2^32. -/
def CNDn_STPEAK_SEQ (n : Nat) : Fld := ⟨CNDn_STPEAK n, 31, 0⟩

/-- BRT_SEk (R118). -/
def BRT_SEk (k : Nat) : Nat := 0x10090000 + 0x8 * k
/-- BRT_SEk.TAP [9:9] RW: 0 COND12; 1 RAW12. -/
def BRT_SEk_TAP (k : Nat) : Fld := ⟨BRT_SEk k, 9, 9⟩
/-- BRT_SEk.EN [8:8] RW: Input enable. -/
def BRT_SEk_EN (k : Nat) : Fld := ⟨BRT_SEk k, 8, 8⟩
/-- BRT_SEk.STREAM [6:0] RW: Band stream number. -/
def BRT_SEk_STREAM (k : Nat) : Fld := ⟨BRT_SEk k, 6, 0⟩

/-- BRT_REELk (R118). -/
def BRT_REELk (k : Nat) : Nat := 0x10090020 + 0x8 * k
/-- BRT_REELk.TAP [9:9] RW: 0 COND12; 1 RAW12. -/
def BRT_REELk_TAP (k : Nat) : Fld := ⟨BRT_REELk k, 9, 9⟩
/-- BRT_REELk.EN [8:8] RW: Input enable. -/
def BRT_REELk_EN (k : Nat) : Fld := ⟨BRT_REELk k, 8, 8⟩
/-- BRT_REELk.STREAM [6:0] RW: Band stream number. -/
def BRT_REELk_STREAM (k : Nat) : Fld := ⟨BRT_REELk k, 6, 0⟩

/-- BRT_STAT (R118). -/
def BRT_STAT : Nat := 0x10090060
/-- BRT_STAT.ROUTE_BUSY [0:0] W1C: Route write ignored. -/
def BRT_STAT_ROUTE_BUSY : Fld := ⟨BRT_STAT, 0, 0⟩

/-- BRT_READYi (R118). -/
def BRT_READYi (i : Nat) : Nat := 0x10090068 + 0x8 * i
/-- BRT_READYi.READY [31:0] RO: Bit j: BS(32i + j) ready under R110. -/
def BRT_READYi_READY (i : Nat) : Fld := ⟨BRT_READYi i, 31, 0⟩

/-- FECn_CTRL (R117). -/
def FECn_CTRL (n : Nat) : Nat := 0x100A0000 + 0x400 * n
/-- FECn_CTRL.CMDTO [15:8] RW: Acknowledgement timeout in frame periods; 0 treated as 1. -/
def FECn_CTRL_CMDTO (n : Nat) : Fld := ⟨FECn_CTRL n, 15, 8⟩
/-- FECn_CTRL.RETRY [5:4] RW: Resends before NOACK. -/
def FECn_CTRL_RETRY (n : Nat) : Fld := ⟨FECn_CTRL n, 5, 4⟩
/-- FECn_CTRL.AUTOREC [3:3] RW: Restart from FAULT on link up. -/
def FECn_CTRL_AUTOREC (n : Nat) : Fld := ⟨FECn_CTRL n, 3, 3⟩

/-- FECn_TIMING (R117). -/
def FECn_TIMING (n : Nat) : Nat := 0x100A0008 + 0x400 * n
/-- FECn_TIMING.CALTO [23:16] RW: Hold limit in frame periods; 0 treated as 1. -/
def FECn_TIMING_CALTO (n : Nat) : Fld := ⟨FECn_TIMING n, 23, 16⟩
/-- FECn_TIMING.SETTLE [15:8] RW: SETTLE duration in frame periods. -/
def FECn_TIMING_SETTLE (n : Nat) : Fld := ⟨FECn_TIMING n, 15, 8⟩
/-- FECn_TIMING.CALLIM [7:0] RW: CAL limit in frame periods; 0 treated as 1. -/
def FECn_TIMING_CALLIM (n : Nat) : Fld := ⟨FECn_TIMING n, 7, 0⟩

/-- FECn_CMD (R117). -/
def FECn_CMD (n : Nat) : Nat := 0x100A0010 + 0x400 * n
/-- FECn_CMD.PAGE [15:8] WO: Page for TLMPAGE. -/
def FECn_CMD_PAGE (n : Nat) : Fld := ⟨FECn_CMD n, 15, 8⟩
/-- FECn_CMD.OP [3:0] WO: 1 START; 2 BANDCHG; 3 REFORMAT; 4 GAIN; 5 STOP; 6 RESTART; 7 TLMPAGE; 8 HEADRESET; others ignored. -/
def FECn_CMD_OP (n : Nat) : Fld := ⟨FECn_CMD n, 3, 0⟩

/-- FECn_STAT (R117). -/
def FECn_STAT (n : Nat) : Nat := 0x100A0018 + 0x400 * n
/-- FECn_STAT.HELD [31:24] RO: Commands held. -/
def FECn_STAT_HELD (n : Nat) : Fld := ⟨FECn_STAT n, 31, 24⟩
/-- FECn_STAT.CSEQ [23:16] RO: Last CSEQ sent. -/
def FECn_STAT_CSEQ (n : Nat) : Fld := ⟨FECn_STAT n, 23, 16⟩
/-- FECn_STAT.FCAUSE [15:12] RO: 0 none; 1 NOACK; 2 NAK; 3 CALFAIL; 4 HEADFAULT; 5 LINK. -/
def FECn_STAT_FCAUSE (n : Nat) : Fld := ⟨FECn_STAT n, 15, 12⟩
/-- FECn_STAT.STATE [10:8] RO: 0 IDLE; 1 CONFIG; 2 CAL; 3 SETTLE; 4 RUN; 5 FAULT. -/
def FECn_STAT_STATE (n : Nat) : Fld := ⟨FECn_STAT n, 10, 8⟩
/-- FECn_STAT.HNR [6:6] W1C: A held command failed. -/
def FECn_STAT_HNR (n : Nat) : Fld := ⟨FECn_STAT n, 6, 6⟩
/-- FECn_STAT.BUSY [5:5] W1C: Operation refused. -/
def FECn_STAT_BUSY (n : Nat) : Fld := ⟨FECn_STAT n, 5, 5⟩
/-- FECn_STAT.CFGERR [4:4] W1C: REFORMAT failed R37. -/
def FECn_STAT_CFGERR (n : Nat) : Fld := ⟨FECn_STAT n, 4, 4⟩
/-- FECn_STAT.NAK [3:3] W1C: Head refused a command. -/
def FECn_STAT_NAK (n : Nat) : Fld := ⟨FECn_STAT n, 3, 3⟩
/-- FECn_STAT.FAULT [2:2] W1C: FAULT entered. -/
def FECn_STAT_FAULT (n : Nat) : Fld := ⟨FECn_STAT n, 2, 2⟩
/-- FECn_STAT.RUN [1:1] W1C: RUN entered. -/
def FECn_STAT_RUN (n : Nat) : Fld := ⟨FECn_STAT n, 1, 1⟩
/-- FECn_STAT.ACK [0:0] W1C: A command was acknowledged. -/
def FECn_STAT_ACK (n : Nat) : Fld := ⟨FECn_STAT n, 0, 0⟩

/-- FECn_INTEN (R117). -/
def FECn_INTEN (n : Nat) : Nat := 0x100A0020 + 0x400 * n
/-- FECn_INTEN.EN [6:0] RW: Enables of the matching STAT bits. -/
def FECn_INTEN_EN (n : Nat) : Fld := ⟨FECn_INTEN n, 6, 0⟩

/-- FECn_GAIN (R117). -/
def FECn_GAIN (n : Nat) : Nat := 0x100A0028 + 0x400 * n
/-- FECn_GAIN.GAIN [31:0] RW: Gain of slot s in bits [8s+7:8s], 0.5 dB. -/
def FECn_GAIN_GAIN (n : Nat) : Fld := ⟨FECn_GAIN n, 31, 0⟩

/-- FECn_FMT (R117). -/
def FECn_FMT (n : Nat) : Nat := 0x100A0030 + 0x400 * n
/-- FECn_FMT.FMT [11:10] RW: Format for REFORMAT. -/
def FECn_FMT_FMT (n : Nat) : Fld := ⟨FECn_FMT n, 11, 10⟩
/-- FECn_FMT.SLOTRATE [7:0] RW: Rate codes for REFORMAT. -/
def FECn_FMT_SLOTRATE (n : Nat) : Fld := ⟨FECn_FMT n, 7, 0⟩

/-- FECn_LOk (R117). -/
def FECn_LOk (n k : Nat) : Nat := 0x100A0038 + 0x400 * n + 0x8 * k
/-- FECn_LOk.FREQ [47:0] RW: LO of slot k in mHz. -/
def FECn_LOk_FREQ (n k : Nat) : Fld := ⟨FECn_LOk n k, 47, 0⟩

/-- FECn_TLM0 (R117). -/
def FECn_TLM0 (n : Nat) : Nat := 0x100A0058 + 0x400 * n
/-- FECn_TLM0.HTEMP [47:32] RO: TLM bytes 3–4. -/
def FECn_TLM0_HTEMP (n : Nat) : Fld := ⟨FECn_TLM0 n, 47, 32⟩
/-- FECn_TLM0.HVOLT [31:16] RO: TLM bytes 5–6. -/
def FECn_TLM0_HVOLT (n : Nat) : Fld := ⟨FECn_TLM0 n, 31, 16⟩
/-- FECn_TLM0.OVLDCNT [15:8] RO: TLM byte 7. -/
def FECn_TLM0_OVLDCNT (n : Nat) : Fld := ⟨FECn_TLM0 n, 15, 8⟩
/-- FECn_TLM0.TPAGE [7:0] RO: TLM byte 2. -/
def FECn_TLM0_TPAGE (n : Nat) : Fld := ⟨FECn_TLM0 n, 7, 0⟩

/-- FECn_TLM1 (R117). -/
def FECn_TLM1 (n : Nat) : Nat := 0x100A0060 + 0x400 * n
/-- FECn_TLM1.ASEQ [47:40] RO: TLM byte 0. -/
def FECn_TLM1_ASEQ (n : Nat) : Fld := ⟨FECn_TLM1 n, 47, 40⟩
/-- FECn_TLM1.ASTAT [39:32] RO: TLM byte 1. -/
def FECn_TLM1_ASTAT (n : Nat) : Fld := ⟨FECn_TLM1 n, 39, 32⟩
/-- FECn_TLM1.GAINS [31:0] RO: TLM bytes 8–11. -/
def FECn_TLM1_GAINS (n : Nat) : Fld := ⟨FECn_TLM1 n, 31, 0⟩

/-- FECn_PAGEk (R117). -/
def FECn_PAGEk (n k : Nat) : Nat := 0x100A0068 + 0x400 * n + 0x8 * k
/-- FECn_PAGEk.DATA [47:0] RO: Six page bytes. -/
def FECn_PAGEk_DATA (n k : Nat) : Fld := ⟨FECn_PAGEk n k, 47, 0⟩

/-- FEC_RUNMAP (R117). -/
def FEC_RUNMAP : Nat := 0x100A8000
/-- FEC_RUNMAP.RUN [31:0] RO: Bit n: head n in RUN. -/
def FEC_RUNMAP_RUN : Fld := ⟨FEC_RUNMAP, 31, 0⟩

/-- FEC_FAULTMAP (R117). -/
def FEC_FAULTMAP : Nat := 0x100A8008
/-- FEC_FAULTMAP.FAULT [31:0] RO: Bit n: head n in FAULT. -/
def FEC_FAULTMAP_FAULT : Fld := ⟨FEC_FAULTMAP, 31, 0⟩

/-- CA_STAT (R156). -/
def CA_STAT : Nat := 0x100B0000
/-- CA_STAT.CFGERR [4:4] W1C: A ring register write was ignored. -/
def CA_STAT_CFGERR : Fld := ⟨CA_STAT, 4, 4⟩
/-- CA_STAT.SAT [3:3] W1C: A record carried SAT. -/
def CA_STAT_SAT : Fld := ⟨CA_STAT, 3, 3⟩
/-- CA_STAT.AIDOVF [2:2] W1C: An aiding commit was discarded. -/
def CA_STAT_AIDOVF : Fld := ⟨CA_STAT, 2, 2⟩
/-- CA_STAT.RINGDROP [1:1] W1C: A record was discarded. -/
def CA_STAT_RINGDROP : Fld := ⟨CA_STAT, 1, 1⟩
/-- CA_STAT.OVR [0:0] W1C: An overrun occurred. -/
def CA_STAT_OVR : Fld := ⟨CA_STAT, 0, 0⟩

/-- CA_INTEN (R156). -/
def CA_INTEN : Nat := 0x100B0008
/-- CA_INTEN.EN [4:0] RW: Enables of the matching STAT bits. -/
def CA_INTEN_EN : Fld := ⟨CA_INTEN, 4, 0⟩

/-- CA_OVRCNT (R156). -/
def CA_OVRCNT : Nat := 0x100B0010
/-- CA_OVRCNT.SAMPLES [31:0] RO: Samples lost to overrun; wraps. -/
def CA_OVRCNT_SAMPLES : Fld := ⟨CA_OVRCNT, 31, 0⟩

/-- CA_RINGk_BASE (R156). -/
def CA_RINGk_BASE (k : Nat) : Nat := 0x100B0100 + 0x40 * k
/-- CA_RINGk_BASE.BASE [31:7] RW: Ring base address bits [31:7]. -/
def CA_RINGk_BASE_BASE (k : Nat) : Fld := ⟨CA_RINGk_BASE k, 31, 7⟩

/-- CA_RINGk_WP (R156). -/
def CA_RINGk_WP (k : Nat) : Nat := 0x100B0108 + 0x40 * k
/-- CA_RINGk_WP.WP [15:0] RO: Records written, modulo 65,536. -/
def CA_RINGk_WP_WP (k : Nat) : Fld := ⟨CA_RINGk_WP k, 15, 0⟩

/-- CA_RINGk_RP (R156). -/
def CA_RINGk_RP (k : Nat) : Nat := 0x100B0110 + 0x40 * k
/-- CA_RINGk_RP.RP [15:0] RW: Records consumed, modulo 65,536. -/
def CA_RINGk_RP_RP (k : Nat) : Fld := ⟨CA_RINGk_RP k, 15, 0⟩

/-- CA_RINGk_DB (R156). -/
def CA_RINGk_DB (k : Nat) : Nat := 0x100B0118 + 0x40 * k
/-- CA_RINGk_DB.TO [31:16] RW: Doorbell timeout in µs; 0 off. -/
def CA_RINGk_DB_TO (k : Nat) : Fld := ⟨CA_RINGk_DB k, 31, 16⟩
/-- CA_RINGk_DB.THR [12:0] RW: Doorbell threshold in records, 1 to 4,096; 0 treated as 1. -/
def CA_RINGk_DB_THR (k : Nat) : Fld := ⟨CA_RINGk_DB k, 12, 0⟩

/-- CA_RINGk_DROP (R156). -/
def CA_RINGk_DROP (k : Nat) : Nat := 0x100B0120 + 0x40 * k
/-- CA_RINGk_DROP.COUNT [31:0] RO: Records discarded; wraps. -/
def CA_RINGk_DROP_COUNT (k : Nat) : Fld := ⟨CA_RINGk_DROP k, 31, 0⟩

/-- CA_AIDi_CARR (R156). -/
def CA_AIDi_CARR (i : Nat) : Nat := 0x100B0400 + 0x40 * i
/-- CA_AIDi_CARR.CARR_RATE [47:0] RW: New carrier rate, as W2. -/
def CA_AIDi_CARR_CARR_RATE (i : Nat) : Fld := ⟨CA_AIDi_CARR i, 47, 0⟩

/-- CA_AIDi_CODE (R156). -/
def CA_AIDi_CODE (i : Nat) : Nat := 0x100B0408 + 0x40 * i
/-- CA_AIDi_CODE.CODE_RATE [47:0] RW: New code rate, as W3. -/
def CA_AIDi_CODE_CODE_RATE (i : Nat) : Fld := ⟨CA_AIDi_CODE i, 47, 0⟩

/-- CA_AIDi_CADJ (R156). -/
def CA_AIDi_CADJ (i : Nat) : Nat := 0x100B0410 + 0x40 * i
/-- CA_AIDi_CADJ.CADJ [47:0] RW: Carrier phase adjustment, signed, 2^-48 cycle. -/
def CA_AIDi_CADJ_CADJ (i : Nat) : Fld := ⟨CA_AIDi_CADJ i, 47, 0⟩

/-- CA_AIDi_KADJ (R156). -/
def CA_AIDi_KADJ (i : Nat) : Nat := 0x100B0418 + 0x40 * i
/-- CA_AIDi_KADJ.KADJ [47:0] RW: Code phase adjustment, signed Q16.32 chips. -/
def CA_AIDi_KADJ_KADJ (i : Nat) : Fld := ⟨CA_AIDi_KADJ i, 47, 0⟩

/-- CA_AIDi_HDR (R156). -/
def CA_AIDi_HDR (i : Nat) : Nat := 0x100B0420 + 0x40 * i
/-- CA_AIDi_HDR.TGT [47:32] WO: Target EPOCHCNT. -/
def CA_AIDi_HDR_TGT (i : Nat) : Fld := ⟨CA_AIDi_HDR i, 47, 32⟩
/-- CA_AIDi_HDR.TGTEN [31:31] WO: Apply at TGT. -/
def CA_AIDi_HDR_TGTEN (i : Nat) : Fld := ⟨CA_AIDi_HDR i, 31, 31⟩
/-- CA_AIDi_HDR.NCOH [30:24] WO: New coherent interval, 1 to 100. -/
def CA_AIDi_HDR_NCOH (i : Nat) : Fld := ⟨CA_AIDi_HDR i, 30, 24⟩
/-- CA_AIDi_HDR.SETNCOH [19:19] WO: Replace NCOH. -/
def CA_AIDi_HDR_SETNCOH (i : Nat) : Fld := ⟨CA_AIDi_HDR i, 19, 19⟩
/-- CA_AIDi_HDR.ADDKP [18:18] WO: Add KADJ. -/
def CA_AIDi_HDR_ADDKP (i : Nat) : Fld := ⟨CA_AIDi_HDR i, 18, 18⟩
/-- CA_AIDi_HDR.ADDCP [17:17] WO: Add CADJ. -/
def CA_AIDi_HDR_ADDCP (i : Nat) : Fld := ⟨CA_AIDi_HDR i, 17, 17⟩
/-- CA_AIDi_HDR.SETKR [16:16] WO: Replace CODE_RATE. -/
def CA_AIDi_HDR_SETKR (i : Nat) : Fld := ⟨CA_AIDi_HDR i, 16, 16⟩
/-- CA_AIDi_HDR.SETCR [15:15] WO: Replace CARR_RATE. -/
def CA_AIDi_HDR_SETCR (i : Nat) : Fld := ⟨CA_AIDi_HDR i, 15, 15⟩
/-- CA_AIDi_HDR.CHAN [11:0] WO: Channel; the write commits the record. -/
def CA_AIDi_HDR_CHAN (i : Nat) : Fld := ⟨CA_AIDi_HDR i, 11, 0⟩

/-- CA_AIDi_STAT (R156). -/
def CA_AIDi_STAT (i : Nat) : Nat := 0x100B0428 + 0x40 * i
/-- CA_AIDi_STAT.NOTACT [8:8] W1C: A record named an inactive channel. -/
def CA_AIDi_STAT_NOTACT (i : Nat) : Fld := ⟨CA_AIDi_STAT i, 8, 8⟩
/-- CA_AIDi_STAT.OVF [7:7] W1C: A commit found the queue full. -/
def CA_AIDi_STAT_OVF (i : Nat) : Fld := ⟨CA_AIDi_STAT i, 7, 7⟩
/-- CA_AIDi_STAT.LEVEL [6:0] RO: Records queued, 0 to 64. -/
def CA_AIDi_STAT_LEVEL (i : Nat) : Fld := ⟨CA_AIDi_STAT i, 6, 0⟩

/-- CA_AIDi_CNT (R156). -/
def CA_AIDi_CNT (i : Nat) : Nat := 0x100B0430 + 0x40 * i
/-- CA_AIDi_CNT.DROPS [47:24] RO: Commits discarded; wraps. -/
def CA_AIDi_CNT_DROPS (i : Nat) : Fld := ⟨CA_AIDi_CNT i, 47, 24⟩
/-- CA_AIDi_CNT.NOTACT [23:0] RO: Records for inactive channels; wraps. -/
def CA_AIDi_CNT_NOTACT (i : Nat) : Fld := ⟨CA_AIDi_CNT i, 23, 0⟩

/-- CA_ENGe (R156). -/
def CA_ENGe (e : Nat) : Nat := 0x100B0800 + 0x8 * e
/-- CA_ENGe.CONTEXTS [37:32] RO: Active channels, 0 to 32. -/
def CA_ENGe_CONTEXTS (e : Nat) : Fld := ⟨CA_ENGe e, 37, 32⟩
/-- CA_ENGe.LOAD [12:0] RO: Admitted charge in units. -/
def CA_ENGe_LOAD (e : Nat) : Fld := ⟨CA_ENGe e, 12, 0⟩

/-- CSH_BUDGET (R157). -/
def CSH_BUDGET : Nat := 0x100B4000
/-- CSH_BUDGET.LIMIT [47:24] RO: LIMIT against which starts are checked, in units (R125, R491); the reset value is the P2 value, 192,000. -/
def CSH_BUDGET_LIMIT : Fld := ⟨CSH_BUDGET, 47, 24⟩
/-- CSH_BUDGET.USED [23:0] RO: Admitted sum in units. -/
def CSH_BUDGET_USED : Fld := ⟨CSH_BUDGET, 23, 0⟩

/-- CSH_COUNT (R157). -/
def CSH_COUNT : Nat := 0x100B4008
/-- CSH_COUNT.HELD [28:16] RO: Channels HELD. -/
def CSH_COUNT_HELD : Fld := ⟨CSH_COUNT, 28, 16⟩
/-- CSH_COUNT.ACTIVE [12:0] RO: Channels ACTIVE. -/
def CSH_COUNT_ACTIVE : Fld := ⟨CSH_COUNT, 12, 0⟩

/-- CSH_STAT (R157). -/
def CSH_STAT : Nat := 0x100B4010
/-- CSH_STAT.RSPWAIT [3:3] W1C: A command waited for room in its response queue (R138). -/
def CSH_STAT_RSPWAIT : Fld := ⟨CSH_STAT, 3, 3⟩
/-- CSH_STAT.REFUSED [2:2] W1C: A START failed. -/
def CSH_STAT_REFUSED : Fld := ⟨CSH_STAT, 2, 2⟩
/-- CSH_STAT.AUTOSTOP [1:1] W1C: A channel was stopped under R144. -/
def CSH_STAT_AUTOSTOP : Fld := ⟨CSH_STAT, 1, 1⟩
/-- CSH_STAT.CMDOVF [0:0] W1C: A command write found its queue full. -/
def CSH_STAT_CMDOVF : Fld := ⟨CSH_STAT, 0, 0⟩

/-- CSH_INTEN (R157). -/
def CSH_INTEN : Nat := 0x100B4018
/-- CSH_INTEN.EN [3:0] RW: Enables of the matching STAT bits. -/
def CSH_INTEN_EN : Fld := ⟨CSH_INTEN, 3, 0⟩

/-- CSH_REFCNT (R157). -/
def CSH_REFCNT : Nat := 0x100B4020
/-- CSH_REFCNT.BUDGET [47:32] RO: BUDGET refusals; wraps. -/
def CSH_REFCNT_BUDGET : Fld := ⟨CSH_REFCNT, 47, 32⟩
/-- CSH_REFCNT.NOENGINE [31:16] RO: NOENGINE refusals; wraps. -/
def CSH_REFCNT_NOENGINE : Fld := ⟨CSH_REFCNT, 31, 16⟩
/-- CSH_REFCNT.HNR [15:0] RO: HEAD_NOT_READY failures; wraps. -/
def CSH_REFCNT_HNR : Fld := ⟨CSH_REFCNT, 15, 0⟩

/-- CSH_AUTOCNT (R157). -/
def CSH_AUTOCNT : Nat := 0x100B4028
/-- CSH_AUTOCNT.COUNT [15:0] RO: Stops under R144; wraps. -/
def CSH_AUTOCNT_COUNT : Fld := ⟨CSH_AUTOCNT, 15, 0⟩

/-- CSH_CMDj (R157). -/
def CSH_CMDj (j : Nat) : Nat := 0x100B4100 + 0x10 * j
/-- CSH_CMDj.TAG [47:40] WO: Returned in the response. -/
def CSH_CMDj_TAG (j : Nat) : Fld := ⟨CSH_CMDj j, 47, 40⟩
/-- CSH_CMDj.OP [35:32] WO: 1 START; 2 STOP; 3 REMAP; 4 RINGMOVE; other values ignored. -/
def CSH_CMDj_OP (j : Nat) : Fld := ⟨CSH_CMDj j, 35, 32⟩
/-- CSH_CMDj.RINGNEW [15:14] WO: New ring for REMAP and RINGMOVE. -/
def CSH_CMDj_RINGNEW (j : Nat) : Fld := ⟨CSH_CMDj j, 15, 14⟩
/-- CSH_CMDj.RINGFROM [13:12] WO: Ring to move from, for RINGMOVE. -/
def CSH_CMDj_RINGFROM (j : Nat) : Fld := ⟨CSH_CMDj j, 13, 12⟩
/-- CSH_CMDj.CHAN [11:0] WO: Channel; ignored by RINGMOVE. -/
def CSH_CMDj_CHAN (j : Nat) : Fld := ⟨CSH_CMDj j, 11, 0⟩

/-- CSH_RSPj (R157). -/
def CSH_RSPj (j : Nat) : Nat := 0x100B4108 + 0x10 * j
/-- CSH_RSPj.VALID [47:47] RO: A response is present. -/
def CSH_RSPj_VALID (j : Nat) : Fld := ⟨CSH_RSPj j, 47, 47⟩
/-- CSH_RSPj.TAG [39:32] RO: TAG of the command. -/
def CSH_RSPj_TAG (j : Nat) : Fld := ⟨CSH_RSPj j, 39, 32⟩
/-- CSH_RSPj.OP [31:28] RO: OP of the command. -/
def CSH_RSPj_OP (j : Nat) : Fld := ⟨CSH_RSPj j, 31, 28⟩
/-- CSH_RSPj.RESULT [23:16] RO: Response code. -/
def CSH_RSPj_RESULT (j : Nat) : Fld := ⟨CSH_RSPj j, 23, 16⟩
/-- CSH_RSPj.CHAN [11:0] RO: Channel of the command. -/
def CSH_RSPj_CHAN (j : Nat) : Fld := ⟨CSH_RSPj j, 11, 0⟩

/-- CGN_STAT (R174). -/
def CGN_STAT : Nat := 0x100B8000
/-- CGN_STAT.CRCDONE [2:2] W1C: A check completed. -/
def CGN_STAT_CRCDONE : Fld := ⟨CGN_STAT, 2, 2⟩
/-- CGN_STAT.CFGERR [1:1] W1C: A check command was ignored. -/
def CGN_STAT_CFGERR : Fld := ⟨CGN_STAT, 1, 1⟩
/-- CGN_STAT.LOCKERR [0:0] W1C: A write to a block in use was refused. -/
def CGN_STAT_LOCKERR : Fld := ⟨CGN_STAT, 0, 0⟩

/-- CGN_INTEN (R174). -/
def CGN_INTEN : Nat := 0x100B8008
/-- CGN_INTEN.EN [2:0] RW: Enables of the matching STAT bits. -/
def CGN_INTEN_EN : Fld := ⟨CGN_INTEN, 2, 0⟩

/-- CGN_CRCCMD (R174). -/
def CGN_CRCCMD : Nat := 0x100B8010
/-- CGN_CRCCMD.GO [16:16] WO: Start the check. -/
def CGN_CRCCMD_GO : Fld := ⟨CGN_CRCCMD, 16, 16⟩
/-- CGN_CRCCMD.COUNT [15:8] WO: Blocks in the check, minus one. -/
def CGN_CRCCMD_COUNT : Fld := ⟨CGN_CRCCMD, 15, 8⟩
/-- CGN_CRCCMD.FIRST [7:0] WO: First block. -/
def CGN_CRCCMD_FIRST : Fld := ⟨CGN_CRCCMD, 7, 0⟩

/-- CGN_CRCRES (R174). -/
def CGN_CRCRES : Nat := 0x100B8018
/-- CGN_CRCRES.BUSY [33:33] RO: Check running. -/
def CGN_CRCRES_BUSY : Fld := ⟨CGN_CRCRES, 33, 33⟩
/-- CGN_CRCRES.DONE [32:32] RO: CRC holds a complete result; cleared by GO. -/
def CGN_CRCRES_DONE : Fld := ⟨CGN_CRCRES, 32, 32⟩
/-- CGN_CRCRES.CRC [31:0] RO: Result of the last check. -/
def CGN_CRCRES_CRC : Fld := ⟨CGN_CRCRES, 31, 0⟩

/-- CGN_LOCKCNT (R174). -/
def CGN_LOCKCNT : Nat := 0x100B8020
/-- CGN_LOCKCNT.COUNT [15:0] RO: Refused writes; wraps. -/
def CGN_LOCKCNT_COUNT : Fld := ⟨CGN_LOCKCNT, 15, 0⟩

/-- CGN_USEi (R174). -/
def CGN_USEi (i : Nat) : Nat := 0x100B8040 + 0x8 * i
/-- CGN_USEi.USE [47:0] RO: Bit j: block 48i + j in use. -/
def CGN_USEi_USE (i : Nat) : Fld := ⟨CGN_USEi i, 47, 0⟩

/-- CGN_USE5 (R174). -/
def CGN_USE5 : Nat := 0x100B8068
/-- CGN_USE5.USE [15:0] RO: Bit j: block 240 + j in use. -/
def CGN_USE5_USE : Fld := ⟨CGN_USE5, 15, 0⟩

/-- SE_STAT (R210). -/
def SE_STAT : Nat := 0x100C0000
/-- SE_STAT.CFGERR [5:5] W1C: A ring register write was ignored. -/
def SE_STAT_CFGERR : Fld := ⟨SE_STAT, 5, 5⟩
/-- SE_STAT.RPTDROP [4:4] W1C: A report was discarded. -/
def SE_STAT_RPTDROP : Fld := ⟨SE_STAT, 4, 4⟩
/-- SE_STAT.DONE [3:0] W1C: Bit k: slot k ended. -/
def SE_STAT_DONE : Fld := ⟨SE_STAT, 3, 0⟩

/-- SE_INTEN (R210). -/
def SE_INTEN : Nat := 0x100C0008
/-- SE_INTEN.EN [5:0] RW: Enables of the matching STAT bits. -/
def SE_INTEN_EN : Fld := ⟨SE_INTEN, 5, 0⟩

/-- SE_RPTBASE (R210). -/
def SE_RPTBASE : Nat := 0x100C0010
/-- SE_RPTBASE.BASE [31:7] RW: Ring base address bits [31:7]. -/
def SE_RPTBASE_BASE : Fld := ⟨SE_RPTBASE, 31, 7⟩

/-- SE_RPTWP (R210). -/
def SE_RPTWP : Nat := 0x100C0018
/-- SE_RPTWP.WP [15:0] RO: Reports written, modulo 65,536. -/
def SE_RPTWP_WP : Fld := ⟨SE_RPTWP, 15, 0⟩

/-- SE_RPTRP (R210). -/
def SE_RPTRP : Nat := 0x100C0020
/-- SE_RPTRP.RP [15:0] RW: Reports consumed, modulo 65,536. -/
def SE_RPTRP_RP : Fld := ⟨SE_RPTRP, 15, 0⟩

/-- SE_RPTDB (R210). -/
def SE_RPTDB : Nat := 0x100C0028
/-- SE_RPTDB.TO [31:16] RW: Doorbell timeout in µs; 0 off. -/
def SE_RPTDB_TO : Fld := ⟨SE_RPTDB, 31, 16⟩
/-- SE_RPTDB.THR [10:0] RW: Doorbell threshold, 1 to 1,024; 0 treated as 1. -/
def SE_RPTDB_THR : Fld := ⟨SE_RPTDB, 10, 0⟩

/-- SE_RPTDROP (R210). -/
def SE_RPTDROP : Nat := 0x100C0030
/-- SE_RPTDROP.COUNT [31:0] RO: Reports discarded; wraps. -/
def SE_RPTDROP_COUNT : Fld := ⟨SE_RPTDROP, 31, 0⟩

/-- SE_BUSY (R210). -/
def SE_BUSY : Nat := 0x100C0038
/-- SE_BUSY.CYCLES [47:0] RO: CLK_CORR cycles with the datapath busy; wraps. -/
def SE_BUSY_CYCLES : Fld := ⟨SE_BUSY, 47, 0⟩

/-- SEk_BASE (R210). -/
def SEk_BASE (k : Nat) : Nat := 0x100C0100 + 0x20 * k
/-- SEk_BASE.BASE [31:6] RW: Plan address bits [31:6]. -/
def SEk_BASE_BASE (k : Nat) : Fld := ⟨SEk_BASE k, 31, 6⟩

/-- SEk_CMD (R210). -/
def SEk_CMD (k : Nat) : Nat := 0x100C0108 + 0x20 * k
/-- SEk_CMD.ABORT [1:1] WO: End the plan. -/
def SEk_CMD_ABORT (k : Nat) : Fld := ⟨SEk_CMD k, 1, 1⟩
/-- SEk_CMD.START [0:0] WO: Start the plan at BASE. -/
def SEk_CMD_START (k : Nat) : Fld := ⟨SEk_CMD k, 0, 0⟩

/-- SEk_STAT (R210). -/
def SEk_STAT (k : Nat) : Nat := 0x100C0110 + 0x20 * k
/-- SEk_STAT.BADDESC [31:24] RO: Failing descriptor, 0xFF for the header. -/
def SEk_STAT_BADDESC (k : Nat) : Fld := ⟨SEk_STAT k, 31, 24⟩
/-- SEk_STAT.RESULT [23:16] RO: Last result code. -/
def SEk_STAT_RESULT (k : Nat) : Fld := ⟨SEk_STAT k, 23, 16⟩
/-- SEk_STAT.STATE [2:0] RO: 0 IDLE; 1 HELD; 2 WAIT; 3 RUN. -/
def SEk_STAT_STATE (k : Nat) : Fld := ⟨SEk_STAT k, 2, 0⟩

/-- SEk_PROG (R210). -/
def SEk_PROG (k : Nat) : Nat := 0x100C0118 + 0x20 * k
/-- SEk_PROG.NSKIP [47:32] RO: Blocks passed over, saturating. -/
def SEk_PROG_NSKIP (k : Nat) : Fld := ⟨SEk_PROG k, 47, 32⟩
/-- SEk_PROG.NSUM [25:16] RO: Blocks summed. -/
def SEk_PROG_NSUM (k : Nat) : Fld := ⟨SEk_PROG k, 25, 16⟩
/-- SEk_PROG.BLOCK [15:0] RO: Index of the last block taken, modulo 65,536. -/
def SEk_PROG_BLOCK (k : Nat) : Fld := ⟨SEk_PROG k, 15, 0⟩

/-- REELk_CTRL (R211). -/
def REELk_CTRL (k : Nat) : Nat := 0x100D0000 + 0x80 * k
/-- REELk_CTRL.STOPAT [5:5] RW: Stop at the stop instant. -/
def REELk_CTRL_STOPAT (k : Nat) : Fld := ⟨REELk_CTRL k, 5, 5⟩
/-- REELk_CTRL.RING [4:4] RW: 0 LINEAR; 1 RING. -/
def REELk_CTRL_RING (k : Nat) : Fld := ⟨REELk_CTRL k, 4, 4⟩
/-- REELk_CTRL.TRIG [3:2] RW: 0 SOFTWARE; 1 INSTANT; 2 CLAPPER; 3 treated as 0. -/
def REELk_CTRL_TRIG (k : Nat) : Fld := ⟨REELk_CTRL k, 3, 2⟩
/-- REELk_CTRL.PACK [0:0] RW: 0 P3; 1 P4. -/
def REELk_CTRL_PACK (k : Nat) : Fld := ⟨REELk_CTRL k, 0, 0⟩

/-- REELk_CMD (R211). -/
def REELk_CMD (k : Nat) : Nat := 0x100D0008 + 0x80 * k
/-- REELk_CMD.STOP [1:1] WO: Stop the capture. -/
def REELk_CMD_STOP (k : Nat) : Fld := ⟨REELk_CMD k, 1, 1⟩
/-- REELk_CMD.ARM [0:0] WO: Arm the capture. -/
def REELk_CMD_ARM (k : Nat) : Fld := ⟨REELk_CMD k, 0, 0⟩

/-- REELk_BASE (R211). -/
def REELk_BASE (k : Nat) : Nat := 0x100D0010 + 0x80 * k
/-- REELk_BASE.BASE [31:6] RW: Buffer address bits [31:6]. -/
def REELk_BASE_BASE (k : Nat) : Fld := ⟨REELk_BASE k, 31, 6⟩

/-- REELk_LEN (R211). -/
def REELk_LEN (k : Nat) : Nat := 0x100D0018 + 0x80 * k
/-- REELk_LEN.LEN [23:0] RW: Buffer length in samples. -/
def REELk_LEN_LEN (k : Nat) : Fld := ⟨REELk_LEN k, 23, 0⟩

/-- REELk_TRIGSEC (R211). -/
def REELk_TRIGSEC (k : Nat) : Nat := 0x100D0020 + 0x80 * k
/-- REELk_TRIGSEC.SEC [47:0] RW: Seconds of the trigger instant. -/
def REELk_TRIGSEC_SEC (k : Nat) : Fld := ⟨REELk_TRIGSEC k, 47, 0⟩

/-- REELk_TRIGFRAC (R211). -/
def REELk_TRIGFRAC (k : Nat) : Nat := 0x100D0028 + 0x80 * k
/-- REELk_TRIGFRAC.FRAC [47:0] RW: Fraction of the trigger instant, 2^-48 s. -/
def REELk_TRIGFRAC_FRAC (k : Nat) : Fld := ⟨REELk_TRIGFRAC k, 47, 0⟩

/-- REELk_STOPSEC (R211). -/
def REELk_STOPSEC (k : Nat) : Nat := 0x100D0030 + 0x80 * k
/-- REELk_STOPSEC.SEC [47:0] RW: Seconds of the stop instant. -/
def REELk_STOPSEC_SEC (k : Nat) : Fld := ⟨REELk_STOPSEC k, 47, 0⟩

/-- REELk_STOPFRAC (R211). -/
def REELk_STOPFRAC (k : Nat) : Nat := 0x100D0038 + 0x80 * k
/-- REELk_STOPFRAC.FRAC [47:0] RW: Fraction of the stop instant, 2^-48 s. -/
def REELk_STOPFRAC_FRAC (k : Nat) : Fld := ⟨REELk_STOPFRAC k, 47, 0⟩

/-- REELk_STAT (R211). -/
def REELk_STAT (k : Nat) : Nat := 0x100D0040 + 0x80 * k
/-- REELk_STAT.RESULT [23:16] RO: Last result code. -/
def REELk_STAT_RESULT (k : Nat) : Fld := ⟨REELk_STAT k, 23, 16⟩
/-- REELk_STAT.STATE [2:0] RO: 0 IDLE; 1 HELD; 2 ARMED; 3 RUN; 4 DONE. -/
def REELk_STAT_STATE (k : Nat) : Fld := ⟨REELk_STAT k, 2, 0⟩

/-- REELk_COUNT (R211). -/
def REELk_COUNT (k : Nat) : Nat := 0x100D0048 + 0x80 * k
/-- REELk_COUNT.COUNT [47:0] RO: Samples written. -/
def REELk_COUNT_COUNT (k : Nat) : Fld := ⟨REELk_COUNT k, 47, 0⟩

/-- REELk_TFIRSTSEC (R211). -/
def REELk_TFIRSTSEC (k : Nat) : Nat := 0x100D0050 + 0x80 * k
/-- REELk_TFIRSTSEC.SEC [47:0] RO: Seconds of sample 0. -/
def REELk_TFIRSTSEC_SEC (k : Nat) : Fld := ⟨REELk_TFIRSTSEC k, 47, 0⟩

/-- REELk_TFIRSTFRAC (R211). -/
def REELk_TFIRSTFRAC (k : Nat) : Nat := 0x100D0058 + 0x80 * k
/-- REELk_TFIRSTFRAC.FRAC [47:0] RO: Fraction of sample 0. -/
def REELk_TFIRSTFRAC_FRAC (k : Nat) : Fld := ⟨REELk_TFIRSTFRAC k, 47, 0⟩

/-- REELk_TLASTSEC (R211). -/
def REELk_TLASTSEC (k : Nat) : Nat := 0x100D0060 + 0x80 * k
/-- REELk_TLASTSEC.SEC [47:0] RO: Seconds of the last sample. -/
def REELk_TLASTSEC_SEC (k : Nat) : Fld := ⟨REELk_TLASTSEC k, 47, 0⟩

/-- REELk_TLASTFRAC (R211). -/
def REELk_TLASTFRAC (k : Nat) : Nat := 0x100D0068 + 0x80 * k
/-- REELk_TLASTFRAC.FRAC [47:0] RO: Fraction of the last sample. -/
def REELk_TLASTFRAC_FRAC (k : Nat) : Fld := ⟨REELk_TLASTFRAC k, 47, 0⟩

/-- REEL_STAT (R211). -/
def REEL_STAT : Nat := 0x100D0400
/-- REEL_STAT.CFGERR [8:8] W1C: A configuration write was ignored. -/
def REEL_STAT_CFGERR : Fld := ⟨REEL_STAT, 8, 8⟩
/-- REEL_STAT.DONE [7:0] W1C: Bit k: input k ended. -/
def REEL_STAT_DONE : Fld := ⟨REEL_STAT, 7, 0⟩

/-- REEL_INTEN (R211). -/
def REEL_INTEN : Nat := 0x100D0408
/-- REEL_INTEN.EN [8:0] RW: Enables of the matching STAT bits. -/
def REEL_INTEN_EN : Fld := ⟨REEL_INTEN, 8, 0⟩

/-- KCn_CTRL (R266). -/
def KCn_CTRL (n : Nat) : Nat := 0x100E0000 + 0x1000 * n
/-- KCn_CTRL.NMI [4:4] WO: Raise NMI. -/
def KCn_CTRL_NMI (n : Nat) : Fld := ⟨KCn_CTRL n, 4, 4⟩
/-- KCn_CTRL.STEP [3:3] WO: Execute one instruction while HALTED; DBG only. -/
def KCn_CTRL_STEP (n : Nat) : Fld := ⟨KCn_CTRL n, 3, 3⟩
/-- KCn_CTRL.HALTREQ [2:2] RW: Hold the core HALTED; DBG only. -/
def KCn_CTRL_HALTREQ (n : Nat) : Fld := ⟨KCn_CTRL n, 2, 2⟩
/-- KCn_CTRL.RESET [1:1] WO: Reset the core, R252. -/
def KCn_CTRL_RESET (n : Nat) : Fld := ⟨KCn_CTRL n, 1, 1⟩
/-- KCn_CTRL.START [0:0] WO: Leave RESET or STOPPED, R250. -/
def KCn_CTRL_START (n : Nat) : Fld := ⟨KCn_CTRL n, 0, 0⟩

/-- KCn_STAT (R266). -/
def KCn_STAT (n : Nat) : Nat := 0x100E0008 + 0x1000 * n
/-- KCn_STAT.ECAUSE [23:19] RO: Last cause taken. -/
def KCn_STAT_ECAUSE (n : Nat) : Fld := ⟨KCn_STAT n, 23, 19⟩
/-- KCn_STAT.STATE [18:16] RO: R250; SV resets to 1, the others to 0. -/
def KCn_STAT_STATE (n : Nat) : Fld := ⟨KCn_STAT n, 18, 16⟩
/-- KCn_STAT.FCAUSE [15:12] RO: 0 none; 1 DFAULT; 2 WDOG. -/
def KCn_STAT_FCAUSE (n : Nat) : Fld := ⟨KCn_STAT n, 15, 12⟩
/-- KCn_STAT.TEXP [2:2] W1C: Timer expired; timer source. -/
def KCn_STAT_TEXP (n : Nat) : Fld := ⟨KCn_STAT n, 2, 2⟩
/-- KCn_STAT.FAULT [1:1] W1C: FAULT entered. -/
def KCn_STAT_FAULT (n : Nat) : Fld := ⟨KCn_STAT n, 1, 1⟩
/-- KCn_STAT.HALTED [0:0] W1C: HALTED entered. -/
def KCn_STAT_HALTED (n : Nat) : Fld := ⟨KCn_STAT n, 0, 0⟩

/-- KCn_BOOTPC (R266). -/
def KCn_BOOTPC (n : Nat) : Nat := 0x100E0010 + 0x1000 * n
/-- KCn_BOOTPC.PC [13:0] RW: Start address after RESET. -/
def KCn_BOOTPC_PC (n : Nat) : Fld := ⟨KCn_BOOTPC n, 13, 0⟩

/-- KCn_PC (R266). -/
def KCn_PC (n : Nat) : Nat := 0x100E0018 + 0x1000 * n
/-- KCn_PC.PC [13:0] RO: Next instruction to issue; valid outside RUN and WAIT. -/
def KCn_PC_PC (n : Nat) : Fld := ⟨KCn_PC n, 13, 0⟩

/-- KCn_ECC (R266). -/
def KCn_ECC (n : Nat) : Nat := 0x100E0020 + 0x1000 * n
/-- KCn_ECC.DMCORR [31:16] RO: Corrected data errors; wraps. -/
def KCn_ECC_DMCORR (n : Nat) : Fld := ⟨KCn_ECC n, 31, 16⟩
/-- KCn_ECC.DMUNC [15:8] RO: Uncorrectable data errors; wraps. -/
def KCn_ECC_DMUNC (n : Nat) : Fld := ⟨KCn_ECC n, 15, 8⟩
/-- KCn_ECC.IMPAR [7:0] RO: Instruction parity errors; wraps. -/
def KCn_ECC_IMPAR (n : Nat) : Fld := ⟨KCn_ECC n, 7, 0⟩

/-- KCn_COLLIDE (R266). -/
def KCn_COLLIDE (n : Nat) : Nat := 0x100E0028 + 0x1000 * n
/-- KCn_COLLIDE.COUNT [31:0] RO: Same-word double writes, R215; wraps. -/
def KCn_COLLIDE_COUNT (n : Nat) : Fld := ⟨KCn_COLLIDE n, 31, 0⟩

/-- KCn_CYCLE (R266). -/
def KCn_CYCLE (n : Nat) : Nat := 0x100E0030 + 0x1000 * n
/-- KCn_CYCLE.COUNT [47:0] RO: Cycles in RUN; wraps. -/
def KCn_CYCLE_COUNT (n : Nat) : Fld := ⟨KCn_CYCLE n, 47, 0⟩

/-- KCn_STALL (R266). -/
def KCn_STALL (n : Nat) : Nat := 0x100E0038 + 0x1000 * n
/-- KCn_STALL.COUNT [47:0] RO: Cycles in RUN with no issue; wraps. -/
def KCn_STALL_COUNT (n : Nat) : Fld := ⟨KCn_STALL n, 47, 0⟩

/-- KCn_BUSERR (R266). -/
def KCn_BUSERR (n : Nat) : Nat := 0x100E0040 + 0x1000 * n
/-- KCn_BUSERR.ADDR [31:0] RO: Address of the last error response. -/
def KCn_BUSERR_ADDR (n : Nat) : Fld := ⟨KCn_BUSERR n, 31, 0⟩

/-- KCn_BUSINFO (R266). -/
def KCn_BUSINFO (n : Nat) : Nat := 0x100E0048 + 0x1000 * n
/-- KCn_BUSINFO.STORE [4:4] RO: 1: store; 0: load or atomic. -/
def KCn_BUSINFO_STORE (n : Nat) : Fld := ⟨KCn_BUSINFO n, 4, 4⟩
/-- KCn_BUSINFO.SIZE [2:0] RO: SIZE code of the access. -/
def KCn_BUSINFO_SIZE (n : Nat) : Fld := ⟨KCn_BUSINFO n, 2, 0⟩

/-- KCn_DBELL (R266). -/
def KCn_DBELL (n : Nat) : Nat := 0x100E0050 + 0x1000 * n
/-- KCn_DBELL.BITS [15:0] W1C: Doorbell bits, R249. -/
def KCn_DBELL_BITS (n : Nat) : Fld := ⟨KCn_DBELL n, 15, 0⟩

/-- KCn_DBSET (R266). -/
def KCn_DBSET (n : Nat) : Nat := 0x100E0058 + 0x1000 * n
/-- KCn_DBSET.BITS [15:0] W1S: A 1 sets the matching doorbell bit; reads zero. -/
def KCn_DBSET_BITS (n : Nat) : Fld := ⟨KCn_DBSET n, 15, 0⟩

/-- KCn_TIMER (R266). -/
def KCn_TIMER (n : Nat) : Nat := 0x100E0060 + 0x1000 * n
/-- KCn_TIMER.COUNT [31:0] RW: Ticks to expiry. -/
def KCn_TIMER_COUNT (n : Nat) : Fld := ⟨KCn_TIMER n, 31, 0⟩

/-- KCn_TRELOAD (R266). -/
def KCn_TRELOAD (n : Nat) : Nat := 0x100E0068 + 0x1000 * n
/-- KCn_TRELOAD.PERIODIC [32:32] RW: Reload on expiry. -/
def KCn_TRELOAD_PERIODIC (n : Nat) : Fld := ⟨KCn_TRELOAD n, 32, 32⟩
/-- KCn_TRELOAD.RELOAD [31:0] RW: Period in ticks. -/
def KCn_TRELOAD_RELOAD (n : Nat) : Fld := ⟨KCn_TRELOAD n, 31, 0⟩

/-- KC_IRTs (R267). -/
def KC_IRTs (s : Nat) : Nat := 0x100E8000 + 0x8 * s
/-- KC_IRTs.EN [8:8] RW: Source enabled; fixed sources read 1. -/
def KC_IRTs_EN (s : Nat) : Fld := ⟨KC_IRTs s, 8, 8⟩
/-- KC_IRTs.LINE [7:4] RW: Interrupt line 0–15. -/
def KC_IRTs_LINE (s : Nat) : Fld := ⟨KC_IRTs s, 7, 4⟩
/-- KC_IRTs.CORE [2:0] RW: Core number 0–6. -/
def KC_IRTs_CORE (s : Nat) : Fld := ⟨KC_IRTs s, 2, 0⟩

/-- MEM_CTRL (R486). -/
def MEM_CTRL : Nat := 0x100F0000
/-- MEM_CTRL.CONFCLR [16:16] WO: Zero every conflict counter (R459). -/
def MEM_CTRL_CONFCLR : Fld := ⟨MEM_CTRL, 16, 16⟩
/-- MEM_CTRL.SCRUBINT [15:0] RW: Cycles between scrub reads per bank; 0 off. -/
def MEM_CTRL_SCRUBINT : Fld := ⟨MEM_CTRL, 15, 0⟩

/-- MEM_STAT (R486). -/
def MEM_STAT : Nat := 0x100F0008
/-- MEM_STAT.REPERR [5:5] W1C: A repair was refused. -/
def MEM_STAT_REPERR : Fld := ⟨MEM_STAT, 5, 5⟩
/-- MEM_STAT.MARCHERR [4:4] W1C: A march command was ignored. -/
def MEM_STAT_MARCHERR : Fld := ⟨MEM_STAT, 4, 4⟩
/-- MEM_STAT.MARCHDONE [3:3] W1C: A march test ended. -/
def MEM_STAT_MARCHDONE : Fld := ⟨MEM_STAT, 3, 3⟩
/-- MEM_STAT.BADBANK [2:2] W1C: A bank was marked bad. -/
def MEM_STAT_BADBANK : Fld := ⟨MEM_STAT, 2, 2⟩
/-- MEM_STAT.UE [1:1] W1C: An uncorrectable error occurred. -/
def MEM_STAT_UE : Fld := ⟨MEM_STAT, 1, 1⟩
/-- MEM_STAT.CORR [0:0] W1C: A single-bit error was corrected. -/
def MEM_STAT_CORR : Fld := ⟨MEM_STAT, 0, 0⟩

/-- MEM_INTEN (R485). -/
def MEM_INTEN : Nat := 0x100F0010
/-- MEM_INTEN.EN [5:0] RW: Enables of the matching STAT bits. -/
def MEM_INTEN_EN : Fld := ⟨MEM_INTEN, 5, 0⟩

/-- MEM_ECC (R486). -/
def MEM_ECC : Nat := 0x100F0018
/-- MEM_ECC.CORR [47:24] RO: Corrected errors; wraps. -/
def MEM_ECC_CORR : Fld := ⟨MEM_ECC, 47, 24⟩
/-- MEM_ECC.UNC [23:0] RO: Uncorrectable errors; wraps. -/
def MEM_ECC_UNC : Fld := ⟨MEM_ECC, 23, 0⟩

/-- MEM_ECCADDR (R486). -/
def MEM_ECCADDR : Nat := 0x100F0020
/-- MEM_ECCADDR.UE [32:32] RO: The last error was uncorrectable. -/
def MEM_ECCADDR_UE : Fld := ⟨MEM_ECCADDR, 32, 32⟩
/-- MEM_ECCADDR.ADDR [31:0] RO: Address of the last error. -/
def MEM_ECCADDR_ADDR : Fld := ⟨MEM_ECCADDR, 31, 0⟩

/-- MEM_MARCHCMD (R486). -/
def MEM_MARCHCMD : Nat := 0x100F0028
/-- MEM_MARCHCMD.GO [17:17] WO: Start the test. -/
def MEM_MARCHCMD_GO : Fld := ⟨MEM_MARCHCMD, 17, 17⟩
/-- MEM_MARCHCMD.MODE [16:16] WO: 0 destructive; 1 preserving. -/
def MEM_MARCHCMD_MODE : Fld := ⟨MEM_MARCHCMD, 16, 16⟩
/-- MEM_MARCHCMD.LAST [13:8] WO: Last bank. -/
def MEM_MARCHCMD_LAST : Fld := ⟨MEM_MARCHCMD, 13, 8⟩
/-- MEM_MARCHCMD.FIRST [5:0] WO: First bank. -/
def MEM_MARCHCMD_FIRST : Fld := ⟨MEM_MARCHCMD, 5, 0⟩

/-- MEM_MARCHSTAT (R486). -/
def MEM_MARCHSTAT : Nat := 0x100F0030
/-- MEM_MARCHSTAT.BUSY [33:33] RO: A test is running. -/
def MEM_MARCHSTAT_BUSY : Fld := ⟨MEM_MARCHSTAT, 33, 33⟩
/-- MEM_MARCHSTAT.PRES [32:32] RO: Mode of the last test. -/
def MEM_MARCHSTAT_PRES : Fld := ⟨MEM_MARCHSTAT, 32, 32⟩
/-- MEM_MARCHSTAT.FAILS [31:16] RO: Failing granules, saturating. -/
def MEM_MARCHSTAT_FAILS : Fld := ⟨MEM_MARCHSTAT, 31, 16⟩
/-- MEM_MARCHSTAT.ROW [10:0] RO: Row in progress. -/
def MEM_MARCHSTAT_ROW : Fld := ⟨MEM_MARCHSTAT, 10, 0⟩

/-- MEM_MARCHFAIL (R486). -/
def MEM_MARCHFAIL : Nat := 0x100F0038
/-- MEM_MARCHFAIL.VALID [32:32] RO: ADDR holds a failure. -/
def MEM_MARCHFAIL_VALID : Fld := ⟨MEM_MARCHFAIL, 32, 32⟩
/-- MEM_MARCHFAIL.ADDR [31:0] RO: First failing word. -/
def MEM_MARCHFAIL_ADDR : Fld := ⟨MEM_MARCHFAIL, 31, 0⟩

/-- MEM_BADBANK (R486). -/
def MEM_BADBANK : Nat := 0x100F0040
/-- MEM_BADBANK.BANKS [47:0] RO: Bit b: bank b is bad. -/
def MEM_BADBANK_BANKS : Fld := ⟨MEM_BADBANK, 47, 0⟩

/-- MEM_REPAIRCMD (R486). -/
def MEM_REPAIRCMD : Nat := 0x100F0048
/-- MEM_REPAIRCMD.GO [17:17] WO: Record the repair (R464). -/
def MEM_REPAIRCMD_GO : Fld := ⟨MEM_REPAIRCMD, 17, 17⟩
/-- MEM_REPAIRCMD.BANK [16:11] WO: Bank. -/
def MEM_REPAIRCMD_BANK : Fld := ⟨MEM_REPAIRCMD, 16, 11⟩
/-- MEM_REPAIRCMD.ROW [10:0] WO: Row. -/
def MEM_REPAIRCMD_ROW : Fld := ⟨MEM_REPAIRCMD, 10, 0⟩

/-- MEMb_REPAIR (R486). -/
def MEMb_REPAIR (b : Nat) : Nat := 0x100F0800 + 0x8 * b
/-- MEMb_REPAIR.USED [47:45] RO: Spares in force, 0 to 4. -/
def MEMb_REPAIR_USED (b : Nat) : Fld := ⟨MEMb_REPAIR b, 47, 45⟩
/-- MEMb_REPAIR.REPPEND [44:44] RO: A repair awaits the next cold reset. -/
def MEMb_REPAIR_REPPEND (b : Nat) : Fld := ⟨MEMb_REPAIR b, 44, 44⟩
/-- MEMb_REPAIR.ROWS [43:0] RO: Row of spare k in bits [11k+10:11k]. -/
def MEMb_REPAIR_ROWS (b : Nat) : Fld := ⟨MEMb_REPAIR b, 43, 0⟩

/-- MEMb_CONFi (R486). -/
def MEMb_CONFi (b i : Nat) : Nat := 0x100F1000 + 0x80 * b + 0x8 * i
/-- MEMb_CONFi.COUNT [31:0] RO: Wait cycles (R459); wraps. -/
def MEMb_CONFi_COUNT (b i : Nat) : Fld := ⟨MEMb_CONFi b i, 31, 0⟩

/-- IC_STAT (R487). -/
def IC_STAT : Nat := 0x10100000
/-- IC_STAT.OVF [1:1] W1C: An entry was dropped. -/
def IC_STAT_OVF : Fld := ⟨IC_STAT, 1, 1⟩
/-- IC_STAT.ERR [0:0] W1C: An entry was logged. -/
def IC_STAT_ERR : Fld := ⟨IC_STAT, 0, 0⟩

/-- IC_INTEN (R485). -/
def IC_INTEN : Nat := 0x10100008
/-- IC_INTEN.EN [1:0] RW: Enables of the matching STAT bits. -/
def IC_INTEN_EN : Fld := ⟨IC_INTEN, 1, 0⟩

/-- IC_ERRLOG (R487). -/
def IC_ERRLOG : Nat := 0x10100010
/-- IC_ERRLOG.ADDR [31:0] RO: Address of the oldest entry (R472). -/
def IC_ERRLOG_ADDR : Fld := ⟨IC_ERRLOG, 31, 0⟩

/-- IC_ERRINFO (R487). -/
def IC_ERRINFO : Nat := 0x10100018
/-- IC_ERRINFO.VALID [15:15] RO: An entry was latched. -/
def IC_ERRINFO_VALID : Fld := ⟨IC_ERRINFO, 15, 15⟩
/-- IC_ERRINFO.OVFBEFORE [14:14] RO: Entries were dropped before this one. -/
def IC_ERRINFO_OVFBEFORE : Fld := ⟨IC_ERRINFO, 14, 14⟩
/-- IC_ERRINFO.WRITE [13:13] RO: 1: write; 0: read or atomic. -/
def IC_ERRINFO_WRITE : Fld := ⟨IC_ERRINFO, 13, 13⟩
/-- IC_ERRINFO.INIT [11:8] RO: Initiator ID. -/
def IC_ERRINFO_INIT : Fld := ⟨IC_ERRINFO, 11, 8⟩
/-- IC_ERRINFO.CAUSE [4:0] RO: R471. -/
def IC_ERRINFO_CAUSE : Fld := ⟨IC_ERRINFO, 4, 0⟩

/-- IC_ERRCNT (R487). -/
def IC_ERRCNT : Nat := 0x10100020
/-- IC_ERRCNT.DROPPED [31:16] RO: Entries dropped; wraps. -/
def IC_ERRCNT_DROPPED : Fld := ⟨IC_ERRCNT, 31, 16⟩
/-- IC_ERRCNT.LOGGED [15:0] RO: Entries logged; wraps. -/
def IC_ERRCNT_LOGGED : Fld := ⟨IC_ERRCNT, 15, 0⟩

/-- IC_FWDEF (R487). -/
def IC_FWDEF : Nat := 0x10100028
/-- IC_FWDEF.PERM [31:0] RW: Permission outside every region. -/
def IC_FWDEF_PERM : Fld := ⟨IC_FWDEF, 31, 0⟩

/-- IC_FWCTRL (R487). -/
def IC_FWCTRL : Nat := 0x10100030
/-- IC_FWCTRL.LOCK [0:0] W1S: Freeze the firewall (R470). -/
def IC_FWCTRL_LOCK : Fld := ⟨IC_FWCTRL, 0, 0⟩

/-- IC_INFLIGHT (R487). -/
def IC_INFLIGHT : Nat := 0x10100038
/-- IC_INFLIGHT.STALLS [47:16] RO: Cycles an initiator waited for a slot; wraps. -/
def IC_INFLIGHT_STALLS : Fld := ⟨IC_INFLIGHT, 47, 16⟩
/-- IC_INFLIGHT.PEAK [15:8] RO: Most in flight since reset. -/
def IC_INFLIGHT_PEAK : Fld := ⟨IC_INFLIGHT, 15, 8⟩
/-- IC_INFLIGHT.NOW [7:0] RO: In flight. -/
def IC_INFLIGHT_NOW : Fld := ⟨IC_INFLIGHT, 7, 0⟩

/-- IC_FWn_BASE (R487). -/
def IC_FWn_BASE (n : Nat) : Nat := 0x10100100 + 0x20 * n
/-- IC_FWn_BASE.EN [32:32] RW: Region enable. -/
def IC_FWn_BASE_EN (n : Nat) : Fld := ⟨IC_FWn_BASE n, 32, 32⟩
/-- IC_FWn_BASE.BASE [31:12] RW: First page. -/
def IC_FWn_BASE_BASE (n : Nat) : Fld := ⟨IC_FWn_BASE n, 31, 12⟩

/-- IC_FWn_LIMIT (R487). -/
def IC_FWn_LIMIT (n : Nat) : Nat := 0x10100108 + 0x20 * n
/-- IC_FWn_LIMIT.LIMIT [31:12] RW: Last page, included. -/
def IC_FWn_LIMIT_LIMIT (n : Nat) : Fld := ⟨IC_FWn_LIMIT n, 31, 12⟩

/-- IC_FWn_PERM (R487). -/
def IC_FWn_PERM (n : Nat) : Nat := 0x10100110 + 0x20 * n
/-- IC_FWn_PERM.PERM [31:0] RW: Region permission. -/
def IC_FWn_PERM_PERM (n : Nat) : Fld := ⟨IC_FWn_PERM n, 31, 0⟩

/-- NVS_STAT (R488). -/
def NVS_STAT : Nat := 0x10140000
/-- NVS_STAT.CHAINBAD [8:8] RO: No valid copy (R480). -/
def NVS_STAT_CHAINBAD : Fld := ⟨NVS_STAT, 8, 8⟩
/-- NVS_STAT.LOCKED [7:7] RO: The copy in force is locked. -/
def NVS_STAT_LOCKED : Fld := ⟨NVS_STAT, 7, 7⟩
/-- NVS_STAT.CHAINRDY [6:6] RO: First mirror load complete. -/
def NVS_STAT_CHAINRDY : Fld := ⟨NVS_STAT, 6, 6⟩
/-- NVS_STAT.BUSY [5:5] RO: A Chain command is running. -/
def NVS_STAT_BUSY : Fld := ⟨NVS_STAT, 5, 5⟩
/-- NVS_STAT.OTPERR [4:4] W1C: An OTP command was refused. -/
def NVS_STAT_OTPERR : Fld := ⟨NVS_STAT, 4, 4⟩
/-- NVS_STAT.OTPDONE [3:3] W1C: An OTP command completed. -/
def NVS_STAT_OTPDONE : Fld := ⟨NVS_STAT, 3, 3⟩
/-- NVS_STAT.UE [2:2] W1C: An uncorrectable store error occurred. -/
def NVS_STAT_UE : Fld := ⟨NVS_STAT, 2, 2⟩
/-- NVS_STAT.CHFAIL [1:1] W1C: A Chain command failed. -/
def NVS_STAT_CHFAIL : Fld := ⟨NVS_STAT, 1, 1⟩
/-- NVS_STAT.CHDONE [0:0] W1C: A Chain command succeeded. -/
def NVS_STAT_CHDONE : Fld := ⟨NVS_STAT, 0, 0⟩

/-- NVS_INTEN (R485). -/
def NVS_INTEN : Nat := 0x10140008
/-- NVS_INTEN.EN [4:0] RW: Enables of the matching STAT bits. -/
def NVS_INTEN_EN : Fld := ⟨NVS_INTEN, 4, 0⟩

/-- NVS_ECC (R488). -/
def NVS_ECC : Nat := 0x10140010
/-- NVS_ECC.CORR [47:24] RO: Corrected errors; wraps. -/
def NVS_ECC_CORR : Fld := ⟨NVS_ECC, 47, 24⟩
/-- NVS_ECC.UNC [23:0] RO: Uncorrectable errors; wraps. -/
def NVS_ECC_UNC : Fld := ⟨NVS_ECC, 23, 0⟩

/-- NVS_CHCMD (R488). -/
def NVS_CHCMD : Nat := 0x10140018
/-- NVS_CHCMD.OP [35:32] WO: R481. -/
def NVS_CHCMD_OP : Fld := ⟨NVS_CHCMD, 35, 32⟩
/-- NVS_CHCMD.ADDR [31:6] WO: Address bits [31:6]. -/
def NVS_CHCMD_ADDR : Fld := ⟨NVS_CHCMD, 31, 6⟩

/-- NVS_CHRES (R488). -/
def NVS_CHRES : Nat := 0x10140020
/-- NVS_CHRES.RESULT [15:8] RO: R483. -/
def NVS_CHRES_RESULT : Fld := ⟨NVS_CHRES, 15, 8⟩
/-- NVS_CHRES.OP [3:0] RO: Operation of the result. -/
def NVS_CHRES_OP : Fld := ⟨NVS_CHRES, 3, 0⟩

/-- NVS_CHGEN (R488). -/
def NVS_CHGEN : Nat := 0x10140028
/-- NVS_CHGEN.GEN [31:0] RO: GEN of the copy in force. Reset: NVS. -/
def NVS_CHGEN_GEN : Fld := ⟨NVS_CHGEN, 31, 0⟩

/-- NVS_CHSEQ (R488). -/
def NVS_CHSEQ : Nat := 0x10140030
/-- NVS_CHSEQ.SEQ [31:0] RO: CMDSEQ of the copy in force. Reset: NVS. -/
def NVS_CHSEQ_SEQ : Fld := ⟨NVS_CHSEQ, 31, 0⟩

/-- NVS_OTPCMD (R488). -/
def NVS_OTPCMD : Nat := 0x10140038
/-- NVS_OTPCMD.PROG [8:8] WO: Program row ROW (R476). -/
def NVS_OTPCMD_PROG : Fld := ⟨NVS_OTPCMD, 8, 8⟩
/-- NVS_OTPCMD.READ [7:7] WO: Read row ROW. -/
def NVS_OTPCMD_READ : Fld := ⟨NVS_OTPCMD, 7, 7⟩
/-- NVS_OTPCMD.ROW [6:0] WO: OTP row. -/
def NVS_OTPCMD_ROW : Fld := ⟨NVS_OTPCMD, 6, 0⟩

/-- NVS_OTPDATAH (R488). -/
def NVS_OTPDATAH : Nat := 0x10140040
/-- NVS_OTPDATAH.DATA [31:0] RW: Row bits [63:32] and [31:0]. -/
def NVS_OTPDATAH_DATA : Fld := ⟨NVS_OTPDATAH, 31, 0⟩

/-- NVS_OTPDATAL (R488). -/
def NVS_OTPDATAL : Nat := 0x10140048
/-- NVS_OTPDATAL.DATA [31:0] RW: Row bits [63:32] and [31:0]. -/
def NVS_OTPDATAL_DATA : Fld := ⟨NVS_OTPDATAL, 31, 0⟩

/-- ETHn_CTRL (R417). -/
def ETHn_CTRL (n : Nat) : Nat := 0x10110000 + 0x4000 * n
/-- ETHn_CTRL.REFSRC [6:6] RW: 0 root; 1 OSY3 output 1 (R391). -/
def ETHn_CTRL_REFSRC (n : Nat) : Fld := ⟨ETHn_CTRL n, 6, 6⟩
/-- ETHn_CTRL.AN [5:5] RW: Autonegotiation (R390). -/
def ETHn_CTRL_AN (n : Nat) : Fld := ⟨ETHn_CTRL n, 5, 5⟩
/-- ETHn_CTRL.FEC [4:3] RW: 0 none; 1 clause 74; 2 clause 108; 3 treated as 0. -/
def ETHn_CTRL_FEC (n : Nat) : Fld := ⟨ETHn_CTRL n, 4, 3⟩
/-- ETHn_CTRL.RATE [2:1] RW: R390. -/
def ETHn_CTRL_RATE (n : Nat) : Fld := ⟨ETHn_CTRL n, 2, 1⟩
/-- ETHn_CTRL.EN [0:0] RW: Port enable. -/
def ETHn_CTRL_EN (n : Nat) : Fld := ⟨ETHn_CTRL n, 0, 0⟩

/-- ETHn_STAT (R417). -/
def ETHn_STAT (n : Nat) : Nat := 0x10110008 + 0x4000 * n
/-- ETHn_STAT.RXFVALID [14:14] RO: RXFREQ valid. -/
def ETHn_STAT_RXFVALID (n : Nat) : Fld := ⟨ETHn_STAT n, 14, 14⟩
/-- ETHn_STAT.REFFB [13:13] RO: Transmit reference fell back to the root. -/
def ETHn_STAT_REFFB (n : Nat) : Fld := ⟨ETHn_STAT n, 13, 13⟩
/-- ETHn_STAT.LINK_UP [12:12] RO: Link up. -/
def ETHn_STAT_LINK_UP (n : Nat) : Fld := ⟨ETHn_STAT n, 12, 12⟩
/-- ETHn_STAT.NOKEY [9:9] W1C: Key slot empty (R407). -/
def ETHn_STAT_NOKEY (n : Nat) : Fld := ⟨ETHn_STAT n, 9, 9⟩
/-- ETHn_STAT.AUTHFAIL [8:8] W1C: A message failed verification. -/
def ETHn_STAT_AUTHFAIL (n : Nat) : Fld := ⟨ETHn_STAT n, 8, 8⟩
/-- ETHn_STAT.RESPDROP [7:7] W1C: A Delay_Req was discarded. -/
def ETHn_STAT_RESPDROP (n : Nat) : Fld := ⟨ETHn_STAT n, 7, 7⟩
/-- ETHn_STAT.NOTSENT [6:6] W1C: A Sync instant was not sent. -/
def ETHn_STAT_NOTSENT (n : Nat) : Fld := ⟨ETHn_STAT n, 6, 6⟩
/-- ETHn_STAT.ESMCTO [5:5] W1C: ESMC timed out. -/
def ETHn_STAT_ESMCTO (n : Nat) : Fld := ⟨ETHn_STAT n, 5, 5⟩
/-- ETHn_STAT.QLCHG [4:4] W1C: TXQL changed. -/
def ETHn_STAT_QLCHG (n : Nat) : Fld := ⟨ETHn_STAT n, 4, 4⟩
/-- ETHn_STAT.RXDROP [3:3] W1C: A frame was discarded. -/
def ETHn_STAT_RXDROP (n : Nat) : Fld := ⟨ETHn_STAT n, 3, 3⟩
/-- ETHn_STAT.TXDONE [2:2] W1C: A transmit slot completed. -/
def ETHn_STAT_TXDONE (n : Nat) : Fld := ⟨ETHn_STAT n, 2, 2⟩
/-- ETHn_STAT.RXFRAME [1:1] W1C: A receive slot was written. -/
def ETHn_STAT_RXFRAME (n : Nat) : Fld := ⟨ETHn_STAT n, 1, 1⟩
/-- ETHn_STAT.CFGERR [0:0] W1C: A configuration write was refused. -/
def ETHn_STAT_CFGERR (n : Nat) : Fld := ⟨ETHn_STAT n, 0, 0⟩

/-- ETHn_INTEN (R417). -/
def ETHn_INTEN (n : Nat) : Nat := 0x10110010 + 0x4000 * n
/-- ETHn_INTEN.EN [9:0] RW: Enables of the matching STAT bits. -/
def ETHn_INTEN_EN (n : Nat) : Fld := ⟨ETHn_INTEN n, 9, 0⟩

/-- ETHn_PMALAT (R417). -/
def ETHn_PMALAT (n : Nat) : Nat := 0x10110018 + 0x4000 * n
/-- ETHn_PMALAT.RX [47:24] RO: Receive latency, fine steps (R393). -/
def ETHn_PMALAT_RX (n : Nat) : Fld := ⟨ETHn_PMALAT n, 47, 24⟩
/-- ETHn_PMALAT.TX [23:0] RO: Transmit latency, fine steps. -/
def ETHn_PMALAT_TX (n : Nat) : Fld := ⟨ETHn_PMALAT n, 23, 0⟩

/-- ETHn_TXPATH (R417). -/
def ETHn_TXPATH (n : Nat) : Nat := 0x10110020 + 0x4000 * n
/-- ETHn_TXPATH.PATH [23:0] RW: Board path, fine steps; Chain. -/
def ETHn_TXPATH_PATH (n : Nat) : Fld := ⟨ETHn_TXPATH n, 23, 0⟩

/-- ETHn_RXPATH (R417). -/
def ETHn_RXPATH (n : Nat) : Nat := 0x10110028 + 0x4000 * n
/-- ETHn_RXPATH.PATH [23:0] RW: Board path, fine steps; Chain. -/
def ETHn_RXPATH_PATH (n : Nat) : Fld := ⟨ETHn_RXPATH n, 23, 0⟩

/-- ETHn_ASYM (R417). -/
def ETHn_ASYM (n : Nat) : Nat := 0x10110030 + 0x4000 * n
/-- ETHn_ASYM.ASYM [23:0] RW: delayAsymmetry, two's complement, fine steps; Chain. -/
def ETHn_ASYM_ASYM (n : Nat) : Fld := ⟨ETHn_ASYM n, 23, 0⟩

/-- ETHn_MACADDR (R417). -/
def ETHn_MACADDR (n : Nat) : Nat := 0x10110038 + 0x4000 * n
/-- ETHn_MACADDR.MAC [47:0] RW: Port MAC address, first octet in [47:40]. -/
def ETHn_MACADDR_MAC (n : Nat) : Fld := ⟨ETHn_MACADDR n, 47, 0⟩

/-- ETHn_IPV4 (R417). -/
def ETHn_IPV4 (n : Nat) : Nat := 0x10110040 + 0x4000 * n
/-- ETHn_IPV4.ADDR [31:0] RW: IPv4 address. -/
def ETHn_IPV4_ADDR (n : Nat) : Fld := ⟨ETHn_IPV4 n, 31, 0⟩

/-- ETHn_IPV6_i (R417). -/
def ETHn_IPV6_i (n i : Nat) : Nat := 0x10110048 + 0x4000 * n + 0x8 * i
/-- ETHn_IPV6_i.ADDR [47:0] RW: IPv6 address bits [48i + 47:48i]; in IPV6_2, bits [47:32] are RSV. -/
def ETHn_IPV6_i_ADDR (n i : Nat) : Fld := ⟨ETHn_IPV6_i n i, 47, 0⟩

/-- ETHn_VLAN (R417). -/
def ETHn_VLAN (n : Nat) : Nat := 0x10110060 + 0x4000 * n
/-- ETHn_VLAN.EN [16:16] RW: Tag hardware-generated frames. -/
def ETHn_VLAN_EN (n : Nat) : Fld := ⟨ETHn_VLAN n, 16, 16⟩
/-- ETHn_VLAN.TCI [15:0] RW: Tag control information. -/
def ETHn_VLAN_TCI (n : Nat) : Fld := ⟨ETHn_VLAN n, 15, 0⟩

/-- ETHn_PTPCFG (R417). -/
def ETHn_PTPCFG (n : Nat) : Nat := 0x10110068 + 0x4000 * n
/-- ETHn_PTPCFG.DOMAIN [47:40] RW: domainNumber. -/
def ETHn_PTPCFG_DOMAIN (n : Nat) : Fld := ⟨ETHn_PTPCFG n, 47, 40⟩
/-- ETHn_PTPCFG.PROFILE [39:36] RW: 0 default E2E; 1 default P2P; 2 G.8275.1; 3 G.8275.2; others treated as 0. -/
def ETHn_PTPCFG_PROFILE (n : Nat) : Fld := ⟨ETHn_PTPCFG n, 39, 36⟩
/-- ETHn_PTPCFG.TRANSPORT [35:34] RW: 0 IEEE 802.3; 1 UDP/IPv4; 2 UDP/IPv6; 3 treated as 0. -/
def ETHn_PTPCFG_TRANSPORT (n : Nat) : Fld := ⟨ETHn_PTPCFG n, 35, 34⟩
/-- ETHn_PTPCFG.L2DA [33:33] RW: 0 01-1B-19-00-00-00; 1 01-80-C2-00-00-0E. -/
def ETHn_PTPCFG_L2DA (n : Nat) : Fld := ⟨ETHn_PTPCFG n, 33, 33⟩
/-- ETHn_PTPCFG.ONESTEP [32:32] RW: One-step Sync (R396, R405). -/
def ETHn_PTPCFG_ONESTEP (n : Nat) : Fld := ⟨ETHn_PTPCFG n, 32, 32⟩
/-- ETHn_PTPCFG.VERSION [31:31] RW: 0 IEEE 1588-2008; 1 IEEE 1588-2019. -/
def ETHn_PTPCFG_VERSION (n : Nat) : Fld := ⟨ETHn_PTPCFG n, 31, 31⟩
/-- ETHn_PTPCFG.ROLE [30:30] RW: 0 time transmitter; 1 time receiver. -/
def ETHn_PTPCFG_ROLE (n : Nat) : Fld := ⟨ETHn_PTPCFG n, 30, 30⟩
/-- ETHn_PTPCFG.AUTHMODE [29:28] RW: 0 off; 1 sign when keyed; 2 required; 3 treated as 2. -/
def ETHn_PTPCFG_AUTHMODE (n : Nat) : Fld := ⟨ETHn_PTPCFG n, 29, 28⟩

/-- ETHn_MCAST (R417). -/
def ETHn_MCAST (n : Nat) : Nat := 0x10110070 + 0x4000 * n
/-- ETHn_MCAST.DRESP [8:8] RW: Answer multicast Delay_Req. -/
def ETHn_MCAST_DRESP (n : Nat) : Fld := ⟨ETHn_MCAST n, 8, 8⟩
/-- ETHn_MCAST.EN [7:7] RW: Multicast Sync stream. -/
def ETHn_MCAST_EN (n : Nat) : Fld := ⟨ETHn_MCAST n, 7, 7⟩
/-- ETHn_MCAST.SYNCLOG [3:0] RW: Log period, −7 to +4; other values treated as −7. -/
def ETHn_MCAST_SYNCLOG (n : Nat) : Fld := ⟨ETHn_MCAST n, 3, 0⟩

/-- ETHn_AUTHCFG (R417). -/
def ETHn_AUTHCFG (n : Nat) : Nat := 0x10110078 + 0x4000 * n
/-- ETHn_AUTHCFG.KEYID [47:16] RW: keyID. -/
def ETHn_AUTHCFG_KEYID (n : Nat) : Fld := ⟨ETHn_AUTHCFG n, 47, 16⟩
/-- ETHn_AUTHCFG.SPP [15:8] RW: Security parameter pointer. -/
def ETHn_AUTHCFG_SPP (n : Nat) : Fld := ⟨ETHn_AUTHCFG n, 15, 8⟩
/-- ETHn_AUTHCFG.KPAGE [7:4] RW: Key page. -/
def ETHn_AUTHCFG_KPAGE (n : Nat) : Fld := ⟨ETHn_AUTHCFG n, 7, 4⟩
/-- ETHn_AUTHCFG.ICV32 [3:3] RW: 32-byte ICV. -/
def ETHn_AUTHCFG_ICV32 (n : Nat) : Fld := ⟨ETHn_AUTHCFG n, 3, 3⟩
/-- ETHn_AUTHCFG.KSLOT [2:0] RW: Key slot. -/
def ETHn_AUTHCFG_KSLOT (n : Nat) : Fld := ⟨ETHn_AUTHCFG n, 2, 0⟩

/-- ETHn_RXRING (R417). -/
def ETHn_RXRING (n : Nat) : Nat := 0x10110080 + 0x4000 * n
/-- ETHn_RXRING.BASE [31:11] RW: Ring base address bits [31:11]. -/
def ETHn_RXRING_BASE (n : Nat) : Fld := ⟨ETHn_RXRING n, 31, 11⟩

/-- ETHn_RXWP (R417). -/
def ETHn_RXWP (n : Nat) : Nat := 0x10110088 + 0x4000 * n
/-- ETHn_RXWP.INDEX [15:0] RO: Slots written or sent by hardware, modulo 65,536. -/
def ETHn_RXWP_INDEX (n : Nat) : Fld := ⟨ETHn_RXWP n, 15, 0⟩

/-- ETHn_RXRP (R417). -/
def ETHn_RXRP (n : Nat) : Nat := 0x10110090 + 0x4000 * n
/-- ETHn_RXRP.INDEX [15:0] RW: Slots consumed or queued by SV, modulo 65,536. -/
def ETHn_RXRP_INDEX (n : Nat) : Fld := ⟨ETHn_RXRP n, 15, 0⟩

/-- ETHn_TXRING (R417). -/
def ETHn_TXRING (n : Nat) : Nat := 0x10110098 + 0x4000 * n
/-- ETHn_TXRING.BASE [31:11] RW: Ring base address bits [31:11]. -/
def ETHn_TXRING_BASE (n : Nat) : Fld := ⟨ETHn_TXRING n, 31, 11⟩

/-- ETHn_TXWP (R417). -/
def ETHn_TXWP (n : Nat) : Nat := 0x101100A0 + 0x4000 * n
/-- ETHn_TXWP.INDEX [15:0] RW: Slots consumed or queued by SV, modulo 65,536. -/
def ETHn_TXWP_INDEX (n : Nat) : Fld := ⟨ETHn_TXWP n, 15, 0⟩

/-- ETHn_TXRP (R417). -/
def ETHn_TXRP (n : Nat) : Nat := 0x101100A8 + 0x4000 * n
/-- ETHn_TXRP.INDEX [15:0] RO: Slots written or sent by hardware, modulo 65,536. -/
def ETHn_TXRP_INDEX (n : Nat) : Fld := ⟨ETHn_TXRP n, 15, 0⟩

/-- ETHn_ESMC (R417). -/
def ETHn_ESMC (n : Nat) : Nat := 0x101100B0 + 0x4000 * n
/-- ETHn_ESMC.EQL [47:40] RW: Enhanced SSM code for QLOK. -/
def ETHn_ESMC_EQL (n : Nat) : Fld := ⟨ETHn_ESMC n, 47, 40⟩
/-- ETHn_ESMC.TXQL [23:20] RO: SSM code being sent. -/
def ETHn_ESMC_TXQL (n : Nat) : Fld := ⟨ETHn_ESMC n, 23, 20⟩
/-- ETHn_ESMC.RXQL [19:16] RO: SSM code received. -/
def ETHn_ESMC_RXQL (n : Nat) : Fld := ⟨ETHn_ESMC n, 19, 16⟩
/-- ETHn_ESMC.QLOK [15:12] RW: Code when traceable. -/
def ETHn_ESMC_QLOK (n : Nat) : Fld := ⟨ETHn_ESMC n, 15, 12⟩
/-- ETHn_ESMC.QLHOLD [11:8] RW: Code in holdover or on the root. -/
def ETHn_ESMC_QLHOLD (n : Nat) : Fld := ⟨ETHn_ESMC n, 11, 8⟩
/-- ETHn_ESMC.QLFAIL [7:4] RW: Code when TIME_VALID is 0. -/
def ETHn_ESMC_QLFAIL (n : Nat) : Fld := ⟨ETHn_ESMC n, 7, 4⟩
/-- ETHn_ESMC.EXT [2:2] RW: Extended QL TLV. -/
def ETHn_ESMC_EXT (n : Nat) : Fld := ⟨ETHn_ESMC n, 2, 2⟩
/-- ETHn_ESMC.RXEN [1:1] RW: Receive ESMC. -/
def ETHn_ESMC_RXEN (n : Nat) : Fld := ⟨ETHn_ESMC n, 1, 1⟩
/-- ETHn_ESMC.TXEN [0:0] RW: Send ESMC. -/
def ETHn_ESMC_TXEN (n : Nat) : Fld := ⟨ETHn_ESMC n, 0, 0⟩

/-- ETHn_RXFREQ (R417). -/
def ETHn_RXFREQ (n : Nat) : Nat := 0x101100B8 + 0x4000 * n
/-- ETHn_RXFREQ.FREQ [47:0] RO: Recovered clock offset, signed, 2^-48. -/
def ETHn_RXFREQ_FREQ (n : Nat) : Fld := ⟨ETHn_RXFREQ n, 47, 0⟩

/-- ETHn_SRCOFS (R417). -/
def ETHn_SRCOFS (n : Nat) : Nat := 0x101100C0 + 0x4000 * n
/-- ETHn_SRCOFS.OFS [47:0] RW: Offset o, signed, ps; SV only. -/
def ETHn_SRCOFS_OFS (n : Nat) : Fld := ⟨ETHn_SRCOFS n, 47, 0⟩

/-- ETHn_SRCINFO (R417). -/
def ETHn_SRCINFO (n : Nat) : Nat := 0x101100C8 + 0x4000 * n
/-- ETHn_SRCINFO.SEQ [47:32] RW: Update sequence; SV only. -/
def ETHn_SRCINFO_SEQ (n : Nat) : Fld := ⟨ETHn_SRCINFO n, 47, 32⟩
/-- ETHn_SRCINFO.CLASS [31:24] RW: Parent clockClass. -/
def ETHn_SRCINFO_CLASS (n : Nat) : Fld := ⟨ETHn_SRCINFO n, 31, 24⟩
/-- ETHn_SRCINFO.VALID [23:23] RW: Offset valid (R410). -/
def ETHn_SRCINFO_VALID (n : Nat) : Fld := ⟨ETHn_SRCINFO n, 23, 23⟩
/-- ETHn_SRCINFO.UNC [22:0] RW: 1σ of OFS, ps, saturating. -/
def ETHn_SRCINFO_UNC (n : Nat) : Fld := ⟨ETHn_SRCINFO n, 22, 0⟩

/-- ETHn_CNTTX (R417). -/
def ETHn_CNTTX (n : Nat) : Nat := 0x101100D0 + 0x4000 * n
/-- ETHn_CNTTX.SYNC [47:24] RO: Sync sent; wraps. -/
def ETHn_CNTTX_SYNC (n : Nat) : Fld := ⟨ETHn_CNTTX n, 47, 24⟩
/-- ETHn_CNTTX.DRESP [23:0] RO: Delay_Resp sent; wraps. -/
def ETHn_CNTTX_DRESP (n : Nat) : Fld := ⟨ETHn_CNTTX n, 23, 0⟩

/-- ETHn_CNTRX (R417). -/
def ETHn_CNTRX (n : Nat) : Nat := 0x101100D8 + 0x4000 * n
/-- ETHn_CNTRX.DREQ [47:24] RO: Delay_Req received; wraps. -/
def ETHn_CNTRX_DREQ (n : Nat) : Fld := ⟨ETHn_CNTRX n, 47, 24⟩
/-- ETHn_CNTRX.TOSV [23:0] RO: Frames to the receive ring; wraps. -/
def ETHn_CNTRX_TOSV (n : Nat) : Fld := ⟨ETHn_CNTRX n, 23, 0⟩

/-- ETHn_CNTERR (R417). -/
def ETHn_CNTERR (n : Nat) : Nat := 0x101100E0 + 0x4000 * n
/-- ETHn_CNTERR.AUTHFAIL [47:36] RO: Verification failures; wraps. -/
def ETHn_CNTERR_AUTHFAIL (n : Nat) : Fld := ⟨ETHn_CNTERR n, 47, 36⟩
/-- ETHn_CNTERR.RESPDROP [35:24] RO: Delay_Req discarded; wraps. -/
def ETHn_CNTERR_RESPDROP (n : Nat) : Fld := ⟨ETHn_CNTERR n, 35, 24⟩
/-- ETHn_CNTERR.NOTSENT [23:12] RO: Sync instants not sent; wraps. -/
def ETHn_CNTERR_NOTSENT (n : Nat) : Fld := ⟨ETHn_CNTERR n, 23, 12⟩
/-- ETHn_CNTERR.RXDROP [11:0] RO: Frames discarded; wraps. -/
def ETHn_CNTERR_RXDROP (n : Nat) : Fld := ⟨ETHn_CNTERR n, 11, 0⟩

/-- ETH_CLKIDH (R418). -/
def ETH_CLKIDH : Nat := 0x10113C00
/-- ETH_CLKIDH.ID [31:0] RW: clockIdentity octets 0–3. -/
def ETH_CLKIDH_ID : Fld := ⟨ETH_CLKIDH, 31, 0⟩

/-- ETH_CLKIDL (R418). -/
def ETH_CLKIDL : Nat := 0x10113C08
/-- ETH_CLKIDL.ID [31:0] RW: clockIdentity octets 4–7. -/
def ETH_CLKIDL_ID : Fld := ⟨ETH_CLKIDL, 31, 0⟩

/-- ETH_GRTBASE (R418). -/
def ETH_GRTBASE : Nat := 0x10113C10
/-- ETH_GRTBASE.BASE [31:14] RW: Grant table address bits [31:14]. -/
def ETH_GRTBASE_BASE : Fld := ⟨ETH_GRTBASE, 31, 14⟩

/-- ETH_GRTSTAT (R418). -/
def ETH_GRTSTAT : Nat := 0x10113C18
/-- ETH_GRTSTAT.CFGERR [16:16] W1C: An entry was skipped, or a base write was ignored. -/
def ETH_GRTSTAT_CFGERR : Fld := ⟨ETH_GRTSTAT, 16, 16⟩
/-- ETH_GRTSTAT.ACTIVE [8:0] RO: Valid, unexpired entries, 0 to 256. -/
def ETH_GRTSTAT_ACTIVE : Fld := ⟨ETH_GRTSTAT, 8, 0⟩

/-- ETH_RESPCNT (R418). -/
def ETH_RESPCNT : Nat := 0x10113C20
/-- ETH_RESPCNT.DROPS [47:32] RO: Delay_Req beyond the responder's capacity; wraps. -/
def ETH_RESPCNT_DROPS : Fld := ⟨ETH_RESPCNT, 47, 32⟩
/-- ETH_RESPCNT.SENT [31:0] RO: Delay_Resp sent by all ports; wraps. -/
def ETH_RESPCNT_SENT : Fld := ⟨ETH_RESPCNT, 31, 0⟩

/-- CXE_KPn_CTRL (R454). -/
def CXE_KPn_CTRL (n : Nat) : Nat := 0x10120000 + 0x1000 * n
/-- CXE_KPn_CTRL.GIVE [16:16] WO: Hand the page to NEWOWNER (R425). -/
def CXE_KPn_CTRL_GIVE (n : Nat) : Fld := ⟨CXE_KPn_CTRL n, 16, 16⟩
/-- CXE_KPn_CTRL.NEWOWNER [15:12] WO: Initiator ID for GIVE. -/
def CXE_KPn_CTRL_NEWOWNER (n : Nat) : Fld := ⟨CXE_KPn_CTRL n, 15, 12⟩
/-- CXE_KPn_CTRL.ZERO [8:8] WO: Zeroise the slots in ZMASK (R427). -/
def CXE_KPn_CTRL_ZERO (n : Nat) : Fld := ⟨CXE_KPn_CTRL n, 8, 8⟩
/-- CXE_KPn_CTRL.ZMASK [7:0] WO: Bit m: slot m. -/
def CXE_KPn_CTRL_ZMASK (n : Nat) : Fld := ⟨CXE_KPn_CTRL n, 7, 0⟩

/-- CXE_KPn_SUBMIT (R454). -/
def CXE_KPn_SUBMIT (n : Nat) : Nat := 0x10120008 + 0x1000 * n
/-- CXE_KPn_SUBMIT.DESC [31:6] WO: Descriptor address bits [31:6]. -/
def CXE_KPn_SUBMIT_DESC (n : Nat) : Fld := ⟨CXE_KPn_SUBMIT n, 31, 6⟩

/-- CXE_KPn_STAT (R454). -/
def CXE_KPn_STAT (n : Nat) : Nat := 0x10120010 + 0x1000 * n
/-- CXE_KPn_STAT.LEVEL [15:12] RO: Operations queued or running, 0 to 8. -/
def CXE_KPn_STAT_LEVEL (n : Nat) : Fld := ⟨CXE_KPn_STAT n, 15, 12⟩
/-- CXE_KPn_STAT.QFULL [3:3] W1C: A submit found the queue full. -/
def CXE_KPn_STAT_QFULL (n : Nat) : Fld := ⟨CXE_KPn_STAT n, 3, 3⟩
/-- CXE_KPn_STAT.ERR [2:2] W1C: An operation ended other than OK, or a hand-over was refused. -/
def CXE_KPn_STAT_ERR (n : Nat) : Fld := ⟨CXE_KPn_STAT n, 2, 2⟩
/-- CXE_KPn_STAT.ZEROED [1:1] W1C: A slot was zeroised. -/
def CXE_KPn_STAT_ZEROED (n : Nat) : Fld := ⟨CXE_KPn_STAT n, 1, 1⟩
/-- CXE_KPn_STAT.DONE [0:0] W1C: An operation completed. -/
def CXE_KPn_STAT_DONE (n : Nat) : Fld := ⟨CXE_KPn_STAT n, 0, 0⟩

/-- CXE_KPn_INTEN (R454). -/
def CXE_KPn_INTEN (n : Nat) : Nat := 0x10120018 + 0x1000 * n
/-- CXE_KPn_INTEN.EN [3:0] RW: Enables of the matching STAT bits. -/
def CXE_KPn_INTEN_EN (n : Nat) : Fld := ⟨CXE_KPn_INTEN n, 3, 0⟩

/-- CXE_KPn_SLOTm (R454). -/
def CXE_KPn_SLOTm (n m : Nat) : Nat := 0x10120040 + 0x1000 * n + 0x8 * m
/-- CXE_KPn_SLOTm.OWNER [47:44] RO: OWNER attribute of the key. -/
def CXE_KPn_SLOTm_OWNER (n m : Nat) : Fld := ⟨CXE_KPn_SLOTm n m, 47, 44⟩
/-- CXE_KPn_SLOTm.STATE [43:42] RO: 0 EMPTY; 1 READY; 2 RETIRED; 3 LOADING. -/
def CXE_KPn_SLOTm_STATE (n m : Nat) : Fld := ⟨CXE_KPn_SLOTm n m, 43, 42⟩
/-- CXE_KPn_SLOTm.TYPE [41:39] RO: TYPE attribute. -/
def CXE_KPn_SLOTm_TYPE (n m : Nat) : Fld := ⟨CXE_KPn_SLOTm n m, 41, 39⟩
/-- CXE_KPn_SLOTm.USAGE [38:34] RO: USAGE attribute. -/
def CXE_KPn_SLOTm_USAGE (n m : Nat) : Fld := ⟨CXE_KPn_SLOTm n m, 38, 34⟩
/-- CXE_KPn_SLOTm.INVOC [31:0] RO: Next invocation counter. -/
def CXE_KPn_SLOTm_INVOC (n m : Nat) : Fld := ⟨CXE_KPn_SLOTm n m, 31, 0⟩

/-- CXE_STAT (R454). -/
def CXE_STAT : Nat := 0x10120C00
/-- CXE_STAT.LOADEXH [3:3] W1C: LOADCNT exhausted. -/
def CXE_STAT_LOADEXH : Fld := ⟨CXE_STAT, 3, 3⟩
/-- CXE_STAT.VIOL [2:2] W1C: A page was touched by a non-owner. -/
def CXE_STAT_VIOL : Fld := ⟨CXE_STAT, 2, 2⟩
/-- CXE_STAT.TAGFAIL [1:1] W1C: A tag check failed. -/
def CXE_STAT_TAGFAIL : Fld := ⟨CXE_STAT, 1, 1⟩
/-- CXE_STAT.EXHAUST [0:0] W1C: A slot was retired. -/
def CXE_STAT_EXHAUST : Fld := ⟨CXE_STAT, 0, 0⟩

/-- CXE_INTEN (R454). -/
def CXE_INTEN : Nat := 0x10120C08
/-- CXE_INTEN.EN [3:0] RW: Enables of the matching STAT bits. -/
def CXE_INTEN_EN : Fld := ⟨CXE_INTEN, 3, 0⟩

/-- CXE_OWNi (R454). -/
def CXE_OWNi (i : Nat) : Nat := 0x10120C10 + 0x8 * i
/-- CXE_OWNi.OWNERS [31:0] RO: Owner of page 8i + k in bits [4k+3:4k]. -/
def CXE_OWNi_OWNERS (i : Nat) : Fld := ⟨CXE_OWNi i, 31, 0⟩

/-- CXE_RECLAIM (R454). -/
def CXE_RECLAIM : Nat := 0x10120C20
/-- CXE_RECLAIM.PAGES [15:0] WO: Bit n: reclaim page n; SV only. -/
def CXE_RECLAIM_PAGES : Fld := ⟨CXE_RECLAIM, 15, 0⟩

/-- CXE_LOADCNT (R454). -/
def CXE_LOADCNT : Nat := 0x10120C28
/-- CXE_LOADCNT.COUNT [31:0] RO: Load counter (R423). Reset: NVS. -/
def CXE_LOADCNT_COUNT : Fld := ⟨CXE_LOADCNT, 31, 0⟩

/-- CXE_VIOLADDR (R454). -/
def CXE_VIOLADDR : Nat := 0x10120C30
/-- CXE_VIOLADDR.ADDR [31:0] RO: Address of the last violation. -/
def CXE_VIOLADDR_ADDR : Fld := ⟨CXE_VIOLADDR, 31, 0⟩

/-- CXE_VIOLINFO (R454). -/
def CXE_VIOLINFO : Nat := 0x10120C38
/-- CXE_VIOLINFO.WRITE [4:4] RO: 1: write; 0: read. -/
def CXE_VIOLINFO_WRITE : Fld := ⟨CXE_VIOLINFO, 4, 4⟩
/-- CXE_VIOLINFO.INIT [3:0] RO: Initiator ID. -/
def CXE_VIOLINFO_INIT : Fld := ⟨CXE_VIOLINFO, 3, 0⟩

/-- CXE_COUNT (R454). -/
def CXE_COUNT : Nat := 0x10120C40
/-- CXE_COUNT.TAGFAIL [47:32] RO: Tag failures; wraps. -/
def CXE_COUNT_TAGFAIL : Fld := ⟨CXE_COUNT, 47, 32⟩
/-- CXE_COUNT.VIOL [31:16] RO: Violations; wraps. -/
def CXE_COUNT_VIOL : Fld := ⟨CXE_COUNT, 31, 16⟩
/-- CXE_COUNT.UNWRAPFAIL [15:0] RO: UNWRAP_FAIL and BADBLOB results; wraps. -/
def CXE_COUNT_UNWRAPFAIL : Fld := ⟨CXE_COUNT, 15, 0⟩

/-- CXE_BUSY (R454). -/
def CXE_BUSY : Nat := 0x10120C48
/-- CXE_BUSY.CYCLES [47:0] RO: CLK_PER cycles with the engine busy; wraps. -/
def CXE_BUSY_CYCLES : Fld := ⟨CXE_BUSY, 47, 0⟩

/-- SVU_STAT (R456). -/
def SVU_STAT : Nat := 0x10130000
/-- SVU_STAT.LCDONE [5:5] W1C: A lifecycle request was accepted. -/
def SVU_STAT_LCDONE : Fld := ⟨SVU_STAT, 5, 5⟩
/-- SVU_STAT.LCFAIL [4:4] W1C: A lifecycle request was refused. -/
def SVU_STAT_LCFAIL : Fld := ⟨SVU_STAT, 4, 4⟩
/-- SVU_STAT.DBGFAIL [3:3] W1C: A certificate was refused. -/
def SVU_STAT_DBGFAIL : Fld := ⟨SVU_STAT, 3, 3⟩
/-- SVU_STAT.DBGGRANT [2:2] W1C: A level was granted. -/
def SVU_STAT_DBGGRANT : Fld := ⟨SVU_STAT, 2, 2⟩
/-- SVU_STAT.QFULL [1:1] W1C: A submit found the queue full. -/
def SVU_STAT_QFULL : Fld := ⟨SVU_STAT, 1, 1⟩
/-- SVU_STAT.DONE [0:0] W1C: A job completed. -/
def SVU_STAT_DONE : Fld := ⟨SVU_STAT, 0, 0⟩

/-- SVU_INTEN (R456). -/
def SVU_INTEN : Nat := 0x10130008
/-- SVU_INTEN.EN [5:0] RW: Enables of the matching STAT bits. -/
def SVU_INTEN_EN : Fld := ⟨SVU_INTEN, 5, 0⟩

/-- SVU_SUBMIT (R456). -/
def SVU_SUBMIT : Nat := 0x10130010
/-- SVU_SUBMIT.DESC [31:6] WO: Descriptor address bits [31:6]. -/
def SVU_SUBMIT_DESC : Fld := ⟨SVU_SUBMIT, 31, 6⟩

/-- SVU_QSTAT (R456). -/
def SVU_QSTAT : Nat := 0x10130018
/-- SVU_QSTAT.BUSY [4:4] RO: A job or certificate is being verified. -/
def SVU_QSTAT_BUSY : Fld := ⟨SVU_QSTAT, 4, 4⟩
/-- SVU_QSTAT.LEVEL [3:0] RO: Jobs queued, 0 to 8. -/
def SVU_QSTAT_LEVEL : Fld := ⟨SVU_QSTAT, 3, 0⟩

/-- SVU_COUNT (R456). -/
def SVU_COUNT : Nat := 0x10130020
/-- SVU_COUNT.VALID [47:24] RO: VALID results; wraps. -/
def SVU_COUNT_VALID : Fld := ⟨SVU_COUNT, 47, 24⟩
/-- SVU_COUNT.FAILED [23:0] RO: Other results; wraps. -/
def SVU_COUNT_FAILED : Fld := ⟨SVU_COUNT, 23, 0⟩

/-- SVU_LCS (R456). -/
def SVU_LCS : Nat := 0x10130028
/-- SVU_LCS.DKLOCK [4:4] RO: DK locked out. Reset: OTP. -/
def SVU_LCS_DKLOCK : Fld := ⟨SVU_LCS, 4, 4⟩
/-- SVU_LCS.OWNREV [3:3] RO: OWNPK0 revoked. Reset: OTP. -/
def SVU_LCS_OWNREV : Fld := ⟨SVU_LCS, 3, 3⟩
/-- SVU_LCS.LCS [1:0] RO: 0 BLANK; 1 PROVISIONED; 2 DEPLOYED; 3 RETURNED. Reset: OTP. -/
def SVU_LCS_LCS : Fld := ⟨SVU_LCS, 1, 0⟩

/-- SVU_LCCMD (R456). -/
def SVU_LCCMD : Nat := 0x10130030
/-- SVU_LCCMD.TARGET [33:32] WO: Target state. -/
def SVU_LCCMD_TARGET : Fld := ⟨SVU_LCCMD, 33, 32⟩
/-- SVU_LCCMD.REQ [31:6] WO: Request address bits [31:6]. -/
def SVU_LCCMD_REQ : Fld := ⟨SVU_LCCMD, 31, 6⟩

/-- SVU_DBG (R456). -/
def SVU_DBG : Nat := 0x10130038
/-- SVU_DBG.RESULT [15:8] RO: Result of the last certificate, as W7.RESULT of R440. -/
def SVU_DBG_RESULT : Fld := ⟨SVU_DBG, 15, 8⟩
/-- SVU_DBG.REQLEVEL [7:6] WO: Level requested with REQ (R448). -/
def SVU_DBG_REQLEVEL : Fld := ⟨SVU_DBG, 7, 6⟩
/-- SVU_DBG.SUBMIT [5:5] WO: Verify the mailbox certificate. -/
def SVU_DBG_SUBMIT : Fld := ⟨SVU_DBG, 5, 5⟩
/-- SVU_DBG.DROP [4:4] WO: Return to D0 (R445). -/
def SVU_DBG_DROP : Fld := ⟨SVU_DBG, 4, 4⟩
/-- SVU_DBG.D2SEEN [3:3] RO: D2 or D3 granted since reset. -/
def SVU_DBG_D2SEEN : Fld := ⟨SVU_DBG, 3, 3⟩
/-- SVU_DBG.REQ [2:2] WO: Request REQLEVEL without a certificate (R448). -/
def SVU_DBG_REQ : Fld := ⟨SVU_DBG, 2, 2⟩
/-- SVU_DBG.LEVEL [1:0] RO: Debug level in force. -/
def SVU_DBG_LEVEL : Fld := ⟨SVU_DBG, 1, 0⟩

/-- SVU_DBGCNT (R456). -/
def SVU_DBGCNT : Nat := 0x10130040
/-- SVU_DBGCNT.COUNT [31:0] RO: Certificate counter (R447). Reset: NVS. -/
def SVU_DBGCNT_COUNT : Fld := ⟨SVU_DBGCNT, 31, 0⟩

/-- SVU_TRUST (R456). -/
def SVU_TRUST : Nat := 0x10130048
/-- SVU_TRUST.TRUSTCHG [4:4] W1C: TIME_TRUST changed. -/
def SVU_TRUST_TRUSTCHG : Fld := ⟨SVU_TRUST, 4, 4⟩
/-- SVU_TRUST.NODEBUG [3:3] RO: D2SEEN is 0. -/
def SVU_TRUST_NODEBUG : Fld := ⟨SVU_TRUST, 3, 3⟩
/-- SVU_TRUST.LCSOK [2:2] RO: LCS is PROVISIONED or DEPLOYED. Reset: OTP. -/
def SVU_TRUST_LCSOK : Fld := ⟨SVU_TRUST, 2, 2⟩
/-- SVU_TRUST.TRUSTREQ [1:1] RW: Firmware trust request (R449). -/
def SVU_TRUST_TRUSTREQ : Fld := ⟨SVU_TRUST, 1, 1⟩
/-- SVU_TRUST.TIME_TRUST [0:0] RO: R449. -/
def SVU_TRUST_TIME_TRUST : Fld := ⟨SVU_TRUST, 0, 0⟩

/-- SVU_DEVIDH (R456). -/
def SVU_DEVIDH : Nat := 0x10130050
/-- SVU_DEVIDH.ID [31:0] RO: DEVID bits [63:32]. Reset: OTP. -/
def SVU_DEVIDH_ID : Fld := ⟨SVU_DEVIDH, 31, 0⟩

/-- SVU_DEVIDL (R456). -/
def SVU_DEVIDL : Nat := 0x10130058
/-- SVU_DEVIDL.ID [31:0] RO: DEVID bits [31:0]. Reset: OTP. -/
def SVU_DEVIDL_ID : Fld := ⟨SVU_DEVIDL, 31, 0⟩

/-- SVU_DBGMBk (R456). -/
def SVU_DBGMBk (k : Nat) : Nat := 0x10130080 + 0x8 * k
/-- SVU_DBGMBk.DATA [47:0] WO: Certificate bytes 6k to 6k + 5, little-endian; bytes 80 to 83 must be zero. -/
def SVU_DBGMBk_DATA (k : Nat) : Fld := ⟨SVU_DBGMBk k, 47, 0⟩

/-- HST_CTRL (R558). -/
def HST_CTRL : Nat := 0x10150000
/-- HST_CTRL.LINKEN [3:0] RW: Bit j: link j enabled (R540). -/
def HST_CTRL_LINKEN : Fld := ⟨HST_CTRL, 3, 0⟩

/-- HST_STAT (R558). -/
def HST_STAT : Nat := 0x10150008
/-- HST_STAT.LINKUP [13:13] RO: PCIe link up. -/
def HST_STAT_LINKUP : Fld := ⟨HST_STAT, 13, 13⟩
/-- HST_STAT.RXNE [12:9] RO: Bit j: receive ring j not empty. -/
def HST_STAT_RXNE : Fld := ⟨HST_STAT, 12, 9⟩
/-- HST_STAT.CFGERR [8:8] W1C: A mailbox or ring write was ignored. -/
def HST_STAT_CFGERR : Fld := ⟨HST_STAT, 8, 8⟩
/-- HST_STAT.GOREQ [7:7] W1C: HST_BOOTGO was written. -/
def HST_STAT_GOREQ : Fld := ⟨HST_STAT, 7, 7⟩
/-- HST_STAT.UARTERR [6:6] W1C: A UART framing error. -/
def HST_STAT_UARTERR : Fld := ⟨HST_STAT, 6, 6⟩
/-- HST_STAT.RXOVF [5:5] W1C: A received byte was discarded or NACKed. -/
def HST_STAT_RXOVF : Fld := ⟨HST_STAT, 5, 5⟩
/-- HST_STAT.MBOUTFREE [4:4] W1C: The host acknowledged MBOUT. -/
def HST_STAT_MBOUTFREE : Fld := ⟨HST_STAT, 4, 4⟩
/-- HST_STAT.MBIN [3:3] W1C: The host posted MBIN. -/
def HST_STAT_MBIN : Fld := ⟨HST_STAT, 3, 3⟩
/-- HST_STAT.TXEMPTY [2:2] W1C: A transmit ring became empty. -/
def HST_STAT_TXEMPTY : Fld := ⟨HST_STAT, 2, 2⟩
/-- HST_STAT.PCIEDOWN [1:1] W1C: The PCIe link went down. -/
def HST_STAT_PCIEDOWN : Fld := ⟨HST_STAT, 1, 1⟩
/-- HST_STAT.SPIWERR [0:0] W1C: An SPI write got an error response. -/
def HST_STAT_SPIWERR : Fld := ⟨HST_STAT, 0, 0⟩

/-- HST_INTEN (R557). -/
def HST_INTEN : Nat := 0x10150010
/-- HST_INTEN.EN [8:0] RW: Enables of the matching STAT bits. -/
def HST_INTEN_EN : Fld := ⟨HST_INTEN, 8, 0⟩

/-- HST_BOOT (R558). -/
def HST_BOOT : Nat := 0x10150018
/-- HST_BOOT.CAUSE [23:16] RO: 0 none; 1 BOOTSEL; 2 HEADER; 3 SEGMENT; 4 SIGNATURE; 5 ROLLBACK; 6 HASH; 7 FLASH; 8 MEMORY. -/
def HST_BOOT_CAUSE : Fld := ⟨HST_BOOT, 23, 16⟩
/-- HST_BOOT.SLOT [12:12] RO: 0 slot A or host load; 1 slot B. -/
def HST_BOOT_SLOT : Fld := ⟨HST_BOOT, 12, 12⟩
/-- HST_BOOT.STATUS [10:8] RO: 0 RUNNING; 1 WAITHOST; 2 VERIFY; 3 DONE; 4 FAIL. -/
def HST_BOOT_STATUS : Fld := ⟨HST_BOOT, 10, 8⟩
/-- HST_BOOT.BOOTSEL [2:0] RO: R528. Reset: Strap. -/
def HST_BOOT_BOOTSEL : Fld := ⟨HST_BOOT, 2, 0⟩

/-- HST_BOOTGO (R558). -/
def HST_BOOTGO : Nat := 0x10150020
/-- HST_BOOTGO.GO [25:25] WO: Check the staged image. -/
def HST_BOOTGO_GO : Fld := ⟨HST_BOOTGO, 25, 25⟩
/-- HST_BOOTGO.LEN [24:0] WO: Image length in bytes. -/
def HST_BOOTGO_LEN : Fld := ⟨HST_BOOTGO, 24, 0⟩

/-- HST_PCIID (R558). -/
def HST_PCIID : Nat := 0x10150028
/-- HST_PCIID.REVID [47:40] RO: Revision ID. -/
def HST_PCIID_REVID : Fld := ⟨HST_PCIID, 47, 40⟩
/-- HST_PCIID.DEVICE [31:16] RO: Device ID. -/
def HST_PCIID_DEVICE : Fld := ⟨HST_PCIID, 31, 16⟩
/-- HST_PCIID.VENDOR [15:0] RO: Vendor ID assigned to Shaura Semiconductor. Reset: Shaura. -/
def HST_PCIID_VENDOR : Fld := ⟨HST_PCIID, 15, 0⟩

/-- HST_PCISTAT (R558). -/
def HST_PCISTAT : Nat := 0x10150030
/-- HST_PCISTAT.MSIXEN [8:8] RO: MSI-X enabled by the host. -/
def HST_PCISTAT_MSIXEN : Fld := ⟨HST_PCISTAT, 8, 8⟩
/-- HST_PCISTAT.BME [7:7] RO: Bus Master Enable. -/
def HST_PCISTAT_BME : Fld := ⟨HST_PCISTAT, 7, 7⟩
/-- HST_PCISTAT.SPEED [6:4] RO: 0 down; 1–4 Gen1–Gen4. -/
def HST_PCISTAT_SPEED : Fld := ⟨HST_PCISTAT, 6, 4⟩
/-- HST_PCISTAT.WIDTH [1:0] RO: 0 down; 1 ×1; 2 ×2. -/
def HST_PCISTAT_WIDTH : Fld := ⟨HST_PCISTAT, 1, 0⟩

/-- HST_MBIN (R558). -/
def HST_MBIN : Nat := 0x10150038
/-- HST_MBIN.ACK [14:14] WO: Release the buffer (R539). -/
def HST_MBIN_ACK : Fld := ⟨HST_MBIN, 14, 14⟩
/-- HST_MBIN.FULL [13:13] RO: A frame is posted. -/
def HST_MBIN_FULL : Fld := ⟨HST_MBIN, 13, 13⟩
/-- HST_MBIN.LEN [12:0] RW: Frame length in bytes; the write posts. -/
def HST_MBIN_LEN : Fld := ⟨HST_MBIN, 12, 0⟩

/-- HST_MBOUT (R558). -/
def HST_MBOUT : Nat := 0x10150040
/-- HST_MBOUT.ACK [14:14] WO: Release the buffer (R539). -/
def HST_MBOUT_ACK : Fld := ⟨HST_MBOUT, 14, 14⟩
/-- HST_MBOUT.FULL [13:13] RO: A frame is posted. -/
def HST_MBOUT_FULL : Fld := ⟨HST_MBOUT, 13, 13⟩
/-- HST_MBOUT.LEN [12:0] RW: Frame length in bytes; the write posts. -/
def HST_MBOUT_LEN : Fld := ⟨HST_MBOUT, 12, 0⟩

/-- HST_MSIXTRIG (R558). -/
def HST_MSIXTRIG : Nat := 0x10150048
/-- HST_MSIXTRIG.VECTOR [5:0] WO: Vector to raise, 3–63; 0–2 ignored. -/
def HST_MSIXTRIG_VECTOR : Fld := ⟨HST_MSIXTRIG, 5, 0⟩

/-- HST_I2CCFG (R558). -/
def HST_I2CCFG : Nat := 0x10150050
/-- HST_I2CCFG.ADDR [6:0] RO: Target address (R544). Reset: Strap. -/
def HST_I2CCFG_ADDR : Fld := ⟨HST_I2CCFG, 6, 0⟩

/-- HST_UARTuCFG (R558). -/
def HST_UARTuCFG (u : Nat) : Nat := 0x10150060 + 0x8 * u
/-- HST_UARTuCFG.DIVF [15:0] RW: Rate divider (R543). -/
def HST_UARTuCFG_DIVF (u : Nat) : Fld := ⟨HST_UARTuCFG u, 15, 0⟩

/-- HST_TODu (R558). -/
def HST_TODu (u : Nat) : Nat := 0x10150070 + 0x8 * u
/-- HST_TODu.QUEUED [7:7] RO: A string is queued. -/
def HST_TODu_QUEUED (u : Nat) : Fld := ⟨HST_TODu u, 7, 7⟩
/-- HST_TODu.LEN [6:0] RW: String length, 0–96; the write queues (R556). -/
def HST_TODu_LEN (u : Nat) : Fld := ⟨HST_TODu u, 6, 0⟩

/-- HST_Lj_RXBASE (R558). -/
def HST_Lj_RXBASE (j : Nat) : Nat := 0x10150100 + 0x40 * j
/-- HST_Lj_RXBASE.BASE [31:12] RW: Ring base address bits [31:12]. -/
def HST_Lj_RXBASE_BASE (j : Nat) : Fld := ⟨HST_Lj_RXBASE j, 31, 12⟩

/-- HST_Lj_RXWP (R558). -/
def HST_Lj_RXWP (j : Nat) : Nat := 0x10150108 + 0x40 * j
/-- HST_Lj_RXWP.INDEX [15:0] RO: Bytes written or sent by the bridge, modulo 65,536. -/
def HST_Lj_RXWP_INDEX (j : Nat) : Fld := ⟨HST_Lj_RXWP j, 15, 0⟩

/-- HST_Lj_RXRP (R558). -/
def HST_Lj_RXRP (j : Nat) : Nat := 0x10150110 + 0x40 * j
/-- HST_Lj_RXRP.INDEX [15:0] RW: Bytes consumed or queued by SV, modulo 65,536. -/
def HST_Lj_RXRP_INDEX (j : Nat) : Fld := ⟨HST_Lj_RXRP j, 15, 0⟩

/-- HST_Lj_TXBASE (R558). -/
def HST_Lj_TXBASE (j : Nat) : Nat := 0x10150118 + 0x40 * j
/-- HST_Lj_TXBASE.BASE [31:12] RW: Ring base address bits [31:12]. -/
def HST_Lj_TXBASE_BASE (j : Nat) : Fld := ⟨HST_Lj_TXBASE j, 31, 12⟩

/-- HST_Lj_TXWP (R558). -/
def HST_Lj_TXWP (j : Nat) : Nat := 0x10150120 + 0x40 * j
/-- HST_Lj_TXWP.INDEX [15:0] RW: Bytes consumed or queued by SV, modulo 65,536. -/
def HST_Lj_TXWP_INDEX (j : Nat) : Fld := ⟨HST_Lj_TXWP j, 15, 0⟩

/-- HST_Lj_TXRP (R558). -/
def HST_Lj_TXRP (j : Nat) : Nat := 0x10150128 + 0x40 * j
/-- HST_Lj_TXRP.INDEX [15:0] RO: Bytes written or sent by the bridge, modulo 65,536. -/
def HST_Lj_TXRP_INDEX (j : Nat) : Fld := ⟨HST_Lj_TXRP j, 15, 0⟩

/-- SAF_CTRL (R526). -/
def SAF_CTRL : Nat := 0x10160000
/-- SAF_CTRL.THERMSTBY [1:1] RW: Request STANDBY on THOT (R515). -/
def SAF_CTRL_THERMSTBY : Fld := ⟨SAF_CTRL, 1, 1⟩
/-- SAF_CTRL.SVRST [0:0] RW: Cold reset on an SV fault (R512). -/
def SAF_CTRL_SVRST : Fld := ⟨SAF_CTRL, 0, 0⟩

/-- SAF_STAT (R526). -/
def SAF_STAT : Nat := 0x10160008
/-- SAF_STAT.THOT [10:10] RO: Temperature at or above TCRIT. -/
def SAF_STAT_THOT : Fld := ⟨SAF_STAT, 10, 10⟩
/-- SAF_STAT.CLKFAULT [9:9] RO: Clock fault in force. -/
def SAF_STAT_CLKFAULT : Fld := ⟨SAF_STAT, 9, 9⟩
/-- SAF_STAT.NVSCOPYERR [8:8] W1C: A severe copy failed. -/
def SAF_STAT_NVSCOPYERR : Fld := ⟨SAF_STAT, 8, 8⟩
/-- SAF_STAT.PINREFUSED [7:7] W1C: A pin or unit claim was refused. -/
def SAF_STAT_PINREFUSED : Fld := ⟨SAF_STAT, 7, 7⟩
/-- SAF_STAT.UE [6:6] W1C: An uncorrectable error was reported. -/
def SAF_STAT_UE : Fld := ⟨SAF_STAT, 6, 6⟩
/-- SAF_STAT.TCRIT [5:5] W1C: TCRIT reached. -/
def SAF_STAT_TCRIT : Fld := ⟨SAF_STAT, 5, 5⟩
/-- SAF_STAT.TWARN [4:4] W1C: TWARN reached. -/
def SAF_STAT_TWARN : Fld := ⟨SAF_STAT, 4, 4⟩
/-- SAF_STAT.VEXC [3:3] W1C: A supply excursion. -/
def SAF_STAT_VEXC : Fld := ⟨SAF_STAT, 3, 3⟩
/-- SAF_STAT.CORE [2:2] W1C: A core entered FAULT. -/
def SAF_STAT_CORE : Fld := ⟨SAF_STAT, 2, 2⟩
/-- SAF_STAT.CFEND [1:1] W1C: A clock fault ended. -/
def SAF_STAT_CFEND : Fld := ⟨SAF_STAT, 1, 1⟩
/-- SAF_STAT.CFSTART [0:0] W1C: A clock fault began. -/
def SAF_STAT_CFSTART : Fld := ⟨SAF_STAT, 0, 0⟩

/-- SAF_INTEN (R525). -/
def SAF_INTEN : Nat := 0x10160010
/-- SAF_INTEN.EN [8:0] RW: Enables of the matching STAT bits. -/
def SAF_INTEN_EN : Fld := ⟨SAF_INTEN, 8, 0⟩

/-- SAF_CFCFG (R526). -/
def SAF_CFCFG : Nat := 0x10160018
/-- SAF_CFCFG.GROSS [31:24] RW: GROSS limit in per cent; 0 treated as 1. -/
def SAF_CFCFG_GROSS : Fld := ⟨SAF_CFCFG, 31, 24⟩
/-- SAF_CFCFG.CFHOLD [23:16] RW: Hold in µs (100); clamped to 10–100. -/
def SAF_CFCFG_CFHOLD : Fld := ⟨SAF_CFCFG, 23, 16⟩
/-- SAF_CFCFG.CFPPM [15:0] RW: FREQ limit in ppm (50); 0 treated as 1; above 50 treated as 50. -/
def SAF_CFCFG_CFPPM : Fld := ⟨SAF_CFCFG, 15, 0⟩

/-- SAF_CFSTAT (R526). -/
def SAF_CFSTAT : Nat := 0x10160020
/-- SAF_CFSTAT.CAUSE [35:32] RO: [32] LOS; [33] FREQ; [34] GROSS; [35] no lock since reset; cleared at the start of each clock fault (R509). -/
def SAF_CFSTAT_CAUSE : Fld := ⟨SAF_CFSTAT, 35, 32⟩
/-- SAF_CFSTAT.LASTUS [31:0] RO: Length of the last clock fault, µs, saturating. -/
def SAF_CFSTAT_LASTUS : Fld := ⟨SAF_CFSTAT, 31, 0⟩

/-- SAF_TEMP (R526). -/
def SAF_TEMP : Nat := 0x10160028
/-- SAF_TEMP.T [47:0] RO: Sensor s in bits [12s+11:12s], signed, 1/16 °C. -/
def SAF_TEMP_T : Fld := ⟨SAF_TEMP, 47, 0⟩

/-- SAF_TLIM (R526). -/
def SAF_TLIM : Nat := 0x10160030
/-- SAF_TLIM.TCRIT [23:12] RW: 125 °C, 1/16 °C. -/
def SAF_TLIM_TCRIT : Fld := ⟨SAF_TLIM, 23, 12⟩
/-- SAF_TLIM.TWARN [11:0] RW: 115 °C, 1/16 °C. -/
def SAF_TLIM_TWARN : Fld := ⟨SAF_TLIM, 11, 0⟩

/-- SAF_NMIMASK (R526). -/
def SAF_NMIMASK : Nat := 0x10160038
/-- SAF_NMIMASK.MASK [6:0] RW: Bit n: core n takes the watchdog NMI (SC0, SC1). -/
def SAF_NMIMASK_MASK : Fld := ⟨SAF_NMIMASK, 6, 0⟩

/-- SAF_WDSTAT (R526). -/
def SAF_WDSTAT : Nat := 0x10160040
/-- SAF_WDSTAT.DFAULT [14:8] W1C: Bit n: core n double fault. -/
def SAF_WDSTAT_DFAULT : Fld := ⟨SAF_WDSTAT, 14, 8⟩
/-- SAF_WDSTAT.WDOG [6:0] W1C: Bit n: core n watchdog expired. -/
def SAF_WDSTAT_WDOG : Fld := ⟨SAF_WDSTAT, 6, 0⟩

/-- SAF_LOGWP (R526). -/
def SAF_LOGWP : Nat := 0x10160048
/-- SAF_LOGWP.NVSWP [31:16] RO: Severe entries copied, modulo 65,536. Reset: NVS. -/
def SAF_LOGWP_NVSWP : Fld := ⟨SAF_LOGWP, 31, 16⟩
/-- SAF_LOGWP.WP [15:0] RO: Entries written, modulo 65,536. Reset: AON. -/
def SAF_LOGWP_WP : Fld := ⟨SAF_LOGWP, 15, 0⟩

/-- SAF_SWLOG (R526). -/
def SAF_SWLOG : Nat := 0x10160050
/-- SAF_SWLOG.SEV [47:46] WO: Severity. -/
def SAF_SWLOG_SEV : Fld := ⟨SAF_SWLOG, 47, 46⟩
/-- SAF_SWLOG.CODE [45:40] WO: Firmware code, 0–63. -/
def SAF_SWLOG_CODE : Fld := ⟨SAF_SWLOG, 45, 40⟩
/-- SAF_SWLOG.DATA [39:0] WO: Entry data; the write adds the entry. -/
def SAF_SWLOG_DATA : Fld := ⟨SAF_SWLOG, 39, 0⟩

/-- SAF_COUNT (R526). -/
def SAF_COUNT : Nat := 0x10160058
/-- SAF_COUNT.CF [47:32] RO: Clock faults; wraps. -/
def SAF_COUNT_CF : Fld := ⟨SAF_COUNT, 47, 32⟩
/-- SAF_COUNT.WDOG [31:16] RO: Watchdog expiries and double faults; wraps. -/
def SAF_COUNT_WDOG : Fld := ⟨SAF_COUNT, 31, 16⟩
/-- SAF_COUNT.VEXC [15:0] RO: Supply excursions; wraps. -/
def SAF_COUNT_VEXC : Fld := ⟨SAF_COUNT, 15, 0⟩

/-- SAF_VOLTk (R526). -/
def SAF_VOLTk (k : Nat) : Nat := 0x10160100 + 0x8 * k
/-- SAF_VOLTk.MV [15:0] RO: Last sample, mV. -/
def SAF_VOLTk_MV (k : Nat) : Fld := ⟨SAF_VOLTk k, 15, 0⟩

/-- SAF_VLIMk (R526). -/
def SAF_VLIMk (k : Nat) : Nat := 0x10160140 + 0x8 * k
/-- SAF_VLIMk.HI [31:16] RW: Upper limit, mV. Reset: Per supply. -/
def SAF_VLIMk_HI (k : Nat) : Fld := ⟨SAF_VLIMk k, 31, 16⟩
/-- SAF_VLIMk.LO [15:0] RW: Lower limit, mV. Reset: Per supply. -/
def SAF_VLIMk_LO (k : Nat) : Fld := ⟨SAF_VLIMk k, 15, 0⟩

/-- SAF_WDCFGn (R526). -/
def SAF_WDCFGn (n : Nat) : Nat := 0x10160200 + 0x8 * n
/-- SAF_WDCFGn.EN [16:16] RW: Watchdog enable (R511). -/
def SAF_WDCFGn_EN (n : Nat) : Fld := ⟨SAF_WDCFGn n, 16, 16⟩
/-- SAF_WDCFGn.PERIOD [15:0] RW: Period in µs (100); 0 treated as 1. -/
def SAF_WDCFGn_PERIOD (n : Nat) : Fld := ⟨SAF_WDCFGn n, 15, 0⟩

/-- SAF_WDKICKn (R526). -/
def SAF_WDKICKn (n : Nat) : Nat := 0x10160240 + 0x8 * n
/-- SAF_WDKICKn.KICK [0:0] WO: Restart the count. -/
def SAF_WDKICKn_KICK (n : Nat) : Fld := ⟨SAF_WDKICKn n, 0, 0⟩

/-- PMX_PINn (R527). -/
def PMX_PINn (n : Nat) : Nat := 0x10170000 + 0x8 * n
/-- PMX_PINn.IN [23:23] RO: Level at the ball. -/
def PMX_PINn_IN (n : Nat) : Fld := ⟨PMX_PINn n, 23, 23⟩
/-- PMX_PINn.OUT [22:22] RW: GPIO output level. -/
def PMX_PINn_OUT (n : Nat) : Fld := ⟨PMX_PINn n, 22, 22⟩
/-- PMX_PINn.FUNC [21:16] RW: Function (R523). -/
def PMX_PINn_FUNC (n : Nat) : Fld := ⟨PMX_PINn n, 21, 16⟩
/-- PMX_PINn.FREL [10:10] WO: Force release; SV only. -/
def PMX_PINn_FREL (n : Nat) : Fld := ⟨PMX_PINn n, 10, 10⟩
/-- PMX_PINn.RELEASE [9:9] WO: Release; owner only. -/
def PMX_PINn_RELEASE (n : Nat) : Fld := ⟨PMX_PINn n, 9, 9⟩
/-- PMX_PINn.CLAIM [8:8] WO: Claim (R524). -/
def PMX_PINn_CLAIM (n : Nat) : Fld := ⟨PMX_PINn n, 8, 8⟩
/-- PMX_PINn.OWNED [7:7] RO: The ball has an owner. -/
def PMX_PINn_OWNED (n : Nat) : Fld := ⟨PMX_PINn n, 7, 7⟩
/-- PMX_PINn.ID [3:0] RO: Owner's initiator ID. -/
def PMX_PINn_ID (n : Nat) : Fld := ⟨PMX_PINn n, 3, 0⟩

/-- PMX_STAT (R527). -/
def PMX_STAT : Nat := 0x10170200
/-- PMX_STAT.REFUSED [1:1] W1C: A claim was refused. -/
def PMX_STAT_REFUSED : Fld := ⟨PMX_STAT, 1, 1⟩
/-- PMX_STAT.CFGERR [0:0] W1C: A FUNC write was ignored. -/
def PMX_STAT_CFGERR : Fld := ⟨PMX_STAT, 0, 0⟩

/-- PMX_INTEN (R525). -/
def PMX_INTEN : Nat := 0x10170208
/-- PMX_INTEN.EN [1:0] RW: Enables of the matching STAT bits. -/
def PMX_INTEN_EN : Fld := ⟨PMX_INTEN, 1, 0⟩

/-- DBG_CTRL (R568). -/
def DBG_CTRL : Nat := 0x10180000
/-- DBG_CTRL.WRAP [1:1] RW: 1: overwrite the oldest word. -/
def DBG_CTRL_WRAP : Fld := ⟨DBG_CTRL, 1, 1⟩
/-- DBG_CTRL.TREN [0:0] RW: Trace enable. -/
def DBG_CTRL_TREN : Fld := ⟨DBG_CTRL, 0, 0⟩

/-- DBG_TRSRC (R568). -/
def DBG_TRSRC : Nat := 0x10180008
/-- DBG_TRSRC.INITS [31:16] RW: Bit i: trace initiator i. -/
def DBG_TRSRC_INITS : Fld := ⟨DBG_TRSRC, 31, 16⟩
/-- DBG_TRSRC.CORES [6:0] RW: Bit n: trace core n. -/
def DBG_TRSRC_CORES : Fld := ⟨DBG_TRSRC, 6, 0⟩

/-- DBG_TRWP (R568). -/
def DBG_TRWP : Nat := 0x10180010
/-- DBG_TRWP.LOST [31:16] RO: Events dropped, saturating. -/
def DBG_TRWP_LOST : Fld := ⟨DBG_TRWP, 31, 16⟩
/-- DBG_TRWP.WRAPPED [10:10] RO: The buffer has wrapped. -/
def DBG_TRWP_WRAPPED : Fld := ⟨DBG_TRWP, 10, 10⟩
/-- DBG_TRWP.WP [9:0] RO: Next word index. -/
def DBG_TRWP_WP : Fld := ⟨DBG_TRWP, 9, 0⟩

/-- DBG_TRBUFi (R568). -/
def DBG_TRBUFi (i : Nat) : Nat := 0x10182000 + 0x8 * i
/-- DBG_TRBUFi.WORD [47:0] RO: Trace word, i from 0 to 1,023. -/
def DBG_TRBUFi_WORD (i : Nat) : Fld := ⟨DBG_TRBUFi i, 47, 0⟩

/-- The registers of block SYS. -/
def sysRegs : List RegSpec := [
  { base := 0x10000000, reset := 0x40964D25, fields := [⟨31, 16, .ro⟩, ⟨15, 8, .ro⟩, ⟨7, 0, .ro⟩] },
  { base := 0x10000008, reset := 0x1004200, fields := [⟨31, 16, .ro⟩, ⟨15, 8, .ro⟩, ⟨7, 0, .ro⟩] },
  { base := 0x10000010, reset := 0x1, fields := [⟨7, 0, .ro⟩] },
  { base := 0x10000018, fields := [⟨4, 3, .ro⟩, ⟨2, 0, .ro⟩] },
  { base := 0x10000040, reset := 0x8080201000, fields := [⟨39, 32, .ro⟩, ⟨31, 24, .ro⟩, ⟨23, 16, .ro⟩, ⟨15, 0, .ro⟩] },
  { base := 0x10000048, reset := 0x1084424480, fields := [⟨39, 32, .ro⟩, ⟨31, 28, .ro⟩, ⟨27, 24, .ro⟩, ⟨23, 20, .ro⟩, ⟨19, 16, .ro⟩, ⟨15, 12, .ro⟩, ⟨11, 8, .ro⟩, ⟨7, 4, .ro⟩] },
  { base := 0x10000050, reset := 0x30201010, fields := [⟨31, 24, .ro⟩, ⟨23, 16, .ro⟩, ⟨15, 8, .ro⟩, ⟨7, 0, .ro⟩] },
  { base := 0x10000400, s1 := 0x8, c1 := 192, fields := [⟨47, 0, .rw⟩] }]

/-- The registers of block PWR. -/
def pwrRegs : List RegSpec := [
  { base := 0x10010000, fields := [⟨2, 0, .wo⟩] },
  { base := 0x10010008, reset := 0x200, fields := [⟨23, 16, .ro⟩, ⟨15, 14, .ro⟩, ⟨13, 13, .ro⟩, ⟨12, 12, .ro⟩, ⟨9, 8, .ro⟩, ⟨5, 5, .w1c⟩, ⟨4, 4, .w1c⟩, ⟨3, 3, .w1c⟩, ⟨2, 2, .w1c⟩, ⟨1, 1, .w1c⟩, ⟨0, 0, .w1c⟩] },
  { base := 0x10010010, fields := [⟨5, 0, .rw⟩] },
  { base := 0x10010018, reset := 0x2, fields := [⟨1, 0, .rw⟩] },
  { base := 0x10010020, reset := 0x100C800C8, fields := [⟨32, 32, .rw⟩, ⟨31, 31, .rw⟩, ⟨30, 16, .rw⟩, ⟨15, 0, .rw⟩] },
  { base := 0x10010028, reset := 0x1, fields := [⟨4, 4, .rw⟩, ⟨3, 3, .rw⟩, ⟨2, 2, .rw⟩, ⟨1, 1, .rw⟩, ⟨0, 0, .rw⟩] },
  { base := 0x10010030, fields := [⟨2, 1, .rw⟩, ⟨0, 0, .rw⟩] },
  { base := 0x10010038, fields := [⟨34, 32, .ro⟩, ⟨31, 0, .ro⟩] },
  { base := 0x10010040, fields := [⟨47, 0, .ro⟩] },
  { base := 0x10010048, reset := 0xFFFFFFFFFFFF, fields := [⟨47, 0, .rw⟩] },
  { base := 0x10010050, reset := 0x1, fields := [⟨5, 5, .w1c⟩, ⟨4, 4, .w1c⟩, ⟨3, 3, .w1c⟩, ⟨2, 2, .w1c⟩, ⟨1, 1, .w1c⟩, ⟨0, 0, .w1c⟩] },
  { base := 0x10010058, fields := [⟨47, 32, .ro⟩, ⟨31, 16, .ro⟩, ⟨15, 0, .ro⟩] }]

/-- The registers of block CLK. -/
def clkRegs : List RegSpec := [
  { base := 0x10020000, reset := 0x1, fields := [⟨0, 0, .rw⟩] },
  { base := 0x10020008, fields := [⟨23, 16, .ro⟩, ⟨15, 13, .ro⟩, ⟨12, 12, .ro⟩, ⟨11, 11, .ro⟩, ⟨10, 10, .ro⟩, ⟨8, 8, .w1c⟩, ⟨7, 7, .w1c⟩, ⟨6, 6, .w1c⟩, ⟨5, 5, .w1c⟩, ⟨4, 4, .w1c⟩, ⟨3, 3, .w1c⟩, ⟨2, 2, .w1c⟩, ⟨1, 1, .w1c⟩, ⟨0, 0, .w1c⟩] },
  { base := 0x10020010, fields := [⟨8, 0, .rw⟩] },
  { base := 0x10020018, fields := [⟨1, 1, .wo⟩, ⟨0, 0, .wo⟩] },
  { base := 0x10020020, reset := 0xA32000000, fields := [⟨39, 32, .rw⟩, ⟨31, 24, .rw⟩, ⟨13, 12, .rw⟩, ⟨11, 8, .rw⟩, ⟨5, 4, .rw⟩, ⟨3, 0, .rw⟩] },
  { base := 0x10020028, fields := [⟨3, 2, .ro⟩, ⟨1, 0, .ro⟩] },
  { base := 0x10020030, fields := [⟨47, 0, .ro⟩] },
  { base := 0x10020038, fields := [⟨31, 24, .ro⟩, ⟨23, 0, .ro⟩] },
  { base := 0x10020040, reset := 0xCC, fields := [⟨7, 4, .ro⟩, ⟨3, 0, .ro⟩] },
  { base := 0x10020048, fields := [⟨47, 32, .ro⟩, ⟨31, 16, .ro⟩, ⟨15, 0, .ro⟩] },
  { base := 0x10020100, s1 := 0x8, c1 := 32, fields := [⟨31, 31, .rw⟩, ⟨28, 16, .rw⟩, ⟨12, 0, .rw⟩] }]

/-- The registers of block OSY, part 0. -/
def osyRegs0 : List RegSpec := [
  { base := 0x10030000, s1 := 0x800, c1 := 4, fields := [⟨11, 10, .rw⟩, ⟨9, 8, .rw⟩, ⟨0, 0, .rw⟩] },
  { base := 0x10030008, s1 := 0x800, c1 := 4, fields := [⟨15, 10, .ro⟩, ⟨9, 9, .ro⟩, ⟨7, 7, .w1c⟩, ⟨6, 6, .w1c⟩, ⟨5, 5, .w1c⟩, ⟨4, 4, .w1c⟩, ⟨3, 3, .w1c⟩, ⟨2, 2, .w1c⟩, ⟨1, 1, .w1c⟩, ⟨0, 0, .w1c⟩] },
  { base := 0x10030010, s1 := 0x800, c1 := 4, fields := [⟨7, 0, .rw⟩] },
  { base := 0x10030018, s1 := 0x800, c1 := 4, fields := [⟨13, 8, .wo⟩, ⟨5, 5, .wo⟩, ⟨4, 4, .wo⟩, ⟨3, 3, .wo⟩, ⟨2, 2, .wo⟩, ⟨1, 1, .wo⟩, ⟨0, 0, .wo⟩] },
  { base := 0x10030020, s1 := 0x800, c1 := 4, reset := 0x3C, fields := [⟨7, 0, .rw⟩] },
  { base := 0x10030028, s1 := 0x800, c1 := 4, fields := [⟨47, 0, .rw⟩] },
  { base := 0x10030030, s1 := 0x800, c1 := 4, fields := [⟨31, 24, .ro⟩, ⟨23, 0, .ro⟩] },
  { base := 0x10030038, s1 := 0x800, c1 := 4, fields := [⟨11, 10, .rw⟩, ⟨9, 9, .rw⟩, ⟨8, 8, .rw⟩, ⟨3, 2, .rw⟩, ⟨1, 1, .rw⟩, ⟨0, 0, .rw⟩] },
  { base := 0x10030040, s1 := 0x800, c1 := 4, s2 := 0x10, c2 := 2, reset := 0x258, fields := [⟨23, 0, .rw⟩] },
  { base := 0x10030048, s1 := 0x800, c1 := 4, s2 := 0x10, c2 := 2, reset := 0x1000000, fields := [⟨47, 24, .rw⟩, ⟨23, 0, .rw⟩] },
  { base := 0x10030060, s1 := 0x800, c1 := 4, fields := [⟨9, 8, .ro⟩, ⟨7, 4, .ro⟩, ⟨3, 0, .rw⟩] },
  { base := 0x10030068, s1 := 0x800, c1 := 4, fields := [⟨47, 0, .ro⟩] },
  { base := 0x10030070, s1 := 0x800, c1 := 4, fields := [⟨47, 0, .ro⟩] },
  { base := 0x10030078, s1 := 0x800, c1 := 4, fields := [⟨47, 0, .ro⟩] }]

/-- The registers of block OSY, part 1. -/
def osyRegs1 : List RegSpec := [
  { base := 0x10030080, s1 := 0x800, c1 := 4, fields := [⟨47, 0, .ro⟩] },
  { base := 0x10030088, s1 := 0x800, c1 := 4, fields := [⟨28, 16, .ro⟩, ⟨12, 0, .ro⟩] },
  { base := 0x10030100, s1 := 0x800, c1 := 4, s2 := 0x10, c2 := 16, fields := [⟨23, 0, .rw⟩] },
  { base := 0x10030108, s1 := 0x800, c1 := 4, s2 := 0x10, c2 := 16, fields := [⟨39, 0, .rw⟩] },
  { base := 0x10030200, s1 := 0x800, c1 := 4, s2 := 0x8, c2 := 64, fields := [⟨31, 31, .rw⟩, ⟨28, 16, .rw⟩, ⟨12, 0, .rw⟩] }]

/-- The registers of block OSY. -/
def osyRegs : List RegSpec := osyRegs0 ++ osyRegs1

/-- The registers of block TB, part 0. -/
def tbRegs0 : List RegSpec := [
  { base := 0x10040000, fields := [⟨47, 0, .ro⟩] },
  { base := 0x10040008, fields := [⟨47, 0, .ro⟩] },
  { base := 0x10040010, reset := 0x72884, fields := [⟨47, 0, .ro⟩] },
  { base := 0x10040018, reset := 0xF6102EBDF535, fields := [⟨47, 0, .ro⟩] },
  { base := 0x10040020, fields := [⟨47, 0, .rw⟩] },
  { base := 0x10040028, fields := [⟨47, 0, .ro⟩] },
  { base := 0x10040030, fields := [⟨47, 0, .ro⟩] },
  { base := 0x10040038, fields := [⟨47, 0, .rw⟩] },
  { base := 0x10040040, fields := [⟨47, 0, .rw⟩] },
  { base := 0x10040048, fields := [⟨19, 0, .rw⟩] },
  { base := 0x10040050, fields := [⟨47, 0, .ro⟩] },
  { base := 0x10040058, fields := [⟨47, 0, .rw⟩] },
  { base := 0x10040060, fields := [⟨47, 0, .rw⟩] },
  { base := 0x10040068, fields := [⟨3, 3, .wo⟩, ⟨2, 2, .wo⟩, ⟨1, 1, .wo⟩, ⟨0, 0, .wo⟩] }]

/-- The registers of block TB, part 1. -/
def tbRegs1 : List RegSpec := [
  { base := 0x10040070, fields := [⟨11, 11, .ro⟩, ⟨10, 10, .ro⟩, ⟨9, 9, .ro⟩, ⟨8, 8, .ro⟩, ⟨7, 7, .w1c⟩, ⟨6, 6, .w1c⟩, ⟨5, 5, .w1c⟩, ⟨4, 4, .w1c⟩, ⟨3, 3, .w1c⟩, ⟨2, 2, .w1c⟩, ⟨1, 1, .w1c⟩, ⟨0, 0, .w1c⟩] },
  { base := 0x10040078, fields := [⟨7, 0, .rw⟩] },
  { base := 0x10040080, fields := [⟨11, 11, .ro⟩, ⟨10, 10, .ro⟩, ⟨9, 9, .rw⟩, ⟨8, 8, .rw⟩, ⟨3, 0, .rw⟩] },
  { base := 0x10040088, fields := [⟨47, 0, .ro⟩] },
  { base := 0x10040090, fields := [⟨47, 0, .ro⟩] },
  { base := 0x10040098, fields := [⟨47, 0, .ro⟩] },
  { base := 0x100400A0, fields := [⟨23, 20, .ro⟩, ⟨19, 16, .ro⟩, ⟨7, 0, .ro⟩] },
  { base := 0x100400A8, fields := [⟨33, 33, .rw⟩, ⟨32, 32, .rw⟩, ⟨31, 16, .rw⟩, ⟨15, 0, .rw⟩] },
  { base := 0x100400B0, fields := [⟨47, 0, .rw⟩] },
  { base := 0x100400B8, reset := 0x186A0, fields := [⟨39, 0, .rw⟩] },
  { base := 0x100400C0, reset := 0xA00, fields := [⟨19, 0, .rw⟩] },
  { base := 0x100400C8, reset := 0x100, fields := [⟨23, 0, .rw⟩] },
  { base := 0x100400D0, reset := 0x70, fields := [⟨15, 0, .rw⟩] },
  { base := 0x100400D8, reset := 0x303E80A0001, fields := [⟨47, 40, .rw⟩, ⟨39, 24, .rw⟩, ⟨23, 16, .rw⟩, ⟨12, 0, .rw⟩] }]

/-- The registers of block TB, part 2. -/
def tbRegs2 : List RegSpec := [
  { base := 0x100400E0, fields := [⟨47, 32, .ro⟩, ⟨31, 16, .ro⟩, ⟨15, 0, .ro⟩] }]

/-- The registers of block TB. -/
def tbRegs : List RegSpec := tbRegs0 ++ tbRegs1 ++ tbRegs2

/-- The registers of block TPE, part 0. -/
def tpeRegs0 : List RegSpec := [
  { base := 0x10050000, s1 := 0x80, c1 := 16, fields := [⟨2, 2, .rw⟩, ⟨1, 1, .rw⟩, ⟨0, 0, .rw⟩] },
  { base := 0x10050008, s1 := 0x80, c1 := 16, fields := [⟨1, 1, .wo⟩, ⟨0, 0, .wo⟩] },
  { base := 0x10050010, s1 := 0x80, c1 := 16, fields := [⟨13, 12, .ro⟩, ⟨11, 11, .ro⟩, ⟨10, 10, .ro⟩, ⟨8, 8, .w1c⟩, ⟨7, 7, .w1c⟩, ⟨6, 6, .w1c⟩, ⟨5, 5, .w1c⟩, ⟨4, 4, .w1c⟩, ⟨3, 3, .w1c⟩, ⟨2, 2, .w1c⟩, ⟨1, 1, .w1c⟩, ⟨0, 0, .w1c⟩] },
  { base := 0x10050018, s1 := 0x80, c1 := 16, fields := [⟨8, 0, .rw⟩] },
  { base := 0x10050020, s1 := 0x80, c1 := 16, fields := [⟨10, 10, .wo⟩, ⟨9, 9, .wo⟩, ⟨8, 8, .wo⟩, ⟨7, 7, .ro⟩, ⟨3, 0, .ro⟩] },
  { base := 0x10050028, s1 := 0x80, c1 := 16, fields := [⟨47, 0, .rw⟩] },
  { base := 0x10050030, s1 := 0x80, c1 := 16, fields := [⟨47, 0, .rw⟩] },
  { base := 0x10050038, s1 := 0x80, c1 := 16, fields := [⟨15, 0, .rw⟩] },
  { base := 0x10050040, s1 := 0x80, c1 := 16, fields := [⟨47, 0, .rw⟩] },
  { base := 0x10050048, s1 := 0x80, c1 := 16, fields := [⟨47, 0, .rw⟩] },
  { base := 0x10050050, s1 := 0x80, c1 := 16, fields := [⟨23, 0, .rw⟩] },
  { base := 0x10050058, s1 := 0x80, c1 := 16, fields := [⟨47, 0, .ro⟩] },
  { base := 0x10050060, s1 := 0x80, c1 := 16, fields := [⟨47, 0, .ro⟩] },
  { base := 0x10050068, s1 := 0x80, c1 := 16, fields := [⟨47, 0, .ro⟩] }]

/-- The registers of block TPE, part 1. -/
def tpeRegs1 : List RegSpec := [
  { base := 0x10050070, s1 := 0x80, c1 := 16, fields := [⟨47, 0, .ro⟩] },
  { base := 0x10050078, s1 := 0x80, c1 := 16, fields := [⟨47, 32, .ro⟩, ⟨31, 0, .ro⟩] },
  { base := 0x10050800, s1 := 0x80, c1 := 8, reset := 0x400, fields := [⟨15, 8, .rw⟩, ⟨5, 5, .wo⟩, ⟨4, 4, .rw⟩, ⟨3, 3, .rw⟩, ⟨2, 1, .rw⟩, ⟨0, 0, .rw⟩] },
  { base := 0x10050808, s1 := 0x80, c1 := 8, fields := [⟨14, 10, .ro⟩, ⟨5, 5, .w1c⟩, ⟨4, 4, .w1c⟩, ⟨3, 3, .w1c⟩, ⟨2, 2, .w1c⟩, ⟨1, 1, .w1c⟩, ⟨0, 0, .w1c⟩] },
  { base := 0x10050810, s1 := 0x80, c1 := 8, fields := [⟨5, 0, .rw⟩] },
  { base := 0x10050818, s1 := 0x80, c1 := 8, fields := [⟨10, 10, .wo⟩, ⟨9, 9, .wo⟩, ⟨8, 8, .wo⟩, ⟨7, 7, .ro⟩, ⟨3, 0, .ro⟩] },
  { base := 0x10050820, s1 := 0x80, c1 := 8, fields := [⟨23, 0, .rw⟩] },
  { base := 0x10050828, s1 := 0x80, c1 := 8, fields := [⟨47, 0, .rw⟩] },
  { base := 0x10050830, s1 := 0x80, c1 := 8, fields := [⟨47, 0, .rw⟩] },
  { base := 0x10050838, s1 := 0x80, c1 := 8, reset := 0x1, fields := [⟨15, 0, .rw⟩] },
  { base := 0x10050840, s1 := 0x80, c1 := 8, fields := [⟨47, 0, .rw⟩] },
  { base := 0x10050848, s1 := 0x80, c1 := 8, reset := 0x3E8, fields := [⟨23, 0, .rw⟩] },
  { base := 0x10050850, s1 := 0x80, c1 := 8, fields := [⟨47, 0, .ro⟩] },
  { base := 0x10050858, s1 := 0x80, c1 := 8, fields := [⟨47, 0, .ro⟩] }]

/-- The registers of block TPE, part 2. -/
def tpeRegs2 : List RegSpec := [
  { base := 0x10050860, s1 := 0x80, c1 := 8, fields := [⟨7, 7, .ro⟩, ⟨6, 6, .ro⟩, ⟨5, 5, .ro⟩, ⟨4, 4, .ro⟩, ⟨3, 3, .ro⟩, ⟨2, 2, .ro⟩] },
  { base := 0x10050868, s1 := 0x80, c1 := 8, fields := [⟨47, 32, .ro⟩, ⟨31, 16, .ro⟩, ⟨15, 8, .ro⟩, ⟨7, 0, .ro⟩] },
  { base := 0x10050C00, fields := [⟨23, 8, .rw⟩, ⟨7, 7, .rw⟩, ⟨6, 6, .rw⟩, ⟨3, 0, .rw⟩] },
  { base := 0x10050C08, fields := [⟨1, 1, .w1c⟩, ⟨0, 0, .w1c⟩] },
  { base := 0x10050C10, fields := [⟨23, 16, .ro⟩, ⟨15, 0, .ro⟩] }]

/-- The registers of block TPE. -/
def tpeRegs : List RegSpec := tpeRegs0 ++ tpeRegs1 ++ tpeRegs2

/-- The registers of block SP, part 0. -/
def spRegs0 : List RegSpec := [
  { base := 0x10060000, s1 := 0x800, c1 := 32, reset := 0x40000010, fields := [⟨31, 24, .rw⟩, ⟨23, 16, .rw⟩, ⟨9, 8, .rw⟩, ⟨4, 4, .rw⟩, ⟨1, 1, .rw⟩, ⟨0, 0, .rw⟩] },
  { base := 0x10060008, s1 := 0x800, c1 := 32, fields := [⟨12, 12, .ro⟩, ⟨11, 8, .ro⟩, ⟨7, 4, .ro⟩, ⟨3, 0, .rw⟩] },
  { base := 0x10060010, s1 := 0x800, c1 := 32, fields := [⟨14, 14, .ro⟩, ⟨13, 13, .ro⟩, ⟨12, 12, .ro⟩, ⟨11, 11, .ro⟩, ⟨10, 10, .ro⟩, ⟨9, 9, .w1c⟩, ⟨8, 8, .w1c⟩, ⟨7, 7, .w1c⟩, ⟨6, 6, .w1c⟩, ⟨5, 5, .w1c⟩, ⟨4, 4, .w1c⟩, ⟨3, 3, .w1c⟩, ⟨2, 2, .w1c⟩, ⟨1, 1, .w1c⟩, ⟨0, 0, .w1c⟩] },
  { base := 0x10060018, s1 := 0x800, c1 := 32, fields := [⟨9, 0, .rw⟩] },
  { base := 0x10060020, s1 := 0x800, c1 := 32, fields := [⟨47, 36, .ro⟩, ⟨35, 24, .ro⟩, ⟨23, 12, .ro⟩, ⟨11, 0, .ro⟩] },
  { base := 0x10060028, s1 := 0x800, c1 := 32, fields := [⟨47, 32, .ro⟩, ⟨31, 16, .ro⟩, ⟨15, 0, .ro⟩] },
  { base := 0x10060030, s1 := 0x800, c1 := 32, fields := [⟨47, 32, .ro⟩, ⟨31, 16, .ro⟩, ⟨15, 0, .ro⟩] },
  { base := 0x10060038, s1 := 0x800, c1 := 32, fields := [⟨47, 32, .ro⟩, ⟨31, 16, .ro⟩, ⟨15, 0, .ro⟩] },
  { base := 0x10060040, s1 := 0x800, c1 := 32, fields := [⟨47, 24, .ro⟩, ⟨23, 0, .ro⟩] },
  { base := 0x10060048, s1 := 0x800, c1 := 32, fields := [⟨23, 0, .ro⟩] },
  { base := 0x10060050, s1 := 0x800, c1 := 32, reset := 0xFFFFFF000000, fields := [⟨47, 24, .rw⟩, ⟨23, 0, .rw⟩] },
  { base := 0x10060058, s1 := 0x800, c1 := 32, fields := [⟨23, 0, .rw⟩] },
  { base := 0x10060060, s1 := 0x800, c1 := 32, fields := [⟨23, 0, .rw⟩] },
  { base := 0x10060068, s1 := 0x800, c1 := 32, fields := [⟨23, 0, .rw⟩] }]

/-- The registers of block SP, part 1. -/
def spRegs1 : List RegSpec := [
  { base := 0x10060070, s1 := 0x800, c1 := 32, reset := 0x101004, fields := [⟨23, 16, .rw⟩, ⟨15, 8, .rw⟩, ⟨2, 0, .rw⟩] },
  { base := 0x10060078, s1 := 0x800, c1 := 32, reset := 0x20, fields := [⟨9, 0, .rw⟩] },
  { base := 0x10060080, s1 := 0x800, c1 := 32, reset := 0x400400400400, fields := [⟨47, 36, .ro⟩, ⟨35, 24, .ro⟩, ⟨23, 12, .ro⟩, ⟨11, 0, .ro⟩] },
  { base := 0x10060088, s1 := 0x800, c1 := 32, fields := [⟨47, 0, .ro⟩] },
  { base := 0x10060090, s1 := 0x800, c1 := 32, fields := [⟨47, 0, .ro⟩] },
  { base := 0x10060098, s1 := 0x800, c1 := 32, fields := [⟨31, 16, .ro⟩, ⟨15, 0, .ro⟩] },
  { base := 0x100600A0, s1 := 0x800, c1 := 32, fields := [⟨13, 0, .rw⟩] },
  { base := 0x100600A8, s1 := 0x800, c1 := 32, fields := [⟨47, 40, .ro⟩, ⟨39, 32, .ro⟩, ⟨31, 24, .ro⟩, ⟨23, 16, .ro⟩, ⟨15, 8, .ro⟩, ⟨7, 0, .ro⟩] },
  { base := 0x100600B0, s1 := 0x800, c1 := 32, fields := [⟨23, 0, .ro⟩] },
  { base := 0x10070000, fields := [⟨47, 0, .rw⟩] },
  { base := 0x10070008, fields := [⟨47, 0, .rw⟩] },
  { base := 0x10070010, fields := [⟨31, 0, .rw⟩] },
  { base := 0x10070018, fields := [⟨1, 1, .wo⟩, ⟨0, 0, .wo⟩] },
  { base := 0x10070020, fields := [⟨3, 3, .w1c⟩, ⟨2, 2, .w1c⟩, ⟨1, 1, .w1c⟩, ⟨0, 0, .ro⟩] }]

/-- The registers of block SP, part 2. -/
def spRegs2 : List RegSpec := [
  { base := 0x10070028, fields := [⟨31, 0, .ro⟩] },
  { base := 0x10070030, fields := [⟨31, 0, .ro⟩] }]

/-- The registers of block SP. -/
def spRegs : List RegSpec := spRegs0 ++ spRegs1 ++ spRegs2

/-- The registers of block CND, part 0. -/
def cndRegs0 : List RegSpec := [
  { base := 0x10080000, s1 := 0x200, c1 := 128, reset := 0x10, fields := [⟨8, 8, .wo⟩, ⟨4, 4, .rw⟩, ⟨3, 2, .rw⟩, ⟨1, 0, .rw⟩] },
  { base := 0x10080008, s1 := 0x200, c1 := 128, fields := [⟨8, 8, .ro⟩, ⟨7, 4, .ro⟩, ⟨3, 3, .w1c⟩, ⟨2, 2, .w1c⟩, ⟨1, 1, .w1c⟩, ⟨0, 0, .w1c⟩] },
  { base := 0x10080010, s1 := 0x200, c1 := 128, fields := [⟨3, 0, .rw⟩] },
  { base := 0x10080018, s1 := 0x200, c1 := 128, fields := [⟨47, 24, .ro⟩, ⟨23, 0, .ro⟩] },
  { base := 0x10080020, s1 := 0x200, c1 := 128, reset := 0xE000000, fields := [⟨28, 24, .rw⟩, ⟨23, 12, .ro⟩, ⟨11, 0, .ro⟩] },
  { base := 0x10080028, s1 := 0x200, c1 := 128, reset := 0x807FF, fields := [⟨25, 16, .rw⟩, ⟨11, 0, .rw⟩] },
  { base := 0x10080030, s1 := 0x200, c1 := 128, reset := 0x304000262, fields := [⟨35, 32, .rw⟩, ⟨31, 16, .rw⟩, ⟨11, 0, .rw⟩] },
  { base := 0x10080038, s1 := 0x200, c1 := 128, reset := 0x10001000, fields := [⟨31, 16, .rw⟩, ⟨15, 0, .ro⟩] },
  { base := 0x10080040, s1 := 0x200, c1 := 128, s2 := 0x8, c2 := 4, reset := 0x38600, fields := [⟨47, 24, .rw⟩, ⟨19, 16, .rw⟩, ⟨15, 12, .rw⟩, ⟨11, 8, .rw⟩, ⟨1, 0, .rw⟩] },
  { base := 0x10080060, s1 := 0x200, c1 := 128, s2 := 0x8, c2 := 4, fields := [⟨31, 24, .ro⟩, ⟨23, 0, .ro⟩] },
  { base := 0x10080080, s1 := 0x200, c1 := 128, fields := [⟨47, 24, .ro⟩, ⟨23, 0, .ro⟩] },
  { base := 0x10080088, s1 := 0x200, c1 := 128, fields := [⟨47, 24, .ro⟩, ⟨23, 0, .ro⟩] },
  { base := 0x10080090, s1 := 0x200, c1 := 128, fields := [⟨47, 24, .ro⟩, ⟨23, 20, .ro⟩, ⟨15, 0, .ro⟩] },
  { base := 0x10080098, s1 := 0x200, c1 := 128, fields := [⟨43, 32, .ro⟩, ⟨31, 0, .ro⟩] }]

/-- The registers of block CND, part 1. -/
def cndRegs1 : List RegSpec := [
  { base := 0x10090000, s1 := 0x8, c1 := 4, fields := [⟨9, 9, .rw⟩, ⟨8, 8, .rw⟩, ⟨6, 0, .rw⟩] },
  { base := 0x10090020, s1 := 0x8, c1 := 8, fields := [⟨9, 9, .rw⟩, ⟨8, 8, .rw⟩, ⟨6, 0, .rw⟩] },
  { base := 0x10090060, fields := [⟨0, 0, .w1c⟩] },
  { base := 0x10090068, s1 := 0x8, c1 := 4, fields := [⟨31, 0, .ro⟩] }]

/-- The registers of block CND. -/
def cndRegs : List RegSpec := cndRegs0 ++ cndRegs1

/-- The registers of block FEC. -/
def fecRegs : List RegSpec := [
  { base := 0x100A0000, s1 := 0x400, c1 := 32, reset := 0x438, fields := [⟨15, 8, .rw⟩, ⟨5, 4, .rw⟩, ⟨3, 3, .rw⟩] },
  { base := 0x100A0008, s1 := 0x400, c1 := 32, reset := 0x801060, fields := [⟨23, 16, .rw⟩, ⟨15, 8, .rw⟩, ⟨7, 0, .rw⟩] },
  { base := 0x100A0010, s1 := 0x400, c1 := 32, fields := [⟨15, 8, .wo⟩, ⟨3, 0, .wo⟩] },
  { base := 0x100A0018, s1 := 0x400, c1 := 32, fields := [⟨31, 24, .ro⟩, ⟨23, 16, .ro⟩, ⟨15, 12, .ro⟩, ⟨10, 8, .ro⟩, ⟨6, 6, .w1c⟩, ⟨5, 5, .w1c⟩, ⟨4, 4, .w1c⟩, ⟨3, 3, .w1c⟩, ⟨2, 2, .w1c⟩, ⟨1, 1, .w1c⟩, ⟨0, 0, .w1c⟩] },
  { base := 0x100A0020, s1 := 0x400, c1 := 32, fields := [⟨6, 0, .rw⟩] },
  { base := 0x100A0028, s1 := 0x400, c1 := 32, fields := [⟨31, 0, .rw⟩] },
  { base := 0x100A0030, s1 := 0x400, c1 := 32, fields := [⟨11, 10, .rw⟩, ⟨7, 0, .rw⟩] },
  { base := 0x100A0038, s1 := 0x400, c1 := 32, s2 := 0x8, c2 := 4, fields := [⟨47, 0, .rw⟩] },
  { base := 0x100A0058, s1 := 0x400, c1 := 32, fields := [⟨47, 32, .ro⟩, ⟨31, 16, .ro⟩, ⟨15, 8, .ro⟩, ⟨7, 0, .ro⟩] },
  { base := 0x100A0060, s1 := 0x400, c1 := 32, fields := [⟨47, 40, .ro⟩, ⟨39, 32, .ro⟩, ⟨31, 0, .ro⟩] },
  { base := 0x100A0068, s1 := 0x400, c1 := 32, s2 := 0x8, c2 := 8, fields := [⟨47, 0, .ro⟩] },
  { base := 0x100A8000, fields := [⟨31, 0, .ro⟩] },
  { base := 0x100A8008, fields := [⟨31, 0, .ro⟩] }]

/-- The registers of block CA, part 0. -/
def caRegs0 : List RegSpec := [
  { base := 0x100B0000, fields := [⟨4, 4, .w1c⟩, ⟨3, 3, .w1c⟩, ⟨2, 2, .w1c⟩, ⟨1, 1, .w1c⟩, ⟨0, 0, .w1c⟩] },
  { base := 0x100B0008, fields := [⟨4, 0, .rw⟩] },
  { base := 0x100B0010, fields := [⟨31, 0, .ro⟩] },
  { base := 0x100B0100, s1 := 0x40, c1 := 4, fields := [⟨31, 7, .rw⟩] },
  { base := 0x100B0108, s1 := 0x40, c1 := 4, fields := [⟨15, 0, .ro⟩] },
  { base := 0x100B0110, s1 := 0x40, c1 := 4, fields := [⟨15, 0, .rw⟩] },
  { base := 0x100B0118, s1 := 0x40, c1 := 4, reset := 0x1, fields := [⟨31, 16, .rw⟩, ⟨12, 0, .rw⟩] },
  { base := 0x100B0120, s1 := 0x40, c1 := 4, fields := [⟨31, 0, .ro⟩] },
  { base := 0x100B0400, s1 := 0x40, c1 := 7, fields := [⟨47, 0, .rw⟩] },
  { base := 0x100B0408, s1 := 0x40, c1 := 7, fields := [⟨47, 0, .rw⟩] },
  { base := 0x100B0410, s1 := 0x40, c1 := 7, fields := [⟨47, 0, .rw⟩] },
  { base := 0x100B0418, s1 := 0x40, c1 := 7, fields := [⟨47, 0, .rw⟩] },
  { base := 0x100B0420, s1 := 0x40, c1 := 7, fields := [⟨47, 32, .wo⟩, ⟨31, 31, .wo⟩, ⟨30, 24, .wo⟩, ⟨19, 19, .wo⟩, ⟨18, 18, .wo⟩, ⟨17, 17, .wo⟩, ⟨16, 16, .wo⟩, ⟨15, 15, .wo⟩, ⟨11, 0, .wo⟩] },
  { base := 0x100B0428, s1 := 0x40, c1 := 7, fields := [⟨8, 8, .w1c⟩, ⟨7, 7, .w1c⟩, ⟨6, 0, .ro⟩] }]

/-- The registers of block CA, part 1. -/
def caRegs1 : List RegSpec := [
  { base := 0x100B0430, s1 := 0x40, c1 := 7, fields := [⟨47, 24, .ro⟩, ⟨23, 0, .ro⟩] },
  { base := 0x100B0800, s1 := 0x8, c1 := 128, fields := [⟨37, 32, .ro⟩, ⟨12, 0, .ro⟩] },
  { base := 0x100B4000, reset := 0x2EE00000000, fields := [⟨47, 24, .ro⟩, ⟨23, 0, .ro⟩] },
  { base := 0x100B4008, fields := [⟨28, 16, .ro⟩, ⟨12, 0, .ro⟩] },
  { base := 0x100B4010, fields := [⟨3, 3, .w1c⟩, ⟨2, 2, .w1c⟩, ⟨1, 1, .w1c⟩, ⟨0, 0, .w1c⟩] },
  { base := 0x100B4018, fields := [⟨3, 0, .rw⟩] },
  { base := 0x100B4020, fields := [⟨47, 32, .ro⟩, ⟨31, 16, .ro⟩, ⟨15, 0, .ro⟩] },
  { base := 0x100B4028, fields := [⟨15, 0, .ro⟩] },
  { base := 0x100B4100, s1 := 0x10, c1 := 8, fields := [⟨47, 40, .wo⟩, ⟨35, 32, .wo⟩, ⟨15, 14, .wo⟩, ⟨13, 12, .wo⟩, ⟨11, 0, .wo⟩] },
  { base := 0x100B4108, s1 := 0x10, c1 := 8, fields := [⟨47, 47, .ro⟩, ⟨39, 32, .ro⟩, ⟨31, 28, .ro⟩, ⟨23, 16, .ro⟩, ⟨11, 0, .ro⟩] },
  { base := 0x100B8000, fields := [⟨2, 2, .w1c⟩, ⟨1, 1, .w1c⟩, ⟨0, 0, .w1c⟩] },
  { base := 0x100B8008, fields := [⟨2, 0, .rw⟩] },
  { base := 0x100B8010, fields := [⟨16, 16, .wo⟩, ⟨15, 8, .wo⟩, ⟨7, 0, .wo⟩] },
  { base := 0x100B8018, fields := [⟨33, 33, .ro⟩, ⟨32, 32, .ro⟩, ⟨31, 0, .ro⟩] }]

/-- The registers of block CA, part 2. -/
def caRegs2 : List RegSpec := [
  { base := 0x100B8020, fields := [⟨15, 0, .ro⟩] },
  { base := 0x100B8040, s1 := 0x8, c1 := 5, fields := [⟨47, 0, .ro⟩] },
  { base := 0x100B8068, fields := [⟨15, 0, .ro⟩] }]

/-- The registers of block CA. -/
def caRegs : List RegSpec := caRegs0 ++ caRegs1 ++ caRegs2

/-- The registers of block SE. -/
def seRegs : List RegSpec := [
  { base := 0x100C0000, fields := [⟨5, 5, .w1c⟩, ⟨4, 4, .w1c⟩, ⟨3, 0, .w1c⟩] },
  { base := 0x100C0008, fields := [⟨5, 0, .rw⟩] },
  { base := 0x100C0010, fields := [⟨31, 7, .rw⟩] },
  { base := 0x100C0018, fields := [⟨15, 0, .ro⟩] },
  { base := 0x100C0020, fields := [⟨15, 0, .rw⟩] },
  { base := 0x100C0028, reset := 0x1, fields := [⟨31, 16, .rw⟩, ⟨10, 0, .rw⟩] },
  { base := 0x100C0030, fields := [⟨31, 0, .ro⟩] },
  { base := 0x100C0038, fields := [⟨47, 0, .ro⟩] },
  { base := 0x100C0100, s1 := 0x20, c1 := 4, fields := [⟨31, 6, .rw⟩] },
  { base := 0x100C0108, s1 := 0x20, c1 := 4, fields := [⟨1, 1, .wo⟩, ⟨0, 0, .wo⟩] },
  { base := 0x100C0110, s1 := 0x20, c1 := 4, fields := [⟨31, 24, .ro⟩, ⟨23, 16, .ro⟩, ⟨2, 0, .ro⟩] },
  { base := 0x100C0118, s1 := 0x20, c1 := 4, fields := [⟨47, 32, .ro⟩, ⟨25, 16, .ro⟩, ⟨15, 0, .ro⟩] }]

/-- The registers of block REEL, part 0. -/
def reelRegs0 : List RegSpec := [
  { base := 0x100D0000, s1 := 0x80, c1 := 8, fields := [⟨5, 5, .rw⟩, ⟨4, 4, .rw⟩, ⟨3, 2, .rw⟩, ⟨0, 0, .rw⟩] },
  { base := 0x100D0008, s1 := 0x80, c1 := 8, fields := [⟨1, 1, .wo⟩, ⟨0, 0, .wo⟩] },
  { base := 0x100D0010, s1 := 0x80, c1 := 8, fields := [⟨31, 6, .rw⟩] },
  { base := 0x100D0018, s1 := 0x80, c1 := 8, fields := [⟨23, 0, .rw⟩] },
  { base := 0x100D0020, s1 := 0x80, c1 := 8, fields := [⟨47, 0, .rw⟩] },
  { base := 0x100D0028, s1 := 0x80, c1 := 8, fields := [⟨47, 0, .rw⟩] },
  { base := 0x100D0030, s1 := 0x80, c1 := 8, fields := [⟨47, 0, .rw⟩] },
  { base := 0x100D0038, s1 := 0x80, c1 := 8, fields := [⟨47, 0, .rw⟩] },
  { base := 0x100D0040, s1 := 0x80, c1 := 8, fields := [⟨23, 16, .ro⟩, ⟨2, 0, .ro⟩] },
  { base := 0x100D0048, s1 := 0x80, c1 := 8, fields := [⟨47, 0, .ro⟩] },
  { base := 0x100D0050, s1 := 0x80, c1 := 8, fields := [⟨47, 0, .ro⟩] },
  { base := 0x100D0058, s1 := 0x80, c1 := 8, fields := [⟨47, 0, .ro⟩] },
  { base := 0x100D0060, s1 := 0x80, c1 := 8, fields := [⟨47, 0, .ro⟩] },
  { base := 0x100D0068, s1 := 0x80, c1 := 8, fields := [⟨47, 0, .ro⟩] }]

/-- The registers of block REEL, part 1. -/
def reelRegs1 : List RegSpec := [
  { base := 0x100D0400, fields := [⟨8, 8, .w1c⟩, ⟨7, 0, .w1c⟩] },
  { base := 0x100D0408, fields := [⟨8, 0, .rw⟩] }]

/-- The registers of block REEL. -/
def reelRegs : List RegSpec := reelRegs0 ++ reelRegs1

/-- The registers of block KC, part 0. -/
def kcRegs0 : List RegSpec := [
  { base := 0x100E0000, s1 := 0x1000, c1 := 7, fields := [⟨4, 4, .wo⟩, ⟨3, 3, .wo⟩, ⟨2, 2, .rw⟩, ⟨1, 1, .wo⟩, ⟨0, 0, .wo⟩] },
  { base := 0x100E0008, s1 := 0x1000, c1 := 7, fields := [⟨23, 19, .ro⟩, ⟨18, 16, .ro⟩, ⟨15, 12, .ro⟩, ⟨2, 2, .w1c⟩, ⟨1, 1, .w1c⟩, ⟨0, 0, .w1c⟩] },
  { base := 0x100E0010, s1 := 0x1000, c1 := 7, fields := [⟨13, 0, .rw⟩] },
  { base := 0x100E0018, s1 := 0x1000, c1 := 7, fields := [⟨13, 0, .ro⟩] },
  { base := 0x100E0020, s1 := 0x1000, c1 := 7, fields := [⟨31, 16, .ro⟩, ⟨15, 8, .ro⟩, ⟨7, 0, .ro⟩] },
  { base := 0x100E0028, s1 := 0x1000, c1 := 7, fields := [⟨31, 0, .ro⟩] },
  { base := 0x100E0030, s1 := 0x1000, c1 := 7, fields := [⟨47, 0, .ro⟩] },
  { base := 0x100E0038, s1 := 0x1000, c1 := 7, fields := [⟨47, 0, .ro⟩] },
  { base := 0x100E0040, s1 := 0x1000, c1 := 7, fields := [⟨31, 0, .ro⟩] },
  { base := 0x100E0048, s1 := 0x1000, c1 := 7, fields := [⟨4, 4, .ro⟩, ⟨2, 0, .ro⟩] },
  { base := 0x100E0050, s1 := 0x1000, c1 := 7, fields := [⟨15, 0, .w1c⟩] },
  { base := 0x100E0058, s1 := 0x1000, c1 := 7, fields := [⟨15, 0, .w1s⟩] },
  { base := 0x100E0060, s1 := 0x1000, c1 := 7, fields := [⟨31, 0, .rw⟩] },
  { base := 0x100E0068, s1 := 0x1000, c1 := 7, fields := [⟨32, 32, .rw⟩, ⟨31, 0, .rw⟩] }]

/-- The registers of block KC, part 1. -/
def kcRegs1 : List RegSpec := [
  { base := 0x100E8000, s1 := 0x8, c1 := 44, reset := 0xF6, fields := [⟨8, 8, .rw⟩, ⟨7, 4, .rw⟩, ⟨2, 0, .rw⟩] }]

/-- The registers of block KC. -/
def kcRegs : List RegSpec := kcRegs0 ++ kcRegs1

/-- The registers of block MEM. -/
def memRegs : List RegSpec := [
  { base := 0x100F0000, reset := 0x1000, fields := [⟨16, 16, .wo⟩, ⟨15, 0, .rw⟩] },
  { base := 0x100F0008, fields := [⟨5, 5, .w1c⟩, ⟨4, 4, .w1c⟩, ⟨3, 3, .w1c⟩, ⟨2, 2, .w1c⟩, ⟨1, 1, .w1c⟩, ⟨0, 0, .w1c⟩] },
  { base := 0x100F0010, fields := [⟨5, 0, .rw⟩] },
  { base := 0x100F0018, fields := [⟨47, 24, .ro⟩, ⟨23, 0, .ro⟩] },
  { base := 0x100F0020, fields := [⟨32, 32, .ro⟩, ⟨31, 0, .ro⟩] },
  { base := 0x100F0028, fields := [⟨17, 17, .wo⟩, ⟨16, 16, .wo⟩, ⟨13, 8, .wo⟩, ⟨5, 0, .wo⟩] },
  { base := 0x100F0030, fields := [⟨33, 33, .ro⟩, ⟨32, 32, .ro⟩, ⟨31, 16, .ro⟩, ⟨10, 0, .ro⟩] },
  { base := 0x100F0038, fields := [⟨32, 32, .ro⟩, ⟨31, 0, .ro⟩] },
  { base := 0x100F0040, fields := [⟨47, 0, .ro⟩] },
  { base := 0x100F0048, fields := [⟨17, 17, .wo⟩, ⟨16, 11, .wo⟩, ⟨10, 0, .wo⟩] },
  { base := 0x100F0800, s1 := 0x8, c1 := 48, fields := [⟨47, 45, .ro⟩, ⟨44, 44, .ro⟩, ⟨43, 0, .ro⟩] },
  { base := 0x100F1000, s1 := 0x80, c1 := 48, s2 := 0x8, c2 := 16, fields := [⟨31, 0, .ro⟩] }]

/-- The registers of block IC. -/
def icRegs : List RegSpec := [
  { base := 0x10100000, fields := [⟨1, 1, .w1c⟩, ⟨0, 0, .w1c⟩] },
  { base := 0x10100008, fields := [⟨1, 0, .rw⟩] },
  { base := 0x10100010, fields := [⟨31, 0, .ro⟩] },
  { base := 0x10100018, fields := [⟨15, 15, .ro⟩, ⟨14, 14, .ro⟩, ⟨13, 13, .ro⟩, ⟨11, 8, .ro⟩, ⟨4, 0, .ro⟩] },
  { base := 0x10100020, fields := [⟨31, 16, .ro⟩, ⟨15, 0, .ro⟩] },
  { base := 0x10100028, reset := 0xFFFFFFFF, fields := [⟨31, 0, .rw⟩] },
  { base := 0x10100030, fields := [⟨0, 0, .w1s⟩] },
  { base := 0x10100038, fields := [⟨47, 16, .ro⟩, ⟨15, 8, .ro⟩, ⟨7, 0, .ro⟩] },
  { base := 0x10100100, s1 := 0x20, c1 := 32, fields := [⟨32, 32, .rw⟩, ⟨31, 12, .rw⟩] },
  { base := 0x10100108, s1 := 0x20, c1 := 32, fields := [⟨31, 12, .rw⟩] },
  { base := 0x10100110, s1 := 0x20, c1 := 32, fields := [⟨31, 0, .rw⟩] }]

/-- The registers of block ETH, part 0. -/
def ethRegs0 : List RegSpec := [
  { base := 0x10110000, s1 := 0x4000, c1 := 4, reset := 0x6, fields := [⟨6, 6, .rw⟩, ⟨5, 5, .rw⟩, ⟨4, 3, .rw⟩, ⟨2, 1, .rw⟩, ⟨0, 0, .rw⟩] },
  { base := 0x10110008, s1 := 0x4000, c1 := 4, fields := [⟨14, 14, .ro⟩, ⟨13, 13, .ro⟩, ⟨12, 12, .ro⟩, ⟨9, 9, .w1c⟩, ⟨8, 8, .w1c⟩, ⟨7, 7, .w1c⟩, ⟨6, 6, .w1c⟩, ⟨5, 5, .w1c⟩, ⟨4, 4, .w1c⟩, ⟨3, 3, .w1c⟩, ⟨2, 2, .w1c⟩, ⟨1, 1, .w1c⟩, ⟨0, 0, .w1c⟩] },
  { base := 0x10110010, s1 := 0x4000, c1 := 4, fields := [⟨9, 0, .rw⟩] },
  { base := 0x10110018, s1 := 0x4000, c1 := 4, reset := 0xCC0000780, fields := [⟨47, 24, .ro⟩, ⟨23, 0, .ro⟩] },
  { base := 0x10110020, s1 := 0x4000, c1 := 4, fields := [⟨23, 0, .rw⟩] },
  { base := 0x10110028, s1 := 0x4000, c1 := 4, fields := [⟨23, 0, .rw⟩] },
  { base := 0x10110030, s1 := 0x4000, c1 := 4, fields := [⟨23, 0, .rw⟩] },
  { base := 0x10110038, s1 := 0x4000, c1 := 4, fields := [⟨47, 0, .rw⟩] },
  { base := 0x10110040, s1 := 0x4000, c1 := 4, fields := [⟨31, 0, .rw⟩] },
  { base := 0x10110048, s1 := 0x4000, c1 := 4, s2 := 0x8, c2 := 3, fields := [⟨47, 0, .rw⟩] },
  { base := 0x10110060, s1 := 0x4000, c1 := 4, fields := [⟨16, 16, .rw⟩, ⟨15, 0, .rw⟩] },
  { base := 0x10110068, s1 := 0x4000, c1 := 4, reset := 0x80000000, fields := [⟨47, 40, .rw⟩, ⟨39, 36, .rw⟩, ⟨35, 34, .rw⟩, ⟨33, 33, .rw⟩, ⟨32, 32, .rw⟩, ⟨31, 31, .rw⟩, ⟨30, 30, .rw⟩, ⟨29, 28, .rw⟩] },
  { base := 0x10110070, s1 := 0x4000, c1 := 4, fields := [⟨8, 8, .rw⟩, ⟨7, 7, .rw⟩, ⟨3, 0, .rw⟩] },
  { base := 0x10110078, s1 := 0x4000, c1 := 4, fields := [⟨47, 16, .rw⟩, ⟨15, 8, .rw⟩, ⟨7, 4, .rw⟩, ⟨3, 3, .rw⟩, ⟨2, 0, .rw⟩] }]

/-- The registers of block ETH, part 1. -/
def ethRegs1 : List RegSpec := [
  { base := 0x10110080, s1 := 0x4000, c1 := 4, fields := [⟨31, 11, .rw⟩] },
  { base := 0x10110088, s1 := 0x4000, c1 := 4, fields := [⟨15, 0, .ro⟩] },
  { base := 0x10110090, s1 := 0x4000, c1 := 4, fields := [⟨15, 0, .rw⟩] },
  { base := 0x10110098, s1 := 0x4000, c1 := 4, fields := [⟨31, 11, .rw⟩] },
  { base := 0x101100A0, s1 := 0x4000, c1 := 4, fields := [⟨15, 0, .rw⟩] },
  { base := 0x101100A8, s1 := 0x4000, c1 := 4, fields := [⟨15, 0, .ro⟩] },
  { base := 0x101100B0, s1 := 0x4000, c1 := 4, reset := 0xFF0000FF2BF0, fields := [⟨47, 40, .rw⟩, ⟨23, 20, .ro⟩, ⟨19, 16, .ro⟩, ⟨15, 12, .rw⟩, ⟨11, 8, .rw⟩, ⟨7, 4, .rw⟩, ⟨2, 2, .rw⟩, ⟨1, 1, .rw⟩, ⟨0, 0, .rw⟩] },
  { base := 0x101100B8, s1 := 0x4000, c1 := 4, fields := [⟨47, 0, .ro⟩] },
  { base := 0x101100C0, s1 := 0x4000, c1 := 4, fields := [⟨47, 0, .rw⟩] },
  { base := 0x101100C8, s1 := 0x4000, c1 := 4, fields := [⟨47, 32, .rw⟩, ⟨31, 24, .rw⟩, ⟨23, 23, .rw⟩, ⟨22, 0, .rw⟩] },
  { base := 0x101100D0, s1 := 0x4000, c1 := 4, fields := [⟨47, 24, .ro⟩, ⟨23, 0, .ro⟩] },
  { base := 0x101100D8, s1 := 0x4000, c1 := 4, fields := [⟨47, 24, .ro⟩, ⟨23, 0, .ro⟩] },
  { base := 0x101100E0, s1 := 0x4000, c1 := 4, fields := [⟨47, 36, .ro⟩, ⟨35, 24, .ro⟩, ⟨23, 12, .ro⟩, ⟨11, 0, .ro⟩] },
  { base := 0x10113C00, fields := [⟨31, 0, .rw⟩] }]

/-- The registers of block ETH, part 2. -/
def ethRegs2 : List RegSpec := [
  { base := 0x10113C08, fields := [⟨31, 0, .rw⟩] },
  { base := 0x10113C10, fields := [⟨31, 14, .rw⟩] },
  { base := 0x10113C18, fields := [⟨16, 16, .w1c⟩, ⟨8, 0, .ro⟩] },
  { base := 0x10113C20, fields := [⟨47, 32, .ro⟩, ⟨31, 0, .ro⟩] }]

/-- The registers of block ETH. -/
def ethRegs : List RegSpec := ethRegs0 ++ ethRegs1 ++ ethRegs2

/-- The registers of block CXE. -/
def cxeRegs : List RegSpec := [
  { base := 0x10120000, s1 := 0x1000, c1 := 16, fields := [⟨16, 16, .wo⟩, ⟨15, 12, .wo⟩, ⟨8, 8, .wo⟩, ⟨7, 0, .wo⟩] },
  { base := 0x10120008, s1 := 0x1000, c1 := 16, fields := [⟨31, 6, .wo⟩] },
  { base := 0x10120010, s1 := 0x1000, c1 := 16, fields := [⟨15, 12, .ro⟩, ⟨3, 3, .w1c⟩, ⟨2, 2, .w1c⟩, ⟨1, 1, .w1c⟩, ⟨0, 0, .w1c⟩] },
  { base := 0x10120018, s1 := 0x1000, c1 := 16, fields := [⟨3, 0, .rw⟩] },
  { base := 0x10120040, s1 := 0x1000, c1 := 16, s2 := 0x8, c2 := 8, fields := [⟨47, 44, .ro⟩, ⟨43, 42, .ro⟩, ⟨41, 39, .ro⟩, ⟨38, 34, .ro⟩, ⟨31, 0, .ro⟩] },
  { base := 0x10120C00, fields := [⟨3, 3, .w1c⟩, ⟨2, 2, .w1c⟩, ⟨1, 1, .w1c⟩, ⟨0, 0, .w1c⟩] },
  { base := 0x10120C08, fields := [⟨3, 0, .rw⟩] },
  { base := 0x10120C10, s1 := 0x8, c1 := 2, reset := 0x66666666, fields := [⟨31, 0, .ro⟩] },
  { base := 0x10120C20, fields := [⟨15, 0, .wo⟩] },
  { base := 0x10120C28, fields := [⟨31, 0, .ro⟩] },
  { base := 0x10120C30, fields := [⟨31, 0, .ro⟩] },
  { base := 0x10120C38, fields := [⟨4, 4, .ro⟩, ⟨3, 0, .ro⟩] },
  { base := 0x10120C40, fields := [⟨47, 32, .ro⟩, ⟨31, 16, .ro⟩, ⟨15, 0, .ro⟩] },
  { base := 0x10120C48, fields := [⟨47, 0, .ro⟩] }]

/-- The registers of block SVU. -/
def svuRegs : List RegSpec := [
  { base := 0x10130000, fields := [⟨5, 5, .w1c⟩, ⟨4, 4, .w1c⟩, ⟨3, 3, .w1c⟩, ⟨2, 2, .w1c⟩, ⟨1, 1, .w1c⟩, ⟨0, 0, .w1c⟩] },
  { base := 0x10130008, fields := [⟨5, 0, .rw⟩] },
  { base := 0x10130010, fields := [⟨31, 6, .wo⟩] },
  { base := 0x10130018, fields := [⟨4, 4, .ro⟩, ⟨3, 0, .ro⟩] },
  { base := 0x10130020, fields := [⟨47, 24, .ro⟩, ⟨23, 0, .ro⟩] },
  { base := 0x10130028, fields := [⟨4, 4, .ro⟩, ⟨3, 3, .ro⟩, ⟨1, 0, .ro⟩] },
  { base := 0x10130030, fields := [⟨33, 32, .wo⟩, ⟨31, 6, .wo⟩] },
  { base := 0x10130038, fields := [⟨15, 8, .ro⟩, ⟨7, 6, .wo⟩, ⟨5, 5, .wo⟩, ⟨4, 4, .wo⟩, ⟨3, 3, .ro⟩, ⟨2, 2, .wo⟩, ⟨1, 0, .ro⟩] },
  { base := 0x10130040, fields := [⟨31, 0, .ro⟩] },
  { base := 0x10130048, reset := 0x8, fields := [⟨4, 4, .w1c⟩, ⟨3, 3, .ro⟩, ⟨2, 2, .ro⟩, ⟨1, 1, .rw⟩, ⟨0, 0, .ro⟩] },
  { base := 0x10130050, fields := [⟨31, 0, .ro⟩] },
  { base := 0x10130058, fields := [⟨31, 0, .ro⟩] },
  { base := 0x10130080, s1 := 0x8, c1 := 14, fields := [⟨47, 0, .wo⟩] }]

/-- The registers of block NVS. -/
def nvsRegs : List RegSpec := [
  { base := 0x10140000, fields := [⟨8, 8, .ro⟩, ⟨7, 7, .ro⟩, ⟨6, 6, .ro⟩, ⟨5, 5, .ro⟩, ⟨4, 4, .w1c⟩, ⟨3, 3, .w1c⟩, ⟨2, 2, .w1c⟩, ⟨1, 1, .w1c⟩, ⟨0, 0, .w1c⟩] },
  { base := 0x10140008, fields := [⟨4, 0, .rw⟩] },
  { base := 0x10140010, fields := [⟨47, 24, .ro⟩, ⟨23, 0, .ro⟩] },
  { base := 0x10140018, fields := [⟨35, 32, .wo⟩, ⟨31, 6, .wo⟩] },
  { base := 0x10140020, fields := [⟨15, 8, .ro⟩, ⟨3, 0, .ro⟩] },
  { base := 0x10140028, fields := [⟨31, 0, .ro⟩] },
  { base := 0x10140030, fields := [⟨31, 0, .ro⟩] },
  { base := 0x10140038, fields := [⟨8, 8, .wo⟩, ⟨7, 7, .wo⟩, ⟨6, 0, .wo⟩] },
  { base := 0x10140040, fields := [⟨31, 0, .rw⟩] },
  { base := 0x10140048, fields := [⟨31, 0, .rw⟩] }]

/-- The registers of block HST, part 0. -/
def hstRegs0 : List RegSpec := [
  { base := 0x10150000, fields := [⟨3, 0, .rw⟩] },
  { base := 0x10150008, fields := [⟨13, 13, .ro⟩, ⟨12, 9, .ro⟩, ⟨8, 8, .w1c⟩, ⟨7, 7, .w1c⟩, ⟨6, 6, .w1c⟩, ⟨5, 5, .w1c⟩, ⟨4, 4, .w1c⟩, ⟨3, 3, .w1c⟩, ⟨2, 2, .w1c⟩, ⟨1, 1, .w1c⟩, ⟨0, 0, .w1c⟩] },
  { base := 0x10150010, fields := [⟨8, 0, .rw⟩] },
  { base := 0x10150018, fields := [⟨23, 16, .ro⟩, ⟨12, 12, .ro⟩, ⟨10, 8, .ro⟩, ⟨2, 0, .ro⟩] },
  { base := 0x10150020, fields := [⟨25, 25, .wo⟩, ⟨24, 0, .wo⟩] },
  { base := 0x10150028, reset := 0x100040960000, fields := [⟨47, 40, .ro⟩, ⟨31, 16, .ro⟩, ⟨15, 0, .ro⟩] },
  { base := 0x10150030, fields := [⟨8, 8, .ro⟩, ⟨7, 7, .ro⟩, ⟨6, 4, .ro⟩, ⟨1, 0, .ro⟩] },
  { base := 0x10150038, fields := [⟨14, 14, .wo⟩, ⟨13, 13, .ro⟩, ⟨12, 0, .rw⟩] },
  { base := 0x10150040, fields := [⟨14, 14, .wo⟩, ⟨13, 13, .ro⟩, ⟨12, 0, .rw⟩] },
  { base := 0x10150048, fields := [⟨5, 0, .wo⟩] },
  { base := 0x10150050, fields := [⟨6, 0, .ro⟩] },
  { base := 0x10150060, s1 := 0x8, c1 := 2, reset := 0x3641, fields := [⟨15, 0, .rw⟩] },
  { base := 0x10150070, s1 := 0x8, c1 := 2, fields := [⟨7, 7, .ro⟩, ⟨6, 0, .rw⟩] },
  { base := 0x10150100, s1 := 0x40, c1 := 4, fields := [⟨31, 12, .rw⟩] }]

/-- The registers of block HST, part 1. -/
def hstRegs1 : List RegSpec := [
  { base := 0x10150108, s1 := 0x40, c1 := 4, fields := [⟨15, 0, .ro⟩] },
  { base := 0x10150110, s1 := 0x40, c1 := 4, fields := [⟨15, 0, .rw⟩] },
  { base := 0x10150118, s1 := 0x40, c1 := 4, fields := [⟨31, 12, .rw⟩] },
  { base := 0x10150120, s1 := 0x40, c1 := 4, fields := [⟨15, 0, .rw⟩] },
  { base := 0x10150128, s1 := 0x40, c1 := 4, fields := [⟨15, 0, .ro⟩] }]

/-- The registers of block HST. -/
def hstRegs : List RegSpec := hstRegs0 ++ hstRegs1

/-- The registers of block SAF, part 0. -/
def safRegs0 : List RegSpec := [
  { base := 0x10160000, fields := [⟨1, 1, .rw⟩, ⟨0, 0, .rw⟩] },
  { base := 0x10160008, reset := 0x200, fields := [⟨10, 10, .ro⟩, ⟨9, 9, .ro⟩, ⟨8, 8, .w1c⟩, ⟨7, 7, .w1c⟩, ⟨6, 6, .w1c⟩, ⟨5, 5, .w1c⟩, ⟨4, 4, .w1c⟩, ⟨3, 3, .w1c⟩, ⟨2, 2, .w1c⟩, ⟨1, 1, .w1c⟩, ⟨0, 0, .w1c⟩] },
  { base := 0x10160010, fields := [⟨8, 0, .rw⟩] },
  { base := 0x10160018, reset := 0x2640032, fields := [⟨31, 24, .rw⟩, ⟨23, 16, .rw⟩, ⟨15, 0, .rw⟩] },
  { base := 0x10160020, reset := 0x800000000, fields := [⟨35, 32, .ro⟩, ⟨31, 0, .ro⟩] },
  { base := 0x10160028, fields := [⟨47, 0, .ro⟩] },
  { base := 0x10160030, reset := 0x7D0730, fields := [⟨23, 12, .rw⟩, ⟨11, 0, .rw⟩] },
  { base := 0x10160038, reset := 0x30, fields := [⟨6, 0, .rw⟩] },
  { base := 0x10160040, fields := [⟨14, 8, .w1c⟩, ⟨6, 0, .w1c⟩] },
  { base := 0x10160048, fields := [⟨31, 16, .ro⟩, ⟨15, 0, .ro⟩] },
  { base := 0x10160050, fields := [⟨47, 46, .wo⟩, ⟨45, 40, .wo⟩, ⟨39, 0, .wo⟩] },
  { base := 0x10160058, fields := [⟨47, 32, .ro⟩, ⟨31, 16, .ro⟩, ⟨15, 0, .ro⟩] },
  { base := 0x10160100, s1 := 0x8, c1 := 6, fields := [⟨15, 0, .ro⟩] },
  { base := 0x10160140, s1 := 0x8, c1 := 6, fields := [⟨31, 16, .rw⟩, ⟨15, 0, .rw⟩] }]

/-- The registers of block SAF, part 1. -/
def safRegs1 : List RegSpec := [
  { base := 0x10160200, s1 := 0x8, c1 := 7, reset := 0x64, fields := [⟨16, 16, .rw⟩, ⟨15, 0, .rw⟩] },
  { base := 0x10160240, s1 := 0x8, c1 := 7, fields := [⟨0, 0, .wo⟩] }]

/-- The registers of block SAF. -/
def safRegs : List RegSpec := safRegs0 ++ safRegs1

/-- The registers of block PMX. -/
def pmxRegs : List RegSpec := [
  { base := 0x10170000, s1 := 0x8, c1 := 48, fields := [⟨23, 23, .ro⟩, ⟨22, 22, .rw⟩, ⟨21, 16, .rw⟩, ⟨10, 10, .wo⟩, ⟨9, 9, .wo⟩, ⟨8, 8, .wo⟩, ⟨7, 7, .ro⟩, ⟨3, 0, .ro⟩] },
  { base := 0x10170200, fields := [⟨1, 1, .w1c⟩, ⟨0, 0, .w1c⟩] },
  { base := 0x10170208, fields := [⟨1, 0, .rw⟩] }]

/-- The registers of block DBG. -/
def dbgRegs : List RegSpec := [
  { base := 0x10180000, fields := [⟨1, 1, .rw⟩, ⟨0, 0, .rw⟩] },
  { base := 0x10180008, fields := [⟨31, 16, .rw⟩, ⟨6, 0, .rw⟩] },
  { base := 0x10180010, fields := [⟨31, 16, .ro⟩, ⟨10, 10, .ro⟩, ⟨9, 0, .ro⟩] },
  { base := 0x10182000, s1 := 0x8, c1 := 1024, fields := [⟨47, 0, .ro⟩] }]

/-- The registers of the block that an address lies in, by the bases of R559. -/
def blockRegs (a : Nat) : List RegSpec :=
  match a >>> 16 with
  | 0x1000 => sysRegs
  | 0x1001 => pwrRegs
  | 0x1002 => clkRegs
  | 0x1003 => osyRegs
  | 0x1004 => tbRegs
  | 0x1005 => tpeRegs
  | 0x1006 => spRegs
  | 0x1007 => spRegs
  | 0x1008 => cndRegs
  | 0x1009 => cndRegs
  | 0x100A => fecRegs
  | 0x100B => caRegs
  | 0x100C => seRegs
  | 0x100D => reelRegs
  | 0x100E => kcRegs
  | 0x100F => memRegs
  | 0x1010 => icRegs
  | 0x1011 => ethRegs
  | 0x1012 => cxeRegs
  | 0x1013 => svuRegs
  | 0x1014 => nvsRegs
  | 0x1015 => hstRegs
  | 0x1016 => safRegs
  | 0x1017 => pmxRegs
  | 0x1018 => dbgRegs
  | _ => []

/-- The entry of the register map for an address, if a register lies there. -/
def regSpec? (a : Nat) : Option RegSpec := (blockRegs a).find? (·.has a)

/-- Whether a register lies at an address; the rest of a block is a hole (R16). -/
def isReg (a : Nat) : Bool := (regSpec? a).isSome

end Sys2Proof.Machine
end

