-- ==== Sys2Proof/Machine/State.lean ====
section
/-!
DEFINITION. The state of the MK4096: the register file, the memories, the always-on and nonvolatile stores, and every
piece of state that the chapters give a block without a register of its own; the reasons a step can stop; the state
after reset.  State is plain data.
-/

namespace Sys2Proof.Machine

/-- Why a step faults.  No meaning of this model raises one: every error the manual describes is an error response, a
status bit or a log entry, and so a next state. -/
inductive Fault where
  /-- Raised by nobody; it is here so that the type is not empty.  Safe. -/
  | none
  deriving DecidableEq, Repr

/-- Why a step is refused. -/
inductive Refusal where
  /-- An arm of `exec` that has no meaning yet.  Raised by no meaning.  Safe. -/
  | notModelled (mnemonic : String)
  deriving DecidableEq, Repr

/-! ### Interconnect and memory (Memory, Interconnect and Chain) -/

/-- An entry of the error queue (R472): address, initiator, write, cause and the mark OVFBEFORE. -/
structure ErrEntry where
  addr : Nat
  init : Nat
  write : Bool
  cause : Nat
  ovfBefore : Bool
  deriving DecidableEq, Repr

/-- The interconnect's own state: the error queue (R472), the entry latched for each initiator, and the half-access
latches of R561 and R562 and the SEC latches of R311. -/
structure BusState where
  /-- Entries waiting, oldest first; at most 32. -/
  errors : List ErrEntry := []
  /-- Entries were dropped since the last one stored. -/
  overflowed : Bool := false
  /-- Initiators that have read IC_ERRLOG and not yet IC_ERRINFO, with the latched entry. -/
  infoLatch : List (Nat × ErrEntry) := []
  /-- The staged upper half of an initiator: (initiator, slot, bits [47:32]). -/
  staged : List (Nat × Nat × Nat) := []
  /-- Latched upper halves: (initiator, slot, bits [47:32]). -/
  halves : List (Nat × Nat × Nat) := []
  /-- Latched SEC values: (initiator, SEC register, value). -/
  secs : List (Nat × Nat × Nat) := []
  /-- The tick of the last trace word (R567). -/
  traced : Option Nat := none
  deriving DecidableEq, Repr

/-- Memory cells whose code word is in error (R460), the march test in progress (R462), the scrub pointer (R461) and
the recorded repairs (R464): (bank, row), oldest first, applied at the next cold reset. -/
structure MemState where
  /-- Addresses (multiples of 8) of words with a single-bit error. -/
  single : List Nat := []
  /-- Addresses of words with a double-bit error. -/
  double : List Nat := []
  march : Option (Nat × Nat × Bool) := none
  /-- The test in progress is that of a cold reset. -/
  bootMarch : Bool := false
  scrubAt : Nat := 0
  /-- CLK_SYS cycles since the last scrub read, and since the test in progress began. -/
  scrubCycles : Nat := 0
  marchCycles : Nat := 0
  repairs : List (Nat × Nat) := []
  /-- The tick at which the conflict counters were last zeroed (R459). -/
  confAt : Nat := 0
  deriving DecidableEq, Repr

/-- A Chain command in progress (R481): the operation, the address and the initiator; what it writes, with LOCKED and CMDSEQ, once its
writes have begun; of a signed command its first 128 bytes and the rest as the controller has read them, whether the verifier has
been given its signature, and the result (R482). -/
structure ChainCmd where
  op : Nat
  addr : Nat
  init : Nat
  writing : Option (List Byte × Bool × Nat) := none
  read : Option (List Byte × List Byte) := none
  submitted : Bool := false
  verdict : Option Nat := none
  deriving DecidableEq, Repr

/-- The nonvolatile store's controller (R473 to R477, R481): the counters of the controller area, the OTP rows, the OTP
programming in progress, the queued word writes and the Chain command in progress. -/
structure NvsState where
  loadCnt : Nat := 0
  dbgCnt : Nat := 0
  /-- The 128 rows of 64 bits. -/
  otp : Vector (BitVec 64) 128 := Vector.replicate 128 0
  /-- The row and the value of the programming in progress. -/
  otpProg : Option (Nat × Nat) := none
  /-- The tick at which it began, and the ticks of the word write in progress (R474, R476). -/
  otpAt : Nat := 0
  wordTicks : Nat := 0
  /-- Queued word writes: the address, and the content that the write replaces, oldest first; at most 16 (R474). -/
  queue : List (Nat × Nat) := []
  chain : Option ChainCmd := none
  /-- NVSWP of SAF_LOGWP, which the store keeps (R521, R526). -/
  logWp : Nat := 0
  /-- Words of the store, by their address, whose writes fail (R521). [DESIGN CHOICE, safe: notes/assumptions/22] -/
  worn : List Nat := []
  deriving DecidableEq, Repr

/-! ### Faults and Health -/

/-- The key and the tick of the newest fault-log entry (R521). -/
structure LogKey where
  code : Nat
  init : Nat
  unit : Nat
  tick : Nat
  deriving DecidableEq, Repr

/-- One watchdog (R511): the period in force in the count in progress, and whether it counts. -/
structure Watchdog where
  period : Nat := 100
  counting : Bool := false
  /-- Ticks counted since the count began. -/
  count : Nat := 0
  deriving DecidableEq, Repr

/-- SAF's own state (R508 to R521). -/
structure SafState where
  newest : Option LogKey := none
  /-- Severe entries that wait for their NVS copy, oldest first, as 32-byte little-endian numbers (R521). -/
  copies : List Nat := []
  /-- The checks of R508 that fail now: bit 0 LOS, bit 1 FREQ, bit 2 GROSS. -/
  failing : Nat := 0
  /-- Ticks since the fault in force began. -/
  faultTicks : Nat := 0
  /-- The fault in force is the one held from reset. -/
  fromReset : Bool := true
  /-- Ticks in a row for which the conditions of R510 have held. -/
  okTicks : Nat := 0
  /-- The tick from which the FREQ check measures against the present non-selected reference, and whether it has judged it over a
  complete window (R508). -/
  freqFrom : Nat := 0
  judged : Bool := false
  /-- Samples in a row outside their limits, for each supply (R514). -/
  runs : Vector Nat 6 := Vector.replicate 6 0
  /-- VDD_CORE samples in a row below 650 mV. -/
  floorRun : Nat := 0
  dogs : Vector Watchdog 7 := Vector.replicate 7 {}
  deriving DecidableEq, Repr

/-! ### Power States -/

/-- The four power states and the moves between them (R489). -/
inductive Power where
  | active | standby | keeptime | deep
  /-- An entry to the target (1 STANDBY, 2 KEEPTIME, 3 DEEP) from ACTIVE (false) or STANDBY (true). -/
  | entering (target : Nat) (fromStandby : Bool)
  /-- An exit from STANDBY. -/
  | exiting
  deriving DecidableEq, Repr

/-- A level change in progress (R491): the target, the former level, whether VPG is awaited, and the tick at which the VID code was
driven. -/
structure LevelChange where
  target : Nat
  former : Nat
  awaitVpg : Bool
  since : Nat := 0
  deriving DecidableEq, Repr

/-- The power manager's own state (R490 to R503). -/
structure PwrState where
  power : Power := .active
  change : Option LevelChange := none
  /-- The target of a deferred level change (R493). -/
  deferred : Option Nat := none
  /-- The code on VID[1:0] (R490). -/
  vid : Nat := 0
  coreEn : Bool := true
  /-- VDD_AON_IN is applied. -/
  supplied : Bool := true
  /-- The always-on domain runs from the crystal (true) or from its internal RC (R577). -/
  crystal : Bool := false
  /-- The level of the WAKE ball. -/
  wakePin : Bool := false
  /-- Ticks of the present always-on cycle times 32,768 (PWR_RTC counts at the nominal ratio). -/
  rtcPhase : Nat := 0
  /-- Always-on cycles until the domains that a cut-over switches off are off (R497, R503). -/
  switching : Nat := 0
  /-- The always-on regulator runs in its low-power mode (R501). -/
  lowMode : Bool := false
  /-- PWR_RTC at the last wake event taken, whose code a lower one of the same cycle replaces (R502). -/
  wakeAt : Option Nat := none
  /-- The Ethernet ports whose links an entry took down (R503). -/
  links : List Nat := []
  /-- Ticks until a wake from DEEP that has begun runs the sequence of a cold reset (R500). -/
  coreUp : Option Nat := none
  deriving DecidableEq, Repr

/-! ### Sample Links -/

/-- A timing marker that has left a port (R29): its sequence number and its departure in 2^-96 s. -/
structure Marker where
  seq : Nat
  left : Nat
  deriving DecidableEq, Repr

/-- The mark that a muted frame carries in its tag, and the other items of R70, with those of R89 and R95. -/
structure Tag where
  /-- The Slate, in 2^-48 s. -/
  slate : Nat
  fcnt : Nat
  nsamp : Nat
  /-- Zero when the frame is not muted, else the priority of R47. -/
  mute : Nat := 0
  drop : Bool := false
  rep : Bool := false
  resync : Bool := false
  free : Bool := false
  /-- The index of the first sample of the first frame after a Clapper. -/
  clapStart : Option Nat := none
  notchChg : Bool := false
  hmute : Bool := false
  deriving DecidableEq, Repr

/-- A sample of a tap: I, Q and the zero mark of R80. -/
structure Sample where
  i : Int
  q : Int
  z : Bool
  deriving DecidableEq, Repr

/-- A frame handed by a port to a conditioner: its tag, its MODE, its rate code, its format and its section of the
sample area. -/
structure StreamFrame where
  tag : Tag
  /-- HSTATE.MODE of the frame's own header, when its CRC passed. -/
  mode : Option Nat
  rate : Nat
  fmt : Nat
  area : List Byte
  /-- Zero samples inserted ahead of the frame, and samples discarded from its start, at a resynchronisation. -/
  insert : Nat := 0
  discard : Nat := 0
  deriving DecidableEq, Repr

/-- A port's own state (R29 to R69). -/
structure PortState where
  /-- Sequence number and frame counter of the next back-channel frame (R34). -/
  mseq : Nat := 0
  bcnt : Nat := 0
  /-- The code groups of the last back-channel frame sent, and the running disparity after them, true where it is positive
  (R26, R34). -/
  sent : List (BitVec 10) := []
  txRd : Bool := false
  /-- The running disparity after the last frame received, where one has been. -/
  rxRd : Option Bool := none
  /-- The tick of the write that queued a mask change, while it is pending (R45). -/
  maskAt : Option Nat := none
  /-- Markers that have left, newest first; at most 256 matter. -/
  markers : List Marker := []
  /-- Round trips the filter holds, newest first (R59). -/
  rtts : List Int := []
  /-- Round trips accepted in a row during a delay fault, newest first (R58). -/
  clearing : List Int := []
  /-- Round trips discarded in a row (R58). -/
  bad : Nat := 0
  /-- Frames in a row that count toward the link coming up (R63). -/
  hunt : Nat := 0
  /-- Frames in a row missing (R63). -/
  missing : Nat := 0
  /-- The link has gone down and no good frame has been realigned yet (R64). -/
  recovering : Bool := false
  /-- EN has been written 0 and the port decodes to the frame boundary (R42). -/
  stopping : Bool := false
  /-- The Slate of the last frame, in 2^-96 s (R60). -/
  slate : Nat := 0
  /-- The Slate that the last frame period has by extrapolation from before a link-down (R64). -/
  ext : Nat := 0
  /-- The rate codes of the last frame, and the slots whose fills it checked (R52). -/
  rates : Nat := 0
  filled : Nat := 0
  /-- Samples still to be discarded from each slot's stream after a resynchronisation (R56, R64). -/
  skip : Vector Nat 4 := Vector.replicate 4 0
  /-- Slots that deliver, each since its first frame after enable, after entering the mask or after a hold (R46, R67), and those
  that a channel or a plan started since awaits. -/
  live : Nat := 0
  /-- The Clapper has fired for this port: delivery begins with the first sample at or after this Tc (R68). -/
  clapAt : Option Nat := none
  /-- Slots that have not begun since that firing. -/
  clapSlots : Nat := 0
  /-- The slots and frames that a Clapper held at the last frame boundary: Tc may lie in them (R67, R68). -/
  heldFrames : List (Nat × StreamFrame) := []
  /-- The last frame that each slot has delivered, without its samples: Tc may lie in it (R67, R68). -/
  handFrames : List (Nat × StreamFrame) := []
  deriving DecidableEq, Repr

/-- The armed Clapper: Tc in 2^-48 s and the port set (R66). -/
structure Clapper where
  tc : Nat
  ports : Nat
  deriving DecidableEq, Repr

/-! ### Time Base -/

/-- An accepted step that has not taken effect: the tick it is due at and its value in 2^-96 s (R318). -/
structure PendStep where
  due : Nat
  ps : Nat
  deriving DecidableEq, Repr

/-- A slew in progress: the rate ρ in force in 1/256 ppb, the remaining amount in 2^-96 s, and whether its start tick
has come (R321 to R323). -/
structure Slew where
  rate : Nat
  rem : Int
  deriving DecidableEq, Repr

/-- The time base's own state (R309 to R325). -/
structure TimeState where
  /-- The counter: 144 bits in 2^-96 s. -/
  now : Nat := 0
  /-- Accepted steps that await their step tick, oldest first. -/
  steps : List PendStep := []
  /-- Step ticks and values in ps of accepted steps, newest first, for the window of R317. -/
  history : List PendStep := []
  /-- The accepted load that awaits its tick, in 2^-48 s. -/
  load : Option Nat := none
  slew : Option Slew := none
  /-- The slew term S in force in the last increment (R313). -/
  s : Int := 0
  /-- A slew accepted or stopped since the last tick: what the next tick puts in force. -/
  slewNext : Option Slew := none
  slewStop : Bool := false
  /-- Ticks to the next move of the frequency ramp (R314); zero when no ramp runs. -/
  rampLeft : Nat := 0
  /-- A reference switch that takes effect at the next tick (R315). -/
  refSwitch : Bool := false
  /-- What steps and slews have added to the counter in all, in 2^-96 s (R330). -/
  corrected : Int := 0
  /-- The last step tick and what the counter would have read there without the step (R348). -/
  stepped : Option (Nat × Nat) := none
  deriving DecidableEq, Repr

/-! ### Correlation Array and Channels -/

/-- A delivered sample of the COND4 tap in the router window, with the Slate of its frame and its index there (R55). -/
structure WSample where
  smp : Sample
  slate : Nat
  k : Nat
  deriving DecidableEq, Repr

/-- A frame in the router window (R121): the index of its first sample in the stream's count of delivered samples, its
tag, its rate code and its samples. -/
structure RFrame where
  first : Nat
  tag : Tag
  rate : Nat
  samples : List WSample
  deriving DecidableEq, Repr

/-- Aiding items that wait for an interval close (R151, R152). -/
structure Aiding where
  carr : Nat := 0
  code : Nat := 0
  cadj : Int := 0
  kadj : Int := 0
  ncoh : Nat := 0
  merged : Bool := false
  deriving DecidableEq, Repr

/-- A HELD or ACTIVE channel, beside its context in memory. -/
structure ChanRun where
  charge : Nat := 0
  engine : Nat := 0
  slot : Nat := 0
  /-- Items that the port had handed over and that the array had not taken at the admission: the first sample lies behind
  them (R141). -/
  behind : Nat := 0
  /-- The stream's count at the channel's next sample; none until its first sample (R141). -/
  next : Option Nat := none
  /-- The start instant of STARTMODE 1, in 2^-48 s. -/
  startAt : Option Nat := none
  /-- The stream's count at which the channel stops by itself, and the CAUSE (R144). -/
  endAt : Option (Nat × Nat) := none
  /-- Tap sums of the interval in progress (R133). -/
  sums : List (Int × Int) := []
  muted : Nat := 0
  /-- Samples of the interval in progress. -/
  len : Nat := 0
  slips : Int := 0
  /-- FLAGS of R146 gathered in the interval in progress. -/
  flags : Nat := 0
  /-- Every frame of the interval so far had LOCK = 1. -/
  locked : Bool := true
  aid : Aiding := {}
  deriving DecidableEq, Repr

/-- A command in a port's queue: its port and its word (R137). -/
structure CshCmd where
  port : Nat
  word : Nat
  deriving DecidableEq, Repr

/-- A record in an aiding port's queue (R149): HDR and the four holding registers. -/
structure AidRec where
  hdr : Nat
  carr : Nat
  code : Nat
  cadj : Nat
  kadj : Nat
  deriving DecidableEq, Repr

/-- What the firmware knows of a closed interval, since it sets the rates (R154, R282): its channel and epoch time, CARR_RATE and
CODE_RATE in force in it, and its samples. -/
structure Close where
  chan : Nat
  time : Nat
  carr : Int
  code : Nat
  len : Nat
  deriving DecidableEq, Repr

/-- The array's and the scheduler's own state. -/
structure CaState where
  /-- HELD and ACTIVE channels by number. -/
  chans : List (Nat × ChanRun) := []
  /-- Commands not yet evaluated, in order of arrival. -/
  cmds : List CshCmd := []
  /-- Responses of each port, oldest first, as register words. -/
  rsps : Vector (List Nat) 8 := Vector.replicate 8 []
  /-- Response entries reserved by commands taken and not answered (R138). -/
  reserved : Vector Nat 8 := Vector.replicate 8 0
  aids : Vector (List AidRec) 7 := Vector.replicate 7 []
  /-- The tick of each ring's last write of RP (R148). -/
  rpAt : Vector Nat 4 := Vector.replicate 4 0
  /-- Channels that have lost a record to a full ring since their last written one (R146). -/
  gaps : List Nat := []
  /-- The interval of each record written, by its place in the rings: 4,096 k and the index. -/
  closes : List (Nat × Close) := []
  deriving DecidableEq, Repr

/-- What a port hands to a conditioner: a frame, or the end of the stream with the CAUSE of R144. -/
inductive StreamItem where
  | frame (f : StreamFrame)
  | ends (cause : Nat)
  deriving DecidableEq, Repr

/-- A band stream's own state between port and consumers. -/
structure StreamState where
  /-- Handed over by the port and not yet conditioned, oldest first. -/
  input : List StreamItem := []
  /-- The router window: the last 4 frames, oldest first (R121). -/
  window : List RFrame := []
  /-- Samples delivered on COND4 so far. -/
  count : Nat := 0
  deriving DecidableEq, Repr

/-- A start command that waits for a head (R110): a channel start with its port and word, a search plan or a Reel
capture. -/
structure HeldCmd where
  /-- 0 channel, 1 search plan, 2 Reel capture. -/
  kind : Nat
  /-- The channel, plan slot or Reel input. -/
  id : Nat
  port : Nat := 0
  word : Nat := 0
  /-- The tick of its arrival (R111). -/
  at_ : Nat := 0
  deriving DecidableEq, Repr

/-- A head command: the operation that sends it (FECn_CMD.OP, or 9 for the RUN after SETTLE, 10 for a recalibration, 11 for
the second CAL of R106), the opcode, the slot and the argument (R98). -/
structure HeadCmd where
  kind : Nat
  op : Nat
  slot : Nat := 0
  arg : Nat := 0
  deriving DecidableEq, Repr

/-- FEC's own state for one head (R100 to R111). -/
structure HeadState where
  /-- Commands not yet sent, next first. -/
  queue : List HeadCmd := []
  /-- The outstanding command; its CSEQ is FECn_STAT.CSEQ. -/
  out : Option HeadCmd := none
  /-- The outstanding command leaves again in the next back-channel frame. -/
  due : Bool := false
  resends : Nat := 0
  /-- The tick at which it was last sent, and whether the back-channel has fallen since (R42, R103). -/
  sentAt : Nat := 0
  lost : Bool := false
  /-- The tick from which the frame periods of CAL or SETTLE count (R106). -/
  since : Option Nat := none
  /-- RESTART's RESET is acknowledged and a header with MODE = IDLE is awaited. -/
  awaitIdle : Bool := false
  /-- CAL has been sent once more after CALLIM. -/
  calAgain : Bool := false
  /-- The LO and gain of each slot last sent. -/
  lo : Vector Nat 4 := Vector.replicate 4 0
  gain : Vector Nat 4 := Vector.replicate 4 0
  /-- Commands held, in order of arrival. -/
  held : List HeldCmd := []
  deriving DecidableEq, Repr

/-- One notch of a conditioner (R88, R89): the MODE in effect since the last block boundary, in the path or not, and
the blocks in a row below the leave limit. -/
structure Notch where
  mode : Nat := 0
  inPath : Bool := false
  quiet : Nat := 0
  /-- The centre in use, as a signed number of 2^-24 f_s. -/
  centre : Int := 0
  /-- Its last input, and its last output in the units of `Config.notchFraction`, I and Q. -/
  x : Int × Int := (0, 0)
  y : Int × Int := (0, 0)
  /-- The power at its input and at its output over the block in progress. -/
  inPow : Nat := 0
  outPow : Nat := 0
  deriving DecidableEq, Repr

/-- A frame in a conditioner: its tag, MODE and rate code, the stage-1 samples not yet taken, and the outputs so far,
newest first. -/
structure CurFrame where
  tag : Tag
  mode : Option Nat
  rate : Nat
  rest : List WSample
  raw : List WSample
  out12 : List WSample := []
  out4 : List WSample := []
  deriving DecidableEq, Repr

/-- A conditioner's own state (R86 to R94). -/
structure CondState where
  /-- The frame in progress. -/
  cur : Option CurFrame := none
  /-- The DC estimates, in the units of `Config.dcFraction`. -/
  dcI : Int := 0
  dcQ : Int := 0
  /-- The sum of e over the last complete block, if any: 1,024 times its mean; and the block in progress. -/
  mean : Option Nat := none
  blockSum : Nat := 0
  blockLen : Nat := 0
  /-- Samples still to blank. -/
  hold : Nat := 0
  notches : Vector Notch 4 := Vector.replicate 4 {}
  /-- Samples of the notch block in progress. -/
  notchLen : Nat := 0
  /-- A notch has entered or left the path since the last sample. -/
  notchChg : Bool := false
  /-- AGC block in progress: the sum of |I| + |Q| and the samples. -/
  agcSum : Nat := 0
  agcLen : Nat := 0
  /-- Statistics of the interval in progress: its millisecond and its samples, sums, peak and counts (R93). -/
  msec : Nat := 0
  seen : Nat := 0
  preSum : Nat := 0
  preLen : Nat := 0
  postSum : Nat := 0
  postLen : Nat := 0
  peak : Nat := 0
  blanked : Nat := 0
  zeros : Nat := 0
  clips : Nat := 0
  /-- The last stage-1 sample of the previous frame, for a repeat (R53). -/
  last : Option WSample := none
  /-- D1: the rail bytes of the previous frame, and the samples still to be marked Z behind an edge (R85). -/
  prevArea : List Byte := []
  warm : Nat := 13
  deriving DecidableEq, Repr


/-! ### Signal Catalogue, Search Engine and Reel -/

/-- A frame on a RAW12 or COND12 tap. -/
structure TapFrame where
  tag : Tag
  rate : Nat
  samples : List WSample
  deriving DecidableEq, Repr

/-- A search sample (R176): I, Q, the Z samples in it, the marks of its frames (bit 1 DISC, bit 2 HMUTE) and the sum of
the R20 times of its stream samples, in 2^-48 s times f_s. -/
structure SearchSample where
  i : Int
  q : Int
  zs : Nat
  marks : Nat
  time : Nat
  deriving DecidableEq, Repr

/-- A descriptor of a plan (R183). -/
structure PlanDesc where
  kind : Nat
  psh : Nat
  excl : Nat
  codeLen : Nat
  codeId : Nat
  cgMode : Nat
  subc : Nat
  chipRate : Nat
  codePh0 : Nat
  dop0 : Int
  fofs : Int
  ndop : Nat
  dstep : Nat
  accBase : Nat
  deriving DecidableEq, Repr

/-- A plan as the engine copied it (R182). -/
structure Plan where
  tag : Nat
  startMode : Nat
  nnc : Nat
  tcoh : Nat
  dsel : Nat
  nlog : Nat
  rlags : Nat
  start : Nat
  descs : List PlanDesc
  deriving DecidableEq, Repr

/-- A search slot's own state (R186 to R192). -/
structure SearchSlot where
  plan : Option Plan := none
  /-- Code-RAM blocks in use from the BADPLAN check to the end (R185). -/
  blocks : List Nat := []
  stream : Nat := 0
  /-- Items that the port had handed over before the slot entered WAIT and that have not been delivered. -/
  behind : Nat := 0
  /-- Frames delivered while the slot is in WAIT, oldest first. -/
  inbox : List TapFrame := []
  /-- Stream samples of the decimation group in progress, newest first, with their frame's marks. -/
  group : List (WSample × Nat) := []
  /-- Rate code of the stream. -/
  rate : Nat := 0
  /-- The newest N search samples, newest first, and the number of search samples so far. -/
  ring : List SearchSample := []
  total : Nat := 0
  /-- The least grid block that may be taken next, the block in the datapath with its search samples, oldest first, the
  CLK_CORR cycles it still takes, and whether the plan ends with the transform in progress. -/
  nextBlock : Nat := 0
  busy : Option Nat := none
  block : List SearchSample := []
  left : Nat := 0
  aborting : Bool := false
  /-- Marks gathered: bit 0 MUTE, 1 DISC, 2 HMUTE; the Z samples; per descriptor and bin, SAT. -/
  marks : Nat := 0
  muted : Nat := 0
  sats : List (Nat × Nat) := []
  /-- TREF in 2^-48 s and PHREF's block of the first summed block (R197). -/
  tref : Nat := 0
  refBlock : Nat := 0
  deriving DecidableEq, Repr

/-- The search engine's own state. -/
structure SeState where
  slots : Vector SearchSlot 4 := Vector.replicate 4 {}
  /-- The tick of the last write of SE_RPTRP (R194). -/
  rpAt : Nat := 0
  /-- The slot whose block the datapath took last (R188). -/
  last : Nat := 3
  /-- Thirds of a CLK_CORR cycle that have passed of the one in progress. -/
  phase : Nat := 0
  /-- A plan has run, so that the search buffer holds what the manual does not fix (R208). -/
  dirty : Bool := false
  deriving DecidableEq, Repr

/-- A Reel input's own state (R203 to R206). -/
structure ReelIn where
  stream : Nat := 0
  /-- Items that the port had handed over before the input was ARMED and that have not been delivered. -/
  behind : Nat := 0
  inbox : List TapFrame := []
  /-- The trigger instant in 2^-48 s; none under SOFTWARE, and under CLAPPER until the firing. -/
  trigAt : Option Nat := none
  /-- STOP has been written; the frame in progress is the last. -/
  stopping : Bool := false
  deriving DecidableEq, Repr

/-- A code-RAM check in progress (R174): its first block and its blocks minus one; the words read, the CRC over them, and the ticks of
the CLK_PER cycle in progress. -/
structure CgnState where
  check : Option (Nat × Nat) := none
  words : Nat := 0
  crc : BitVec 32 := 0xFFFFFFFF#32
  ticks : Nat := 0
  deriving DecidableEq, Repr

/-! ### Time Pulses and Event Capture -/

/-- A generator's own state (R342 to R348): the pulse in progress with the target of its trailing edge in 2^-48 s, the
earliest tick of that edge and the path of the pulse, the path in force for the next target, whether DISARM waits for the
pulse, the fine steps f of the last trailing edge (R342), and the counter value before which the targets that follow the
fall of a clock fault are not emitted (R348). -/
structure TpgState where
  trail : Option Nat := none
  notBefore : Nat := 0
  trailPath : Nat := 0
  path : Nat := 0
  disarm : Bool := false
  trailFine : Nat := 0
  resume : Nat := 0
  last : Option Nat := none
  deriving DecidableEq, Repr

/-- A capture in a queue (R353, R354): its time in 2^-48 s and the flags of EVCn_CAPINFO as the register shows them. -/
structure Capture where
  time : Nat
  info : Nat
  deriving DecidableEq, Repr

/-- A transition in the glitch filter (R352): its tick, 256 times its time and the path in 2^-96 s, whether it falls,
whether a step tick has passed since the last capture, and CLKFAULT as it came (R353, R356). -/
structure Transition where
  tick : Nat
  time : Nat
  path : Nat
  fall : Bool
  stepped : Bool
  fault : Bool
  deriving DecidableEq, Repr

/-- A grid of expected instants EXP + k × PER in 2^-48 s with its WIN in ns (R355). -/
structure EvcGrid where
  exp : Nat
  per : Nat
  win : Nat
  deriving DecidableEq, Repr

/-- A capture unit's own state (R352 to R355). -/
structure EvcState where
  /-- The level the input holds, the transition in the filter, and the tick of the last accepted edge. -/
  level : Bool := false
  cand : Option Transition := none
  accepted : Option Nat := none
  /-- Captures queued, oldest first; at most 16. -/
  queue : List Capture := []
  /-- Captures latched: (initiator, capture). -/
  latched : List (Nat × Capture) := []
  /-- A step tick has passed since the last capture, and captures were lost since the last one stored. -/
  stepped : Bool := false
  lost : Bool := false
  /-- The expected instant whose window last held a capture, with its WIN. -/
  hit : Option (Int × Nat) := none
  /-- The grid before the last write of EXP, PER or WIN, and the time of that write in 2^-48 s: the instants up to it keep
  that grid (R362). -/
  grid : Option (EvcGrid × Nat) := none
  deriving DecidableEq, Repr

/-- A write of an OWNER register: its initiator and the ownership bits it sets (R358). -/
structure OwnerBits where
  init : Nat
  frel : Bool
  rel : Bool
  claim : Bool
  deriving DecidableEq, Repr

/-- The writes of one OWNER register in one CLK_PER cycle, and the owner as the cycle began (R358). -/
structure Turn where
  reg : Nat
  cycle : Nat
  owner : Option Nat
  writes : List OwnerBits
  deriving DecidableEq, Repr

/-- The pulse and capture block's own state. -/
structure PulseState where
  tpg : Vector TpgState 16 := Vector.replicate 16 {}
  evc : Vector EvcState 8 := Vector.replicate 8 {}
  /-- The ticks at which DELAY has passed since a leading edge of the paired generator (R351). -/
  tod : List Nat := []
  /-- The writes of OWNER registers in the present CLK_PER cycle (R358). -/
  turns : List Turn := []
  deriving DecidableEq, Repr


/-! ### Clock Synthesis -/

/-- The root PLL's own state (R363 to R375). -/
structure ClkState where
  /-- The FSEL and MULT in force on the path of REFA and of REFB. -/
  path : Vector (Nat × Nat) 2 := Vector.replicate 2 (0, 0)
  /-- The reference has been lost while selected and has not been VALID since (R368). -/
  lost : Vector Bool 2 := Vector.replicate 2 false
  /-- The root relocks on whichever reference next becomes VALID (R371). -/
  await : Bool := false
  /-- The switch in progress has passed its switch tick. -/
  ticked : Bool := false
  /-- The root has locked since the reset. -/
  lockedOnce : Bool := false
  /-- SV has been released from reset (R374). -/
  svOut : Bool := false
  /-- YOTHER stands for the non-selected reference as it is (R369). -/
  yValid : Bool := false
  /-- Eight times the feedback ratio N in force (R364). -/
  n8 : Nat := 3840
  /-- The tick at which a RELOCK or a switch began, while it runs (R372, R373). -/
  since : Option Nat := none
  /-- The ticks at which REFA and REFB last became PRESENT (R368). -/
  presentAt : Vector Nat 2 := Vector.replicate 2 0
  /-- The tick at which the comparator's window in progress began (R369). -/
  winFrom : Nat := 0
  /-- The tick of the cold reset (R374). -/
  resetAt : Nat := 0
  /-- Sixths of a CLK_SYS cycle that have passed of the one in progress. -/
  sysPhase : Nat := 0
  deriving DecidableEq, Repr

/-- An output synthesiser's own state (R376 to R385). -/
structure OsyState where
  /-- The MULT in force. -/
  mult : Nat := 0
  /-- It acquires lock, and by a RELOCK. -/
  acquiring : Bool := false
  relocking : Bool := false
  /-- It has reached LOCK since it was enabled. -/
  started : Bool := false
  /-- The ramp value in 2^-80, the ticks left of the segment, and the sum of RAMPFREQ since RAMPGO. -/
  ramp : Int := 0
  left : Nat := 0
  sum : Int := 0
  /-- The phase of the VCO since EN rose, in 1/(600 x 2^48) of its period: what f_VCO in MHz x 2^48 adds in a tick (R378). -/
  vco : Nat := 0
  /-- Where the divider of each output started, in 1/64 of a VCO period (R378, R379). -/
  starts : Vector Nat 2 := Vector.replicate 2 0
  /-- Whether each pad is driven, which changes at rising edges of its divided output (R380). -/
  pads : Vector Bool 2 := Vector.replicate 2 false
  /-- EN has been written 0 and an output still runs to the end of its cycle (R381). -/
  stopping : Bool := false
  /-- The output whose edge is to be measured, and the band being measured with the tick at which that began. -/
  phMeas : Option Nat := none
  bandMeas : Option (Nat × Nat) := none
  deriving DecidableEq, Repr


/-! ### Security -/

/-- What a key slot holds beside CXE_KPn_SLOTm: the key and its salt (R423). -/
structure KeySlot where
  key : List Byte := []
  salt : Nat := 0
  deriving DecidableEq, Repr

/-- An operation of CXE (R428, R430): its page, the address of its descriptor and its words W0 to W6 as read at
acceptance (none where the read got an error response), its priority, and once it has run its status, UNVERIFIED and the
invocation number it used. -/
structure CxeOp where
  page : Nat
  desc : Nat
  words : Option (List Nat)
  prio : Nat
  status : Nat := 0
  unver : Bool := false
  invoc : Nat := 0
  /-- It has retired its slot (R432). -/
  retires : Bool := false
  /-- The blocks that it has still to write, each with its address (R434). -/
  left : List (Nat × List Byte) := []
  /-- What it writes after the last of them: a tag or a digest, with its address. -/
  last : Option (Nat × List Byte) := none
  /-- The blocks are those of a scrub, and a write of one got an error response (R436). -/
  scrubbed : Bool := false
  scrubBad : Bool := false
  deriving DecidableEq, Repr

/-- The cipher engine's own state: keys by 8 × page + slot, the operations queued, in order of submission, and those
begun and not completed, the highest priority first (R433, R434). -/
structure CxeState where
  keys : Vector KeySlot 128 := Vector.replicate 128 {}
  queue : List CxeOp := []
  running : List CxeOp := []
  /-- CLK_PER cycles left of the ICVs of the Ethernet ports, which run at priority 0 (R433). -/
  icv : Nat := 0
  deriving DecidableEq, Repr

/-- A lifecycle request whose signature is being checked: its target and its 80 bytes (R443). -/
structure LcRequest where
  target : Nat
  bytes : List Byte
  deriving DecidableEq, Repr

/-- A job of the signature verifier: that of a descriptor at an address (R440), the signature of the Chain command in progress with its
key and digest (R482), or that of a root key of OSNMA: its curve, and the chain that it begins by its hash, its number and the key
(R294). -/
inductive SvuJob where
  | desc (addr : Nat)
  | chain (key digest sig : List Byte)
  | root (p521 : Bool) (pub digest sig : List Byte) (sha3 : Bool) (number : Nat) (key : List Byte)
  deriving DecidableEq, Repr

/-- The signature verifier's own state: the jobs, oldest first (R440); a certificate being verified (R447); a lifecycle request being
verified. -/
structure SvuState where
  jobs : List SvuJob := []
  cert : Bool := false
  /-- The job in progress when the certificate was submitted, which ends before it (R440). -/
  before : Bool := false
  lc : Option LcRequest := none
  deriving DecidableEq, Repr

/-! ### Kloko-48 Cores -/

/-- A hardware loop: its body, the iterations left counting the current one, and whether it was started with EXL = 1
(R239). -/
structure LoopRec where
  first : Nat
  last : Nat
  left : Nat
  exl : Bool
  deriving DecidableEq, Repr

/-- A global access that has not been answered (R233): the register and the value a load will write, where it is one, and the
cause of its error response, 0 where it has none, with the address of the transaction that got it. -/
structure GlobalAcc where
  dest : Option Nat
  value : Word := 0
  addr : Nat
  size : Nat
  cause : Nat := 0
  errAddr : Nat := 0
  deriving DecidableEq, Repr

/-- What an instruction has written, as far as a stall after it depends on it (R237): general registers by the ALU, IMM and ACC
classes, MVS and RDAR, those by local loads, accumulators by the MAC and ACC classes, and SCL. -/
structure Made where
  g : List Nat := []
  loads : List Nat := []
  accs : List Nat := []
  scl : Bool := false
  deriving DecidableEq, Repr

/-- The registers of a core (R218 to R221) and what R231, R233, R239, R241 and R250 keep beside them. -/
structure CoreState where
  g : Vector Word 16 := Vector.replicate 16 0
  a : Vector (BitVec 112) 2 := Vector.replicate 2 0
  p : Vector (BitVec 15) 8 := Vector.replicate 8 0
  b : Vector (BitVec 15) 8 := Vector.replicate 8 0
  l : Vector (BitVec 15) 8 := Vector.replicate 8 0
  m : Vector (BitVec 15) 8 := Vector.replicate 8 0
  /-- A length written by the instruction before: the pointer and the old length, which still governs (R231). -/
  oldLen : Option (Nat × BitVec 15) := none
  st : Word := 0
  scl : Word := 0
  epc : BitVec 14 := 0
  est : Word := 0
  ecause : Word := 0
  evbase : Word := 0
  imask : Word := 0
  pc : BitVec 14 := 0
  /-- Loops, innermost first, and return addresses, newest first. -/
  loops : List LoopRec := []
  rets : List (BitVec 14) := []
  /-- Accesses outstanding, oldest first. -/
  out : List GlobalAcc := []
  /-- LDERR, STERR and NMI that wait, and synchronous causes raised together and not yet taken (R243). -/
  ldErr : Bool := false
  stErr : Bool := false
  nmi : Bool := false
  causes : List Nat := []
  /-- TRAP number of a TRAP that waits. -/
  trapNo : Nat := 0
  /-- The state that HALTED was entered from (R250). -/
  former : Nat := 1
  /-- The instruction in progress is carried out under KCn_CTRL.STEP (R253). -/
  stepping : Bool := false
  /-- Cycles since the core last left RESET. -/
  cycle : Word := 0
  /-- What the instruction before wrote, and the one before that (R237). -/
  made : Made := {}
  madeBefore : Made := {}
  deriving DecidableEq, Repr

/-! ### Host Access and Messages -/

/-- An output message's selection by SYS OUTCFG (R550). -/
structure OutCfg where
  cls : Nat
  num : Nat
  links : Nat
  period : Nat
  sent : Nat := 0
  deriving DecidableEq, Repr

/-- What NMEA CFG sets (R553, R556): 0 version 4.11, 1 version 3.01, 2 version 2.3; the sentences, bit 0 ZDA, 1 RMC, 2 GGA,
3 GNS, 4 GSA, 5 GSV, 6 $PSHAT, 7 $PSHAS; the UARTs; and whether the time-of-day string is $PSHAT. -/
structure NmeaCfg where
  version : Nat := 0
  sentences : Nat := 0
  uarts : Nat := 0
  pshat : Bool := false
  deriving DecidableEq, Repr

/-- An image that awaits its check (R530 to R533): its length, where it comes from (0 flash slot A, 1 flash slot B, 2 the host,
3 UART0), and whether one of its bytes could not be read. -/
structure BootImage where
  len : Nat
  src : Nat
  bad : Bool := false
  deriving DecidableEq, Repr

/-- The host links' own state (R534 to R556). -/
structure HstState where
  /-- WERR of SPI STATUS. -/
  werr : Bool := false
  /-- The pending-bit array, and the vectors sent to the host as messages, oldest first. -/
  pba : Nat := 0
  vectors : List Nat := []
  /-- Of the endpoint's configuration space: Function Mask of MSI-X, and BAR0 (R535, R537). -/
  mask : Bool := false
  bar0 : Nat := 0
  /-- What the last read or transfer returned to the host: an answer's cause, 0 for none, and its bytes. -/
  cause : Nat := 0
  data : List Byte := []
  /-- The tick at which a byte last came on each byte link (R547). -/
  rxAt : Vector Nat 4 := Vector.replicate 4 0
  /-- Bytes of a time-of-day string still to be sent, for each UART. -/
  tod : Vector (List Byte) 2 := Vector.replicate 2 []
  /-- Frames and messages discarded, for each of the links PCIe, SPI, UART0, UART1, I²C (R547, R549). -/
  frames : Vector Nat 5 := Vector.replicate 5 0
  lost : Vector Nat 5 := Vector.replicate 5 0
  outCfg : List OutCfg := []
  /-- TB_TIMESTAT and SAF_LOGWP.WP as the output messages TIMESTAT and LOG ENTRY last followed them (R550). -/
  timestat : Nat := 0
  logSeen : Nat := 0
  /-- SV firmware runs (R541). -/
  ready : Bool := false
  /-- The image to be checked; the slot of the flash to be read next; a staging write of the present image failed. -/
  boot : Option BootImage := none
  slot : Nat := 0
  stageBad : Bool := false
  /-- The result of the verifier for the image checked last (R548). -/
  bootSvu : Nat := 0
  /-- The commands that await their final response: link, class and number (R548). -/
  await : List (Nat × Nat × Nat) := []
  nmea : NmeaCfg := {}
  /-- The second of the time base for which the selected sentences were last sent (R553). -/
  nmeaAt : Option Nat := none
  /-- The target whose time-of-day string was written last, in 2^-48 s (R556). -/
  todFor : Option Nat := none
  /-- The antennas of MEAS SUBSCRIBE, and the UART and EVC unit of EXT ZDAIN (R551). -/
  antennas : Nat := 0
  zdaIn : Option (Nat × Nat) := none
  /-- MINEX and ACCCLASS of CFG PTPRX (R409, R410); the board temperature of EXT TEMP in 1/16 °C; the TAI second of the last
  pulse of each EVC unit, as EXT TOD or a ZDA sentence delivers it, and the time of its arrival in 2^-48 s (R357). -/
  ptpRx : Option (Nat × Nat) := none
  boardTemp : Int := 0
  evcTod : Vector (Option (Nat × Nat)) 8 := Vector.replicate 8 none
  deriving DecidableEq, Repr

/-! ### Tracking and the Time Solution -/

/-- A satellite: consecutive epochs with strikes in at least half of its pairs, and without them, and SPOOF_SAT (R291); whether
OSNMA tags for it have come, the tick of its last authentication, and a failure since (R295). -/
structure SatRun where
  sat : Nat
  run : Nat := 0
  clean : Nat := 0
  spoof : Bool := false
  tags : Bool := false
  okAt : Option Nat := none
  failed : Bool := false
  deriving DecidableEq, Repr

/-- A tag that awaits the key of its number (R294): its satellite, whether it is a CMAC, the number, the data it covers and its bytes. -/
structure OsnmaTag where
  svid : Nat
  cmac : Bool
  number : Nat
  data : List Byte
  mac : List Byte
  deriving DecidableEq, Repr

/-- What the standby solution core holds for OSNMA (R294): the public key with whether it is one of P-521, the latest verified
TESLA key with its number and whether its chain hashes by SHA3-256, the tags that wait, and the blocks accepted in the last hour of
Galileo time. -/
structure OsnmaState where
  pub : Option (Bool × List Byte) := none
  chain : Option (Bool × Nat × List Byte) := none
  tags : List OsnmaTag := []
  seen : List (Nat × OsnmaItem) := []
  deriving DecidableEq, Repr

/-- What a loop core carries of a channel from one record to the next (R274, R280, R284): the NCO phase of the last record, its cycles
since the arc began in 2^-32, the discriminator's output there, and the times of the last record and of the arc's start in 2^-48 s. -/
structure LoopMem where
  phase : Nat
  nco : Int
  disc0 : Int
  time : Nat
  arc : Nat
  deriving DecidableEq, Repr

/-- The qualification of a source (R330): the tick at which its unbroken run of valid offsets began, its last offset in ps with
the corrections applied by then, the offsets missed since, and whether it is qualified; for a PTP source the SEQ last read and the
tick of the last instant at which an offset came or was missed. -/
structure SrcRun where
  since : Option Nat := none
  last : Option (Int × Int) := none
  missed : Nat := 0
  qualified : Bool := false
  seq : Nat := 0
  at_ : Nat := 0
  deriving DecidableEq, Repr

/-- An external pulse as a source (R357): the last valid second with its capture in 2^-48 s, and the offset of the present
second in 2^-48 s where it is valid. -/
structure ExtSource where
  last : Option (Nat × Nat) := none
  offset : Option Int := none
  deriving DecidableEq, Repr

/-- What the solution firmware keeps from epoch to epoch: the pairs that gave ONE and those that gave a verdict, the epochs
that set or clear the site flag, SPOOF_SITE, the satellites' runs (R291), and the external pulses (R357). -/
structure NavState where
  /-- The words of CONFIG in force: those that stood there at the last solution epoch (R271). -/
  config : Vector Nat 18 := Vector.replicate 18 0
  pairs1 : Nat := 0
  pairsN : Nat := 0
  oneRun : Nat := 0
  clean : Nat := 0
  spoofSite : Bool := false
  sats : List SatRun := []
  ext : Vector ExtSource 8 := Vector.replicate 8 {}
  osnma : OsnmaState := {}
  /-- The channels' loops; the records that each loop core holds back until their channel is released (R278, R303); the last vector
  aiding of each channel: EPOCHCNT and tick (R288). -/
  loops : List (Nat × LoopMem) := []
  held : Vector (List (List Byte)) 4 := Vector.replicate 4 []
  vec : List (Nat × Nat × Nat) := []
  /-- Records that each loop core discarded at a full ring (R275), and the tick of its last kick (R273). -/
  discards : Vector Nat 4 := Vector.replicate 4 0
  kicked : Vector Nat 4 := Vector.replicate 4 0
  /-- KCn_CYCLE and KCn_STALL of each loop core at the last epoch, its tick, and the loads since, in 0.01 % (R305). -/
  cycles : Vector (Nat × Nat) 4 := Vector.replicate 4 (0, 0)
  cyclesAt : Nat := 0
  loads : Vector Nat 4 := Vector.replicate 4 0
  /-- The last epoch instant in 2^-48 s, and the records kept, of SC0 and of SC1; the epochs that the consistency test has seen. -/
  epoch : Vector Nat 2 := Vector.replicate 2 0
  recs : Vector (List (List Byte)) 2 := Vector.replicate 2 []
  tests : Nat := 0
  /-- The latest measurement record of each channel (R551). -/
  latest : List (Nat × List Byte) := []
  /-- The time filter and its shadow in the standby solution core, and the estimates of the last epoch: b in 2^-48 s, the
  rate in 2^-16 ppb, the 1σ of both, and whether there is an estimate (R285, R297). -/
  filter : Vector Nat 2 := Vector.replicate 2 0
  bias : Int := 0
  rate : Int := 0
  unc : Nat := 0
  runc : Nat := 0
  solved : Bool := false
  /-- The sources in the order of their EN bits (R330). -/
  srcs : Vector SrcRun 13 := Vector.replicate 13 {}
  /-- The tick of the last step request, whether TB refused it, and the correction that becomes a slew (R299, R300). -/
  stepAt : Option Nat := none
  stepRefused : Bool := false
  slewNext : Option Int := none
  /-- The tick at which holdover began, the 1σ in ps of the last source in use, and the ticks of the last frequency update in
  holdover and of the last write of a model (R335, R336). -/
  holdAt : Option Nat := none
  lastUnc : Nat := 0
  sigma : Nat := 0
  updated : Option Nat := none
  learnAt : Nat := 0
  /-- The tick at which a migration ended (R298); the handovers still to be made, and those that run: channel and target (R305). -/
  migrated : Option Nat := none
  moves : List (Nat × Nat) := []
  /-- Whether the OSNMA policy was met at the last epoch (R296). -/
  osnmaMet : Bool := false
  /-- The requests that wait for the active solution core (R269). -/
  requests : List ChanReq := []
  deriving DecidableEq, Repr

/-- The straps as they stand at their balls (R581). -/
structure Straps where
  bootsel : Nat := 0
  i2caddr : Nat := 0
  deriving DecidableEq, Repr


/-! ### Ethernet Timing Ports -/

/-- The messages that a port sends by itself or for SV. -/
inductive EthKind where
  | sync | followUp | delayResp | esmcInfo | esmcEvent | frame
  deriving DecidableEq, Repr

/-- A message sent: its port, its grant entry where it is unicast, its sequenceId, the time it carries (seconds, nanoseconds),
its correctionField in 2^-16 ns, and its body: for a Delay_Resp the portIdentity it answers, for an ESMC PDU its codes, and for a
frame of SV its bytes. -/
structure EthMsg where
  kind : EthKind
  port : Nat
  grant : Option Nat := none
  seq : Nat := 0
  sec : Nat := 0
  ns : Nat := 0
  corr : Int := 0
  body : List Byte := []
  /-- The AUTHENTICATION TLV, where there is one: SPP, keyID and the length of its ICV, and the ICV (R404). -/
  key : Option (Nat × Nat × Nat) := none
  icv : List Byte := []
  /-- The instance that sends (R395): clockIdentity, portNumber, domainNumber and minorVersionPTP. -/
  clock : Nat := 0
  portNumber : Nat := 0
  domain : Nat := 0
  minor : Nat := 0
  /-- twoStepFlag: a Follow_Up comes after this Sync (R396). -/
  twoStep : Bool := false
  /-- How it is carried (R395, R399, R417): 0 IEEE 802.3, 1 UDP over IPv4, 2 UDP over IPv6; the MAC addresses; the IP addresses,
  where the manual gives them; and the tag control information of a tagged frame. -/
  transport : Nat := 0
  dmac : Nat := 0
  smac : Nat := 0
  dip : List Byte := []
  sip : List Byte := []
  vlan : Option Nat := none
  /-- The UDP checksum under a UDP transport (R396). -/
  udpSum : Option Nat := none
  deriving DecidableEq, Repr

/-- A Sync that waits for the frame in progress: its grant entry where it is unicast, and its instant in 2^-48 s (R400). -/
structure SyncJob where
  grant : Option Nat
  t : Nat
  deriving DecidableEq, Repr

/-- The ports' own state. -/
structure EthState where
  /-- The messages sent by the last command that sends. -/
  sent : List EthMsg := []
  /-- The sequenceId of each multicast stream. -/
  seq : Vector Nat 4 := Vector.replicate 4 0
  /-- The Syncs queued at each port, in their order, and the time in 2^-96 s from which the streams go on after a load (R400, R415). -/
  queue : Vector (List SyncJob) 4 := Vector.replicate 4 []
  resume : Nat := 0
  /-- The tick at which OSY3 output 1 last stopped, while it stands still (R391). -/
  tapStop : Option Nat := none
  /-- The tick of a change of TXQL that no ESMC PDU has told yet, and of the last ESMC PDU received while a time-out can come (R412,
  R413). -/
  qlAt : Vector (Option Nat) 4 := Vector.replicate 4 none
  esmcAt : Vector (Option Nat) 4 := Vector.replicate 4 none
  /-- The tick at which the window of each port's recovered clock began (R411). -/
  rxfFrom : Vector Nat 4 := Vector.replicate 4 0
  /-- The timeSource last announced from a source, and the parent of each port's last source offset (R402, R410). -/
  timeSource : Nat := 0xA0
  parent : Vector (Option (List Byte)) 4 := Vector.replicate 4 none
  /-- The Delay_Req answered in the second of 600,000,000 ticks that `respSec` numbers (R401). -/
  respSec : Nat := 0
  respCount : Nat := 0
  deriving DecidableEq, Repr


/-! ### The whole -/

/-- The state of the device. -/
structure State where
  /-- Registers that differ from their cold-reset value: (address, value), addresses strictly rising. -/
  regs : List (Nat × Word) := []
  /-- Memory bytes that differ from zero: addresses strictly rising. -/
  mem : List Host.Cell := []
  bus : BusState := {}
  memc : MemState := {}
  nvs : NvsState := {}
  saf : SafState := {}
  pwr : PwrState := {}
  tb : TimeState := {}
  ports : Vector PortState 32 := Vector.replicate 32 {}
  clapper : Option Clapper := none
  ca : CaState := {}
  cgn : CgnState := {}
  se : SeState := {}
  reels : Vector ReelIn 8 := Vector.replicate 8 {}
  streams : Vector StreamState 128 := Vector.replicate 128 {}
  conds : Vector CondState 128 := Vector.replicate 128 {}
  heads : Vector HeadState 32 := Vector.replicate 32 {}
  pls : PulseState := {}
  clk : ClkState := {}
  osy : Vector OsyState 4 := Vector.replicate 4 {}
  eth : EthState := {}
  cxe : CxeState := {}
  svu : SvuState := {}
  cores : Vector CoreState 7 := Vector.replicate 7 {}
  hst : HstState := {}
  nav : NavState := {}
  straps : Straps := {}
  /-- The tick of the last rise of DBG_CTRL.TREN (R568). -/
  dbgStart : Nat := 0
  /-- CLK_TB periods since power-up; the model's own reading of time, on which durations are measured. -/
  ticks : Nat := 0
  /-- The model's own counter of free values taken; it belongs to no part of the device. -/
  freeCount : Nat := 0
  /-- The commands that wait, first in, first out. -/
  pending : List Instr := []
  deriving DecidableEq, Repr

/-- The device right after its cold reset: every register at the value of its table, the fault held from reset in force, no
Chain image (NVS_STAT 0x140: CHAINBAD, CHAINRDY), a blank OTP with no root band (CLK_STAT 0x4030: FROZEN, NOBAND, RELOCKFAIL),
and the straps at 0 (I²C address 0x58); memory lists nothing, and no command waits.
[DESIGN CHOICE, unsafe: notes/assumptions/2] [DESIGN CHOICE, unsafe: notes/assumptions/4] -/
def State.reset : State := { regs := [(0x10020008, 0x4030), (0x10140000, 0x140), (0x10150050, 0x58)] }

end Sys2Proof.Machine
end

