-- ==== Sys2Proof/Machine/Ops.lean ====
section
/-!
DEFINITION. The shared operations on State: sparse tables in canonical form, registers and their fields, memory bytes,
free values, the time base's readings, the fault log (R518 to R521) and the interconnect's error log (R471, R472).
-/

namespace Sys2Proof.Machine

/-! ### Sparse tables -/

/-- The value at a key, `d` where none is listed. -/
def getAt {α : Type} (d : α) : List (Nat × α) → Nat → α
  | [], _ => d
  | (b, v) :: t, a => if a = b then v else getAt d t a

/-- The table with value `v` at key `a`, keys rising, and nothing listed that equals the default `d` of that key. -/
def putAt {α : Type} [DecidableEq α] (d : α) : List (Nat × α) → Nat → α → List (Nat × α)
  | [], a, v => if v = d then [] else [(a, v)]
  | (b, w) :: t, a, v =>
    if a < b then (if v = d then (b, w) :: t else (a, v) :: (b, w) :: t)
    else if a = b then (if v = d then t else (a, v) :: t)
    else (b, w) :: putAt d t a v

/-- Keys strictly above `lo` and rising, each value different from its default. -/
def sparseAbove {α : Type} [DecidableEq α] (d : Nat → α) : Nat → List (Nat × α) → Bool
  | _, [] => true
  | lo, (a, v) :: t => decide (lo ≤ a) && decide (v ≠ d a) && sparseAbove d (a + 1) t

/-! ### Registers -/

/-- The reset value of KC_IRTs: the fixed routes of R246 and the defaults of R267. -/
def irtReset (src : Nat) : Nat :=
  if src < 4 then 0x100 + src
  else if 30 ≤ src ∧ src < 37 then 0x110 + (src - 30)
  else if 37 ≤ src then 0x120 + (src - 37)
  else 0x0F6

/-- The reset value of SAF_VLIMk (R526). -/
def vlimReset (k : Nat) : Nat :=
  match k with
  | 0 => 40 * 65536 + 40
  | 1 => 945 * 65536 + 855
  | 2 => 1260 * 65536 + 1140
  | 3 => 1890 * 65536 + 1710
  | 4 => 1890 * 65536 + 1710
  | _ => 3465 * 65536 + 3135

/-- The cold-reset value of a register (R564): that of the register map, but for the registers whose instances differ.
[DESIGN CHOICE, safe: notes/assumptions/16] -/
def regReset (a : Nat) : Word :=
  if a >>> 12 = 0x100E8 then (if isReg a then BitVec.ofNat 48 (irtReset ((a - 0x100E8000) / 8)) else 0)
  else if a = 0x100E6008 then BitVec.ofNat 48 0x10000
  else if a >>> 6 = 0x405805 ∧ isReg a then BitVec.ofNat 48 (vlimReset ((a - 0x10160140) / 8))
  else match regSpec? a with
    | some r => BitVec.ofNat 48 r.reset
    | none => 0

/-- The content of a register slot; a hole reads zero (R16). -/
def State.reg (s : State) (a : Nat) : Word := getAt (regReset a) s.regs a

/-- The state with the register slot holding `v`. -/
def State.setReg (s : State) (a : Nat) (v : Word) : State :=
  { s with regs := putAt (regReset a) s.regs a v }

/-- The value of a field. -/
def State.rd (s : State) (f : Fld) : Nat := ((s.reg f.reg).toNat >>> f.lo) % 2 ^ f.width

/-- The word `w` with the field replaced by `v`, taken modulo the field's width. -/
def Fld.insert (f : Fld) (w : Word) (v : Nat) : Word :=
  let n := w.toNat
  let old := (n >>> f.lo) % 2 ^ f.width
  BitVec.ofNat 48 (n - old <<< f.lo + (v % 2 ^ f.width) <<< f.lo)

/-- The state with the field set to `v`, taken modulo the field's width. -/
def State.wr (s : State) (f : Fld) (v : Nat) : State := s.setReg f.reg (f.insert (s.reg f.reg) v)

/-- Whether a one-bit field is 1. -/
def State.flag (s : State) (f : Fld) : Bool := s.rd f == 1

/-- The state with a one-bit field set to a truth value. -/
def State.put (s : State) (f : Fld) (b : Bool) : State := s.wr f (if b then 1 else 0)

/-- The state with a status bit set. -/
def State.raise (s : State) (f : Fld) : State := s.wr f 1

/-- The state with a bit cleared. -/
def State.clear (s : State) (f : Fld) : State := s.wr f 0

/-- The state with bit `k` of a field set. -/
def State.raiseBit (s : State) (f : Fld) (k : Nat) : State := s.wr f (s.rd f ||| 1 <<< k)

/-- The state with bit `k` of a field set to a truth value. -/
def State.putBit (s : State) (f : Fld) (k : Nat) (b : Bool) : State :=
  let v := s.rd f
  let bit := (v >>> k) % 2
  s.wr f (v - bit <<< k + (if b then 1 else 0) <<< k)

/-- Bit `k` of a field. -/
def State.bit (s : State) (f : Fld) (k : Nat) : Bool := (s.rd f >>> k) % 2 == 1

/-- The state with a counter that wraps raised by `n`. -/
def State.count (s : State) (f : Fld) (n : Nat := 1) : State := s.wr f (s.rd f + n)

/-- The state with a counter that saturates raised by `n`. -/
def State.countSat (s : State) (f : Fld) (n : Nat := 1) : State :=
  s.wr f (min (s.rd f + n) (2 ^ f.width - 1))

/-- A number of `w` bits read as two's complement. -/
def signed (w n : Nat) : Int := if n % 2 ^ w < 2 ^ (w - 1) then (n % 2 ^ w : Nat) else ((n % 2 ^ w : Nat) : Int) - (2 ^ w : Nat)

/-- An integer as a two's complement number of `w` bits. -/
def unsigned (w : Nat) (z : Int) : Nat := (z % (2 ^ w : Nat)).toNat

/-- An integer limited to what `w` bits of two's complement hold. -/
def clampS (w : Nat) (z : Int) : Int :=
  let m : Int := (2 ^ (w - 1) : Nat)
  if z < -m then -m else if m - 1 < z then m - 1 else z

/-- The value of a field read as two's complement. -/
def State.rdS (s : State) (f : Fld) : Int := signed f.width (s.rd f)

/-- The state with a field set to an integer in two's complement. -/
def State.wrS (s : State) (f : Fld) (z : Int) : State := s.wr f (unsigned f.width z)

/-- A register written by type code (R14) with a value already merged to 48 bits: RW fields take the value, a 1 clears a
W1C bit and sets a W1S bit, and every other field keeps what it holds.  The action that a WO field triggers is its
block's. -/
def writeFields (fs : List FieldSpec) (a : Nat) (old v : Word) : Word :=
  fs.foldl (fun w f =>
    let fld : Fld := ⟨a, f.hi, f.lo⟩
    let nv := (v.toNat >>> f.lo) % 2 ^ fld.width
    let ov := (old.toNat >>> f.lo) % 2 ^ fld.width
    match f.access with
    | .rw => fld.insert w nv
    | .w1c => fld.insert w (ov - (ov &&& nv))
    | .w1s => fld.insert w (ov ||| nv)
    | _ => w) old

/-- The state after a plain write of a register by type code. -/
def State.typed (s : State) (a : Nat) (v : Word) : State :=
  match regSpec? a with
  | some r => s.setReg a (writeFields r.fields a (s.reg a) v)
  | none => s

/-- The value that a field would take from a written word. -/
def Fld.of (f : Fld) (v : Word) : Nat := (v.toNat >>> f.lo) % 2 ^ f.width

/-! ### Memory -/

/-- A byte of memory; a byte that nothing has written reads zero. [DESIGN CHOICE, unsafe: notes/assumptions/3] -/
def State.byte (s : State) (a : Nat) : Byte := getAt 0 s.mem a

/-- The state with one byte of memory written. [DESIGN CHOICE, unsafe: notes/assumptions/3] -/
def State.setByte (s : State) (a : Nat) (b : Byte) : State := { s with mem := putAt 0 s.mem a b }

/-- The `n` bytes from an address. -/
def State.bytes (s : State) (a : Nat) : Nat → List Byte
  | 0 => []
  | n + 1 => s.byte a :: s.bytes (a + 1) n

/-- The state with a list of bytes written from an address. -/
def State.setBytes (s : State) (a : Nat) : List Byte → State
  | [] => s
  | b :: t => (s.setByte a b).setBytes (a + 1) t

/-- A little-endian number from bytes (R11). [DEDUCED, unsafe: notes/assumptions/17] -/
def ofLE : List Byte → Nat
  | [] => 0
  | b :: t => b.toNat + 256 * ofLE t

/-- The `n` little-endian bytes of a number (R11). -/
def toLE : Nat → Nat → List Byte
  | 0, _ => []
  | n + 1, v => BitVec.ofNat 8 v :: toLE n (v / 256)

/-- A big-endian number from bytes. [DEDUCED, unsafe: notes/assumptions/17] -/
def ofBE (l : List Byte) : Nat := ofLE l.reverse

/-- The `n` big-endian bytes of a number. -/
def toBE (n v : Nat) : List Byte := (toLE n v).reverse

/-- The little-endian number in the `n` bytes from an address. -/
def State.le (s : State) (a n : Nat) : Nat := ofLE (s.bytes a n)

/-- The state with a number written little-endian to the `n` bytes from an address. -/
def State.setLE (s : State) (a n v : Nat) : State := s.setBytes a (toLE n v)

/-- Whether the memory is in canonical form: addresses rising, no entry that equals what an unlisted byte reads as. -/
def Memory.wf (m : List Host.Cell) : Bool := sparseAbove (fun _ => (0 : Byte)) 0 m

/-- Whether the register file is in canonical form. [DESIGN CHOICE, safe: notes/assumptions/16] -/
def Regs.wf (r : List (Nat × Word)) : Bool := sparseAbove regReset 0 r

/-- The state with every byte of memory from `lo` to `hi - 1` zero. -/
def State.zeroMem (s : State) (lo hi : Nat) : State :=
  { s with mem := s.mem.filter fun c => !(decide (lo ≤ c.1) && decide (c.1 < hi)) }

/-- The state with every register from address `lo` to `hi - 1` at its cold-reset value. -/
def State.resetRegs (s : State) (lo hi : Nat) : State :=
  { s with regs := s.regs.filter fun c => !(decide (lo ≤ c.1) && decide (c.1 < hi)) }

/-! ### The address map -/

/-- What an address reaches. -/
inductive Target where
  | shared | contexts | search | codeRam | nvs | aon | window (core : Nat) | buffer | regs | nowhere
  deriving DecidableEq, Repr

/-- The MSI-X table, the mailboxes and the TOD buffers: memory inside the HST block range (R535, R539, R557). -/
def isHostBuffer (a : Nat) : Bool :=
  (decide (0x10151000 ≤ a) && decide (a < 0x10151400)) || (decide (0x10152000 ≤ a) && decide (a < 0x10154000)) ||
    (decide (0x10154000 ≤ a) && decide (a < 0x10154100) && decide (a % 0x80 < 96))

/-- The target of an address (R126, R169, R208, R213, R457, R473, R477, R559). -/
def target (a : Nat) : Target :=
  if a < 0x01800000 then .shared
  else if 0x02000000 ≤ a ∧ a < 0x02700000 then .window ((a - 0x02000000) / 0x100000)
  else if 0x04000000 ≤ a ∧ a < 0x04100000 then .contexts
  else if 0x05000000 ≤ a ∧ a < 0x05100000 then .search
  else if 0x05800000 ≤ a ∧ a < 0x05820000 then .codeRam
  else if 0x06000000 ≤ a ∧ a < 0x06400000 then .nvs
  else if 0x08000000 ≤ a ∧ a < 0x08010000 then .aon
  else if isHostBuffer a then .buffer
  else if 0x10000000 ≤ a ∧ a < 0x10190000 then .regs
  else .nowhere

/-! ### Power -/

/-- An entry to KEEPTIME or DEEP awaits its cut-over point: the back-channels and the synthesisers' outputs have stopped (R497). -/
def entering (s : State) : Bool := match s.pwr.power with | .entering t _ => t != 1 | _ => false

/-- Whether the blocks that KEEPTIME and DEEP leave without power have it (R489). -/
def hostOn (s : State) : Bool := s.pwr.power != .keeptime && s.pwr.power != .deep

/-! ### The firewall -/

/-- Whether a region is enabled and contains the address (R469). -/
def fwHit (s : State) (a n : Nat) : Bool :=
  s.flag (IC_FWn_BASE_EN n) && decide (s.rd (IC_FWn_BASE_BASE n) ≤ a / 4096) &&
    decide (a / 4096 ≤ s.rd (IC_FWn_LIMIT_LIMIT n))

/-- The permission word that decides an access: that of the lowest-numbered enabled region that contains the address,
else IC_FWDEF (R469). -/
def fwWord (s : State) (a : Nat) : Nat :=
  match (List.range 32).find? (fwHit s a) with
  | some n => s.rd (IC_FWn_PERM_PERM n)
  | none => s.rd IC_FWDEF_PERM

/-- The firewall does not apply to the debug port at D3 (R444, R469). -/
def fwExempt (s : State) (init : Nat) : Bool := init == 14 && s.rd SVU_DBG_LEVEL == 3

/-- Whether the firewall permits an access; an atomic one needs both bits (R469). -/
def fwPermits (s : State) (init a : Nat) (read write : Bool) : Bool :=
  fwExempt s init ||
    ((!read || (fwWord s a >>> (2 * init)) % 2 == 1) && (!write || (fwWord s a >>> (2 * init + 1)) % 2 == 1))

/-! ### Unpowered targets -/

/-- Targets unpowered outside ACTIVE (R489, R504): in STANDBY the array, the searches, Reel and six cores. -/
def standbyOff (a : Nat) : Bool :=
  match target a with
  | .contexts | .search | .codeRam => true
  | .window n => decide (n < 6)
  | .regs =>
    let b := a / 65536
    b == 0x100B || b == 0x100C || b == 0x100D || (b == 0x100E && decide (a % 65536 < 0x6000))
  | _ => false

/-- Whether the target's clock or power is off. -/
def State.isOff (s : State) (a : Nat) : Bool :=
  match s.pwr.power with
  | .active => false
  | .standby => standbyOff a
  | .entering _ _ => standbyOff a
  | .exiting => standbyOff a
  | .keeptime => true
  | .deep => true

/-! ### Free values -/

/-- A value the manual leaves open, below `2 ^ w`, and the state that has drawn it.
[DESIGN CHOICE, safe: notes/assumptions/8] -/
def State.fresh (s : State) (w : Nat) : Nat × State :=
  (Config.freeValue s.freeCount % 2 ^ w, { s with freeCount := s.freeCount + 1 })

/-! ### Time -/

/-- The nominal increment of the time base per tick, in 2^-96 s (R312). [DEDUCED, unsafe: notes/assumptions/27] -/
def NOM : Nat := 132046937523773895989

/-- The increment in force TB_RATE, in 2^-96 s (R313). -/
def State.rate (s : State) : Nat := s.rd TB_RATEH_RATE * 2 ^ 48 + s.rd TB_RATEL_RATE

/-- A number of ticks as a duration of the time base at the increment in force (R589). -/
def State.ticksOf (s : State) (k : Nat) : Nat := k * s.rate

/-- Fine steps as a duration of the time base at the increment in force, truncated (R60, R342). -/
def State.fineOf (s : State) (k : Nat) : Nat := k * s.rate / 256

/-- Picoseconds in 2^-96 s, truncated (R318). -/
def psOf (ps : Nat) : Nat := ps * 2 ^ 96 / 10 ^ 12

/-- The counter in 2^-48 s, as a time stamp shows it. -/
def State.now48 (s : State) : Nat := s.tb.now / 2 ^ 48

/-- A time stamp of 96 bits in 2^-48 s, from a pair of registers. -/
def State.stamp (s : State) (sec frac : Nat) : Nat := (s.reg sec).toNat * 2 ^ 48 + (s.reg frac).toNat

/-- The state with a time stamp in a pair of registers. -/
def State.setStamp (s : State) (sec frac v : Nat) : State :=
  (s.setReg sec (BitVec.ofNat 48 (v / 2 ^ 48))).setReg frac (BitVec.ofNat 48 v)

/-- Ticks in one microsecond, in one millisecond and in one frame period. -/
def usTicks : Nat := 600
def msTicks : Nat := 600000
def frameTicks : Nat := 9375

/-! ### Code words (R460) -/

/-- The words that an access touches, by their address. -/
def wordsOf (a n : Nat) : List Nat := (List.range ((a + n + 7) / 8 - a / 8)).map fun i => 8 * (a / 8 + i)

/-- A word that an access covers only in part. -/
def isPartial (a n w : Nat) : Bool := decide (w < a) || decide (a + n < w + 8)

/-- A corrected error is counted: in NVS_ECC for the store, in KCn_ECC for a core's data memory, and in MEM_ECC with MEM_ECCADDR for
shared memory and AON RAM (R216, R460, R474, R477). [DEDUCED, safe: notes/assumptions/22] -/
def countCorr (a : Nat) (s : State) : State :=
  match target a with
  | .nvs => s.count NVS_ECC_CORR
  | .window n => s.count (KCn_ECC_DMCORR n)
  | .shared | .aon => ((s.count MEM_ECC_CORR).raise MEM_STAT_CORR).wr MEM_ECCADDR_ADDR a |>.clear MEM_ECCADDR_UE
  | _ => s

/-- A memory whose words carry SECDED; the instruction memories carry parity, which an issue alone checks (R216, R460). -/
def secded (a : Nat) : Bool := match target a with | .window _ => decide ((a - 0x02000000) % 0x100000 < 0x80000) | _ => true

/-- Single-bit errors of the words read are corrected, written back and counted (R460).
[DESIGN CHOICE, safe: notes/assumptions/22] -/
def correct (a n : Nat) (s : State) : State :=
  if !secded a then s else
  let hit := s.memc.single.filter fun w => (wordsOf a n).contains w
  let s := { s with memc := { s.memc with single := s.memc.single.filter fun w => !(wordsOf a n).contains w } }
  hit.foldl (fun s w => countCorr w s) s

/-- Whether a word of the access has a double-bit error. -/
def hasDouble (a n : Nat) (s : State) : Bool := s.memc.double.any fun w => (wordsOf a n).contains w

/-- A write clears the errors of the words it covers (R460). [DESIGN CHOICE, safe: notes/assumptions/22] -/
def clearErrors (a n : Nat) (s : State) : State :=
  { s with memc := { s.memc with
    single := s.memc.single.filter fun w => !(wordsOf a n).contains w,
    double := s.memc.double.filter fun w => !(wordsOf a n).contains w } }

/-! ### The fault log -/

/-- Word `i` of a severe copy is written, or fails and sets NVSCOPYERR (R521). -/
def copyWord (a entry : Nat) (s : State) (i : Nat) : State :=
  let w := a + 8 * i
  if s.nvs.worn.contains w then s.raise SAF_STAT_NVSCOPYERR else (clearErrors w 8 s).setLE w 8 (entry / 2 ^ (64 * i))

/-- The state with an entry copied to the NVS ring: NVSWP, which the store keeps, rises whether or not the write succeeds (R521, R526). -/
def copySevere (entry : Nat) (s : State) : State :=
  let s := (List.range 4).foldl (copyWord (0x06390000 + 32 * (s.rd SAF_LOGWP_NVSWP % 2048)) entry) s
  let s := s.count SAF_LOGWP_NVSWP
  { s with nvs := { s.nvs with logWp := s.rd SAF_LOGWP_NVSWP } }

/-- The severe copies that wait, written in their order (R521). -/
def flushCopies (s : State) : State :=
  let s' := s.saf.copies.foldl (fun s e => copySevere e s) s
  { s' with saf := { s'.saf with copies := [] } }

/-- A severe entry is copied at once, or waits behind the Chain command whose writes have begun or the first mirror load
(R484, R521). -/
def sendCopy (entry : Nat) (s : State) : State :=
  let waits := !s.flag NVS_STAT_CHAINRDY || (match s.nvs.chain with | some c => c.writing.isSome | none => false)
  if waits then { s with saf := { s.saf with copies := s.saf.copies ++ [entry] } }
  else copySevere entry s

/-- REPEAT of an entry rises, as a read-modify-write of its word (R460, R477, R521). -/
def raiseRepeat (a : Nat) (s : State) : State :=
  let s := correct a 1 s
  if hasDouble a 1 s then s else s.setLE a 1 (min 255 (s.le a 1 + 1))

/-- SAF records an event (R518 to R521): an event like the newest entry within 1 ms raises its REPEAT; any other writes
an entry at AON RAM 0x0800_D800 + 32 × (WP mod 64), and a SEVERE one (2) is copied to NVS.
[DEDUCED, unsafe: notes/assumptions/21] -/
def logEvent (code sev init unit data : Nat) (s : State) : State :=
  let wp := s.rd SAF_LOGWP_WP
  let merge := match s.saf.newest with
    | some k => k.code == code && k.init == init && k.unit == unit && decide (s.ticks - k.tick ≤ msTicks)
    | none => false
  if merge then raiseRepeat (0x0800D800 + 32 * ((wp + 65535) % 65536 % 64) + 19) s
  else
    let t := s.now48
    let entry := t % 2 ^ 48 + (t / 2 ^ 48 % 2 ^ 48) * 2 ^ 48 + (s.rd PWR_RTC_COUNT % 2 ^ 32) * 2 ^ 96
      + code * 2 ^ 128 + sev * 2 ^ 144 + wp * 2 ^ 160 + (data % 2 ^ 64) * 2 ^ 192
    let at_ := 0x0800D800 + 32 * (wp % 64)
    let s := (clearErrors at_ 32 s).setLE at_ 32 entry
    let s := s.count SAF_LOGWP_WP
    let s := { s with saf := { s.saf with newest := some ⟨code, init, unit, s.ticks⟩ } }
    if sev = 2 then sendCopy entry s else s

/-- An event that no initiator caused. -/
def logUnit (code sev unit data : Nat) (s : State) : State := logEvent code sev 16 unit data s

/-! ### Error responses -/

/-- The causes of R471. -/
def DECERR : Nat := 1
def FIREWALL : Nat := 2
def PWR_OFF : Nat := 3
def CTX_LOCKED : Nat := 4
def CODE_LOCKED : Nat := 5
def CHAIN_LOCKED : Nat := 6
def OWNER : Nat := 7
def IMEM : Nat := 8
def READONLY : Nat := 9
def ATOMIC : Nat := 10
def ECC_UE : Nat := 11
def BADBANK : Nat := 12
def MARCH : Nat := 13
def TIMEOUT : Nat := 14

/-- An error response is logged in the queue of 32 entries, or counted as dropped, and passed to SAF (R472).
[DEDUCED, unsafe: notes/assumptions/21] -/
def icError (init addr : Nat) (write : Bool) (cause : Nat) (s : State) : State :=
  let s :=
    if s.bus.errors.length < 32 then
      let e : ErrEntry := ⟨addr, init, write, cause, s.bus.overflowed⟩
      let s := { s with bus := { s.bus with errors := s.bus.errors ++ [e], overflowed := false } }
      (s.raise IC_STAT_ERR).count IC_ERRCNT_LOGGED
    else
      let s := { s with bus := { s.bus with overflowed := true } }
      (s.raise IC_STAT_OVF).count IC_ERRCNT_DROPPED
  let sev := if cause = FIREWALL ∨ cause = CHAIN_LOCKED ∨ cause = OWNER then 1 else 0
  logEvent 0x60 sev init 0
    (addr % 2 ^ 32 + init * 2 ^ 32 + cause * 2 ^ 36 + (if write then 1 else 0) * 2 ^ 41) s

/-- A write that its block refuses: the error response is logged and nothing else changes. -/
def refuseWrite (init addr cause : Nat) (s : State) : State := icError init addr true cause s

/-- A write made only when its condition holds; otherwise it gets an error response. -/
def guardW (ok : Bool) (init addr cause : Nat) (f : State → State) (s : State) : State :=
  if ok then f s else refuseWrite init addr cause s

/-- A meaning that always answers a next state. -/
def done (s : State) : Host.Outcome State Fault Refusal := .next s

/-! ### Accesses that a command stands for -/

/-- What the debug port may do at its level (R444). -/
def debugMay (s : State) (a : Nat) (write : Bool) : Bool :=
  decide (2 ≤ s.rd SVU_DBG_LEVEL) || (decide (1 ≤ s.rd SVU_DBG_LEVEL) && a / 65536 == 0x1018) ||
    (if write then a == SVU_DBG || (decide (SVU_DBGMBk 0 ≤ a) && decide (a ≤ SVU_DBGMBk 13))
     else a == SVU_LCS || a == SVU_DEVIDH || a == SVU_DEVIDL || a == SVU_DBG)

/-- A staged half of an initiator is discarded (R561). -/
def unstage (init : Nat) (s : State) : State :=
  { s with bus := { s.bus with staged := s.bus.staged.filter fun e => e.1 != init } }

/-- The cause with which an access to a register is refused before its block decides: the debug port's level, the firewall, the power of
the block (R444, R469, R504). -/
def portCause (s : State) (init a : Nat) (write : Bool) : Nat :=
  if init == 14 && !debugMay s a write then OWNER
  else if !fwPermits s init a (!write) write then FIREWALL
  else if s.isOff a then PWR_OFF
  else 0

/-- The debug port has no power in KEEPTIME and DEEP, nor once an entry to them has passed its refusal point: what it would send is
lost (R450, R452). -/
def portLost (s : State) (init : Nat) : Bool := init == 14 && (entering s || !hostOn s)

/-- An access to a register that a command stands for: it discards the half that its initiator has staged, and what it does is done
where nothing refuses it (R444, R469, R504, R561). -/
def asAccess (init a : Nat) (write : Bool) (f : State → State) (s : State) : State :=
  if portLost s init then s
  else
    let s := unstage init s
    let c := portCause s init a write
    if c = 0 then f s else icError init a write c s

/-- What a command without an initiator does to a register, where its block has power: the error response is SV's (R504).
[DESIGN CHOICE, unsafe: notes/assumptions/66] -/
def whenOn (a : Nat) (f : State → State) (s : State) : State := if s.isOff a then icError 6 a true PWR_OFF s else f s

/-! ### Keyed lists -/

/-- An entry of a keyed list, and the list with an entry replaced. -/
def keyGet {α : Type} (l : List (Nat × α)) (k : Nat) : Option α := (l.find? fun p => p.1 == k).map (·.2)
def keyPut {α : Type} (l : List (Nat × α)) (k : Nat) (v : α) : List (Nat × α) := (k, v) :: l.filter fun p => p.1 != k

end Sys2Proof.Machine
end

