-- ==== Sys2Proof/Machine/TimeBase.lean ====
section
/-!
DEFINITION. The time base (Time Base and Time Sources): its counter, the four ways in which it changes, and the checks
that refuse a change.
-/

namespace Sys2Proof.Machine

/-! ### Views -/

/-- TB_SEC as it stands (R309). -/
def State.sec (s : State) : Nat := s.tb.now / 2 ^ 96

/-- TB_FRAC as it stands (R309). -/
def State.frac (s : State) : Nat := s.tb.now / 2 ^ 48 % 2 ^ 48

/-- TIME_VALID is VALIDREQ and TIMESET and not CLKFAULT (R334). -/
def State.timeValid (s : State) : Bool :=
  s.flag TB_TIMESTAT_VALIDREQ && s.flag TB_STAT_TIMESET && !s.flag SAF_STAT_CLKFAULT

/-- The lifecycle states (R443). -/
def BLANK : Nat := 0
def PROVISIONED : Nat := 1
def DEPLOYED : Nat := 2
def RETURNED : Nat := 3

/-- The lifecycle state as SVU_LCS shows it. -/
def State.lcs (s : State) : Nat := s.rd SVU_LCS_LCS

/-- TIME_TRUST follows its conditions at once (R449). -/
def refreshTrust (s : State) : State :=
  let lcsOk := s.lcs == PROVISIONED || s.lcs == DEPLOYED
  let t := s.flag SVU_TRUST_TRUSTREQ && s.timeValid && lcsOk && !s.flag SVU_DBG_D2SEEN
  let s' := ((s.put SVU_TRUST_LCSOK lcsOk).put SVU_TRUST_NODEBUG (!s.flag SVU_DBG_D2SEEN)).put SVU_TRUST_TIME_TRUST t
  if t = s.flag SVU_TRUST_TIME_TRUST then s' else s'.raise SVU_TRUST_TRUSTCHG

/-- STEP_LIMIT in ps: above 10^12 treated as 10^12 (R340). -/
def State.stepLimit (s : State) : Nat := min (s.rd TB_STEPLIM_LIMIT) (10 ^ 12)

/-- SLEW_LIMIT in 1/256 ppb: 0 treated as 1, above 256,000 treated as 256,000 (R340). -/
def State.slewLimit (s : State) : Nat := min (max (s.rd TB_SLEWLIM_LIMIT) 1) 256000

/-- FREQ_SLOPE in 1/256 ppb/s: 0 treated as 1 (R340). -/
def State.freqSlope (s : State) : Nat := max (s.rd TB_FSLOPE_SLOPE) 1

/-- A signed amount of ps in 2^-96 s, truncated (R323). -/
def psOfS (ps : Int) : Int := if ps < 0 then -(psOf ps.natAbs : Int) else (psOf ps.natAbs : Int)

/-- An amount in 2^-96 s in whole ps, truncated (R323). -/
def toPs (v : Int) : Int :=
  let m : Int := (v.natAbs * 10 ^ 12 / 2 ^ 96 : Nat)
  if v < 0 then -m else m

/-! ### Refusals -/

/-- The causes of TB_REFINFO (R340). -/
def NOTSET : Nat := 1
def BACKWARD : Nat := 2
def LIMIT : Nat := 3
def WINDOW : Nat := 4
def ALREADYSET : Nat := 5
def RANGE : Nat := 6
def BADRATE : Nat := 7

/-- The refused flag of each kind: 0 LOAD, 1 STEP, 2 SLEW, 3 FREQ (R319, R340). -/
def refusedFlag (kind : Nat) : Fld :=
  match kind with
  | 1 => TB_STAT_STEP_REFUSED
  | 3 => TB_STAT_FREQ_REFUSED
  | _ => TB_STAT_SLEW_REFUSED

/-- A refused change of the time base (R319). -/
def tbRefuse (kind cause init : Nat) (value : Int) (s : State) : State :=
  let v := unsigned 48 (clampS 48 value)
  let s := s.raise (refusedFlag kind)
  let s := s.wr TB_REFVAL_VALUE v
  let s := ((s.wr TB_REFINFO_INIT init).wr TB_REFINFO_KIND kind).wr TB_REFINFO_CAUSE cause
  let s := s.count TB_COUNT_REFUSED
  logEvent 0x50 1 init kind (v + kind * 2 ^ 48 + cause * 2 ^ 52 + init * 2 ^ 60) s

/-! ### Requests -/

/-- The values in ps of the accepted steps whose step ticks lie in the 600,000,000 ticks that precede the step tick
`due`, the steps that still await theirs among them (R317, R327). -/
def windowSum (due : Nat) (h : List PendStep) : Nat :=
  (h.filter fun p => decide (due ≤ p.due + 600000000)).foldl (fun a p => a + p.ps) 0

/-- The step tick of a request accepted now: the first tick at least 4 ticks later (R318).
[DEDUCED, unsafe: notes/assumptions/26] -/
def State.stepTick (s : State) : Nat := s.ticks + 4

/-- A request to step by TB_STEP (R317). [DEDUCED, unsafe: notes/assumptions/26] -/
def tbStepReq (init : Nat) (s : State) : State :=
  let v := s.rdS TB_STEP_STEP
  if v = 0 then s
  else if !s.flag TB_STAT_TIMESET then tbRefuse 1 NOTSET init v s
  else if v < 0 then tbRefuse 1 BACKWARD init v s
  else if (s.stepLimit : Int) < v then tbRefuse 1 LIMIT init v s
  else if s.stepLimit < v.toNat + windowSum s.stepTick s.tb.history then tbRefuse 1 WINDOW init v s
  else
    let p : PendStep := ⟨s.stepTick, v.toNat⟩
    { s with tb := { s.tb with steps := s.tb.steps ++ [p], history := p :: s.tb.history } }

/-- A slew in progress ends at the next tick (R324). -/
def tbSlewStopReq (s : State) : State := { s with tb := { s.tb with slewStop := true, slewNext := none } }

/-- A request to slew by TB_SLEW at TB_SLEWRATE (R321, R322). -/
def tbSlewReq (init : Nat) (s : State) : State :=
  let v := s.rdS TB_SLEW_AMOUNT
  let rate := s.rd TB_SLEWRATE_RATE
  if !s.flag TB_STAT_TIMESET then tbRefuse 2 NOTSET init v s
  else if rate = 0 then tbRefuse 2 BADRATE init v s
  else if v = 0 then tbSlewStopReq s
  else
    let s := if s.slewLimit < rate then s.raise TB_STAT_SLEW_CLAMP else s
    { s with tb := { s.tb with slewNext := some ⟨min rate s.slewLimit, psOfS v⟩ } }

/-- A request to load TB_LOADSEC.TB_LOADFRAC (R325). -/
def tbLoadReq (init : Nat) (s : State) : State :=
  let v := s.stamp TB_LOADSEC TB_LOADFRAC
  let ahead : Int := (v * 2 ^ 48 : Nat) - (s.tb.now : Int)
  if s.flag TB_STAT_TIMESET || s.tb.load.isSome then tbRefuse 0 ALREADYSET init (toPs ahead) s
  else if ahead < (s.ticksOf 8 : Nat) then tbRefuse 0 BACKWARD init (toPs ahead) s
  else { s with tb := { s.tb with load := some v } }

/-- The range of TB_FREQ: ±50 ppm (R314). -/
def freqLimit : Nat := 14073748835

/-- A write of TB_FREQ (R314): a value out of range is refused; a ramp's grid starts where FREQ first differs. -/
def tbFreqReq (init : Nat) (v : Word) (s : State) : State :=
  let f := signed 48 v.toNat
  if (freqLimit : Int) < f ∨ f < -(freqLimit : Int) then tbRefuse 3 RANGE init f s
  else
    let s := s.setReg TB_FREQ v
    let differs := s.rd TB_FREQNOW_FREQ != v.toNat
    let left := if !differs then 0
      else if s.flag TB_STAT_RAMPING && decide (0 < s.tb.rampLeft) then s.tb.rampLeft else msTicks
    let s := s.put TB_STAT_RAMPING differs
    { s with tb := { s.tb with rampLeft := left } }

/-! ### The tick -/

/-- floor(NOM × x / 2^48): the share of the increment for a fractional frequency x (R313).
[DEDUCED, unsafe: notes/assumptions/27] -/
def nomShare (x : Int) : Int := (NOM * x) / (2 ^ 48 : Nat)

/-- |S| for a rate ρ in 1/256 ppb (R323). -/
def slewS (rate : Nat) : Nat := rate * 2 ^ 48 / (256 * 10 ^ 9)

/-- FREQNOW at this tick (R314): it takes the target at once while TIMESET is 0, and moves on the ramp's grid otherwise. -/
def rampTick (s : State) : State :=
  let target := s.rdS TB_FREQ_FREQ
  let cur := s.rdS TB_FREQNOW_FREQ
  if target = cur then s
  else if !s.flag TB_STAT_TIMESET then
    let s := (s.wrS TB_FREQNOW_FREQ target).clear TB_STAT_RAMPING
    { s with tb := { s.tb with rampLeft := 0 } }
  else if 1 < s.tb.rampLeft then { s with tb := { s.tb with rampLeft := s.tb.rampLeft - 1 } }
  else
    let size : Int := (s.freqSlope * 2 ^ 48 / (256 * 10 ^ 12) : Nat)
    let d := target - cur
    let move := if d < -size then -size else if size < d then size else d
    let s := s.wrS TB_FREQNOW_FREQ (cur + move)
    let more := cur + move ≠ target
    let s := s.put TB_STAT_RAMPING (decide more)
    { s with tb := { s.tb with rampLeft := if more then msTicks else 0 } }

/-- A reference switch at this tick (R315): FREQNOW and FREQ take FREQALT where ALTVALID is 1, and FREQALT takes the
former FREQNOW; a ramp ends. -/
def refSwitchTick (s : State) : State :=
  if !s.tb.refSwitch then s
  else
    let s := { s with tb := { s.tb with refSwitch := false } }
    let s := s.raise TB_STAT_REFSW
    if !s.flag TB_STAT_ALTVALID then s
    else
      let old := s.rd TB_FREQNOW_FREQ
      let alt := s.rd TB_FREQALT_FREQ
      let s := ((s.wr TB_FREQNOW_FREQ alt).wr TB_FREQ_FREQ alt).wr TB_FREQALT_FREQ old
      let s := s.clear TB_STAT_RAMPING
      { s with tb := { s.tb with rampLeft := 0 } }

/-- The slew in force at this tick, after SLEWSTOP, a replacement, which starts and is counted here, and the clamp of
R322 (R340). -/
def slewInForce (s : State) : State :=
  let cur := if s.tb.slewStop then none else s.tb.slew
  let cur := if s.tb.slewNext.isSome then s.tb.slewNext else cur
  let s := if s.tb.slewNext.isSome then s.count TB_COUNT_SLEWS else s
  let s := { s with tb := { s.tb with slew := cur, slewStop := false, slewNext := none } }
  match cur with
  | none => s
  | some w =>
    if s.slewLimit < w.rate then
      let s := s.raise TB_STAT_SLEW_CLAMP
      { s with tb := { s.tb with slew := some { w with rate := s.slewLimit } } }
    else s

/-- The slew's part of this tick (R323): what it adds beyond TB_RATE, with S, the remainder and SLEWING brought up to
this tick. -/
def slewTick (s : State) : Int × State :=
  match s.tb.slew with
  | none => (0, ({ s with tb := { s.tb with s := 0 } }).clear TB_STAT_SLEWING)
  | some w =>
    let sv : Int := if w.rem < 0 then -(slewS w.rate : Int) else slewS w.rate
    let share := nomShare sv
    if w.rem.natAbs < share.natAbs then
      let s := { s with tb := { s.tb with slew := none, s := 0, corrected := s.tb.corrected + w.rem } }
      let s := (s.clear TB_STAT_SLEWING).raise TB_STAT_SLEW_DONE
      (w.rem, s.wr TB_SLEWREM_REM 0)
    else
      let rem := w.rem - share
      let s := { s with tb := { s.tb with slew := some { w with rem := rem }, s := sv, corrected := s.tb.corrected + share } }
      (0, (s.raise TB_STAT_SLEWING).wrS TB_SLEWREM_REM (toPs rem))

/-- TB_RATE recomputed (R313). -/
def setRate (s : State) : State :=
  let r := ((NOM : Int) + nomShare (s.rdS TB_FREQNOW_FREQ + s.tb.s)).toNat
  (s.wr TB_RATEH_RATE (r / 2 ^ 48)).wr TB_RATEL_RATE r

/-- The accepted steps due at this tick: their converted sum, their number, and the state without them (R318). -/
def stepsDue (s : State) : Nat × Nat × State :=
  let due := s.tb.steps.filter fun p => decide (p.due ≤ s.ticks)
  let rest := s.tb.steps.filter fun p => !decide (p.due ≤ s.ticks)
  (due.foldl (fun a p => a + psOf p.ps) 0, due.length, { s with tb := { s.tb with steps := rest } })

/-- The UTC offset changes at the first tick at or after TB_LEAPSEC (R338). -/
def leapTick (s : State) : State :=
  if s.flag TB_UTCOFS_PEND && decide (s.rd TB_LEAPSEC_SEC ≤ s.sec) then
    ((s.wr TB_UTCOFS_CUR (s.rd TB_UTCOFS_NEW)).clear TB_UTCOFS_PEND).raise TB_STAT_LEAP
  else s

/-- The counter at this tick: TB_RATE, the slew's last remainder and the steps due are added, or the accepted load is
taken at the first tick at or after its value less 4 ticks (R309, R318, R325). -/
def advance (extra : Int) (step nsteps : Nat) (s : State) : State :=
  let v := ((s.tb.now : Int) + s.rate + extra + step).toNat % 2 ^ 144
  match s.tb.load with
  | some l =>
    if l * 2 ^ 48 ≤ v + s.ticksOf 4 then
      let s := { s with tb := { s.tb with now := l * 2 ^ 48, load := none } }
      s.raise TB_STAT_TIMESET
    else { s with tb := { s.tb with now := v } }
  | none =>
    let s := { s with tb := { s.tb with now := v } }
    if nsteps = 0 then s
    else
      let s := { s with tb := { s.tb with stepped := some (s.ticks, v - step), corrected := s.tb.corrected + step } }
      ((s.setStamp TB_STEPATSEC TB_STEPATFRAC s.now48).raise TB_STAT_STEPPED).count TB_COUNT_STEPS nsteps

/-- One tick of the time base: everything due at it applies in it (R309 to R328). -/
def tbTick (s : State) : State :=
  let s := { s with ticks := s.ticks + 1 }
  let s := refSwitchTick (rampTick s)
  let (extra, s) := slewTick (slewInForce s)
  let s := setRate s
  let (step, n, s) := stepsDue s
  leapTick (advance extra step n s)

/-! ### Writes -/

/-- Whether an initiator may steer the time base (R326). -/
def State.mayTime (s : State) (init : Nat) : Bool := s.bit TB_OWNERS_MASK init

/-- Whether Chain's mirrored registers refuse an initiator (R480). -/
def State.chainLocks (s : State) (init : Nat) : Bool :=
  init != 15 && (s.flag NVS_STAT_LOCKED || s.flag NVS_STAT_CHAINBAD)

/-- A write of a register that mirrors Chain, by type code (R326, R480). -/
def mirrorWrite (init a : Nat) (v : Word) (s : State) : State :=
  guardW (!s.chainLocks init) init a CHAIN_LOCKED (fun s => s.typed a v) s

/-- One write of TB_CMD is evaluated as LOAD, STEP, SLEWSTOP, SLEW, each against what the ones before left (R328). -/
def tbCommand (init : Nat) (v : Word) (s : State) : State :=
  let s := if TB_CMD_LOAD.of v = 1 then tbLoadReq init s else s
  let s := if TB_CMD_STEP.of v = 1 then tbStepReq init s else s
  let s := if TB_CMD_SLEWSTOP.of v = 1 then tbSlewStopReq s else s
  if TB_CMD_SLEW.of v = 1 then tbSlewReq init s else s

/-- The registers that steer the time base and take a plain write (R326). -/
def tbSteering (a : Nat) : Bool :=
  a == TB_STEP || a == TB_SLEW || a == TB_SLEWRATE || a == TB_LOADSEC || a == TB_LOADFRAC || a == TB_TIMESTAT ||
    a == TB_UTCOFS || a == TB_LEAPSEC || a == TB_SRCCFG

/-- A write of a TB register (R314, R326, R328). -/
def tbWrite (init a : Nat) (v : Word) (s : State) : State :=
  if a = TB_FREQ then guardW (s.mayTime init) init a OWNER (tbFreqReq init v) s
  else if a = TB_CMD then guardW (s.mayTime init) init a OWNER (tbCommand init v) s
  else if tbSteering a then guardW (s.mayTime init) init a OWNER (fun s => s.typed a v) s
  else if a = TB_STEPLIM ∨ a = TB_SLEWLIM ∨ a = TB_FSLOPE ∨ a = TB_OWNERS then mirrorWrite init a v s
  else s.typed a v

/-! ### Meanings -/

/-- TB_LOAD (R325): a write of TB_CMD.LOAD by an initiator. -/
def execTbLoad (init : Init) (s : State) : Host.Outcome State Fault Refusal :=
  done (asAccess init TB_CMD true (fun s => guardW (s.mayTime init) init TB_CMD OWNER (tbLoadReq init) s) s)

/-- TB_STEP (R317): a write of TB_CMD.STEP by an initiator. -/
def execTbStep (init : Init) (s : State) : Host.Outcome State Fault Refusal :=
  done (asAccess init TB_CMD true (fun s => guardW (s.mayTime init) init TB_CMD OWNER (tbStepReq init) s) s)

/-- TB_SLEW (R321): a write of TB_CMD.SLEW by an initiator. -/
def execTbSlew (init : Init) (s : State) : Host.Outcome State Fault Refusal :=
  done (asAccess init TB_CMD true (fun s => guardW (s.mayTime init) init TB_CMD OWNER (tbSlewReq init) s) s)

/-- TB_SLEWSTOP (R324): a write of TB_CMD.SLEWSTOP by an initiator. -/
def execTbSlewstop (init : Init) (s : State) : Host.Outcome State Fault Refusal :=
  done (asAccess init TB_CMD true (fun s => guardW (s.mayTime init) init TB_CMD OWNER tbSlewStopReq s) s)

/-- TB_FREQ_WRITE (R314): a write of TB_FREQ by an initiator. -/
def execTbFreqWrite (init : Init) (value : Word) (s : State) : Host.Outcome State Fault Refusal :=
  done (asAccess init TB_FREQ true (fun s => guardW (s.mayTime init) init TB_FREQ OWNER (tbFreqReq init value) s) s)

/-- The SEC latch of an initiator for one SEC register is set; an older one is replaced (R311). -/
def latchSec (init sec v : Nat) (s : State) : State :=
  { s with bus := { s.bus with
    secs := (init, sec, v) :: s.bus.secs.filter fun e => !(e.1 == init && e.2.1 == sec) } }

/-- A read of a FRAC register latches its SEC register for the initiator's next read of it (R311). -/
def tbFracRead (init : Nat) (s : State) : State := latchSec init TB_SEC s.sec s

/-- TB_FRAC_READ (R311). -/
def execTbFracRead (init : Init) (s : State) : Host.Outcome State Fault Refusal := done (asAccess init TB_FRAC false (tbFracRead init) s)

end Sys2Proof.Machine
end

