-- ==== Sys2Proof/Machine/Mem.lean ====
section
/-!
DEFINITION. Accesses to the memories: the address map, the firewall (R469, R470), the power of a target (R504), the
banks (R457, R460, R462, R465) and the rules of each memory on who may write it.  Accesses to registers are in Bus.
-/

namespace Sys2Proof.Machine

/-! ### Banks and code words -/

/-- The bank and the row of a shared-memory address (R457). -/
def bankOf (a : Nat) : Nat := a / 256 % 48
def rowOf (a : Nat) : Nat := a / 256 / 48

/-- A bank that gives an error response: a bad one, or one under a destructive march test (R462, R465). -/
def bankCause (s : State) (a : Nat) : Nat :=
  if s.bit MEM_BADBANK_BANKS (bankOf a) then BADBANK
  else match s.memc.march with
    | some (first, last, pres) =>
      if !pres && decide (first ≤ bankOf a) && decide (bankOf a ≤ last) then MARCH else 0
    | none => 0

/-- An uncorrectable error is counted and reported to SAF (R460, R520). -/
def countUnc (a : Nat) (s : State) : State :=
  let s := match target a with
    | .nvs => (s.count NVS_ECC_UNC).raise NVS_STAT_UE
    | .window n => s.count (KCn_ECC_DMUNC n)
    | .shared | .aon => ((s.count MEM_ECC_UNC).raise MEM_STAT_UE).wr MEM_ECCADDR_ADDR a |>.raise MEM_ECCADDR_UE
    | _ => s
  let s := s.raise SAF_STAT_UE
  match target a with
  | .nvs => logUnit 0x21 1 0 a s
  | .aon => logUnit 0x22 1 0 a s
  | .window n => logUnit 0x12 1 n (n + (a % 0x100000 / 8) * 65536) s
  | _ => logUnit 0x20 1 0 a s

/-- Whether a write finds a double-bit error in a word that it covers in part. -/
def partialDouble (a n : Nat) (s : State) : Bool :=
  s.memc.double.any fun w => (wordsOf a n).contains w && isPartial a n w

/-- The words of an access that have a double-bit error; of a write, `part`, only those it covers in part, which it reads (R460). -/
def badWords (a n : Nat) (part : Bool) (s : State) : List Nat :=
  s.memc.double.filter fun w => (wordsOf a n).contains w && (!part || isPartial a n w)

/-- Each of them is counted and reported. -/
def countBad (a n : Nat) (part : Bool) (s : State) : State := (badWords a n part s).foldl (fun s w => countUnc w s) s

/-- The words that a write covers in part and reads first: a single-bit error there is corrected and counted (R460). -/
def correctPartial (a n : Nat) (s : State) : State :=
  (wordsOf a n).foldl (fun s w => if isPartial a n w then correct w 8 s else s) s

/-! ### The rules of each memory -/

/-- The state of a channel in W8 of its context (R130). -/
def chanState (s : State) (c : Nat) : Nat := (s.byte (0x04000000 + 256 * c + 64)).toNat % 8

/-- A context write that R127 refuses: W8 to W15 always, W0 to W7 while the channel is HELD or ACTIVE. -/
def ctxLocked (s : State) (a : Nat) : Bool :=
  let c := (a - 0x04000000) / 256
  let w := a % 256 / 8
  (decide (8 ≤ w) && decide (w < 16)) || (decide (w < 8) && (chanState s c == 1 || chanState s c == 2))

/-- The USE bit of a code-RAM block (R172). -/
def useFld (b : Nat) : Fld := if b < 240 then CGN_USEi_USE (b / 48) else CGN_USE5_USE

/-- Whether a code-RAM block is in use (R172). -/
def blockInUse (s : State) (b : Nat) : Bool := s.bit (useFld b) (b % 48)

/-- The state of a core (R250). -/
def State.coreState (s : State) (n : Nat) : Nat := s.rd (KCn_STAT_STATE n)

/-- A write to instruction memory outside RESET, HALTED, STOPPED and FAULT is refused; SV's boot ROM counts as RESET
until the hand-over (R217, R531). -/
def imemLocked (s : State) (n off : Nat) : Bool :=
  decide (0x80000 ≤ off) && decide (off < 0xA0000) &&
    (s.coreState n == 1 || s.coreState n == 2) && !(n == 6 && s.rd HST_BOOT_STATUS != 3)

/-- The part of the NVS window that an offset lies in refuses writes of software: those from 0x38_0080 on (R473).  So a write is refused
where its last byte lies there. -/
def nvsReadOnly (off : Nat) : Bool := decide (0x380080 ≤ off)

/-- The cause with which the target's own rules refuse a write; 0 where they do not. -/
def writeCause (s : State) (a n : Nat) : Nat :=
  match target a with
  | .nowhere => DECERR
  | .shared => if bankCause s a ≠ 0 then bankCause s a else if partialDouble a n s then ECC_UE else 0
  | .contexts => if (List.range n).any fun i => ctxLocked s (a + i) then CTX_LOCKED else 0
  | .codeRam =>
    if blockInUse s ((a - 0x05800000) / 512) || blockInUse s ((a + n - 1 - 0x05800000) / 512) then CODE_LOCKED else 0
  | .search => READONLY
  | .nvs => if nvsReadOnly (a + (n - 1) - 0x06000000) then READONLY else if partialDouble a n s then ECC_UE else 0
  | .aon => if 0x0800D800 ≤ a ∧ a < 0x0800E000 then READONLY else if partialDouble a n s then ECC_UE else 0
  | .window c => if imemLocked s c ((a - 0x02000000) % 0x100000) then IMEM else 0
  | _ => 0

/-- The cause with which an access is refused: the firewall first, then the power of the target, then the target's own
rules (R469, R504). -/
def accessCause (s : State) (init a n : Nat) (read write : Bool) : Nat :=
  if target a = .nowhere then DECERR
  else if !fwPermits s init a read write then FIREWALL
  else if s.isOff a then PWR_OFF
  else if write then writeCause s a n
  else match target a with
    | .shared => if bankCause s a ≠ 0 then bankCause s a else if hasDouble a n s then ECC_UE else 0
    | .nvs | .aon | .window _ => if secded a && hasDouble a n s then ECC_UE else 0
    | _ => 0

/-! ### Storing -/

/-- In a core's window only the slots of its two memories hold anything, 48 bits each (R213). -/
def windowHolds (off : Nat) : Bool :=
  (decide (off < 0x40000) || (decide (0x80000 ≤ off) && decide (off < 0xA0000))) && decide (off % 8 < 6)

/-- A byte stored at an address of a memory. -/
def storeByte (a : Nat) (b : Byte) (s : State) : State :=
  match target a with
  | .window _ => if windowHolds ((a - 0x02000000) % 0x100000) then s.setByte a b else s
  | .shared | .contexts | .search | .codeRam | .nvs | .aon | .buffer => s.setByte a b
  | _ => s

/-- Bytes stored from an address. -/
def storeBytes (a : Nat) : List Byte → State → State
  | [], s => s
  | b :: t, s => storeBytes (a + 1) t (storeByte a b s)

/-- The oldest queued word write of the store lands (R474). [DESIGN CHOICE, unsafe: notes/assumptions/24] -/
def nvsLand (s : State) : State := { s with nvs := { s.nvs with queue := s.nvs.queue.drop 1, wordTicks := 0 } }

/-- A store to the NVS window queues one write for each word with the content that it replaces; a full queue first waits for its oldest write (R474).
[DESIGN CHOICE, unsafe: notes/assumptions/24] -/
def nvsQueue (a n : Nat) (s : State) : State :=
  (wordsOf a n).foldl (fun s w =>
    let s := if s.nvs.queue.length < 16 then s else nvsLand s
    { s with nvs := { s.nvs with queue := s.nvs.queue ++ [(w, s.le w 8)] } }) s

/-- A write that no rule refuses: the bytes land and the errors of the words go. -/
def landWrite (a : Nat) (bs : List Byte) (s : State) : State :=
  let s := match target a with | .window _ => s | _ => correctPartial a bs.length s
  storeBytes a bs (clearErrors a bs.length (if target a = .nvs then nvsQueue a bs.length s else s))

/-- What a refused write does besides its error response: a locked code block counts it (R172), an uncorrectable word is
counted (R460). -/
def refusedWrite (a n : Nat) (cause : Nat) (s : State) : State :=
  if cause = CODE_LOCKED then (s.raise CGN_STAT_LOCKERR).count CGN_LOCKCNT_COUNT
  else if cause = ECC_UE then countBad a n true s
  else s

/-- An event falls in the CLK_SYS cycle of the last trace word, which is at most 3 ticks long (R367): whether it does where it is
that near is free. [DESIGN CHOICE, safe: notes/assumptions/53] -/
def traceFull (s : State) : Bool :=
  match s.bus.traced with
  | some t => decide (s.ticks < t + 3) && Config.traceLost s.freeCount
  | none => false

/-- A trace word is written while TREN is 1, one a CLK_SYS cycle, and the buffer wraps or stops when it is full (R567). -/
def traceWord (w : Nat) (s : State) : State :=
  if !s.flag DBG_CTRL_TREN then s
  else if traceFull s then { s with freeCount := s.freeCount + 1 }.countSat DBG_TRWP_LOST
  else
    let i := s.rd DBG_TRWP_WP
    let s := { s with freeCount := s.freeCount + 1, bus := { s.bus with traced := some s.ticks } }
    let s := (s.setReg (DBG_TRBUFi i) (BitVec.ofNat 48 w)).wr DBG_TRWP_WP (i + 1)
    if i < 1023 then s
    else if s.flag DBG_CTRL_WRAP then s.raise DBG_TRWP_WRAPPED
    else s.clear DBG_CTRL_TREN

/-- The first and the last 16-byte block of an access (R232). -/
def GlobalAcc.firstBlock (x : GlobalAcc) : Nat := x.addr / 16
def GlobalAcc.lastBlock (x : GlobalAcc) : Nat := (x.addr + [1, 2, 3, 4, 6].getD x.size 1 - 1) / 16

/-- The interconnect transactions of an access: two where it crosses a 16-byte boundary (R232); those of a core that are in flight,
and those of every core (R467). -/
def transactions (x : GlobalAcc) : Nat := if x.firstBlock = x.lastBlock then 1 else 2
def coreFlight (s : State) (n : Nat) : Nat := ((s.cores.getD n {}).out.map transactions).sum
def inFlight (s : State) : Nat := ((List.range 7).map (coreFlight s)).sum

/-- IC_INFLIGHT keeps the most that has been in flight: `n` transactions are beside those that are outstanding (R467, R487).
[DESIGN CHOICE, unsafe: notes/assumptions/7] -/
def keepPeak (n : Nat) (s : State) : State := s.wr IC_INFLIGHT_PEAK (max (s.rd IC_INFLIGHT_PEAK) (inFlight s + n))

/-- An interconnect transaction of an initiator is in flight, and is traced (R467, R567, R568). -/
def traceInit (init a : Nat) (write : Bool) (s : State) : State :=
  let s := keepPeak 1 s
  if s.bit DBG_TRSRC_INITS init then
    traceWord (7 * 2 ^ 45 + (if write then 2 ^ 44 else 0) + init * 2 ^ 40 + a % 2 ^ 32 * 2 ^ 8 + (s.ticks - s.dbgStart) % 256) s
  else s

/-- A write of bytes to a memory by an initiator: it lands whole, or it gets an error response and changes nothing.
The cause is 0 where it landed. [DEDUCED, unsafe: notes/assumptions/18] -/
def memWrite (init a : Nat) (bs : List Byte) (s : State) : Nat × State :=
  let s := traceInit init a true s
  let c := accessCause s init a bs.length false true
  if c = 0 then (0, landWrite a bs s)
  else (c, icError init a true c (refusedWrite a bs.length c s))

/-- The search sample at point `p` of the capture rings: rings are allotted to the running slots in slot order, and search sample
t of a slot lies at point t mod N of its ring (R188, R208). [DEDUCED, unsafe: notes/assumptions/10] -/
def captureSample (s : State) : Nat → List Nat → Option SearchSample
  | _, [] => none
  | p, k :: ks =>
    let sl := s.se.slots.getD k {}
    match sl.plan with
    | none => captureSample s p ks
    | some pl =>
      let n := if s.rd (SEk_STAT_STATE k) = 3 then 2 ^ pl.nlog else 0
      if p < n then sl.ring[(sl.total + n - 1 - p) % n]? else captureSample s (p - n) ks

/-- A byte of the capture rings: a point is I and then Q, two bytes each (R208). [DEDUCED, unsafe: notes/assumptions/10] -/
def captureByte (s : State) (a : Nat) : Option Byte :=
  if a < 0x050C0000 then none
  else (captureSample s ((a - 0x050C0000) / 4) [0, 1, 2, 3]).map fun x =>
    (toLE 2 (unsigned 16 x.i) ++ toLE 2 (unsigned 16 x.q)).getD (a % 4) 0

/-- The bytes that a read of a memory answers.  Once a plan has run, the search buffer holds the rings of the running slots, and
spectra and a workspace that the manual does not fix and that are free (R208); where the controller area of the store keeps its
counters and records the manual does not say either (R473). [DESIGN CHOICE, safe: notes/assumptions/10] -/
def readBytes (a n : Nat) (s : State) : List Byte × State :=
  if target a = .search ∧ s.se.dirty then
    ((toLE n (Config.freeValue s.freeCount)).mapIdx fun i b => (captureByte s (a + i)).getD b,
      { s with freeCount := s.freeCount + 1 })
  else if target a = .nvs ∧ 0x063F0000 ≤ a then (toLE n (Config.freeValue s.freeCount), { s with freeCount := s.freeCount + 1 })
  else (s.bytes a n, s)

/-- A read of bytes of a memory by an initiator: the cause, 0 where it was answered, and the bytes, zeros under an error
response (R235). [DEDUCED, unsafe: notes/assumptions/18] -/
def memRead (init a n : Nat) (s : State) : Nat × List Byte × State :=
  let s := traceInit init a false s
  let c := accessCause s init a n true false
  if c = 0 then
    let (d, s) := readBytes a n s
    (0, d, correct a n s)
  else (c, List.replicate n 0, icError init a false c (if c = ECC_UE then countBad a n false (correct a n s) else s))

/-- A long write, divided into transactions within one 256-byte block each (R458): the first cause that is not 0, and
the state after those that landed.  `fuel` bounds the pieces. -/
def memWriteLong (init : Nat) : Nat → Nat → List Byte → State → Nat × State
  | 0, _, _, s => (0, s)
  | fuel + 1, a, bs, s =>
    if bs.isEmpty then (0, s)
    else
      let k := 256 - a % 256
      let (c, s) := memWrite init a (bs.take k) s
      let (c', s) := memWriteLong init fuel (a + k) (bs.drop k) s
      (if c = 0 then c' else c, s)

/-- A long read, divided in the same way. -/
def memReadLong (init : Nat) : Nat → Nat → Nat → State → Nat × List Byte × State
  | 0, _, _, s => (0, [], s)
  | fuel + 1, a, n, s =>
    if n = 0 then (0, [], s)
    else
      let k := min n (256 - a % 256)
      let (c, d, s) := memRead init a k s
      let (c', d', s) := memReadLong init fuel (a + k) (n - k) s
      (if c = 0 then c' else c, d ++ d', s)

/-- A write of any length. -/
def dmaWrite (init a : Nat) (bs : List Byte) (s : State) : Nat × State :=
  memWriteLong init (bs.length / 256 + 2) a bs s

/-- A read of any length. -/
def dmaRead (init a n : Nat) (s : State) : Nat × List Byte × State :=
  memReadLong init (n / 256 + 2) a n s

end Sys2Proof.Machine
end

