-- ==== Sys2Proof/Machine/Csh.lean ====
section
/-!
DEFINITION. The Channel Scheduler (Correlation Array and Channels, R119 to R144): contexts, admission, the commands of
its ports and the stops it makes by itself; and the code blocks in use (R158, R159, R163, R170 to R172).
-/

namespace Sys2Proof.Machine

/-! ### Contexts -/

/-- The address of word `w` of the context of channel `c` (R126). -/
def ctxAddr (c w : Nat) : Nat := 0x04000000 + 256 * c + 8 * w

/-- A word of a context. -/
def State.ctx (s : State) (c w : Nat) : Nat := s.le (ctxAddr c w) 8

/-- The state with a word of a context written by hardware. -/
def State.setCtx (s : State) (c w v : Nat) : State := s.setLE (ctxAddr c w) 8 v

/-- Bits [hi:lo] of a number. -/
def bits (n hi lo : Nat) : Nat := (n >>> lo) % 2 ^ (hi + 1 - lo)

/-- A number with bits [hi:lo] replaced. -/
def setBits (n hi lo v : Nat) : Nat := n - bits n hi lo <<< lo + (v % 2 ^ (hi + 1 - lo)) <<< lo

/-- The configuration of a channel (R128). -/
structure ChanCfg where
  startMode : Nat
  dumpSh : Nat
  ncoh : Nat
  spacing : Nat
  prompt : Nat
  taps : Nat
  ring : Nat
  stream : Nat
  secIdx : Nat
  secSel : Nat
  codeLen : Nat
  codeId : Nat
  cgMode : Nat
  subc : Nat
  deriving DecidableEq, Repr

/-- The configuration words read (R128). -/
def State.cfg (s : State) (c : Nat) : ChanCfg :=
  let a := s.ctx c 0
  let b := s.ctx c 1
  { startMode := bits a 48 48, dumpSh := bits a 44 40, ncoh := bits a 38 32, spacing := bits a 31 24,
    prompt := bits a 23 20, taps := bits a 19 16 + 1, ring := bits a 9 8, stream := bits a 6 0,
    secIdx := bits b 63 48, secSel := bits b 47 40, codeLen := bits b 39 24, codeId := bits b 23 8,
    cgMode := bits b 7 4, subc := bits b 2 0 }

/-- The hidden state of a channel. -/
def State.chan (s : State) (c : Nat) : ChanRun := getAt {} s.ca.chans c

/-- The state with the hidden state of a channel replaced. -/
def State.setChan (s : State) (c : Nat) (r : ChanRun) : State :=
  { s with ca := { s.ca with chans := putAt {} s.ca.chans c r } }

/-- FREE, HELD, ACTIVE and STOPPED (R130). -/
def FREE : Nat := 0
def HELD : Nat := 1
def ACTIVE : Nat := 2
def STOPPED : Nat := 3

/-- The state with W8.STATE of a channel set. -/
def State.setChanState (s : State) (c st : Nat) : State := s.setCtx c 8 (setBits (s.ctx c 8) 2 0 st)

/-- The channels in a state, in ascending order: those listed are HELD or ACTIVE. -/
def chansIn (s : State) (st : Nat) : List Nat := (s.ca.chans.map (·.1)).filter fun c => chanState s c == st

/-! ### The signal rules -/

/-- The length of a memory secondary code, and of the second code of an AltBOC pair (R171). -/
def memSecLen (s : State) (sel : Nat) : Nat := s.le (0x05800000 + 512 * sel) 2
def memSecLen2 (s : State) (sel : Nat) : Nat := s.le (0x05800000 + 512 * sel + 256) 2

/-- The length of a secondary code; none for a reserved value, zero for no code (R163). -/
def secLen (s : State) (sel : Nat) : Option Nat :=
  match sel with
  | 0 => some 0
  | 1 => some 10
  | 2 => some 20
  | 3 => some 25
  | 4 => some 20
  | 5 => some 4
  | 6 => some 20
  | 7 => some 5
  | 8 => some 10
  | 9 => some 5
  | n => if 128 ≤ n ∧ n < 256 then some (memSecLen s n) else none

/-- Whether W1.SECSEL and W1.SECIDX are allowed (R163, R171).  SECSEL 0 has no length: any SECIDX passes with it, and SECIDXC stays as
it is at each code epoch. [DESIGN CHOICE, unsafe: notes/assumptions/33] -/
def secOk (s : State) (c : ChanCfg) : Bool :=
  match secLen s c.secSel with
  | none => false
  | some n =>
    if c.secSel = 0 then true
    else
      let lenOk :=
        if c.secSel < 128 then true
        else if c.subc = 5 then decide (1 ≤ n) && decide (n ≤ 2032) && memSecLen2 s c.secSel == n
        else decide (1 ≤ n) && decide (n ≤ 4080)
      lenOk && decide (c.secIdx < n)

/-- Whether a number lies in a range. -/
def within (lo hi n : Nat) : Bool := decide (lo ≤ n) && decide (n ≤ hi)

/-- Whether CGMODE, CODEID and CODELEN are allowed (R158, R159, R170). -/
def familyOk (c : ChanCfg) : Bool :=
  let prn := bits c.codeId 7 0
  let hi := bits c.codeId 15 8
  match c.cgMode with
  | 0 => hi == 0 && within 1 210 prn && c.codeLen == 1023
  | 1 => hi == 0 && (within 1 63 prn || within 159 210 prn) && c.codeLen == 20460
  | 2 => hi % 0x80 == 0 && within 1 210 prn && c.codeLen == 10230
  | 3 => hi % 0x40 == 0 && within 1 50 prn && c.codeLen == 10230
  | 4 => (hi == 0 || hi == 0x40) && within 1 63 prn && c.codeLen == (if hi = 0 then 2046 else 10230)
  | 5 => hi % 0x80 == 0 && within 1 63 prn && c.codeLen == 10230
  | 6 => c.codeId == 0 && c.codeLen == 511
  | 7 => hi % 0x80 == 0 && within 0 63 prn && c.codeLen == 10230
  | 8 => hi == 0 && within 1 14 prn && c.codeLen == 1023
  | 9 => hi == 0 && decide (1 ≤ c.codeLen) && decide (prn + (c.codeLen + 4095) / 4096 ≤ 256)
  | 10 => hi == 0 && within 1 50 prn && c.codeLen == 10230
  | _ => false

/-- Whether SUBC goes with CGMODE (R128, R159). -/
def subcOk (c : ChanCfg) : Bool :=
  decide (c.subc < 6) && (!(within 2 4 c.subc) || c.cgMode == 9) && ((c.subc == 5) == (c.cgMode == 10))

/-- Check 2 of R140: the context meets R128, R129 and the signal rules. -/
def ctxOk (s : State) (ch : Nat) : Bool :=
  let c := s.cfg ch
  let rate := s.ctx ch 3 % 2 ^ 48
  within 1 100 c.ncoh && decide (1 ≤ c.spacing) && decide (c.prompt < c.taps) &&
    within 1 (4 * 2 ^ 32 - 1) rate && decide (s.ctx ch 5 % 2 ^ 48 < c.codeLen * 2 ^ 32) &&
    familyOk c && subcOk c && secOk s c

/-! ### Code blocks in use -/

/-- The code-RAM blocks that a channel's codes cover (R170 to R172). -/
def blocksOf (c : ChanCfg) : List Nat :=
  (if c.cgMode = 9 then (List.range ((c.codeLen + 4095) / 4096)).map (· + bits c.codeId 7 0) else []) ++
    (if 128 ≤ c.secSel then [c.secSel] else [])

/-- CGN_USE0 to CGN_USE5 show the blocks that HELD and ACTIVE channels and search plans cover (R172, R185). -/
def refreshUse (s : State) : State :=
  let used := (s.ca.chans.map fun p => blocksOf (s.cfg p.1)).flatten ++ (s.se.slots.toList.map (·.blocks)).flatten
  let word := fun i => (List.range 48).foldl (fun w j => if used.contains (48 * i + j) then w + 2 ^ j else w) 0
  let s := (List.range 5).foldl (fun s i => s.wr (CGN_USEi_USE i) (word i)) s
  s.wr CGN_USE5_USE (word 5)

/-! ### Charges and admission -/

/-- The effective tap count (R120). -/
def tapsEff (taps : Nat) : Nat := if taps ≤ 4 then 4 else if taps ≤ 8 then 8 else 16

/-- The rate code of a stream: that of its slot in SPn_CTRL.SLOTRATE (R36). -/
def streamRate (s : State) (n : Nat) : Nat := s.rd (SPn_CTRL_SLOTRATE (n / 4)) >>> (2 * (n % 4)) % 4

/-- A channel's charge in units (R123). -/
def chargeOf (s : State) (c : ChanCfg) : Nat := (8 >>> streamRate s c.stream) * tapsEff c.taps

/-- The engine limit that goes with the LIMIT in force (R124, R125). -/
def engLimit (s : State) : Nat :=
  let l := s.rd CSH_BUDGET_LIMIT
  if 576000 ≤ l then 5000 else if 384000 ≤ l then 3333 else 1666

/-- The engine that takes a charge: the lowest-numbered with a free slot and room (R124). -/
def findEngine (s : State) (charge : Nat) : Option Nat :=
  (List.range 128).find? fun e =>
    decide (s.rd (CA_ENGe_CONTEXTS e) < 32) && decide (s.rd (CA_ENGe_LOAD e) + charge ≤ engLimit s)

/-- The lowest context slot of an engine that no ACTIVE channel holds. [DEDUCED, unsafe: notes/assumptions/33] -/
def freeSlot (s : State) (e : Nat) : Nat :=
  let used := (chansIn s ACTIVE).filterMap fun c => if (s.chan c).engine = e then some (s.chan c).slot else none
  ((List.range 32).find? fun k => !used.contains k).getD 0

/-! ### Readiness and holding -/

/-- A stream is ready when its head is in RUN, its slot is active and its link is up (R110). -/
def streamReady (s : State) (n : Nat) : Bool :=
  s.rd (FECn_STAT_STATE (n / 4)) == 4 && s.bit (SPn_SLOTMASK_ACTIVE (n / 4)) (n % 4) && s.flag (SPn_STAT_LINK_UP (n / 4))

/-- The head is in CONFIG, CAL or SETTLE: a start that names its stream is held (R110). -/
def headHolds (s : State) (n : Nat) : Bool := within 1 3 (s.rd (FECn_STAT_STATE (n / 4)))

/-- The hidden state of a head. -/
def State.head (s : State) (n : Nat) : HeadState := s.heads.getD n {}

/-- The state with the hidden state of a head replaced. -/
def State.setHead (s : State) (n : Nat) (h : HeadState) : State := { s with heads := s.heads.setIfInBounds n h }

/-- A command is held on a head (R110, R111). -/
def holdCmd (n : Nat) (c : HeldCmd) (s : State) : State :=
  let c := { c with at_ := s.ticks }
  let h := s.head n
  (s.setHead n { h with held := h.held ++ [c] }).count (FECn_STAT_HELD n)

/-- A stream is held by an armed Clapper, or by one whose port did not start (R67, R69). -/
def clapHolds (s : State) (n : Nat) : Bool := s.flag (SPn_STAT_CLAP_HELD (n / 4))

/-! ### Responses -/

/-- The response codes. -/
def R_OK : Nat := 0
def R_BUDGET : Nat := 1
def R_HNR : Nat := 2
def R_BUSY : Nat := 3
def R_BADCTX : Nat := 4
def R_NOENGINE : Nat := 5
def R_PAST : Nat := 6
def R_CANCELLED : Nat := 7
def R_NOTACTIVE : Nat := 8
def R_CLAPHOLD : Nat := 9

/-- A response word (R157). -/
def rspWord (cmd result : Nat) : Nat :=
  2 ^ 47 + bits cmd 47 40 * 2 ^ 32 + bits cmd 35 32 * 2 ^ 28 + result * 2 ^ 16 + bits cmd 11 0

/-- A response is posted into the entry that its command reserved (R138). -/
def postRsp (port cmd result : Nat) (s : State) : State :=
  { s with ca := { s.ca with
    rsps := s.ca.rsps.setIfInBounds port (s.ca.rsps.getD port [] ++ [rspWord cmd result]),
    reserved := s.ca.reserved.setIfInBounds port (s.ca.reserved.getD port 0 - 1) } }

/-- A START fails: REFUSED, its counter and its response (R140, R157). -/
def startFails (port cmd result : Nat) (s : State) : State :=
  let s := s.raise CSH_STAT_REFUSED
  let s := if result = R_BUDGET then s.count CSH_REFCNT_BUDGET
    else if result = R_NOENGINE then s.count CSH_REFCNT_NOENGINE
    else if result = R_HNR then s.count CSH_REFCNT_HNR
    else s
  postRsp port cmd result s

/-! ### Starting and stopping -/

/-- The hidden state of a stream. -/
def State.stream (s : State) (n : Nat) : StreamState := s.streams.getD n {}

/-- The state with the hidden state of a stream replaced. -/
def State.setStream (s : State) (n : Nat) (x : StreamState) : State := { s with streams := s.streams.setIfInBounds n x }

/-- A consumer awaits the stream: an end of the stream before its next frame is an end for it too (R144, R191). -/
def awaitStream (n : Nat) (s : State) : State :=
  let p := s.ports.getD (n / 4) {}
  { s with ports := s.ports.setIfInBounds (n / 4) { p with live := p.live ||| 1 <<< (n % 4) } }

/-- The items of a stream that its port has handed over and the array has not taken. -/
def itemsBehind (s : State) (n : Nat) : Nat :=
  (s.stream n).input.length + (if (s.conds.getD n {}).cur.isSome then 1 else 0)

/-- A channel is admitted on an engine and becomes ACTIVE (R124, R141).  Its EPOCHCNT starts at 0; CARRCYC of W9 and SEQ of W8 go on
from what its context holds. [DESIGN CHOICE, unsafe: notes/assumptions/33] -/
def admitChan (c charge e : Nat) (s : State) : State :=
  let cfg := s.cfg c
  let slot := freeSlot s e
  let start := if cfg.startMode = 1 then some ((s.ctx c 7 % 2 ^ 48) * 2 ^ 48 + s.ctx c 6 % 2 ^ 48) else none
  let run : ChanRun :=
    { charge := charge, engine := e, slot := slot, behind := itemsBehind s cfg.stream, startAt := start, flags := 2 ^ 13,
      sums := List.replicate cfg.taps (0, 0) }
  let s := awaitStream cfg.stream (s.setChan c run)
  let w8 := setBits (setBits (setBits (setBits (s.ctx c 8) 47 32 0) 31 24 e) 20 16 slot) 2 0 ACTIVE
  let s := s.setCtx c 8 w8
  let s := s.setCtx c 10 (1 * 2 ^ 16 + cfg.secIdx)
  let s := s.setCtx c 11 0
  let s := (s.count (CA_ENGe_CONTEXTS e)).count (CA_ENGe_LOAD e) charge
  refreshUse ((s.count CSH_BUDGET_USED charge).count CSH_COUNT_ACTIVE)

/-- The charge and the slot of an ACTIVE channel are released (R142). -/
def release (c : Nat) (s : State) : State :=
  let r := s.chan c
  let s := s.wr (CA_ENGe_CONTEXTS r.engine) (s.rd (CA_ENGe_CONTEXTS r.engine) - 1)
  let s := s.wr (CA_ENGe_LOAD r.engine) (s.rd (CA_ENGe_LOAD r.engine) - r.charge)
  let s := s.wr CSH_BUDGET_USED (s.rd CSH_BUDGET_USED - r.charge)
  s.wr CSH_COUNT_ACTIVE (s.rd CSH_COUNT_ACTIVE - 1)

/-- An ACTIVE channel becomes STOPPED: its partial interval and its pending aiding are discarded (R142, R144). -/
def stopChannel (c cause : Nat) (s : State) : State :=
  let s := release c s
  let s := s.setCtx c 8 (setBits (setBits (s.ctx c 8) 11 8 cause) 2 0 STOPPED)
  let s := s.setCtx c 11 0
  refreshUse (s.setChan c {})

/-- A stop that the scheduler makes by itself (R144). -/
def autoStop (c cause : Nat) (s : State) : State :=
  ((stopChannel c cause s).raise CSH_STAT_AUTOSTOP).count CSH_AUTOCNT_COUNT

/-- Checks 4 to 7 of R140 and the admission. -/
def startReady (port cmd c : Nat) (s : State) : State :=
  let cfg := s.cfg c
  let charge := chargeOf s cfg
  let instant := (s.ctx c 7 % 2 ^ 48) * 2 ^ 96 + (s.ctx c 6 % 2 ^ 48) * 2 ^ 48
  if clapHolds s cfg.stream then startFails port cmd R_CLAPHOLD s
  else if cfg.startMode = 1 ∧ instant < s.tb.now then startFails port cmd R_PAST s
  else if s.rd CSH_BUDGET_LIMIT < s.rd CSH_BUDGET_USED + charge then startFails port cmd R_BUDGET s
  else match findEngine s charge with
    | none => startFails port cmd R_NOENGINE s
    | some e => postRsp port cmd R_OK (admitChan c charge e s)

/-- A START is evaluated (R140). -/
def evalStart (port cmd : Nat) (s : State) : State :=
  let c := bits cmd 11 0
  let n := (s.cfg c).stream
  if chanState s c ≠ FREE ∧ chanState s c ≠ STOPPED then startFails port cmd R_BUSY s
  else if !ctxOk s c then startFails port cmd R_BADCTX s
  else if streamReady s n then startReady port cmd c s
  else if headHolds s n then
    let s := s.setChan c { charge := 0, slot := 32, engine := 128 }
    let s := (s.setChanState c HELD).count CSH_COUNT_HELD
    refreshUse (holdCmd (n / 4) { kind := 0, id := c, port := port, word := cmd } s)
  else startFails port cmd R_HNR s

/-- A held channel leaves HELD and becomes FREE. -/
def unhold (c : Nat) (s : State) : State :=
  let s := (s.setChanState c FREE).setChan c {}
  refreshUse (s.wr CSH_COUNT_HELD (s.rd CSH_COUNT_HELD - 1))

/-- A head's held start for a channel is withdrawn. -/
def unholdHead (n c : Nat) (s : State) : State :=
  let h := s.head n
  let s := s.setHead n { h with held := h.held.filter fun x => !(x.kind == 0 && x.id == c) }
  s.wr (FECn_STAT_HELD n) (s.rd (FECn_STAT_HELD n) - 1)

/-- A HELD start ends with CANCELLED (R142, R495). -/
def cancelHeld (c : Nat) (s : State) : State :=
  let n := (s.cfg c).stream / 4
  match (s.head n).held.find? fun x => x.kind == 0 && x.id == c with
  | none => unhold c s
  | some x => postRsp x.port x.word R_CANCELLED (unhold c (unholdHead n c s))

/-- A STOP is evaluated (R142). -/
def evalStop (port cmd : Nat) (s : State) : State :=
  let c := bits cmd 11 0
  if chanState s c = ACTIVE then postRsp port cmd R_OK (stopChannel c 1 s)
  else if chanState s c = HELD then postRsp port cmd R_OK (cancelHeld c s)
  else postRsp port cmd R_NOTACTIVE s

/-- RING of a channel set (R143). -/
def setRing (c ring : Nat) (s : State) : State := s.setCtx c 0 (setBits (s.ctx c 0) 9 8 ring)

/-- A REMAP is evaluated (R143). -/
def evalRemap (port cmd : Nat) (s : State) : State :=
  postRsp port cmd R_OK (setRing (bits cmd 11 0) (bits cmd 15 14) s)

/-- A RINGMOVE is evaluated: every channel whose RING equals RINGFROM takes RINGNEW (R143). -/
def evalRingMove (port cmd : Nat) (s : State) : State :=
  let hit := (List.range 4096).filter fun c => (s.cfg c).ring == bits cmd 13 12
  postRsp port cmd R_OK (hit.foldl (fun s c => setRing c (bits cmd 15 14) s) s)

/-- One command is evaluated; it reserves an entry first (R138, R139). -/
def evalCmd (x : CshCmd) (s : State) : State :=
  let s := { s with ca := { s.ca with reserved := s.ca.reserved.setIfInBounds x.port (s.ca.reserved.getD x.port 0 + 1) } }
  match bits x.word 35 32 with
  | 1 => evalStart x.port x.word s
  | 2 => evalStop x.port x.word s
  | 3 => evalRemap x.port x.word s
  | _ => evalRingMove x.port x.word s

/-- A port's response queue has an entry that is neither occupied nor reserved (R138). -/
def hasRoom (s : State) (port : Nat) : Bool :=
  decide ((s.ca.rsps.getD port []).length + s.ca.reserved.getD port 0 < 16)

/-- The scheduler takes every command that its port's response queue lets it take, in order of arrival (R138, R139).
[DEDUCED, unsafe: notes/assumptions/33] -/
def runCsh : Nat → State → State
  | 0, s => s
  | fuel + 1, s =>
    match s.ca.cmds.find? fun x => hasRoom s x.port with
    | none => if s.ca.cmds.isEmpty then s else s.raise CSH_STAT_RSPWAIT
    | some x =>
      let s' := { s with ca := { s.ca with cmds := s.ca.cmds.erase x } }
      runCsh fuel (evalCmd x (if s.ca.cmds.head? = some x then s' else s'.raise CSH_STAT_RSPWAIT))

/-- The scheduler runs until no command can be taken. -/
def cshRun (s : State) : State := runCsh (s.ca.cmds.length + 1) s

/-- Whether a command port belongs to an initiator (R137). -/
def cshPortOf (init port : Nat) : Bool :=
  if port = 7 then init == 10 || init == 11 else init == port

/-- A write of CSH_CMDj (R137): an unknown OP is ignored, a full queue ignores the write. -/
def cshWrite (init port : Nat) (v : Word) (s : State) : State :=
  guardW (cshPortOf init port) init (CSH_CMDj port) OWNER (fun s =>
    let op := bits v.toNat 35 32
    if op < 1 ∨ 4 < op then s
    else if (s.ca.cmds.filter fun x => x.port == port).length < 16 then
      cshRun { s with ca := { s.ca with cmds := s.ca.cmds ++ [⟨port, v.toNat⟩] } }
    else s.raise CSH_STAT_CMDOVF) s

/-- A command word (R157). -/
def cshWord (op tag chan ringNew ringFrom : Nat) : Word :=
  BitVec.ofNat 48 (tag * 2 ^ 40 + op * 2 ^ 32 + ringNew * 2 ^ 14 + ringFrom * 2 ^ 12 + chan)

/-- The value that a read of CSH_RSPj returns: the oldest response, or zero (R157). -/
def rspValue (s : State) (port : Nat) : Nat := (s.ca.rsps.getD port []).headD 0

/-- A read of CSH_RSPj removes the response it returns, and room may let a command be taken (R138, R157). -/
def rspRead (port : Nat) (s : State) : State :=
  cshRun { s with ca := { s.ca with rsps := s.ca.rsps.setIfInBounds port ((s.ca.rsps.getD port []).drop 1) } }

/-- The release of a held channel start when its head enters RUN: checks 4 to 7 of R140 run now (R111, R140). -/
def releaseStart (x : HeldCmd) (s : State) : State :=
  let s := unhold x.id s
  if streamReady s (s.cfg x.id).stream then startReady x.port x.word x.id s
  else startFails x.port x.word R_HNR s

/-- A held channel start fails with HEAD_NOT_READY (R111). -/
def failStart (x : HeldCmd) (s : State) : State := startFails x.port x.word R_HNR (unhold x.id s)

/-! ### The end of a stream -/

/-- A stream ends for the channels that follow it: each stops after the last sample delivered, at once where it has
none left (R144).  For a channel admitted since the end was handed over it is none. -/
def endChannels (n cause : Nat) (s : State) : State :=
  let hit := (chansIn s ACTIVE).filter fun c => (s.cfg c).stream == n
  let last := (s.stream n).count
  hit.foldl (fun s c =>
    let r := s.chan c
    match r.next with
    | none => if r.behind = 0 then autoStop c cause s else s.setChan c { r with behind := r.behind - 1 }
    | some k => if last ≤ k then autoStop c cause s else s.setChan c { r with endAt := some (last, cause) }) s

/-! ### Meanings -/

/-- CSH_START (R140). -/
def execCshStart (init : Init) (port : Fin 8) (tag : Byte) (chan : Chan) (s : State) :
    Host.Outcome State Fault Refusal := done (asAccess init (CSH_CMDj port) true (cshWrite init port (cshWord 1 tag.toNat chan 0 0)) s)

/-- CSH_STOP (R142). -/
def execCshStop (init : Init) (port : Fin 8) (tag : Byte) (chan : Chan) (s : State) :
    Host.Outcome State Fault Refusal := done (asAccess init (CSH_CMDj port) true (cshWrite init port (cshWord 2 tag.toNat chan 0 0)) s)

/-- CSH_REMAP (R143). -/
def execCshRemap (init : Init) (port : Fin 8) (tag : Byte) (chan : Chan) (ringNew : Fin 4) (s : State) :
    Host.Outcome State Fault Refusal := done (asAccess init (CSH_CMDj port) true (cshWrite init port (cshWord 3 tag.toNat chan ringNew 0)) s)

/-- CSH_RINGMOVE (R143). -/
def execCshRingmove (init : Init) (port : Fin 8) (tag : Byte) (ringFrom ringNew : Fin 4) (s : State) :
    Host.Outcome State Fault Refusal := done (asAccess init (CSH_CMDj port) true (cshWrite init port (cshWord 4 tag.toNat 0 ringNew ringFrom)) s)

/-- CSH_RSP_READ (R157). -/
def execCshRspRead (port : Fin 8) (s : State) : Host.Outcome State Fault Refusal :=
  done (whenOn (CSH_RSPj port) (rspRead port) s)

end Sys2Proof.Machine
end

