-- ==== Sys2Proof/Machine/Cgn.lean ====
section
/-!
DEFINITION. The Code Generator's check engine (R174), the CRC-32C that the manual uses throughout, and writes of the
code RAM (R169, R172).
-/

namespace Sys2Proof.Machine

/-- One bit of the reflected CRC-32C with polynomial 0x82F6_3B78 (R174). -/
def crc32cBit (c : BitVec 32) : BitVec 32 := if c.getLsbD 0 then (c >>> 1) ^^^ 0x82F63B78#32 else c >>> 1

/-- One byte of CRC-32C. -/
def crc32cByte (c : BitVec 32) (b : Byte) : BitVec 32 :=
  let c := c ^^^ b.setWidth 32
  crc32cBit (crc32cBit (crc32cBit (crc32cBit (crc32cBit (crc32cBit (crc32cBit (crc32cBit c)))))))

/-- CRC-32C of bytes: initial value and final XOR 0xFFFF_FFFF (R174). -/
def crc32c (l : List Byte) : Nat := ((l.foldl crc32cByte 0xFFFFFFFF#32) ^^^ 0xFFFFFFFF#32).toNat

/-- A write of CGN_CRCCMD (R174): GO while a check runs, or past block 255, is ignored. -/
def crcCheck (first count : Nat) (s : State) : State :=
  if s.flag CGN_CRCRES_BUSY || decide (255 < first + count) then s.raise CGN_STAT_CFGERR
  else
    let s := { s with cgn := { check := some (first, count) } }
    (s.raise CGN_CRCRES_BUSY).clear CGN_CRCRES_DONE

/-- The check ends with its result (R174). -/
def crcDone (crc : BitVec 32) (s : State) : State :=
  let s := { s with cgn := {} }
  (((s.wr CGN_CRCRES_CRC (crc ^^^ 0xFFFFFFFF#32).toNat).clear CGN_CRCRES_BUSY).raise CGN_CRCRES_DONE).raise CGN_STAT_CRCDONE

/-- The check reads its last word at the next tick: each block of 64 words takes 64 cycles of CLK_PER, three ticks each (R174). -/
def crcDue (s : State) : Bool :=
  match s.cgn.check with
  | none => false
  | some (_, count) => decide (64 * (count + 1) ≤ s.cgn.words + 1) && decide (3 ≤ s.cgn.ticks + 1)

/-- The check over a tick: a word a CLK_PER cycle, as it stands when it is read (R174). [DEDUCED, unsafe: notes/assumptions/33] -/
def crcTick (s : State) : State :=
  match s.cgn.check with
  | none => s
  | some (first, _) =>
    if s.cgn.ticks + 1 < 3 then { s with cgn := { s.cgn with ticks := s.cgn.ticks + 1 } }
    else
      let crc := (s.bytes (0x05800000 + 512 * first + 8 * s.cgn.words) 8).foldl crc32cByte s.cgn.crc
      if crcDue s then crcDone crc s
      else { s with cgn := { s.cgn with words := s.cgn.words + 1, crc := crc, ticks := 0 } }

/-- A write of a CGN register. -/
def cgnWrite (a : Nat) (v : Word) (s : State) : State :=
  if a = CGN_CRCCMD then
    if CGN_CRCCMD_GO.of v = 1 then crcCheck (CGN_CRCCMD_FIRST.of v) (CGN_CRCCMD_COUNT.of v) s else s
  else s.typed a v

/-- CODE_RAM_WRITE (R172): an initiator writes one word of the code RAM. -/
def execCodeRamWrite (init : Init) (word : Fin 16384) (value : BitVec 64) (s : State) :
    Host.Outcome State Fault Refusal := done (memWrite init (0x05800000 + 8 * word.val) (toLE 8 value.toNat) s).2

/-- CGN_CRC_CHECK (R174). -/
def execCgnCrcCheck (first count : Fin 256) (s : State) : Host.Outcome State Fault Refusal :=
  done (whenOn CGN_CRCCMD (crcCheck first count) s)

end Sys2Proof.Machine
end

