-- ==== Sys2Proof/Machine/Ca.lean ====
section
/-!
DEFINITION. The correlation array (R119 to R122, R132 to R136), the replica (R160 to R163), the dump records and rings
(R145 to R148) and the aiding ports (R149 to R152).
-/

namespace Sys2Proof.Machine

/-! ### The replica -/

/-- round(7 cos(2π(m + ½)/64)) for m from 0 to 63 (R132). -/
def cosTable : List Int :=
  [7, 7, 7, 7, 6, 6, 6, 5, 5, 4, 4, 3, 2, 2, 1, 0, 0, -1, -2, -2, -3, -4, -4, -5, -5, -6, -6, -6, -7, -7, -7, -7] ++
  [-7, -7, -7, -7, -6, -6, -6, -5, -5, -4, -4, -3, -2, -2, -1, 0, 0, 1, 2, 2, 3, 4, 4, 5, 5, 6, 6, 6, 7, 7, 7, 7]

/-- cos θ and sin θ for the top 6 bits of CARR_PH; the sine lags the cosine by a quarter (R132). -/
def cosOf (m : Nat) : Int := cosTable.getD (m % 64) 0
def sinOf (m : Nat) : Int := cosTable.getD ((m + 48) % 64) 0

/-- A code bit as a chip: logic 0 is +1 and logic 1 is −1 (R162). -/
def chipOf (b : Bool) : Int := if b then -1 else 1

/-- Bit `i` of the bit string that starts in code-RAM block `b` (R169). -/
def codeBit (s : State) (b i : Nat) : Bool := (s.byte (0x05800000 + 512 * b + i / 8)).toNat >>> (i % 8) % 2 == 1

/-- Chip `i` of a channel's primary code (R158, R159, R170). [DESIGN CHOICE, safe: notes/assumptions/9] -/
def primaryChip (s : State) (c : ChanCfg) (i : Nat) : Int :=
  if c.cgMode = 9 then chipOf (codeBit s (bits c.codeId 7 0) i)
  else if c.cgMode = 1 then (if i % 2 = 0 then chipOf (Config.rangingChip 1 c.codeId (i / 2)) else 0)
  else chipOf (Config.rangingChip c.cgMode c.codeId i)

/-- Chip `i` of a secondary code that starts at bit `at` of its block, or of a listed code (R162, R163, R171). -/
def secondaryChipAt (s : State) (sel start i : Nat) : Int :=
  if sel = 0 then 1
  else if sel = 6 then (if i < 10 then 1 else -1)
  else if 128 ≤ sel then chipOf (codeBit s sel (start + 16 + i))
  else chipOf (Config.secondaryChip sel i)

/-- C_k and S_k of R160. -/
def altC (k : Nat) : Int := [4, 2, -2, -4, -4, -2, 2, 4].getD k 0
def altS (k : Nat) : Int := [2, 4, 4, 2, -2, -4, -4, -2].getD k 0

/-- The replica value at code phase `p` (Q16.32 chips, below L) with secondary chip index `j` (R160, R162). -/
def replica (s : State) (c : ChanCfg) (p j : Nat) : Int × Int :=
  let i := p / 2 ^ 32
  let u := p % 2 ^ 32
  let s1 : Int := if u < 2 ^ 31 then 1 else -1
  let s6 : Int := if (12 * u / 2 ^ 32) % 2 = 0 then 1 else -1
  if c.subc = 5 then
    let k := 12 * p / 2 ^ 32 % 8
    let ca := chipOf (Config.rangingChip 3 (0x8000 + bits c.codeId 7 0) i) * secondaryChipAt s c.secSel 0 j
    let cb := chipOf (Config.rangingChip 3 (0xC000 + bits c.codeId 7 0) i) * secondaryChipAt s c.secSel 2048 j
    ((ca + cb) / 2 * altC k, -((ca - cb) / 2 * altS k))
  else
    let chip := primaryChip s c i * secondaryChipAt s c.secSel 0 j
    let r : Int := match c.subc with
      | 0 => 4
      | 1 => 4 * s1
      | 2 => 3 * s1 + s6
      | 3 => 3 * s1 - s6
      | _ => if i % 33 = 0 ∨ i % 33 = 4 ∨ i % 33 = 6 ∨ i % 33 = 29 then 4 * s6 else 4 * s1
    (chip * r, 0)

/-! ### A channel at work -/

/-- The part of a channel that its engine advances: W2 to W5, W8 to W11 and the hidden interval. -/
structure Work where
  carrRate : Nat
  codeRate : Nat
  carrPh : Nat
  codePh : Nat
  carrCyc : Nat
  epochCnt : Nat
  secIdx : Nat
  target : Nat
  ncoh : Nat
  ptgt : Nat
  ptgtEn : Bool
  pend : Nat
  run : ChanRun
  /-- Records of closed intervals, oldest first, with bit GAP of FLAGS clear, and what the firmware knows of each. -/
  out : List (List Byte × Close)
  deriving DecidableEq, Repr

/-- The working state of a channel loaded from its context. -/
def loadWork (s : State) (c : Nat) : Work :=
  let w8 := s.ctx c 8
  let w10 := s.ctx c 10
  let w11 := s.ctx c 11
  { carrRate := s.ctx c 2 % 2 ^ 48, codeRate := s.ctx c 3 % 2 ^ 48, carrPh := s.ctx c 4 % 2 ^ 48,
    codePh := s.ctx c 5 % 2 ^ 48, carrCyc := s.ctx c 9 % 2 ^ 32, epochCnt := bits w8 47 32,
    secIdx := bits w10 15 0, target := bits w10 31 16, ncoh := (s.cfg c).ncoh, ptgt := bits w11 47 32,
    ptgtEn := bits w11 31 31 == 1, pend := bits w11 4 0, run := s.chan c, out := [] }

/-- The working state written back at the end of a block; SEQ has been odd during the update and ends even (R130). -/
def storeWork (c : Nat) (w : Work) (s : State) : State :=
  let s := (((s.setCtx c 2 w.carrRate).setCtx c 3 w.codeRate).setCtx c 4 w.carrPh).setCtx c 5 w.codePh
  let w8 := s.ctx c 8
  let s := s.setCtx c 8 (setBits (setBits w8 63 48 (bits w8 63 48 + 2)) 47 32 w.epochCnt)
  let s := s.setCtx c 9 w.carrCyc
  let s := s.setCtx c 10 (w.target * 2 ^ 16 + w.secIdx)
  let s := s.setCtx c 11 (w.ptgt * 2 ^ 32 + (if w.ptgtEn then 2 ^ 31 else 0) + w.pend)
  let s := s.setCtx c 0 (setBits (s.ctx c 0) 38 32 w.ncoh)
  s.setChan c w.run

/-- A tap sum in 40 bits (R133). -/
def wrap40 (z : Int) : Int := signed 40 (unsigned 40 z)

/-- The products of one sample added to every tap's sums (R132, steps 1 to 3). -/
def addTaps (s : State) (c : ChanCfg) (w : Work) (x : Sample) : List (Int × Int) :=
  let m := w.carrPh / 2 ^ 42
  let co := cosOf m
  let si := sinOf m
  let re := x.i * co + x.q * si
  let im := x.q * co - x.i * si
  let len : Int := (c.codeLen * 2 ^ 32 : Nat)
  w.run.sums.mapIdx fun t sum =>
    let p := ((w.codePh : Int) + ((t : Int) - c.prompt) * (c.spacing * 2 ^ 26 : Nat)) % len
    let (rr, ri) := replica s c p.toNat w.secIdx
    (wrap40 (sum.1 + re * rr - im * ri), wrap40 (sum.2 + re * ri + im * rr))

/-- Bits of FLAGS (R146). -/
def F_DROP : Nat := 1
def F_REPEAT : Nat := 2
def F_RESYNC : Nat := 4
def F_AIDED : Nat := 64
def F_AIDMERGE : Nat := 128
def F_AIDLATE : Nat := 256
def F_NOTCHCHG : Nat := 1024
def F_HMUTE : Nat := 2048
def F_OVR : Nat := 2 ^ 14

/-- A sum as the record shows it: shifted, truncated and saturated; and whether it saturated (R133). -/
def tapOut (sh : Nat) (z : Int) : Int × Bool :=
  let v := z / (2 ^ sh : Nat)
  (clampS 24 v, clampS 24 v != v)

/-- The time of an epoch with fraction `phi` (2^-32 sample) of the sample with index `k` of a frame, in 2^-48 s (R20). -/
def epochTime (slate k phi fs : Nat) : Nat := slate + (k * 2 ^ 32 + phi) * 2 ^ 16 / fs

/-- A dump record (R145, R146) of the interval that closes at the epoch with fraction `phi` (2^-32 sample) of the sample
with index `k` of the frame whose Slate is `slate`, sampled at `fs`.  PHI holds 0 where the fraction is one whole sample, 2^32, which
its 4 bytes cannot hold. [DESIGN CHOICE, unsafe: notes/assumptions/33] -/
def dumpRecord (chan : Nat) (c : ChanCfg) (w : Work) (phi slate k fs : Nat) : List Byte :=
  let epoch := epochTime slate k phi fs
  let adv : Int := (phi : Int) * signed 48 w.carrRate
  let ph := ((w.carrPh : Int) + adv / (2 ^ 32 : Nat))
  let total := (w.carrCyc * 2 ^ 32 : Nat) + ph / (2 ^ 16 : Nat)
  let outs := w.run.sums.map fun p => (tapOut c.dumpSh p.1, tapOut c.dumpSh p.2)
  let sat := outs.any fun p => p.1.2 || p.2.2
  let slip := clampS 8 w.run.slips
  let f := w.run.flags
  let f := if slip ≠ w.run.slips then f ||| F_RESYNC else f
  let f := if 0 < w.run.muted then f ||| 8 else f
  let f := if 16777215 < w.run.muted then f ||| 16 else f
  let f := if w.run.locked then f ||| 32 else f
  let f := if sat then f ||| 512 else f
  let f := if f &&& (F_DROP + F_REPEAT + F_RESYNC + F_NOTCHCHG) ≠ 0 then f ||| 2 ^ 15 else f
  let tap := fun (t : Nat) =>
    match outs[t]? with
    | some p => toLE 3 (unsigned 24 p.1.1) ++ toLE 3 (unsigned 24 p.2.1)
    | none => List.replicate 6 0
  toLE 2 chan ++ toLE 2 f ++ toLE 3 (min w.run.muted 16777215) ++ toLE 1 (unsigned 8 slip) ++
    toLE 6 (epoch % 2 ^ 48) ++ toLE 6 (epoch / 2 ^ 48) ++ toLE 6 (unsigned 48 total) ++
    toLE 2 ((w.epochCnt + 1) % 65536) ++ toLE 4 phi ++ ((List.range 16).map tap).flatten

/-- The pending items apply at a close (R151); `w` stands after the advance of sample k and after the epoch. -/
def applyAiding (len : Nat) (w : Work) : Work :=
  let passed := within 1 32767 ((w.epochCnt + 65536 - w.ptgt) % 65536)
  if w.pend = 0 then w
  else if w.ptgtEn ∧ w.ptgt ≠ w.epochCnt ∧ !passed then w
  else
    let a := w.run.aid
    let has := fun k => w.pend >>> k % 2 == 1
    let late := w.ptgtEn && passed
    let cph : Int := (w.carrPh : Int) + (if has 2 then a.cadj else 0)
    let kph : Int := (w.codePh : Int) + (if has 3 then a.kadj else 0)
    let l : Int := (len * 2 ^ 32 : Nat)
    let turns := kph / l
    let ncoh := if has 4 then a.ncoh else w.ncoh
    { w with
      carrPh := unsigned 48 cph,
      carrCyc := unsigned 32 ((w.carrCyc : Int) + cph / (2 ^ 48 : Nat)),
      carrRate := if has 0 then a.carr else w.carrRate,
      codeRate := if has 1 then a.code else w.codeRate,
      ncoh := ncoh,
      target := if has 4 then (w.epochCnt + ncoh) % 65536 else w.target,
      codePh := (kph % l).toNat,
      epochCnt := unsigned 16 ((w.epochCnt : Int) + turns),
      pend := 0, ptgtEn := false, ptgt := 0,
      run := { w.run with
        aid := {},
        flags := w.run.flags ||| F_AIDED ||| (if late then F_AIDLATE else 0) ||| (if a.merged then F_AIDMERGE else 0) } }

/-- The flags that a frame lends to an interval that holds a sample of it (R146). -/
def frameFlags (t : Tag) : Nat :=
  (if t.resync then F_RESYNC else 0) ||| (if t.notchChg then F_NOTCHCHG else 0) ||| (if t.hmute then F_HMUTE else 0)

/-- One delivered sample (R132, R134, R135).  `ovr` marks a sample lost to overrun.  Where a rate above L leaves CODE_PH at or
above L there is no epoch, and the register wraps. [DEDUCED, unsafe: notes/assumptions/33] -/
def stepSample (s : State) (chan : Nat) (c : ChanCfg) (fs : Nat) (t : Tag) (ovr : Bool) (w : Work) (x : WSample) : Work :=
  let z := x.smp.z || ovr
  let run := w.run
  let run := { run with
    sums := if z then run.sums else addTaps s c w x.smp,
    muted := if z then run.muted + 1 else run.muted,
    len := run.len + 1,
    flags := run.flags ||| frameFlags t ||| (if ovr then F_OVR else 0),
    locked := run.locked && !t.free }
  let w := { w with run := run }
  let l := c.codeLen * 2 ^ 32
  let cph : Int := (w.carrPh : Int) + signed 48 w.carrRate
  let w' := { w with carrPh := unsigned 48 cph, carrCyc := unsigned 32 ((w.carrCyc : Int) + cph / (2 ^ 48 : Nat)) }
  if l ≤ w.codePh ∨ w.codePh + w.codeRate < l then { w' with codePh := (w.codePh + w.codeRate) % 2 ^ 48 }
  else
    let phi := (l - w.codePh) * 2 ^ 32 / w.codeRate
    let n := (secLen s c.secSel).getD 0
    let epochCnt := (w.epochCnt + 1) % 65536
    let w' := { w' with
      codePh := w.codePh + w.codeRate - l, epochCnt := epochCnt,
      secIdx := if n = 0 then w.secIdx else (w.secIdx + 1) % n }
    if epochCnt ≠ w.target then w'
    else
      let r := dumpRecord chan { c with ncoh := w.ncoh } w phi x.slate x.k fs
      let known : Close := ⟨chan, epochTime x.slate x.k phi fs, signed 48 w.carrRate, w.codeRate, run.len⟩
      let fresh : ChanRun := { w'.run with
        sums := List.replicate c.taps (0, 0), muted := 0, len := 0, slips := 0, flags := 0, locked := true }
      let w' := { w' with target := (epochCnt + w.ncoh) % 65536, run := fresh, out := w.out ++ [(r, known)] }
      applyAiding c.codeLen w'

/-- The sample rate of a rate code, in samples per second (R36). -/
def sampleRate (rate : Nat) : Nat := 61440000 >>> rate

/-- Part of a frame is correlated: `k` samples from offset `off`.  The frame's own drop or repeat counts with its first
sample (R146). -/
def stepFrame (s : State) (chan : Nat) (c : ChanCfg) (f : RFrame) (off k : Nat) (ovr : Bool) (w : Work) : Work :=
  let first := off == 0 && decide (0 < k)
  let slip : Int := (if first && f.tag.drop then 1 else 0) - (if first && f.tag.rep then 1 else 0)
  let fl := (if first && f.tag.drop then F_DROP else 0) ||| (if first && f.tag.rep then F_REPEAT else 0)
  let w := { w with run := { w.run with slips := w.run.slips + slip, flags := w.run.flags ||| fl } }
  ((f.samples.drop off).take k).foldl (stepSample s chan c (sampleRate f.rate) f.tag ovr) w

/-- The frames' parts that hold the samples numbered `lo` to `hi - 1` are correlated, oldest first. -/
def stepRange (s : State) (chan : Nat) (c : ChanCfg) (ovr : Bool) (lo hi : Nat) : List RFrame → Work → Work
  | [], w => w
  | f :: t, w =>
    let n := f.samples.length
    let a := max lo f.first
    let b := min hi (f.first + n)
    stepRange s chan c ovr lo hi t (if a < b then stepFrame s chan c f (a - f.first) (b - a) ovr w else w)

/-! ### Rings -/

/-- The records waiting in a ring: WP − RP modulo 65,536. -/
def ringLevel (s : State) (k : Nat) : Nat := (s.rd (CA_RINGk_WP_WP k) + 65536 - s.rd (CA_RINGk_RP_RP k)) % 65536

/-- A channel has lost a record (R146). -/
def noteGap (chan : Nat) (s : State) : State :=
  if s.ca.gaps.contains chan then s else { s with ca := { s.ca with gaps := chan :: s.ca.gaps } }

/-- The dump writer places a record in the channel's ring, or discards it for a full ring (R147); GAP is set in the
first record written after a loss (R146). -/
def dumpWrite (chan : Nat) (out : List Byte × Close) (s : State) : State :=
  let r := out.1
  let k := (s.cfg chan).ring
  if 4096 ≤ ringLevel s k then ((noteGap chan s).count (CA_RINGk_DROP_COUNT k)).raise CA_STAT_RINGDROP
  else
    let f := ofLE ((r.drop 2).take 2)
    let r := r.take 2 ++ toLE 2 (if s.ca.gaps.contains chan then f ||| 2 ^ 12 else f) ++ r.drop 4
    let at_ := s.rd (CA_RINGk_WP_WP k) % 4096
    let s := { s with ca := { s.ca with gaps := s.ca.gaps.erase chan, closes := keyPut s.ca.closes (4096 * k + at_) out.2 } }
    let s := if f &&& 512 ≠ 0 then s.raise CA_STAT_SAT else s
    let (_, s) := memWrite 7 (s.rd (CA_RINGk_BASE_BASE k) * 128 + 128 * at_) r s
    s.count (CA_RINGk_WP_WP k)

/-- The working state is written back and its records go to the ring. -/
def finishWork (chan : Nat) (w : Work) (s : State) : State :=
  w.out.foldl (fun s r => dumpWrite chan r s) (storeWork chan { w with out := [] } s)

/-! ### Blocks -/

/-- The first sample of a channel under STARTMODE 1 (R141): the first in the window whose time is at or after T, as its
number in the stream and d × 2^48, with d = (t_first − T) × f_s; t_first is the time of R20, truncated to 2^-48 s. -/
def firstAfter (t : Nat) : List RFrame → Option (Nat × Nat)
  | [] => none
  | f :: rest =>
    let fs := sampleRate f.rate
    let d := fun (x : WSample) => ((x.slate + x.k * 2 ^ 48 / fs : Nat) - (t : Int)) * fs
    match (List.range f.samples.length).find? fun i =>
        decide (0 ≤ d (f.samples.getD i ⟨⟨0, 0, true⟩, 0, 0⟩)) with
    | some i => some (f.first + i, (d (f.samples.getD i ⟨⟨0, 0, true⟩, 0, 0⟩)).toNat)
    | none => firstAfter t rest

/-- A channel that awaits its first sample takes it where the window holds it: under STARTMODE 1 the phases advance by
d × rate, truncated (R141).  A code phase that this carries to the code's length or beyond wraps, with no code epoch: EPOCHCNT stays 0
and SECIDXC as W1 gives it. [DESIGN CHOICE, unsafe: notes/assumptions/33] -/
def findFirst (chan : Nat) (s : State) : State :=
  let r := s.chan chan
  match r.next, r.startAt with
  | none, some t =>
    match firstAfter t (s.stream (s.cfg chan).stream).window with
    | none => s
    | some (i, d) =>
      let w := loadWork s chan
      let cph : Int := (w.carrPh : Int) + (d : Int) * signed 48 w.carrRate / (2 ^ 48 : Nat)
      let w := { w with
        carrPh := unsigned 48 cph,
        carrCyc := unsigned 32 ((w.carrCyc : Int) + cph / (2 ^ 48 : Nat)),
        codePh := (w.codePh + d * w.codeRate / 2 ^ 48) % ((s.cfg chan).codeLen * 2 ^ 32),
        run := { w.run with next := some i } }
      storeWork chan w s
  | _, _ => s

/-- A channel whose stream has ended stops once it has taken the last sample before `hi` (R144). -/
def stopAtEnd (chan hi : Nat) (s : State) : State :=
  match (s.chan chan).endAt with
  | some (last, cause) => if last ≤ hi then autoStop chan cause s else s
  | none => s

/-- An engine correlates a channel's next block: up to 256 consecutive samples of its stream (R121).  A channel whose
stream has ended stops after the last sample (R144). -/
def engineBlock (chan : Nat) (s : State) : State :=
  if chanState s chan ≠ ACTIVE then s
  else
    let s := findFirst chan s
    let r := s.chan chan
    let c := s.cfg chan
    match r.next with
    | none => s
    | some k =>
      let st := s.stream c.stream
      let stop := (r.endAt.map (·.1)).getD st.count
      let hi := min (k + 256) (min stop st.count)
      let w := loadWork s chan
      let w := stepRange s chan c false k hi st.window { w with run := { w.run with next := some (max k hi) } }
      stopAtEnd chan hi (finishWork chan w s)

/-- A frame leaves the router window: what a channel has not correlated of it is an overrun (R122). -/
def overrun (chan : Nat) (f : RFrame) (s : State) : State :=
  let r := s.chan chan
  match r.next with
  | none => s
  | some k =>
    let full := f.first + f.samples.length
    let hi := min full ((r.endAt.map (·.1)).getD full)
    if hi ≤ k then s
    else
      let lo := max k f.first
      let w := loadWork s chan
      let w := stepFrame s chan (s.cfg chan) f (lo - f.first) (hi - lo) true
        { w with run := { w.run with next := some hi } }
      stopAtEnd chan hi (((finishWork chan w s).raise CA_STAT_OVR).count CA_OVRCNT_SAMPLES (hi - lo))

/-- A conditioned frame enters the router window of its stream; the oldest of 4 leaves it, and channels that await their
first sample under STARTMODE 0 take this frame's (R121, R141). -/
def pushFrame (n : Nat) (tag : Tag) (rate : Nat) (xs : List WSample) (s : State) : State :=
  let st := s.stream n
  let act := (chansIn s ACTIVE).filter fun c => (s.cfg c).stream == n
  let s := match st.window with
    | f :: _ => if 4 ≤ st.window.length then act.foldl (fun s c => overrun c f s) s else s
    | [] => s
  let f : RFrame := ⟨st.count, tag, rate, xs⟩
  let win := (if 4 ≤ st.window.length then st.window.drop 1 else st.window) ++ [f]
  let s := s.setStream n { s.stream n with window := win, count := st.count + xs.length }
  act.foldl (fun s c =>
    let r := s.chan c
    if r.next.isSome then s
    else if 0 < r.behind then s.setChan c { r with behind := r.behind - 1 }
    else if r.startAt.isNone then s.setChan c { r with next := some st.count }
    else findFirst c s) s

/-! ### Ring registers -/

/-- Whether an ACTIVE or HELD channel names ring `k`. -/
def ringNamed (s : State) (k : Nat) : Bool := s.ca.chans.any fun p => (s.cfg p.1).ring == k

/-- A write of CA_RINGk_BASE (R148). -/
def ringBaseWrite (k : Nat) (v : Word) (s : State) : State :=
  if v.toNat % 128 ≠ 0 ∨ 0x01800000 ≤ v.toNat % 2 ^ 32 ∨ ringNamed s k then s.raise CA_STAT_CFGERR
  else s.typed (CA_RINGk_BASE k) v

/-- A write of CA_RINGk_RP (R148): one that leaves WP − RP outside 0 to 4,096 is ignored. -/
def ringRpWrite (k : Nat) (v : Word) (s : State) : State :=
  if 4096 < (s.rd (CA_RINGk_WP_WP k) + 65536 - v.toNat % 65536) % 65536 then s.raise CA_STAT_CFGERR
  else
    let s := s.typed (CA_RINGk_RP k) v
    { s with ca := { s.ca with rpAt := s.ca.rpAt.setIfInBounds k s.ticks } }

/-- The doorbell of ring `k` requests at tick `t` by its time-out: records wait, and TO µs have passed without a write of RP
(R148). -/
def ringWaited (s : State) (k t : Nat) : Bool :=
  decide (0 < ringLevel s k) && s.rd (CA_RINGk_DB_TO k) != 0 &&
    decide (s.ca.rpAt.getD k 0 + s.rd (CA_RINGk_DB_TO k) * usTicks ≤ t)

/-- Whether the doorbell of ring `k` requests (R148). -/
def ringDoorbell (s : State) (k : Nat) : Bool :=
  decide (max (s.rd (CA_RINGk_DB_THR k)) 1 ≤ ringLevel s k) || ringWaited s k s.ticks

/-! ### Aiding -/

/-- A write of a CA_AIDi register by its initiator; HDR commits the record (R149, R150, R156). -/
def aidCommit (i : Nat) (v : Word) (s : State) : State :=
  let q := s.ca.aids.getD i []
  let n := v.toNat
  let badNcoh := bits n 19 19 == 1 && !within 1 100 (bits n 30 24)
  if 64 ≤ q.length then
    ((s.count (CA_AIDi_CNT_DROPS i)).raise (CA_AIDi_STAT_OVF i)).raise CA_STAT_AIDOVF
  else if badNcoh then (s.count (CA_AIDi_CNT_DROPS i)).raise CA_STAT_AIDOVF
  else
    let r : AidRec := ⟨n, (s.reg (CA_AIDi_CARR i)).toNat, (s.reg (CA_AIDi_CODE i)).toNat,
      (s.reg (CA_AIDi_CADJ i)).toNat, (s.reg (CA_AIDi_KADJ i)).toNat⟩
    let s := { s with ca := { s.ca with aids := s.ca.aids.setIfInBounds i (q ++ [r]) } }
    s.wr (CA_AIDi_STAT_LEVEL i) (q.length + 1)

/-- A record reaches W11 of its channel: it merges with the items pending there (R152). -/
def mergeAiding (r : AidRec) (s : State) : State :=
  let c := bits r.hdr 11 0
  let w11 := s.ctx c 11
  let old := bits w11 4 0
  let run := s.chan c
  let a := run.aid
  let has := fun k => bits r.hdr k k == 1
  let sat := fun (x : Int) (y : Nat) => clampS 48 (x + signed 48 y)
  let a : Aiding :=
    { carr := if has 15 then r.carr else a.carr, code := if has 16 then r.code else a.code,
      cadj := if has 17 then sat a.cadj r.cadj else a.cadj, kadj := if has 18 then sat a.kadj r.kadj else a.kadj,
      ncoh := if has 19 then bits r.hdr 30 24 else a.ncoh, merged := a.merged || old != 0 }
  let items := old ||| bits r.hdr 19 15
  let s := s.setChan c { run with aid := a }
  s.setCtx c 11 (bits r.hdr 47 32 * 2 ^ 32 + bits r.hdr 31 31 * 2 ^ 31 + items)

/-- The oldest record of an aiding port moves to its channel, or is discarded for an inactive one (R150). -/
def aidTransfer (i : Nat) (s : State) : State :=
  match s.ca.aids.getD i [] with
  | [] => s
  | r :: t =>
    let s := { s with ca := { s.ca with aids := s.ca.aids.setIfInBounds i t } }
    let s := s.wr (CA_AIDi_STAT_LEVEL i) t.length
    if chanState s (bits r.hdr 11 0) = ACTIVE then mergeAiding r s
    else (s.count (CA_AIDi_CNT_NOTACT i)).raise (CA_AIDi_STAT_NOTACT i)

/-! ### Register writes -/

/-- A write of a CA register (R148, R149). -/
def caWrite (init a : Nat) (v : Word) (s : State) : State :=
  let off := a - 0x100B0000
  if 0x400 ≤ off ∧ off < 0x5C0 then
    let i := (off - 0x400) / 0x40
    guardW (init == i) init a OWNER (fun s =>
      if a = CA_AIDi_HDR i then aidCommit i v s else s.typed a v) s
  else if 0x100 ≤ off ∧ off < 0x200 then
    let k := (off - 0x100) / 0x40
    if a = CA_RINGk_BASE k then ringBaseWrite k v s
    else if a = CA_RINGk_RP k then ringRpWrite k v s
    else s.typed a v
  else s.typed a v

/-- Shaura firmware sets up the dump rings: their bases are those of the timing directory, THR is 16 and TO 25 µs (R270, R272).
[DEDUCED, unsafe: notes/assumptions/60] -/
def ringSetup (s : State) : State :=
  (List.range 4).foldl (fun (s : State) k =>
    caWrite 6 (CA_RINGk_DB k) (CA_RINGk_DB_TO k |>.insert (CA_RINGk_DB_THR k |>.insert 0 16) 25)
      (caWrite 6 (CA_RINGk_BASE k) (BitVec.ofNat 48 (0x00100000 + 0x80000 * k)) s)) s

/-! ### Meanings -/

/-- ENGINE_BLOCK (R121). -/
def execEngineBlock (chan : Chan) (s : State) : Host.Outcome State Fault Refusal := done (engineBlock chan s)

/-- RING_RP_WRITE (R148). -/
def execRingRpWrite (ring : Fin 4) (value : Word) (s : State) : Host.Outcome State Fault Refusal :=
  done (whenOn (CA_RINGk_RP ring) (ringRpWrite ring value) s)

/-- RING_BASE_WRITE (R148). -/
def execRingBaseWrite (ring : Fin 4) (value : Word) (s : State) : Host.Outcome State Fault Refusal :=
  done (whenOn (CA_RINGk_BASE ring) (ringBaseWrite ring value) s)

/-- CONTEXT_WRITE (R127): an initiator writes one word of a channel's context. -/
def execContextWrite (init : Init) (chan : Chan) (word : Fin 32) (value : BitVec 64) (s : State) :
    Host.Outcome State Fault Refusal := done (memWrite init (ctxAddr chan word) (toLE 8 value.toNat) s).2

/-- AIDING_COMMIT (R149): an initiator writes CA_AIDi_HDR. -/
def execAidingCommit (init : Init) (port : CoreId) (value : Word) (s : State) : Host.Outcome State Fault Refusal :=
  done (asAccess init (CA_AIDi_HDR port) true (caWrite init (CA_AIDi_HDR port) value) s)

/-- AIDING_TRANSFER (R150). -/
def execAidingTransfer (port : CoreId) (s : State) : Host.Outcome State Fault Refusal := done (aidTransfer port s)

end Sys2Proof.Machine
end

