-- ==== Sys2Proof/Machine/Se.lean ====
section
/-!
DEFINITION. The search engine (Search Engine and Reel, R175 to R198): plans, the grid, blocks, accumulators and
reports.
-/

namespace Sys2Proof.Machine

/-- The result codes of R207. -/
def RES_OK : Nat := 0
def RES_HNR : Nat := 2
def RES_BUSY : Nat := 3
def RES_BADPLAN : Nat := 4
def RES_BADCFG : Nat := 5
def RES_PAST : Nat := 6
def RES_ABORTED : Nat := 7
def RES_CLAPHOLD : Nat := 9
def RES_NOSTREAM : Nat := 0x0A
def RES_RATECHG : Nat := 0x0B
def RES_NOROUTE : Nat := 0x0C
def RES_NOBUF : Nat := 0x0D
def RES_FWERR : Nat := 0x0E
def RES_OVF : Nat := 0x0F
def RES_SLIP : Nat := 0x10
def RES_RESYNC : Nat := 0x11
def RES_PWRDOWN : Nat := 0x12

/-- The result code for a CAUSE of R144. -/
def causeResult (cause : Nat) : Nat :=
  match cause with
  | 3 => RES_RATECHG
  | 4 => RES_CLAPHOLD
  | _ => RES_NOSTREAM

/-- The states of a slot: IDLE, HELD, WAIT and RUN (R210). -/
def SE_IDLE : Nat := 0
def SE_HELD : Nat := 1
def SE_WAIT : Nat := 2
def SE_RUN : Nat := 3

/-- The hidden state of a slot. -/
def State.slot (s : State) (k : Nat) : SearchSlot := s.se.slots.getD k {}

/-- The state with the hidden state of a slot replaced. -/
def State.setSlot (s : State) (k : Nat) (x : SearchSlot) : State :=
  { s with se := { s.se with slots := s.se.slots.setIfInBounds k x } }

/-- A plan from its 64-bit words (R181 to R183). -/
def planOf (w : List Nat) : Plan :=
  let h := w.getD 0 0
  let desc := fun (d : Nat) =>
    let x := fun k => w.getD (8 + 8 * d + k) 0
    ({ kind := bits (x 0) 1 0, psh := bits (x 0) 53 48, excl := bits (x 0) 63 56, codeLen := bits (x 0) 47 32,
       codeId := bits (x 0) 31 16, cgMode := bits (x 0) 11 8, subc := bits (x 0) 6 4,
       chipRate := bits (x 1) 47 0, codePh0 := bits (x 2) 47 0, dop0 := signed 32 (bits (x 3) 63 32),
       fofs := signed 32 (bits (x 3) 31 0), ndop := bits (x 4) 25 16 + 1, dstep := bits (x 4) 15 0,
       accBase := bits (x 5) 31 0 } : PlanDesc)
  { tag := bits h 63 56, startMode := bits h 48 48, nnc := bits h 41 32, tcoh := bits h 20 16, dsel := bits h 15 13,
    nlog := bits h 12 8, rlags := bits (w.getD 1 0) 15 0,
    start := bits (w.getD 3 0) 47 0 * 2 ^ 48 + bits (w.getD 2 0) 47 0,
    descs := (List.range (bits h 7 0)).map desc }

/-- Transform size N, search rate f_r and block length M of a plan at a stream's rate (R176, R177). -/
def Plan.n (p : Plan) : Nat := 2 ^ p.nlog
def Plan.fr (p : Plan) (rate : Nat) : Nat := sampleRate rate / 2 ^ p.dsel
def Plan.m (p : Plan) (rate : Nat) : Nat := p.tcoh * p.fr rate / 1000

/-- The shift of a bin (R179). -/
def binShift (p : Plan) (rate : Nat) (d : PlanDesc) (b : Nat) : Int :=
  let f : Int := d.fofs + d.dop0 + (b : Int) * d.dstep
  (2 * f * p.n + p.fr rate) / (2 * (p.fr rate : Int))

/-- Whether the header words meet R177 and R182. -/
def headerOk (w : List Nat) (p : Plan) (rate : Nat) : Bool :=
  let h := w.getD 0 0
  within 1 1000 p.nnc && within 1 20 p.tcoh && within 0 4 p.dsel && within 10 16 p.nlog &&
    within 1 64 p.descs.length && decide (1 ≤ p.rlags) &&
    bits h 55 49 == 0 && bits h 47 42 == 0 && bits h 31 21 == 0 &&
    bits (w.getD 1 0) 63 16 == 0 && bits (w.getD 2 0) 63 48 == 0 && bits (w.getD 3 0) 63 48 == 0 &&
    ((w.drop 4).take 4).all (· == 0) && decide (p.m rate + p.rlags ≤ 15 * p.n / 16)

/-- The words of an accumulator area: those of its bins, or of a spectrum (R180, R198). -/
def areaWords (p : Plan) (d : PlanDesc) : Nat := if d.kind = 1 then p.n else d.ndop * p.rlags

/-- Whether an accumulator area lies in shared memory. -/
def areaOk (p : Plan) (d : PlanDesc) : Bool :=
  d.accBase % 128 == 0 && decide (d.accBase + 4 * areaWords p d ≤ 0x01800000)

/-- A descriptor's configuration as the channel rules read it (R158, R159). -/
def descCfg (d : PlanDesc) : ChanCfg :=
  { startMode := 0, dumpSh := 0, ncoh := 1, spacing := 1, prompt := 0, taps := 1, ring := 0, stream := 0, secIdx := 0,
    secSel := 0, codeLen := d.codeLen, codeId := d.codeId, cgMode := d.cgMode, subc := d.subc }

/-- Whether descriptor `i` meets R179, R183 and R184. -/
def descOk (w : List Nat) (p : Plan) (rate i : Nat) : Bool :=
  let x := fun k => w.getD (8 + 8 * i + k) 0
  match p.descs[i]? with
  | none => false
  | some d =>
    let zero := bits (x 0) 55 54 == 0 && bits (x 0) 15 12 == 0 && bits (x 0) 7 7 == 0 && bits (x 0) 3 2 == 0 &&
      bits (x 1) 63 48 == 0 && bits (x 2) 63 48 == 0 && bits (x 4) 63 26 == 0 && bits (x 5) 63 32 == 0 &&
      x 6 == 0 && x 7 == 0
    match d.kind with
    | 0 =>
      let half : Int := (p.n / 2 : Nat)
      let ks := [binShift p rate d 0, binShift p rate d (d.ndop - 1)]
      zero && decide (d.subc ≤ 4) && d.cgMode != 10 && familyOk (descCfg d) && subcOk (descCfg d) &&
        decide (1 ≤ d.chipRate) && decide (d.codePh0 < d.codeLen * 2 ^ 32) &&
        ks.all (fun k => decide (-half + 1 ≤ k) && decide (k ≤ half - 1)) && areaOk p d
    | 1 =>
      zero && bits (x 0) 47 4 == 0 && x 1 == 0 && x 2 == 0 && x 3 == 0 && x 4 == 0 && areaOk p d
    | _ => false

/-- The first part of a plan that fails: 0xFF for the header, else a descriptor (R184). -/
def planFault (w : List Nat) (p : Plan) (rate : Nat) : Option Nat :=
  if !headerOk w p rate then some 0xFF
  else (List.range p.descs.length).find? fun i => !descOk w p rate i

/-- The plan's words as the engine copies them, as initiator 8 (R181). -/
def readPlan (a : Nat) (s : State) : List Nat × State :=
  let (_, h, s) := dmaRead 8 a 64 s
  let n := (ofLE (h.take 8)) % 256
  let (_, d, s) := dmaRead 8 (a + 64) (64 * min n 64) s
  let all := h ++ d
  ((List.range (all.length / 8)).map fun k => ofLE ((all.drop (8 * k)).take 8), s)

/-- A plan or a start ends in IDLE with a result (R186, R190, R191). -/
def seIdle (k result : Nat) (s : State) : State :=
  let s := (s.wr (SEk_STAT_STATE k) SE_IDLE).wr (SEk_STAT_RESULT k) result
  let s := s.setSlot k {}
  (refreshUse s).raiseBit SE_STAT_DONE k

/-- A start fails: the result is shown and the slot keeps the state it is in (R186). -/
def seFails (k result : Nat) (s : State) : State := s.wr (SEk_STAT_RESULT k) result

/-- A start whose last checks fail: the slot is IDLE with the result; no plan has ended, so DONE stays (R186, R210).
[DEDUCED, unsafe: notes/assumptions/34] -/
def seDrop (k result : Nat) (s : State) : State :=
  refreshUse (((s.wr (SEk_STAT_STATE k) SE_IDLE).wr (SEk_STAT_RESULT k) result).setSlot k {})

/-- The sum of N over the other slots that wait or run (R186). -/
def otherN (s : State) (k : Nat) : Nat :=
  ((List.range 4).filter fun j => j != k && within SE_WAIT SE_RUN (s.rd (SEk_STAT_STATE j))).foldl
    (fun a j => a + ((s.slot j).plan.map Plan.n).getD 0) 0

/-- Checks 5 and 6 of R186, and WAIT; the stream's rate is that of the moment, which a held plan's REFORMAT may have changed. -/
def seReady (k : Nat) (s : State) : State :=
  match (s.slot k).plan with
  | none => s
  | some p =>
    if 65536 < p.n + otherN s k then seDrop k RES_NOBUF s
    else if p.startMode = 1 ∧ p.start * 2 ^ 48 < s.tb.now + s.ticksOf 8 then seDrop k RES_PAST s
    else
      let sl := s.slot k
      let s := s.setSlot k { sl with rate := streamRate s sl.stream, behind := itemsBehind s sl.stream }
      awaitStream sl.stream (((s.wr (SEk_STAT_STATE k) SE_WAIT).wr (SEk_STAT_RESULT k) RES_OK).setReg (SEk_PROG k) 0)

/-- START of slot `k` (R186). -/
def seStart (k : Nat) (s : State) : State :=
  if s.rd (SEk_STAT_STATE k) ≠ SE_IDLE then seFails k RES_BUSY s
  else if !s.flag (BRT_SEk_EN k) then seFails k RES_NOROUTE s
  else
    let n := s.rd (BRT_SEk_STREAM k)
    let rate := streamRate s n
    let (w, s) := readPlan (s.rd (SEk_BASE_BASE k) * 64) s
    let p := planOf w
    match planFault w p rate with
    | some d => seFails k RES_BADPLAN (s.wr (SEk_STAT_BADDESC k) d)
    | none =>
      let blocks := (p.descs.map fun d => if d.kind = 0 then blocksOf (descCfg d) else []).flatten
      let s' := refreshUse (s.setSlot k { plan := some p, blocks := blocks, stream := n, rate := rate })
      if streamReady s n then seReady k s'
      else if headHolds s n then
        holdCmd (n / 4) { kind := 1, id := k } (s'.wr (SEk_STAT_STATE k) SE_HELD)
      else seFails k RES_HNR (refreshUse (s'.setSlot k {}))

/-! ### Accumulators and reports -/

/-- One accumulator word: the first block writes it, a later one adds, and a sum above 2^32 − 1 stays there (R180). -/
def accumulate (first : Bool) (old add : Nat) : Nat × Bool :=
  let v := if first then add else old + add
  (min v (2 ^ 32 - 1), decide (2 ^ 32 - 1 < v))

/-- The unit in which the engine's phasors are formed, 2^60. -/
def unit60 : Int := 2 ^ 60

/-- A product of two phasors, truncated. -/
def phasorMul (a b : Int × Int) : Int × Int :=
  ((a.1 * b.1 - a.2 * b.2) / unit60, (a.1 * b.2 + a.2 * b.1) / unit60)

/-- cos and sin of 2π / 2^j in units of 2^-60, by halving the angle. [DESIGN CHOICE, safe: notes/assumptions/10] -/
def phasorRoot : Nat → Int × Int
  | 0 => (unit60, 0)
  | 1 => (-unit60, 0)
  | 2 => (0, unit60)
  | j + 1 =>
    let c := (phasorRoot j).1
    ((Nat.sqrt ((unit60 + c) * unit60 / 2).toNat : Nat), (Nat.sqrt ((unit60 - c) * unit60 / 2).toNat : Nat))

/-- cos and sin of 2π m / 2^j in units of 2^-60. -/
def phasor : Nat → Nat → Int × Int
  | 0, _ => (unit60, 0)
  | j + 1, m => if m % 2 = 1 then phasorMul (phasorRoot (j + 1)) (phasor j (m / 2)) else phasor j (m / 2)

/-- The sum over the samples `x`, the first of which stands at index `n` of its block, of x(n) e^(−j 2π k n / N) r(n), I and Q in
units of 2^-60; a replica that is exhausted ends it (R178, R198). -/
def correlate (nlog : Nat) (k : Int) : Nat → List SearchSample → List Int → Int × Int
  | n, x :: xs, r :: rs =>
    let (c, d) := phasor nlog (k * n % (2 ^ nlog : Nat)).toNat
    let (a, b) := correlate nlog k (n + 1) xs rs
    (a + r * (x.i * c + x.q * d), b + r * (x.q * c - x.i * d))
  | _, _, _ => (0, 0)

/-- The squared magnitude of a value. -/
def normSq (z : Int × Int) : Nat := (z.1 * z.1 + z.2 * z.2).toNat

/-- What the engine estimates for each value of a bin and block: each with its error, which R178 holds to 2^-10 of the largest
magnitude of the bin and block.  R198 gives no bound for a spectrum, and takes the same one here.
[DEDUCED, unsafe: notes/assumptions/10] -/
def estimates (draw d b : Nat) (zs : List (Int × Int)) : List (Int × Int) :=
  let most := zs.foldl (fun a z => max a (normSq z)) 0
  zs.mapIdx fun i z =>
    let e := Config.searchError draw d b i
    if normSq e * 2 ^ 20 ≤ most then (z.1 + e.1, z.2 + e.2) else z

/-- The replica of a descriptor over block `q`, one value for each of its M samples (R178). -/
def replicaOf (s : State) (p : Plan) (rate q : Nat) (x : PlanDesc) : List Int :=
  let l := x.codeLen * 2 ^ 32
  (List.range (p.m rate)).map fun n =>
    (replica s (descCfg x) ((x.codePh0 + (q * p.m rate + n) * x.chipRate) % l) 0).1

/-- The powers that block `q` adds for one bin of a descriptor, by lag, or for a spectrum by entry: floor(|c|² / 2^PSH) (R178,
R180, R198). -/
def binPowers (s : State) (p : Plan) (sl : SearchSlot) (draw d q : Nat) (x : PlanDesc) (b : Nat) : List Nat :=
  let zs :=
    if x.kind = 1 then
      (List.range p.n).map fun i =>
        correlate p.nlog ((i : Int) - (p.n / 2 : Nat)) 0 sl.block (List.replicate sl.block.length 1)
    else
      let rs := replicaOf s p sl.rate q x
      (List.range p.rlags).map fun tau => correlate p.nlog (binShift p sl.rate x b) tau (sl.block.drop tau) rs
  (estimates draw d b zs).map fun z => normSq z / (2 ^ 120 * 2 ^ x.psh)

/-- The words of one bin from an address on, accumulated by the engine: the new bytes, and whether one saturated (R180). -/
def accBin (s : State) (first : Bool) (base : Nat) : Nat → List Nat → List Byte × Bool
  | _, [] => ([], false)
  | n, v :: vs =>
    let (w, o) := accumulate first (s.le (base + 4 * n) 4) v
    let (bs, sat) := accBin s first base (n + 1) vs
    (toLE 4 w ++ bs, o || sat)

/-- The bins of a descriptor: their first word's address and their number of words. -/
def binsOf (p : Plan) (d : PlanDesc) : List (Nat × Nat × Nat) :=
  if d.kind = 1 then [(0, d.accBase, p.n)]
  else (List.range d.ndop).map fun b => (b, d.accBase + 4 * p.rlags * b, p.rlags)

/-- A block is accumulated for every descriptor, up to the first write that gets an error response (R191): whether a write got
an error response, the saturated bins, the state. -/
def accBlock (first : Bool) (draw : Nat) (p : Plan) (sl : SearchSlot) (q : Nat) (s : State) :
    Bool × List (Nat × Nat) × State :=
  let all := (p.descs.mapIdx fun d x => (binsOf p x).map fun b => (d, x, b)).flatten
  all.foldl (fun acc y =>
    let (err, sats, s) := acc
    let (d, x, b, base, _) := y
    if err then (err, sats, s) else
    let (bs, sat) := accBin s first base 0 (binPowers s p sl draw d q x b)
    let (c, s) := dmaWrite 8 base bs s
    (err || c != 0, if sat then sats ++ [(d, b)] else sats, s)) (false, [], s)

/-- The best remaining candidate: the largest value, the lower index among equals (R196). -/
def bestPeak (vals : List (Nat × Nat)) : Option (Nat × Nat) :=
  vals.foldl (fun best x => match best with
    | none => some x
    | some y => if y.2 < x.2 then some x else some y) none

/-- Up to `k` peaks with their indexes, each beyond `excl` of those before it (R196). -/
def peaks (excl : Nat) : Nat → List (Nat × Nat) → List (Nat × Nat)
  | 0, _ => []
  | k + 1, vals =>
    match bestPeak vals with
    | none => []
    | some x => x :: peaks excl k (vals.filter fun y => decide (excl < max x.1 y.1 - min x.1 y.1) && y.1 != x.1)

/-- A report (R195). -/
def reportOf (s : State) (k : Nat) (p : Plan) (early : Bool) (d : Nat) (x : PlanDesc) (bin base n : Nat) : List Byte :=
  let sl := s.slot k
  let vals := (List.range n).map fun i => (i, s.le (base + 4 * i) 4)
  let pk := peaks x.excl 8 vals
  let flags := sl.marks % 8 + (if sl.sats.contains (d, bin) then 8 else 0) + (if early then 16 else 0) +
    (if x.kind = 1 then 32 else 0)
  let freq : Int := if x.kind = 1 then 0 else binShift p sl.rate x bin * (p.fr sl.rate * 2 ^ 16 : Nat) / (p.n : Nat)
  let phref := if x.kind = 1 then 0 else (x.codePh0 + sl.refBlock * p.m sl.rate * x.chipRate) % (x.codeLen * 2 ^ 32)
  let entry := fun (i : Nat) => match pk[i]? with
    | some y => toLE 2 y.1 ++ toLE 2 0 ++ toLE 4 y.2
    | none => List.replicate 8 0
  toLE 1 d ++ toLE 1 p.tag ++ toLE 2 bin ++ toLE 1 flags ++ toLE 1 pk.length ++ toLE 2 (s.rd (SEk_PROG_NSUM k)) ++
    toLE 2 (s.rd (SEk_PROG_NSKIP k)) ++ toLE 6 (unsigned 48 freq) ++
    toLE 4 ((vals.foldl (fun a v => a + v.2) 0) / n) ++ toLE 3 (min sl.muted 16777215) ++ [0] ++
    toLE 6 (sl.tref % 2 ^ 48) ++ toLE 6 (sl.tref / 2 ^ 48) ++ toLE 6 phref ++ List.replicate 22 0 ++
    ((List.range 8).map entry).flatten

/-- Reports waiting in the ring (R194). -/
def rptLevel (s : State) : Nat := (s.rd SE_RPTWP_WP + 65536 - s.rd SE_RPTRP_RP) % 65536

/-- A report is placed in the ring, or discarded for a full one (R194): whether a write got an error response. -/
def reportWrite (r : List Byte) (s : State) : Bool × State :=
  if 1024 ≤ rptLevel s then (false, (s.count SE_RPTDROP_COUNT).raise SE_STAT_RPTDROP)
  else
    let (c, s) := memWrite 8 (s.rd SE_RPTBASE_BASE * 128 + 128 * (s.rd SE_RPTWP_WP % 1024)) r s
    (c != 0, if c = 0 then s.count SE_RPTWP_WP else s)

/-- All reports of a plan, in descriptor order and then in bin order (R190). -/
def writeReports (k : Nat) (p : Plan) (early : Bool) (s : State) : Bool × State :=
  let all := (p.descs.mapIdx fun d x => (binsOf p x).map fun b => (d, x, b)).flatten
  all.foldl (fun acc y =>
    let (err, s) := acc
    let (d, x, bin, base, n) := y
    if err then (err, s) else reportWrite (reportOf s k p early d x bin base n) s) (false, s)

/-- A plan ends with reports where blocks were summed (R190, R191). -/
def seEndWith (k result : Nat) (early : Bool) (s : State) : State :=
  match (s.slot k).plan with
  | none => s
  | some p =>
    if s.rd (SEk_PROG_NSUM k) = 0 then seIdle k result s
    else
      let (err, s) := writeReports k p early s
      seIdle k (if err then RES_FWERR else result) s

/-- A plan that waits or runs ends at once and without reports; a held one is withdrawn from its head too (R191). -/
def seStop (k result : Nat) (s : State) : State :=
  let n := (s.slot k).stream / 4
  let s := if s.rd (SEk_STAT_STATE k) = SE_HELD then
      let h := s.head n
      let s := s.setHead n { h with held := h.held.filter fun x => !(x.kind == 1 && x.id == k) }
      s.wr (FECn_STAT_HELD n) (s.rd (FECn_STAT_HELD n) - 1)
    else s
  seIdle k result s

/-- ABORT: a plan with a block in the datapath ends with the transform in progress, any other at once (R191). -/
def seAbort (k : Nat) (s : State) : State :=
  if s.rd (SEk_STAT_STATE k) = SE_IDLE then s
  else if (s.slot k).busy.isSome then s.setSlot k { s.slot k with aborting := true }
  else seStop k RES_ABORTED s

/-- Entry to STANDBY ends every plan with PWRDOWN (R191, R495). -/
def sePowerDown (k : Nat) (s : State) : State :=
  if s.rd (SEk_STAT_STATE k) = SE_IDLE then s else seStop k RES_PWRDOWN s

/-- A stream ends for the slots that search it (R191). -/
def endPlans (n cause : Nat) (s : State) : State :=
  (List.range 4).foldl (fun s k =>
    let sl := s.slot k
    if within SE_WAIT SE_RUN (s.rd (SEk_STAT_STATE k)) && sl.stream == n then
      if sl.behind = 0 then seEndWith k (causeResult cause) true s
      else s.setSlot k { sl with behind := sl.behind - 1 }
    else s) s

/-! ### Samples -/

/-- One stream sample enters a slot's decimation group; a full group becomes a search sample (R176, R188). -/
def seSample (p : Plan) (marks : Nat) (sl : SearchSlot) (x : WSample) : SearchSlot :=
  let g := (x, marks) :: sl.group
  let d := 2 ^ p.dsel
  if g.length < d then { sl with group := g }
  else
    let fs := sampleRate sl.rate
    let i := (g.foldl (fun a y => a + if y.1.smp.z then 0 else y.1.smp.i) 0) / (d : Int)
    let q := (g.foldl (fun a y => a + if y.1.smp.z then 0 else y.1.smp.q) 0) / (d : Int)
    let zs := (g.filter fun y => y.1.smp.z).length
    let mk := g.foldl (fun a y => a ||| y.2) 0
    let t := g.foldl (fun a y => a + y.1.slate * fs + y.1.k * 2 ^ 48) 0
    { sl with group := [], ring := (⟨i, q, zs, mk, t⟩ :: sl.ring).take p.n, total := sl.total + 1 }

/-- The marks of a frame for a search: bit 1 DISC, bit 2 HMUTE (R192). -/
def searchMarks (t : Tag) : Nat :=
  (if t.drop || t.rep || t.resync || t.notchChg then 2 else 0) + (if t.hmute then 4 else 0)

/-- A frame's samples enter a slot in RUN. -/
def seIngest (p : Plan) (sl : SearchSlot) (f : TapFrame) : SearchSlot :=
  f.samples.foldl (seSample p (searchMarks f.tag)) sl

/-- A frame reaches the slots that search its stream on its tap: in RUN it enters the ring, in WAIT it waits for the
grid origin. -/
def seFeed (n tap : Nat) (f : TapFrame) (s : State) : State :=
  (List.range 4).foldl (fun s k =>
    let sl := s.slot k
    if sl.stream == n && s.rd (BRT_SEk_TAP k) == tap then
      match sl.plan with
      | none => s
      | some p =>
        if s.rd (SEk_STAT_STATE k) = SE_RUN then s.setSlot k (seIngest p sl f)
        else if s.rd (SEk_STAT_STATE k) = SE_WAIT then
          s.setSlot k (if sl.behind = 0 then { sl with inbox := sl.inbox ++ [f] } else { sl with behind := sl.behind - 1 })
        else s
    else s) s

/-- A sample's R20 time is at or after an instant in 2^-48 s (R20). -/
def atOrAfter (fs t : Nat) (x : WSample) : Bool := decide (t * fs ≤ x.slate * fs + x.k * 2 ^ 48)

/-- The frames from the first sample whose time is at or after `t`; none where no sample is. -/
def fromInstant (t : Nat) : List TapFrame → Option (List TapFrame)
  | [] => none
  | f :: rest =>
    let keep := f.samples.dropWhile fun x => !atOrAfter (sampleRate f.rate) t x
    if keep.isEmpty then fromInstant t rest else some ({ f with samples := keep } :: rest)

/-- The grid origin of a slot in WAIT, where the samples delivered hold it: the slot enters RUN and takes the samples
from there (R187). -/
def seOrigin (k : Nat) (s : State) : State :=
  let sl := s.slot k
  match sl.plan with
  | none => s
  | some p =>
    if s.rd (SEk_STAT_STATE k) ≠ SE_WAIT then s
    else
      let frames := if p.startMode = 0 then (if sl.inbox.isEmpty then none else some sl.inbox)
        else fromInstant p.start sl.inbox
      match frames with
      | none => s.setSlot k { sl with inbox := [] }
      | some fs =>
        let s := { s with se := { s.se with dirty := true } }
        (s.setSlot k (fs.foldl (seIngest p) { sl with inbox := [] })).wr (SEk_STAT_STATE k) SE_RUN

/-- The earliest grid block from `q` that is complete and whose first sample is not too old (R188). -/
def findBlock (p : Plan) (rate total : Nat) : Nat → Nat → Option Nat
  | 0, _ => none
  | fuel + 1, q =>
    let m := p.m rate
    if total < q * m + m + p.rlags then none
    else if total - 1 - q * m ≤ 15 * p.n / 16 - 1 then some q
    else findBlock p rate total fuel (q + 1)

/-- The block that the datapath would take of a slot in RUN (R188). -/
def seQualifies (s : State) (k : Nat) : Option Nat :=
  let sl := s.slot k
  match sl.plan with
  | none => none
  | some p => if s.rd (SEk_STAT_STATE k) = SE_RUN then findBlock p sl.rate sl.total (sl.total + 1) sl.nextBlock else none

/-- The datapath pauses during a change of performance level (R193). -/
def sePaused (s : State) : Bool := s.flag PWR_STAT_LEVELBUSY

/-- Whether it is the slot's turn: the datapath takes one whole block at a time, in round-robin order of slot number, and
passes over the slots without a block (R188). -/
def seTurn (s : State) (k : Nat) : Bool :=
  ((List.range 4).all fun j => (s.slot j).busy.isNone) &&
    (List.range ((k + 3 - s.se.last) % 4)).all fun i => (seQualifies s ((s.se.last + 1 + i) % 4)).isNone

/-- The search samples of block `q`, oldest first. -/
def blockSamples (p : Plan) (sl : SearchSlot) (q : Nat) : List SearchSample :=
  let m := p.m sl.rate
  let all := sl.ring.reverse
  let oldest := sl.total - all.length
  (all.drop (q * m - oldest)).take (m + p.rlags)

/-- The transforms of a block, and the CLK_CORR cycles of each (R189). -/
def transforms (p : Plan) : Nat :=
  1 + (p.descs.filter fun d => d.kind == 0).foldl (fun a d => a + 1 + d.ndop) 0
def transformCycles (p : Plan) : Nat := p.n * p.nlog / 16

/-- The datapath turns to a slot and takes a block (R188): blocks passed over count in NSKIP.  The first block taken is
block 0. [DEDUCED, unsafe: notes/assumptions/34] -/
def seBlock (k : Nat) (s : State) : State :=
  if sePaused s || !seTurn s k then s
  else match (s.slot k).plan, seQualifies s k with
    | some p, some q =>
      let sl := s.slot k
      let s := s.countSat (SEk_PROG_NSKIP k) (q - sl.nextBlock)
      let s := (s.wr (SEk_PROG_BLOCK k) q).setSlot k { sl with
        busy := some q, nextBlock := q + 1, block := blockSamples p sl q, left := transforms p * transformCycles p }
      { s with se := { s.se with last := k } }
    | _, _ => s

/-- A summed block (R192, R197). -/
def seSum (k q : Nat) (sats : List (Nat × Nat)) (s : State) : State :=
  let sl := s.slot k
  let first := s.rd (SEk_PROG_NSUM k) == 0
  let zs := sl.block.foldl (fun a x => a + x.zs) 0
  let mk := sl.block.foldl (fun a x => a ||| x.marks) 0
  let tref := match sl.plan, sl.block with
    | some p, x :: _ => x.time / (2 ^ p.dsel * sampleRate sl.rate)
    | _, _ => 0
  (s.setSlot k { sl with
    busy := none, block := [], left := 0, marks := sl.marks ||| mk ||| (if 0 < zs then 1 else 0), muted := sl.muted + zs,
    sats := sl.sats ++ sats, tref := if first then tref else sl.tref,
    refBlock := if first then q else sl.refBlock }).count (SEk_PROG_NSUM k)

/-- The transforms of the block end: its powers are accumulated, and after NNC blocks the reports are written
(R189, R190). -/
def seBlockComplete (k : Nat) (s : State) : State :=
  let sl := s.slot k
  match sl.plan, sl.busy with
  | some p, some q =>
    let first := s.rd (SEk_PROG_NSUM k) == 0
    let (err, sats, s) := accBlock first s.freeCount p sl q { s with freeCount := s.freeCount + 1 }
    if err then seIdle k RES_FWERR s
    else
      let s := seSum k q sats s
      if s.rd (SEk_PROG_NSUM k) = p.nnc then seEndWith k RES_OK false s else s
  | _, _ => s

/-- The slot whose block is in the datapath. -/
def seActive (s : State) : Option Nat := (List.range 4).find? fun k => (s.slot k).busy.isSome

/-- Thirds of a CLK_CORR cycle in one tick (R124). -/
def corrThirds (s : State) : Nat := 3 - s.rd PWR_STAT_LEVEL

/-- A CLK_CORR cycle ends at the next tick while the datapath is busy (R189). -/
def seCycle (s : State) : Bool := !sePaused s && (seActive s).isSome && decide (3 ≤ s.se.phase + corrThirds s)

/-- A cycle of the block in the datapath: the last one of the block sums it, and the last one of a transform ends a plan that is
aborted (R189, R191, R210). -/
def seWork (k : Nat) (s : State) : State :=
  let sl := s.slot k
  let s := (s.setSlot k { sl with left := sl.left - 1 }).count SE_BUSY_CYCLES
  if sl.aborting && (sl.left - 1) % ((sl.plan.map transformCycles).getD 1) == 0 then seStop k RES_ABORTED s
  else if sl.left ≤ 1 then seBlockComplete k s
  else s

/-- The datapath at a tick. -/
def seTick (s : State) : State :=
  match seActive s with
  | none => s
  | some k =>
    if sePaused s then s
    else
      let s' := { s with se := { s.se with phase := (s.se.phase + corrThirds s) % 3 } }
      if seCycle s then seWork k s' else s'

/-- The block of slot `k` completes at the next tick (R189). -/
def seBlockDue (s : State) (k : Nat) : Bool :=
  seCycle s && seActive s == some k && decide ((s.slot k).left ≤ 1) && !(s.slot k).aborting

/-! ### Ring registers and writes -/

/-- A write of SE_RPTBASE or SE_RPTRP, by the rules of the dump rings (R194, R210). -/
def rptBaseWrite (v : Word) (s : State) : State :=
  let busy := (List.range 4).any fun k => s.rd (SEk_STAT_STATE k) != SE_IDLE
  if busy ∨ v.toNat % 128 ≠ 0 ∨ 0x01800000 ≤ v.toNat % 2 ^ 32 then s.raise SE_STAT_CFGERR else s.typed SE_RPTBASE v

def rptRpWrite (v : Word) (s : State) : State :=
  if 1024 < (s.rd SE_RPTWP_WP + 65536 - v.toNat % 65536) % 65536 then s.raise SE_STAT_CFGERR
  else
    let s := s.typed SE_RPTRP v
    { s with se := { s.se with rpAt := s.ticks } }

/-- The report doorbell requests at tick `t` by its time-out: reports wait, and TO µs have passed without a write of RP (R194). -/
def rptWaited (s : State) (t : Nat) : Bool :=
  decide (0 < rptLevel s) && s.rd SE_RPTDB_TO != 0 && decide (s.se.rpAt + s.rd SE_RPTDB_TO * usTicks ≤ t)

/-- Whether the report doorbell requests (R194). -/
def rptDoorbell (s : State) : Bool :=
  decide (max (s.rd SE_RPTDB_THR) 1 ≤ rptLevel s) || rptWaited s s.ticks

/-- A write of an SE register (R210).  A write of SEk_CMD with ABORT and START aborts first and starts then.
[DESIGN CHOICE, unsafe: notes/assumptions/34] -/
def seWrite (a : Nat) (v : Word) (s : State) : State :=
  if a = SE_RPTBASE then rptBaseWrite v s
  else if a = SE_RPTRP then rptRpWrite v s
  else if 0x100C0100 ≤ a ∧ (a - 0x100C0100) % 0x20 = 8 then
    let k := (a - 0x100C0100) / 0x20
    let s := if (SEk_CMD_ABORT k).of v = 1 then seAbort k s else s
    if (SEk_CMD_START k).of v = 1 then seStart k s else s
  else s.typed a v

/-! ### Meanings -/

/-- SE_START (R186). -/
def execSeStart (slot : Fin 4) (s : State) : Host.Outcome State Fault Refusal := done (whenOn (SEk_CMD slot) (seStart slot) s)

/-- SE_ABORT (R191). -/
def execSeAbort (slot : Fin 4) (s : State) : Host.Outcome State Fault Refusal := done (whenOn (SEk_CMD slot) (seAbort slot) s)

/-- SE_GRID_ORIGIN (R187). -/
def execSeGridOrigin (slot : Fin 4) (s : State) : Host.Outcome State Fault Refusal := done (seOrigin slot s)

/-- SE_BLOCK (R188). -/
def execSeBlock (slot : Fin 4) (s : State) : Host.Outcome State Fault Refusal := done (seBlock slot s)

end Sys2Proof.Machine
end

