-- ==== Sys2Proof/Machine/Reel.lean ====
section
/-!
DEFINITION. Reel (Search Engine and Reel, R199 to R206): arming, triggers, captures and their ends.
-/

namespace Sys2Proof.Machine

/-- The states of an input: IDLE, HELD, ARMED, RUN and DONE (R211). -/
def REEL_IDLE : Nat := 0
def REEL_HELD : Nat := 1
def REEL_ARMED : Nat := 2
def REEL_RUN : Nat := 3
def REEL_DONE : Nat := 4

/-- The hidden state of an input. -/
def State.reel (s : State) (k : Nat) : ReelIn := s.reels.getD k {}

/-- The state with the hidden state of an input replaced. -/
def State.setReel (s : State) (k : Nat) (x : ReelIn) : State := { s with reels := s.reels.setIfInBounds k x }

/-- Bytes per sample (R200). -/
def reelBytes (s : State) (k : Nat) : Nat := 3 + s.rd (REELk_CTRL_PACK k)

/-- The trigger: 0 SOFTWARE, 1 INSTANT, 2 CLAPPER; 3 treated as 0 (R211). -/
def reelTrig (s : State) (k : Nat) : Nat := let t := s.rd (REELk_CTRL_TRIG k); if t = 3 then 0 else t

/-- The trigger and stop instants in 2^-48 s. -/
def reelTrigAt (s : State) (k : Nat) : Nat := s.stamp (REELk_TRIGSEC k) (REELk_TRIGFRAC k)
def reelStopAt (s : State) (k : Nat) : Nat := s.stamp (REELk_STOPSEC k) (REELk_STOPFRAC k)

/-- A capture ends in DONE (R205). -/
def reelDone (k result : Nat) (s : State) : State :=
  let s := (s.wr (REELk_STAT_STATE k) REEL_DONE).wr (REELk_STAT_RESULT k) result
  (s.setReel k {}).raiseBit REEL_STAT_DONE k

/-- An arming that fails shows its result and leaves the input's state. [DEDUCED, unsafe: notes/assumptions/34] -/
def reelFails (k result : Nat) (s : State) : State := s.wr (REELk_STAT_RESULT k) result

/-- Check 5 of R203. -/
def reelPast (s : State) (k : Nat) : Bool :=
  let t := reelTrigAt s k
  let inst := reelTrig s k == 1
  (inst && decide (t * 2 ^ 48 < s.tb.now + s.ticksOf 8)) ||
    (s.flag (REELk_CTRL_STOPAT k) &&
      (if inst then decide (reelStopAt s k ≤ t) else decide (reelStopAt s k * 2 ^ 48 ≤ s.tb.now)))

/-- Check 5 of R203, and ARMED (R204); a released capture that fails it ends with its result. -/
def reelReady (k : Nat) (s : State) : State :=
  if reelPast s k then (reelFails k RES_PAST s).wr (REELk_STAT_STATE k) REEL_IDLE
  else
    let s := (s.wr (REELk_STAT_STATE k) REEL_ARMED).wr (REELk_STAT_RESULT k) RES_OK
    let s := s.setReg (REELk_COUNT k) 0
    let x := s.reel k
    s.setReel k { x with inbox := [], behind := itemsBehind s x.stream, trigAt := if reelTrig s k = 1 then some (reelTrigAt s k) else none, stopping := false }

/-- ARM of an input (R203). [DEDUCED, unsafe: notes/assumptions/34] -/
def reelArm (k : Nat) (s : State) : State :=
  let st := s.rd (REELk_STAT_STATE k)
  let base := s.rd (REELk_BASE_BASE k) * 64
  let len := s.rd (REELk_LEN_LEN k)
  let n := s.rd (BRT_REELk_STREAM k)
  if st ≠ REEL_IDLE ∧ st ≠ REEL_DONE then reelFails k RES_BUSY s
  else if !s.flag (BRT_REELk_EN k) then reelFails k RES_NOROUTE s
  else if len = 0 ∨ 0x01800000 < base + reelBytes s k * len then reelFails k RES_BADCFG s
  else
    let s' := s.setReel k { stream := n }
    if streamReady s n then
      if reelPast s k then reelFails k RES_PAST s else reelReady k s'
    else if headHolds s n then holdCmd (n / 4) { kind := 2, id := k } (s'.wr (REELk_STAT_STATE k) REEL_HELD)
    else reelFails k RES_HNR s

/-- STOP of an input (R205). -/
def reelStop (k : Nat) (s : State) : State :=
  let st := s.rd (REELk_STAT_STATE k)
  if st = REEL_RUN then s.setReel k { s.reel k with stopping := true }
  else if st = REEL_ARMED then reelDone k RES_ABORTED s
  else if st = REEL_HELD then
    let n := (s.reel k).stream / 4
    let h := s.head n
    let s := s.setHead n { h with held := h.held.filter fun x => !(x.kind == 2 && x.id == k) }
    reelDone k RES_ABORTED (s.wr (FECn_STAT_HELD n) (s.rd (FECn_STAT_HELD n) - 1))
  else s

/-- Whether a delivered sample is the frame's own; a repeated copy keeps the frame of its original (R55). -/
def ownSample (t : Tag) (x : WSample) : Bool := x.slate == t.slate

/-- The bytes of a sample; `first` marks the first of the frame's own samples (R200, R201). -/
def reelSample (s : State) (k : Nat) (t : Tag) (first : Bool) (x : WSample) : List Byte :=
  let i := if x.smp.z then 0 else unsigned 12 x.smp.i
  let q := if x.smp.z then 0 else unsigned 12 x.smp.q
  let tag := (if x.smp.z then 128 else 0) + (if first && t.drop then 64 else 0) +
    (if !ownSample t x && t.rep then 32 else 0) +
    (if first then 16 else 0) + (if t.hmute then 8 else 0) + (if t.notchChg then 4 else 0)
  if reelBytes s k = 3 then toLE 3 (q * 2 ^ 12 + i) else toLE 4 (tag * 2 ^ 24 + q * 2 ^ 12 + i)

/-- A sample's R20 time in 2^-48 s, truncated. -/
def timeOf (fs : Nat) (x : WSample) : Nat := x.slate + x.k * 2 ^ 48 / fs

/-- A running capture writes one sample, or stops before it; `lost` marks a sample that finds the input's buffer full (R202, R205,
R206). -/
def reelTake (k : Nat) (t : Tag) (fs : Nat) (first lost : Bool) (x : WSample) (s : State) : State :=
  if s.rd (REELk_STAT_STATE k) ≠ REEL_RUN then s
  else if s.flag (REELk_CTRL_STOPAT k) && atOrAfter fs (reelStopAt s k) x then reelDone k RES_OK s
  else if lost then reelDone k RES_OVF s
  else
    let n := s.rd (REELk_COUNT_COUNT k)
    let len := s.rd (REELk_LEN_LEN k)
    let a := s.rd (REELk_BASE_BASE k) * 64 + reelBytes s k * (n % len)
    let (c, s) := dmaWrite 9 a (reelSample s k t first x) s
    if c ≠ 0 then reelDone k RES_FWERR s
    else
      let s := s.count (REELk_COUNT_COUNT k)
      let s := if n = 0 then s.setStamp (REELk_TFIRSTSEC k) (REELk_TFIRSTFRAC k) (timeOf fs x) else s
      let s := s.setStamp (REELk_TLASTSEC k) (REELk_TLASTFRAC k) (timeOf fs x)
      if !s.flag (REELk_CTRL_RING k) && n + 1 == len then reelDone k RES_OK s else s

/-- Whether sample `i` of the frame drawn as number `draw` may find the input's 16 KiB buffer full, and does (R199, R205): that many
samples must have been taken before. [DESIGN CHOICE, safe: notes/assumptions/34] -/
def reelOverflows (s : State) (k draw i : Nat) : Bool :=
  Config.reelLost draw == some i && decide (16384 ≤ reelBytes s k * s.rd (REELk_COUNT_COUNT k))

/-- A frame, or its part from the trigger on, is captured (R205).  A STOP that has been written since the frame before ends the capture
with this frame, which counts as the one in progress. [DESIGN CHOICE, unsafe: notes/assumptions/34] -/
def reelFrame (k : Nat) (whole : Bool) (f : TapFrame) (s : State) : State :=
  if s.rd (REELk_STAT_STATE k) ≠ REEL_RUN then s
  else if whole && f.tag.resync && decide (0 < s.rd (REELk_COUNT_COUNT k)) then reelDone k RES_RESYNC s
  else if whole && (f.tag.drop || f.tag.rep) && s.rd (REELk_CTRL_PACK k) == 0 &&
      decide (0 < s.rd (REELk_COUNT_COUNT k)) then reelDone k RES_SLIP s
  else
    let fs := sampleRate f.rate
    let draw := s.freeCount
    let s := { s with freeCount := draw + 1 }
    let s := (f.samples.foldl (fun (acc : Bool × Nat × State) x =>
      let (start, i, s) := acc
      let own := ownSample f.tag x
      (start && !own, i + 1, reelTake k f.tag fs (start && own) (reelOverflows s k draw i) x s)) (whole, 0, s)).2.2
    if s.rd (REELk_STAT_STATE k) = REEL_RUN ∧ (s.reel k).stopping then reelDone k RES_OK s else s

/-- A frame reaches the inputs that capture its stream on its tap. -/
def reelFeed (n tap : Nat) (f : TapFrame) (s : State) : State :=
  (List.range 8).foldl (fun s k =>
    let x := s.reel k
    if x.stream == n && s.rd (BRT_REELk_TAP k) == tap then
      if s.rd (REELk_STAT_STATE k) = REEL_RUN then reelFrame k true f s
      else if s.rd (REELk_STAT_STATE k) = REEL_ARMED then
        s.setReel k (if x.behind = 0 then { x with inbox := x.inbox ++ [f] } else { x with behind := x.behind - 1 })
      else s
    else s) s

/-- The first sample of an ARMED input, where the samples delivered hold it: the input enters RUN (R204). -/
def reelTrigger (k : Nat) (s : State) : State :=
  let x := s.reel k
  if s.rd (REELk_STAT_STATE k) ≠ REEL_ARMED then s
  else
    let soft := reelTrig s k == 0
    let frames := if soft then (if x.inbox.isEmpty then none else some x.inbox)
      else match x.trigAt with
        | none => none
        | some t => fromInstant t x.inbox
    match frames with
    | none => s.setReel k { x with inbox := [] }
    | some [] => s
    | some (f :: rest) =>
      let s := (s.setReel k { x with inbox := [] }).wr (REELk_STAT_STATE k) REEL_RUN
      let own := fun (g : TapFrame) => g.samples.find? (ownSample g.tag)
      let whole := x.inbox.any fun g => g.tag == f.tag && own g == own f
      rest.foldl (fun s g => reelFrame k true g s) (reelFrame k whole f s)

/-- The Clapper fires: its instant is the trigger of the armed inputs that wait for it (R68, R204). -/
def reelClapper (tc : Nat) (s : State) : State :=
  (List.range 8).foldl (fun s k =>
    let x := s.reel k
    if s.rd (REELk_STAT_STATE k) == REEL_ARMED && reelTrig s k == 2 && x.trigAt.isNone then
      s.setReel k { x with trigAt := some tc }
    else s) s

/-- A stream ends for the captures that run on it (R205); an ARMED input waits on. -/
def endReels (n cause : Nat) (s : State) : State :=
  (List.range 8).foldl (fun s k =>
    let x := s.reel k
    if x.stream != n then s
    else if s.rd (REELk_STAT_STATE k) = REEL_RUN then reelDone k (causeResult cause) s
    else if s.rd (REELk_STAT_STATE k) = REEL_ARMED then s.setReel k { x with behind := x.behind - 1 }
    else s) s

/-- Entry to STANDBY ends every capture with PWRDOWN (R205, R495). -/
def reelPowerDown (k : Nat) (s : State) : State :=
  let st := s.rd (REELk_STAT_STATE k)
  if st = REEL_IDLE ∨ st = REEL_DONE then s
  else if st = REEL_RUN then reelDone k RES_PWRDOWN s
  else (reelStop k s).wr (REELk_STAT_RESULT k) RES_PWRDOWN

/-- The registers that an active input keeps (R211). -/
def reelKeeps (k a : Nat) : Bool :=
  a == REELk_CTRL k || a == REELk_BASE k || a == REELk_LEN k || a == REELk_TRIGSEC k || a == REELk_TRIGFRAC k ||
    a == REELk_STOPSEC k || a == REELk_STOPFRAC k

/-- A write of a REEL register (R203, R205, R211).  A write of REELk_CMD with STOP and ARM stops first and arms then.
[DESIGN CHOICE, unsafe: notes/assumptions/34] -/
def reelWrite (a : Nat) (v : Word) (s : State) : State :=
  if 0x100D0400 ≤ a then s.typed a v
  else
    let k := (a - 0x100D0000) / 0x80
    if a = REELk_CMD k then
      let s := if (REELk_CMD_STOP k).of v = 1 then reelStop k s else s
      if (REELk_CMD_ARM k).of v = 1 then reelArm k s else s
    else if reelKeeps k a && within REEL_HELD REEL_RUN (s.rd (REELk_STAT_STATE k)) then s.raise REEL_STAT_CFGERR
    else s.typed a v

/-! ### Meanings -/

/-- REEL_ARM (R203). -/
def execReelArm (input : Fin 8) (s : State) : Host.Outcome State Fault Refusal := done (whenOn (REELk_CMD input) (reelArm input) s)

/-- REEL_STOP (R205). -/
def execReelStop (input : Fin 8) (s : State) : Host.Outcome State Fault Refusal := done (whenOn (REELk_CMD input) (reelStop input) s)

/-- REEL_TRIGGER (R204). -/
def execReelTrigger (input : Fin 8) (s : State) : Host.Outcome State Fault Refusal := done (reelTrigger input s)

/-- REEL_FRAC_READ (R206): reading TFIRSTFRAC (false) or TLASTFRAC (true) latches the matching SEC register. -/
def execReelFracRead (init : Init) (input : Fin 8) (last : Bool) (s : State) : Host.Outcome State Fault Refusal :=
  let sec := if last then REELk_TLASTSEC input else REELk_TFIRSTSEC input
  done (asAccess init (sec + 8) false (fun s => latchSec init sec (s.reg sec).toNat s) s)

end Sys2Proof.Machine
end

