-- ==== Sys2Proof/Machine/Fec.lean ====
section
/-!
DEFINITION. Head control (Conditioners and Head Control, R98 to R114): the command channel, the state machine of each
head, held commands and the Band Router's route registers.
-/

namespace Sys2Proof.Machine

/-! ### States, causes and opcodes -/

/-- FECn_STAT.STATE (R117). -/
def H_IDLE : Nat := 0
def H_CONFIG : Nat := 1
def H_CAL : Nat := 2
def H_SETTLE : Nat := 3
def H_RUN : Nat := 4
def H_FAULT : Nat := 5

/-- FECn_STAT.FCAUSE (R117). -/
def FC_NOACK : Nat := 1
def FC_NAK : Nat := 2
def FC_CALFAIL : Nat := 3
def FC_HEADFAULT : Nat := 4
def FC_LINK : Nat := 5

/-- The opcodes of R99. -/
def OP_CONFIG : Nat := 1
def OP_SET_LO : Nat := 2
def OP_SET_GAIN : Nat := 3
def OP_SET_FORMAT : Nat := 4
def OP_CAL : Nat := 5
def OP_RUN : Nat := 6
def OP_IDLE : Nat := 7
def OP_RESET : Nat := 8
def OP_TLM_PAGE : Nat := 9

/-- FECn_CMD.OP (R117), and the kinds of the commands that no operation sends. -/
def K_START : Nat := 1
def K_BANDCHG : Nat := 2
def K_REFORMAT : Nat := 3
def K_GAIN : Nat := 4
def K_STOP : Nat := 5
def K_RESTART : Nat := 6
def K_TLMPAGE : Nat := 7
def K_HEADRESET : Nat := 8
def K_SETTLE : Nat := 9
def K_RECAL : Nat := 10
def K_CALRETRY : Nat := 11

/-- The state of a head. -/
def State.headState (s : State) (n : Nat) : Nat := s.rd (FECn_STAT_STATE n)

/-! ### The slot configuration (R37) -/

/-- Samples per frame of a rate code (R36). -/
def frameSamples (rate : Nat) : Nat := 960 >>> rate

/-- The rate code of a slot in a SLOTRATE field (R36). -/
def slotRate (rates slot : Nat) : Nat := rates >>> (2 * slot) % 4

/-- Bits per output sample of a format (R37). -/
def formatBits (fmt : Nat) : Nat := match fmt with | 0 => 24 | 1 => 4 | 2 => 6 | _ => 8

/-- Sample-area bits of the slots of a mask (R37). -/
def areaBits (fmt rates mask : Nat) : Nat :=
  ((List.range 4).filter fun k => mask >>> k % 2 == 1).foldl
    (fun a k => a + formatBits fmt * frameSamples (slotRate rates k)) 0

/-- The check of R37: the slots fit, and under D1 only slot 0 is selected. -/
def slotsFit (fmt rates mask : Nat) (fast : Bool) : Bool :=
  decide (areaBits fmt rates mask ≤ (if fast then 23040 else 11520)) && !(fmt == 0 && mask / 2 != 0)

/-! ### The loops of the conditioners -/

/-- The hidden state of a conditioner. -/
def State.cond (s : State) (n : Nat) : CondState := s.conds.getD n {}

/-- The state with the hidden state of a conditioner replaced. -/
def State.setCond (s : State) (n : Nat) (x : CondState) : State := { s with conds := s.conds.setIfInBounds n x }

/-- The loop reset of a conditioner (R97): DC estimates zero, GAIN at MAN, notches at CFREQ and out of the path, the
blanker mean empty.  An ADAPT notch goes on adapting and measuring; a FIXED notch is in the path again from the next block boundary
on, where its MODE takes effect.
[DESIGN CHOICE, unsafe: notes/assumptions/31] -/
def condReset (n : Nat) (s : State) : State :=
  let c := s.cond n
  let moved := c.notchChg || c.notches.toList.any (·.inPath)
  let s := s.setCond n { c with
    dcI := 0, dcQ := 0, mean := none, blockSum := 0, blockLen := 0,
    notches := Vector.ofFn fun k =>
      { mode := if (c.notches.getD k {}).mode = 2 then 2 else 0, centre := signed 24 (s.rd (CNDn_NCTLk_CFREQ n k)) },
    notchLen := 0,
    notchChg := moved, agcSum := 0, agcLen := 0 }
  let s := (s.wr (CNDn_DC_DCI n) 0).wr (CNDn_DC_DCQ n) 0
  let s := s.wr (CNDn_GAIN_GAIN n) (s.rd (CNDn_GAIN_MAN n))
  let s := (List.range 4).foldl (fun s k => s.wr (CNDn_NFRQk_FREQ n k) (s.rd (CNDn_NCTLk_CFREQ n k))) s
  s.wr (CNDn_STAT_ENGAGED n) 0

/-! ### Held commands -/

/-- A held command is released (R111): the checks that remain run now. -/
def releaseHeld (x : HeldCmd) (s : State) : State :=
  if x.kind = 0 then releaseStart x s
  else if x.kind = 1 then
    if streamReady s (s.slot x.id).stream then seReady x.id s else seDrop x.id RES_HNR s
  else
    if streamReady s (s.reel x.id).stream then reelReady x.id s
    else (reelFails x.id RES_HNR s).wr (REELk_STAT_STATE x.id) REEL_IDLE

/-- A held command fails with HEAD_NOT_READY (R111). -/
def failHeld (n : Nat) (x : HeldCmd) (s : State) : State :=
  let s := s.raise (FECn_STAT_HNR n)
  if x.kind = 0 then failStart x s
  else if x.kind = 1 then seDrop x.id RES_HNR s
  else (reelFails x.id RES_HNR s).wr (REELk_STAT_STATE x.id) REEL_IDLE

/-- The commands held on a head leave it. -/
def takeHeld (n : Nat) (s : State) : List HeldCmd × State :=
  let h := s.head n
  (h.held, (s.setHead n { h with held := [] }).wr (FECn_STAT_HELD n) 0)

/-! ### Transitions -/

/-- A head enters a state (R106, R111, R97). -/
def headEnter (n st cause : Nat) (s : State) : State :=
  let s := (s.wr (FECn_STAT_STATE n) st).wr (FECn_STAT_FCAUSE n) (if st = H_FAULT then cause else 0)
  let h := s.head n
  let q := if st = H_CAL then h.queue else h.queue.filter fun c => c.kind != K_CALRETRY
  let since := if st = H_CAL ∨ st = H_SETTLE then some s.ticks else none
  let s := s.setHead n { h with queue := q, calAgain := false, since := since }
  if st = H_RUN then
    let (l, s) := takeHeld n (s.raise (FECn_STAT_RUN n))
    l.foldl (fun s x => releaseHeld x s) s
  else if st = H_IDLE then
    let (l, s) := takeHeld n s
    l.foldl (fun s x => failHeld n x s) s
  else if st = H_FAULT then
    let (l, s) := takeHeld n (s.raise (FECn_STAT_FAULT n))
    l.foldl (fun s x => failHeld n x s) s
  else if st = H_SETTLE then (List.range 4).foldl (fun s k => condReset (4 * n + k) s) s
  else s

/-- A head enters FAULT: what the transition had still to send is dropped, but for a STOP or HEADRESET that waits.
[DEDUCED, unsafe: notes/assumptions/32] -/
def headFault (n cause : Nat) (s : State) : State :=
  let h := s.head n
  let keep := h.queue.filter fun c => c.kind == K_STOP || c.kind == K_HEADRESET
  headEnter n H_FAULT cause (s.setHead n { h with queue := keep, out := none, due := false, awaitIdle := false })

/-- The commands of START in their order: CONFIG; SET_LO and SET_GAIN for each active slot; CAL (R106). -/
def startCmds (s : State) (n kind : Nat) : List HeadCmd :=
  let act := (List.range 4).filter fun k => s.bit (SPn_SLOTMASK_ACTIVE n) k
  [⟨kind, OP_CONFIG, 0, 0⟩] ++ act.map (fun k => ⟨kind, OP_SET_LO, k, s.rd (FECn_LOk_FREQ n k)⟩) ++
    act.map (fun k => ⟨kind, OP_SET_GAIN, k, s.rd (FECn_GAIN_GAIN n) >>> (8 * k) % 256⟩) ++ [⟨kind, OP_CAL, 0, 0⟩]

/-- Whether a transition is sending commands (R107). -/
def sending (s : State) (n : Nat) : Bool :=
  let h := s.head n
  !h.queue.isEmpty || h.out.isSome || h.awaitIdle

/-- The commands that an operation sends, with the values that FECn_LOk, FECn_GAIN and FECn_FMT hold as it is written (R106, R108).
[DEDUCED, unsafe: notes/assumptions/32] -/
def opCmds (s : State) (n op page : Nat) : List HeadCmd :=
  let h := s.head n
  if op = K_START then startCmds s n op
  else if op = K_BANDCHG then
    let diff := (List.range 4).filter fun k => s.rd (FECn_LOk_FREQ n k) != h.lo.getD k 0
    [⟨op, OP_CONFIG, 0, 0⟩] ++ diff.map (fun k => ⟨op, OP_SET_LO, k, s.rd (FECn_LOk_FREQ n k)⟩) ++ [⟨op, OP_CAL, 0, 0⟩]
  else if op = K_REFORMAT then
    [⟨op, OP_CONFIG, 0, 0⟩, ⟨op, OP_SET_FORMAT, 0, s.rd (FECn_FMT_FMT n) + 256 * s.rd (FECn_FMT_SLOTRATE n)⟩,
      ⟨op, OP_CAL, 0, 0⟩]
  else if op = K_GAIN then
    let g := fun k => s.rd (FECn_GAIN_GAIN n) >>> (8 * k) % 256
    ((List.range 4).filter fun k => g k != h.gain.getD k 0).map fun k => ⟨op, OP_SET_GAIN, k, g k⟩
  else if op = K_STOP then [⟨op, OP_IDLE, 0, 0⟩]
  else if op = K_TLMPAGE then [⟨op, OP_TLM_PAGE, 0, page⟩]
  else [⟨op, OP_RESET, 0, 0⟩]

/-- The states from which an operation starts (R106). -/
def opFrom (op st : Nat) : Bool :=
  if op = K_START then st == H_IDLE
  else if op = K_BANDCHG ∨ op = K_REFORMAT then st == H_RUN
  else if op = K_GAIN then st == H_RUN || st == H_SETTLE
  else if op = K_RESTART then st == H_FAULT
  else true

/-- An operation is refused with BUSY (R42, R107). -/
def opBusy (s : State) (n op page : Nat) : Bool :=
  !opFrom op (s.headState n) || (sending s n && !(op == K_STOP || op == K_HEADRESET)) ||
    ((op == K_START || op == K_RESTART || op == K_REFORMAT) && !s.flag (SPn_STAT_LINK_UP n)) ||
    (!s.flag (SPn_CTRL_BCEN n) && !(opCmds s n op page).isEmpty)

/-- REFORMAT's check of R108. -/
def reformatFits (s : State) (n : Nat) : Bool :=
  slotsFit (s.rd (FECn_FMT_FMT n)) (s.rd (FECn_FMT_SLOTRATE n)) (s.rd (SPn_SLOTMASK_ACTIVE n)) (s.flag (SPn_CTRL_BAUD n))

/-- A STOP takes the head to IDLE once no other command is outstanding (R106). [DEDUCED, unsafe: notes/assumptions/32] -/
def stopEnters (n : Nat) (s : State) : State :=
  let h := s.head n
  if h.out.isNone && h.queue.any (·.kind == K_STOP) && s.headState n != H_IDLE then headEnter n H_IDLE 0 s else s

/-- A STOP or HEADRESET waits. -/
def stopWaits (s : State) (n : Nat) : Bool := (s.head n).queue.any fun c => c.kind == K_STOP || c.kind == K_HEADRESET

/-- A STOP or HEADRESET of another kind than `op` that waits keeps its place before it. -/
def waitingStops (h : HeadState) (op : Nat) : List HeadCmd :=
  h.queue.filter fun c => (c.kind == K_STOP || c.kind == K_HEADRESET) && c.kind != op

/-- A write of FECn_CMD with operation `op` (R106 to R108).  A RESTART leaves the state FAULT until a header shows MODE = IDLE, and
the head enters CONFIG then. [DEDUCED, unsafe: notes/assumptions/32] -/
def fecOp (n op page : Nat) (s : State) : State :=
  if op = 0 ∨ K_HEADRESET < op then s
  else if opBusy s n op page then s.raise (FECn_STAT_BUSY n)
  else if op = K_REFORMAT ∧ !reformatFits s n then s.raise (FECn_STAT_CFGERR n)
  else if op = K_REFORMAT ∧ s.flag (SPn_SLOTMASK_CHG_PEND n) then s.raise (FECn_STAT_BUSY n)
  else
    let q := opCmds s n op page
    let h := s.head n
    if op = K_STOP ∨ op = K_HEADRESET then stopEnters n (s.setHead n { h with queue := waitingStops h op ++ q, awaitIdle := false })
    else
      let s := s.setHead n { h with queue := h.queue ++ q }
      if op = K_START ∨ op = K_BANDCHG ∨ op = K_REFORMAT then headEnter n H_CONFIG 0 s else s

/-! ### The command channel -/

/-- The command that a back-channel frame of head `n` carries: CSEQ, opcode, slot and argument, with the state after it
(R98, R100, R103); none where the frame carries CSEQ 0. -/
def fecCommand (n : Nat) (s : State) : Option (Nat × HeadCmd) × State :=
  let h := s.head n
  let load := fun (c : HeadCmd) (s : State) =>
    if c.op = OP_SET_FORMAT then (s.wr (SPn_CTRL_FMT n) c.arg).wr (SPn_CTRL_SLOTRATE n) (c.arg / 256) else s
  match h.out with
  | some c =>
    if h.due then
      (some (s.rd (FECn_STAT_CSEQ n), c), load c (s.setHead n { h with due := false, sentAt := s.ticks }))
    else (none, s)
  | none =>
    match h.queue with
    | [] => (none, s)
    | c :: rest =>
      let seq := s.rd (FECn_STAT_CSEQ n) % 255 + 1
      let h := { h with queue := rest, out := some c, due := false, resends := 0, sentAt := s.ticks, lost := false }
      let h := if c.op = OP_SET_LO then { h with lo := h.lo.setIfInBounds c.slot c.arg } else h
      let h := if c.op = OP_SET_GAIN then { h with gain := h.gain.setIfInBounds c.slot c.arg } else h
      (some (seq, c), load c ((s.setHead n h).wr (FECn_STAT_CSEQ n) seq))

/-- The back-channel of a head falls: a command that is outstanding is neither acknowledged nor sent again (R42). -/
def fecLose (n : Nat) (s : State) : State :=
  if (s.head n).out.isSome then s.setHead n { s.head n with due := false, lost := true } else s

/-- What an acknowledgement with ASTAT OK does (R106); a STOP or HEADRESET that waits takes the place of the rest of its
transition. [DEDUCED, unsafe: notes/assumptions/32] -/
def ackEffect (n : Nat) (c : HeadCmd) (s : State) : State :=
  if c.op = OP_IDLE then (if s.headState n = H_IDLE then s else headEnter n H_IDLE 0 s)
  else if c.op = OP_RESET ∧ c.kind ≠ K_RESTART then headEnter n H_IDLE 0 s
  else if stopWaits s n then s
  else if c.op = OP_CAL then (if s.headState n = H_CAL then s else headEnter n H_CAL 0 s)
  else if c.op = OP_RUN ∧ s.headState n = H_SETTLE then headEnter n H_RUN 0 s
  else if c.op = OP_RESET then s.setHead n { s.head n with awaitIdle := true }
  else s

/-- The acknowledgement that a CRC-valid frame brings (R42, R100, R106). -/
def fecAck (n aseq astat : Nat) (s : State) : State :=
  let h := s.head n
  match h.out with
  | none => s
  | some c =>
    if aseq ≠ s.rd (FECn_STAT_CSEQ n) ∨ h.lost then s
    else
      let s := (s.setHead n { h with out := none, due := false }).raise (FECn_STAT_ACK n)
      let s :=
        if astat ≠ 0 then
          let s := s.raise (FECn_STAT_NAK n)
          if c.kind = K_GAIN ∨ c.kind = K_TLMPAGE then s else headFault n FC_NAK s
        else ackEffect n c s
      stopEnters n s

/-- The telemetry registers take the TLM field (R104, R117). -/
def fecTlm (n : Nat) (tlm : List Byte) (s : State) : State :=
  let b := fun i => (tlm.getD i 0).toNat
  let s := s.setReg (FECn_TLM0 n)
    (BitVec.ofNat 48 ((b 3 + 256 * b 4) * 2 ^ 32 + (b 5 + 256 * b 6) * 2 ^ 16 + b 7 * 2 ^ 8 + b 2))
  let s := s.setReg (FECn_TLM1 n) (BitVec.ofNat 48 (b 0 * 2 ^ 40 + b 1 * 2 ^ 32 + ofLE ((tlm.drop 8).take 4)))
  (List.range 8).foldl (fun s k => s.setReg (FECn_PAGEk n k) (BitVec.ofNat 48 (ofLE ((tlm.drop (16 + 6 * k)).take 6)))) s

/-- A header whose CRC passed: telemetry, the transitions of R106 that a header triggers, then the acknowledgement.  MODE = FAULT in
FAULT gives the cause HEADFAULT and leaves a RESTART under way alone.
[DEDUCED, unsafe: notes/assumptions/32] -/
def fecHeader (n mode : Nat) (synlock : Bool) (tlm : List Byte) (s : State) : State :=
  let s := fecTlm n tlm s
  let st := s.headState n
  let h := s.head n
  let stopping := h.queue.any (fun c => c.kind == K_STOP || c.kind == K_HEADRESET) ||
    (match h.out with | some c => c.kind == K_STOP || c.kind == K_HEADRESET | none => false)
  let s :=
    if mode = 5 then (if st = H_FAULT then s.wr (FECn_STAT_FCAUSE n) FC_HEADFAULT else headFault n FC_HEADFAULT s)
    else if st = H_CAL ∧ mode = 3 ∧ synlock then headEnter n H_SETTLE 0 s
    else if (st = H_SETTLE ∨ st = H_RUN) ∧ !synlock ∧ !stopping then
      let keep := h.queue.filter fun c => c.kind == K_GAIN || c.kind == K_TLMPAGE
      headEnter n H_CAL 0 (s.setHead n { h with queue := keep ++ [⟨K_RECAL, OP_CONFIG, 0, 0⟩, ⟨K_RECAL, OP_CAL, 0, 0⟩] })
    else s
  let h := s.head n
  let s :=
    if h.awaitIdle ∧ mode = 0 then
      headEnter n H_CONFIG 0 (s.setHead n { h with awaitIdle := false, queue := h.queue ++ startCmds s n K_RESTART })
    else s
  fecAck n (tlm.getD 0 0).toNat (tlm.getD 1 0).toNat s

/-- The port's link goes up or down (R42, R106). -/
def fecLink (n : Nat) (up : Bool) (s : State) : State :=
  if !up then (if s.headState n = H_IDLE then s else headFault n FC_LINK s)
  else if s.headState n = H_FAULT ∧ s.flag (FECn_CTRL_AUTOREC n) ∧ !sending s n then
    s.setHead n { s.head n with queue := [⟨K_RESTART, OP_RESET, 0, 0⟩] }
  else s

/-- CMDTO frame periods have passed at tick `t` since the outstanding command was sent (R103, R117). -/
def cmdDue (s : State) (n t : Nat) : Bool :=
  let h := s.head n
  h.out.isSome && !h.due && decide (h.sentAt + max (s.rd (FECn_CTRL_CMDTO n)) 1 * frameTicks ≤ t)

/-- The acknowledgement time-out of the outstanding command (R42, R103). -/
def fecTimeout (n : Nat) (s : State) : State :=
  let h := s.head n
  if s.rd (FECn_CTRL_RETRY n) ≤ h.resends then stopEnters n (headFault n FC_NOACK s)
  else s.setHead n { h with due := !h.lost, sentAt := s.ticks, resends := h.resends + 1 }

/-- The frame periods that count in a state of a head have passed at tick `t` (R106). -/
def sinceDue (s : State) (n st periods t : Nat) : Bool :=
  match (s.head n).since with
  | some w => s.headState n == st && decide (w + periods * frameTicks ≤ t)
  | none => false

/-- CALLIM frame periods in CAL; 0 is treated as 1 (R106, R117). -/
def calDue (s : State) (n t : Nat) : Bool :=
  sinceDue s n H_CAL (max (s.rd (FECn_TIMING_CALLIM n)) 1) t

/-- SETTLE frame periods in SETTLE (R106). -/
def settleDue (s : State) (n t : Nat) : Bool := sinceDue s n H_SETTLE (s.rd (FECn_TIMING_SETTLE n)) t

/-- CALLIM frame periods in CAL: CAL once more, with the count restarted, and FAULT the second time (R106). -/
def fecCalLimit (n : Nat) (s : State) : State :=
  let h := s.head n
  if h.calAgain then headFault n FC_CALFAIL s
  else s.setHead n { h with calAgain := true, since := some s.ticks, queue := h.queue ++ [⟨K_CALRETRY, OP_CAL, 0, 0⟩] }

/-- SETTLE frame periods in SETTLE: RUN is sent, unless a STOP or HEADRESET waits (R106). -/
def fecSettled (n : Nat) (s : State) : State :=
  let h := s.head n
  s.setHead n { h with since := none, queue := if stopWaits s n then h.queue else h.queue ++ [⟨K_SETTLE, OP_RUN, 0, 0⟩] }

/-- The oldest held command of a head has waited CALTO frame periods at tick `t`; 0 is treated as 1 (R111, R117). -/
def heldDue (s : State) (n t : Nat) : Bool :=
  match (s.head n).held with
  | x :: _ => decide (x.at_ + max (s.rd (FECn_TIMING_CALTO n)) 1 * frameTicks ≤ t)
  | [] => false

/-- The oldest held command of a head fails (R111). -/
def heldTimeout (n : Nat) (s : State) : State :=
  let h := s.head n
  match h.held with
  | [] => s
  | x :: rest =>
    failHeld n x ((s.setHead n { h with held := rest }).wr (FECn_STAT_HELD n) (s.rd (FECn_STAT_HELD n) - 1))

/-! ### Registers -/

/-- FEC_RUNMAP and FEC_FAULTMAP, and BRT_READYi, as they read (R110, R117, R118). -/
def headMap (s : State) (st : Nat) : Nat :=
  (List.range 32).foldl (fun a n => a + if s.headState n = st then 2 ^ n else 0) 0
def readyMap (s : State) (i : Nat) : Nat :=
  (List.range 32).foldl (fun a j => a + if streamReady s (32 * i + j) then 2 ^ j else 0) 0

/-- The time-outs of a head that are due at a tick (R103, R106, R111). -/
def fecTick (s : State) (n : Nat) : State :=
  let s := if cmdDue s n s.ticks then fecTimeout n s else s
  let s := if calDue s n s.ticks then fecCalLimit n s else s
  let s := if settleDue s n s.ticks then fecSettled n s else s
  (s.head n).held.foldl (fun s _ => if heldDue s n s.ticks then heldTimeout n s else s) s

/-- A write of a FEC register (R107). -/
def fecWrite (a : Nat) (v : Word) (s : State) : State :=
  let n := (a - 0x100A0000) / 0x400
  if n < 32 ∧ a = FECn_CMD n then fecOp n ((FECn_CMD_OP n).of v) ((FECn_CMD_PAGE n).of v) s
  else s.typed a v

/-- Whether the consumer of a route register runs (R114): inputs 0 to 3 are the searches, 4 to 11 Reel's.  A consumer runs on its input
from its start on, while it is HELD, waits or is ARMED too. [DEDUCED, unsafe: notes/assumptions/32] -/
def routeBusy (s : State) (k : Nat) : Bool :=
  if k < 4 then s.rd (SEk_STAT_STATE k) != SE_IDLE
  else within REEL_HELD REEL_RUN (s.rd (REELk_STAT_STATE (k - 4)))

/-- The address of a route register. -/
def routeReg (k : Nat) : Nat := if k < 4 then BRT_SEk k else BRT_REELk (k - 4)

/-- A write of a route register (R114). -/
def routeWrite (k : Nat) (v : Word) (s : State) : State :=
  if routeBusy s k then s.raise BRT_STAT_ROUTE_BUSY else s.typed (routeReg k) v

/-- A write of a BRT register. -/
def brtWrite (a : Nat) (v : Word) (s : State) : State :=
  match (List.range 12).find? fun k => routeReg k == a with
  | some k => routeWrite k v s
  | none => s.typed a v

/-! ### Meanings -/

/-- FEC_START (R106). -/
def execFecStart (port : Port) (s : State) : Host.Outcome State Fault Refusal := done (whenOn (FECn_CMD port) (fecOp port K_START 0) s)

/-- FEC_BANDCHG (R106). -/
def execFecBandchg (port : Port) (s : State) : Host.Outcome State Fault Refusal := done (whenOn (FECn_CMD port) (fecOp port K_BANDCHG 0) s)

/-- FEC_REFORMAT (R108). -/
def execFecReformat (port : Port) (s : State) : Host.Outcome State Fault Refusal := done (whenOn (FECn_CMD port) (fecOp port K_REFORMAT 0) s)

/-- FEC_GAIN (R106). -/
def execFecGain (port : Port) (s : State) : Host.Outcome State Fault Refusal := done (whenOn (FECn_CMD port) (fecOp port K_GAIN 0) s)

/-- FEC_STOP (R106). -/
def execFecStop (port : Port) (s : State) : Host.Outcome State Fault Refusal := done (whenOn (FECn_CMD port) (fecOp port K_STOP 0) s)

/-- FEC_RESTART (R106). -/
def execFecRestart (port : Port) (s : State) : Host.Outcome State Fault Refusal := done (whenOn (FECn_CMD port) (fecOp port K_RESTART 0) s)

/-- FEC_TLMPAGE (R106). -/
def execFecTlmpage (port : Port) (page : Byte) (s : State) : Host.Outcome State Fault Refusal :=
  done (whenOn (FECn_CMD port) (fecOp port K_TLMPAGE page.toNat) s)

/-- FEC_HEADRESET (R106). -/
def execFecHeadreset (port : Port) (s : State) : Host.Outcome State Fault Refusal := done (whenOn (FECn_CMD port) (fecOp port K_HEADRESET 0) s)

/-- BRT_ROUTE_WRITE (R114): inputs 0 to 3 are BRT_SE0 to BRT_SE3, 4 to 11 BRT_REEL0 to BRT_REEL7. -/
def execBrtRouteWrite (input : Fin 12) (value : Word) (s : State) : Host.Outcome State Fault Refusal :=
  done (whenOn (routeReg input) (routeWrite input value) s)

end Sys2Proof.Machine
end

