-- ==== Sys2Proof/Machine/LineCode.lean ====
section
/-!
DEFINITION. The line code of the sample links (R26): the 8b/10b code groups and running disparity of IEEE 802.3 clause 36,
which the manual names and does not print. [PRESUMED, unsafe: notes/assumptions/63]
-/

namespace Sys2Proof.Machine

/-- What a code group carries: a data octet, or one of the link's control octets. -/
structure LineOctet where
  octet : Byte
  control : Bool := false
  deriving DecidableEq, Repr

/-- K28.5, K27.7, K29.7 and the data octet D16.2 of the fill (R26, R31). -/
def K28_5 : LineOctet := ⟨0xBC#8, true⟩
def K27_7 : LineOctet := ⟨0xFB#8, true⟩
def K29_7 : LineOctet := ⟨0xFD#8, true⟩
def D16_2 : LineOctet := ⟨0x50#8, false⟩

/-- The sub-blocks abcdei of D.0 to D.31 that follow a negative running disparity. -/
def sixTable : List Nat :=
  [0b100111, 0b011101, 0b101101, 0b110001, 0b110101, 0b101001, 0b011001, 0b111000,
   0b111001, 0b100101, 0b010101, 0b110100, 0b001101, 0b101100, 0b011100, 0b010111] ++
  [0b011011, 0b100011, 0b010011, 0b110010, 0b001011, 0b101010, 0b011010, 0b111010,
   0b110011, 0b100110, 0b010110, 0b110110, 0b001110, 0b101110, 0b011110, 0b101011]

/-- The sub-blocks fghj of D.x.0 to D.x.7 that follow a negative running disparity. -/
def fourTable : List Nat := [0b1011, 0b1001, 0b0101, 0b1100, 0b1101, 0b1010, 0b0110, 0b1110]

/-- Ones among the lowest `n` bits. -/
def onesIn : Nat → Nat → Nat
  | 0, _ => 0
  | n + 1, v => v % 2 + onesIn n (v / 2)

/-- The running disparity after a sub-block of `2 h` bits: true is positive; `up` and `down` are the balanced sub-blocks that
set it by themselves. -/
def subDisparity (h v up down : Nat) (rd : Bool) : Bool :=
  if h < onesIn (2 * h) v ∨ v = up then true
  else if onesIn (2 * h) v < h ∨ v = down then false
  else rd

/-- The running disparity after a code group. -/
def groupDisparity (g : Nat) (rd : Bool) : Bool :=
  subDisparity 2 (g % 16) 0b0011 0b1100 (subDisparity 3 (g / 16) 0b000111 0b111000 rd)

/-- The sub-block abcdei of octet bits 4 to 0. -/
def sixOf (rd : Bool) (x : Nat) : Nat :=
  let v := sixTable.getD x 0
  if rd ∧ (onesIn 6 v ≠ 3 ∨ x = 7) then 63 - v else v

/-- Whether D.x.7 takes its alternative fghj, so that no run of five equal bits arises. -/
def sevenAlt (rd : Bool) (x : Nat) : Bool := if rd then [11, 13, 14].contains x else [17, 18, 20].contains x

/-- The sub-block fghj of octet bits 7 to 5, after the disparity `rd` that stands behind abcdei. -/
def fourOf (rd : Bool) (x y : Nat) : Nat :=
  let v := if y = 7 ∧ sevenAlt rd x then 0b0111 else fourTable.getD y 0
  if rd ∧ (onesIn 4 v ≠ 2 ∨ y = 3) then 15 - v else v

/-- The code group of an octet, bit a first in bit 9. [PRESUMED, unsafe: notes/assumptions/63] -/
def codeGroup (rd : Bool) (o : LineOctet) : Nat :=
  if o.control then
    let v := if o = K28_5 then 0b0011111010 else if o = K27_7 then 0b1101101000 else 0b1011101000
    if rd then 1023 - v else v
  else
    let x := o.octet.toNat % 32
    let six := sixOf rd x
    six * 16 + fourOf (subDisparity 3 six 0b000111 0b111000 rd) x (o.octet.toNat / 32)

/-- Code groups of octets in their order, and the disparity after them. -/
def encodeLine : Bool → List LineOctet → List (BitVec 10) × Bool
  | rd, [] => ([], rd)
  | rd, o :: t =>
    let g := codeGroup rd o
    let (gs, rd) := encodeLine (groupDisparity g rd) t
    (BitVec.ofNat 10 g :: gs, rd)

/-- The octet bits 4 to 0 that an abcdei stands for, and bits 7 to 5 for an fghj; the code group may still be in error. -/
def fiveFrom (v : Nat) : Nat :=
  (List.range 32).find? (fun x => sixTable.getD x 0 == v || (sixOf true x == v)) |>.getD 0
def threeFrom (x v : Nat) (rd : Bool) : Nat :=
  (List.range 8).find? (fun y => fourOf rd x y == v) |>.getD 0

/-- What a code group carries; none where it is a code error: not in the table, another control code group, or against the
running disparity (R26). -/
def readGroup (rd : Bool) (g : Nat) : Option LineOctet :=
  match [K28_5, K27_7, K29_7].find? (fun k => codeGroup rd k == g) with
  | some k => some k
  | none =>
    let x := fiveFrom (g / 16)
    let y := threeFrom x (g % 16) (subDisparity 3 (g / 16) 0b000111 0b111000 rd)
    let o : LineOctet := ⟨BitVec.ofNat 8 (32 * y + x), false⟩
    if codeGroup rd o = g then some o else none

/-- The octets of code groups in their order, whether each was free of error, and the disparity after them. -/
def decodeLine : Bool → List (BitVec 10) → List (Option LineOctet) × Bool
  | rd, [] => ([], rd)
  | rd, g :: t =>
    let (os, rd') := decodeLine (groupDisparity g.toNat rd) t
    (readGroup rd g.toNat :: os, rd')

/-! ### CRC-16 (R32) -/

/-- One bit of CRC-16/CCITT-FALSE. -/
def crc16Bit (c : BitVec 16) : BitVec 16 := if c.getMsbD 0 then (c <<< 1) ^^^ 0x1021#16 else c <<< 1

/-- One byte, most significant bit first. -/
def crc16Byte (c : BitVec 16) (b : Byte) : BitVec 16 :=
  let c := c ^^^ (b.setWidth 16 <<< 8)
  crc16Bit (crc16Bit (crc16Bit (crc16Bit (crc16Bit (crc16Bit (crc16Bit (crc16Bit c)))))))

/-- CRC-16/CCITT-FALSE of a list of bytes: initial value 0xFFFF, no reflection, no final XOR (R32). -/
def crc16 (l : List Byte) : BitVec 16 := l.foldl crc16Byte 0xFFFF#16

end Sys2Proof.Machine
end

