-- ==== Sys2Proof/Machine/SampleLinks.lean ====
section
/-!
DEFINITION. Sample Links (R25 to R78): the back-channel, receive frames, muting, the elastic buffers, the delay filter,
Slates, the link state, the slot masks and the Clapper.
-/

namespace Sys2Proof.Machine

/-! ### A port -/

/-- The hidden state of a port. -/
def State.port (s : State) (n : Nat) : PortState := s.ports.getD n {}

/-- The state with the hidden state of a port replaced. -/
def State.setPort (s : State) (n : Nat) (p : PortState) : State := { s with ports := s.ports.setIfInBounds n p }

/-- A port decodes: EN is 1, or was written 0 and the frame boundary has not come (R42). -/
def portOn (s : State) (n : Nat) : Bool := s.flag (SPn_CTRL_EN n) || (s.port n).stopping

/-- The fill of a slot (R77). -/
def fillFld (n k : Nat) : Fld :=
  match k with | 0 => SPn_EBFILL_FILL0 n | 1 => SPn_EBFILL_FILL1 n | 2 => SPn_EBFILL_FILL2 n | _ => SPn_EBFILL_FILL3 n

/-- The slip counter of a slot (R75). -/
def slipFld (n k : Nat) : Fld :=
  match k with | 0 => SPn_SLIPCNT_SLOT0 n | 1 => SPn_SLIPCNT_SLOT1 n | 2 => SPn_SLIPCNT_SLOT2 n | _ => SPn_SLIPCNT_SLOT3 n

/-- The counter of a mute priority (R47). -/
def muteFld (n prio : Nat) : Fld :=
  match prio with
  | 1 => SPn_MUTECNT2_MISSING n | 2 => SPn_MUTECNT0_CODE n | 3 => SPn_MUTECNT0_CRC n | 4 => SPn_MUTECNT0_TYPE n
  | 5 => SPn_MUTECNT1_FCNT n | 6 => SPn_MUTECNT1_ECHO n | 7 => SPn_MUTECNT1_STUCK n | _ => SPn_MUTECNT2_DELAY n

/-- A muted frame is counted once (R47). -/
def countMute (n prio : Nat) (s : State) : State :=
  if prio = 0 then s else (s.count (muteFld n prio)).raise (SPn_STAT_MUTE n)

/-! ### The delay filter (R57 to R59) -/

/-- The filter length 2^AVG; 7 is treated as 6 (R76). -/
def filterLen (s : State) (n : Nat) : Nat := 2 ^ min (s.rd (SPn_DLYCFG_AVG n)) 6

/-- The filter restarts: it settles afresh, unless a delay fault is in force (R58, R59).  The run of discarded round trips goes
on: only an accepted one breaks it. -/
def filterRestart (n : Nat) (s : State) : State :=
  if s.flag (SPn_STAT_DELAY_FAULT n) then s
  else (s.setPort n { s.port n with rtts := [] }).raise (SPn_STAT_DLY_SETTLE n)

/-- FILT / 2, truncated, plus ASYM (R59). -/
def owdOf (s : State) (n : Nat) : Int := ((s.rd (SPn_RTT_FILT n) / 2 : Nat) : Int) + s.rdS (SPn_ASYM_ASYM n)

/-- SPn_OWD brought up to FILT and ASYM; in a delay fault it keeps its value (R58, R59). -/
def refreshOwd (n : Nat) (s : State) : State :=
  if s.flag (SPn_STAT_DELAY_FAULT n) then s else s.wrS (SPn_OWD_OWD n) (owdOf s n)

/-- FILT is the mean of the last 2^AVG round trips held, and the filter has settled once it holds as many (R59). -/
def refilter (n : Nat) (s : State) : State :=
  let p := s.port n
  let len := filterLen s n
  let held := p.rtts.take len
  let s := if p.rtts.length < len then s else s.clear (SPn_STAT_DLY_SETTLE n)
  if held.isEmpty then s else s.wrS (SPn_RTT_FILT n) (held.sum.tdiv held.length)

/-- Whether a round trip is accepted: inside SPn_RTTWIN, with a one-way delay that is not negative (R58). -/
def rttOk (s : State) (n : Nat) (r : Int) : Bool :=
  decide ((s.rd (SPn_RTTWIN_MIN n) : Int) ≤ r) && decide (r ≤ s.rd (SPn_RTTWIN_MAX n)) &&
    decide (0 ≤ r.tdiv 2 + s.rdS (SPn_ASYM_ASYM n))

/-- A discarded round trip (R58). -/
def rttDiscard (n : Nat) (s : State) : State :=
  let s := s.raise (SPn_STAT_RTT_RANGE n)
  let p := s.port n
  if s.flag (SPn_STAT_DELAY_FAULT n) then s.setPort n { p with clearing := [] }
  else if p.bad + 1 < max (s.rd (SPn_DLYCFG_FAULTN n)) 1 then s.setPort n { p with bad := p.bad + 1, clearing := [] }
  else
    let s := s.setPort n { p with bad := 0, clearing := [] }
    let s := ((s.raise (SPn_STAT_DELAY_FAULT n)).clear (SPn_STAT_DLY_SETTLE n)).raise (SPn_STAT_DLY_EVT n)
    logUnit 0x41 1 n n s

/-- An accepted round trip (R57 to R59). -/
def rttAccept (n : Nat) (r : Int) (s : State) : State :=
  let s := s.wrS (SPn_RTT_LAST n) r
  let p := s.port n
  if s.flag (SPn_STAT_DELAY_FAULT n) then
    let c := r :: p.clearing
    if c.length < max (s.rd (SPn_DLYCFG_CLEARN n)) 1 then s.setPort n { p with clearing := c, bad := 0 }
    else
      let s := s.setPort n { p with clearing := [], rtts := c.take 64, bad := 0 }
      refreshOwd n (refilter n ((s.clear (SPn_STAT_DELAY_FAULT n)).raise (SPn_STAT_DLY_SETTLE n)))
  else refreshOwd n (refilter n (s.setPort n { p with rtts := (r :: p.rtts).take 64, bad := 0 }))

/-- The round trip of a CRC-valid frame that names marker `mseq`, from its arrival time in 2^-96 s (R57).  The one truncation
to whole fine steps stands at the end, behind TURN's half steps. [DEDUCED, unsafe: notes/assumptions/29] -/
def roundTrip (s : State) (n arr mseq turn : Nat) : Option Int :=
  match (s.port n).markers.find? fun m => m.seq == mseq && decide (m.left ≤ arr) with
  | none => none
  | some m =>
    let d := arr - m.left
    if 2 ^ 96 < d * 4000 then none
    else some ((512 * (d : Int) - 125 * turn * s.rate).tdiv (2 * s.rate : Nat))

/-! ### Slates (R60) -/

/-- A signed number of fine steps in whole 2^-96 s, truncated (R60, R342). -/
def fineOfS (s : State) (k : Int) : Int := (k * s.rate).tdiv 256

/-- The Slate in 2^-48 s of a frame that arrives at `arr` in 2^-96 s: the sum of the delays is converted to whole 2^-96 s, and
the difference truncated (R60). -/
def slateOf (s : State) (n arr : Nat) : Nat :=
  let owd : Int := if s.flag (SPn_STAT_DELAY_FAULT n) then s.rd (SPn_OWD_OWD n) else owdOf s n
  let delay := owd + s.rd (SPn_HEADLAT_HEADLAT n) + s.rd (SPn_CABLE_CABLE n)
  unsigned 96 (((arr : Int) - fineOfS s delay) / (2 ^ 48 : Nat))

/-- 15.625 µs in 2^-96 s. -/
def framePeriod : Nat := 2 ^ 96 / 64000

/-- The FCNT of a frame shown in the port's registers, with the count that the next one must have (R49). -/
def showFcnt (n fcnt : Nat) (s : State) : State := (s.wr (SPn_FCNT_LAST n) fcnt).wr (SPn_FCNT_EXPECT n) (fcnt + 1)

/-- The Slate of a frame shown in the port's registers; outside a recovery it is the one to extrapolate from (R64, R77). -/
def showSlate (n slate96 : Nat) (s : State) : State :=
  let p := s.port n
  let s := s.setPort n { p with slate := slate96, ext := if p.recovering then p.ext + framePeriod else slate96 }
  s.setStamp (SPn_SLATESEC n) (SPn_SLATEFRAC n) (slate96 / 2 ^ 48)

/-- The Slate and the FCNT of a frame shown in the port's registers (R49, R77). -/
def showFrame (n slate96 fcnt : Nat) (s : State) : State := showFcnt n fcnt (showSlate n slate96 s)

/-! ### The elastic buffers (R52 to R56) -/

/-- What a frame boundary does to a slot: a drop, a repeat, or a recentring with the samples to insert (positive) or to
discard (negative). -/
structure Slip where
  drop : Bool := false
  rep : Bool := false
  recentre : Option Int := none
  deriving DecidableEq, Repr

/-- The fill of a slot checked at a frame boundary (R52, R53, R56).  THRESH above 512 is used as written.
[DEDUCED, unsafe: notes/assumptions/29] -/
def checkFill (n k : Nat) (unlocked : Bool) (drift : Int) (s : State) : Slip × State :=
  let p := s.port n
  let rates := s.rd (SPn_CTRL_SLOTRATE n)
  let fresh := p.filled >>> k % 2 == 0 || slotRate rates k != slotRate p.rates k
  let fill : Int := if fresh then 1024 else s.rd (fillFld n k) + (if unlocked then drift else 0)
  let thr : Int := (max (s.rd (SPn_EBCFG_THRESH n)) 1 : Nat)
  if fill ≤ 0 ∨ 2048 ≤ fill then
    let s := ((s.raise (SPn_STAT_EB_ERR n)).raise (SPn_STAT_RESYNC n)).count (SPn_MUTECNT2_RESYNC n)
    ({ recentre := some (1024 - fill) }, s.wr (fillFld n k) 1024)
  else if unlocked ∧ thr < fill - 1024 then
    ({ drop := true }, ((s.wrS (fillFld n k) (fill - 1)).count (slipFld n k)).raise (SPn_STAT_SLIP n))
  else if unlocked ∧ thr < 1024 - fill then
    ({ rep := true }, ((s.wrS (fillFld n k) (fill + 1)).count (slipFld n k)).raise (SPn_STAT_SLIP n))
  else ({}, s.wrS (fillFld n k) fill)

/-- Whether a slot is in the active mask. -/
def slotActive (s : State) (n k : Nat) : Bool := s.bit (SPn_SLOTMASK_ACTIVE n) k

/-- The fills of the four slots checked; a slot outside the mask has none. -/
def checkFills (n : Nat) (unlocked : Bool) (drift : List Int) (s : State) : List Slip × State :=
  (List.range 4).foldl (fun (acc : List Slip × State) k =>
    if slotActive acc.2 n k then
      let (x, s) := checkFill n k unlocked (drift.getD k 0) acc.2
      (acc.1 ++ [x], s)
    else (acc.1 ++ [({} : Slip)], acc.2)) ([], s)

/-! ### Delivery -/

/-- An item handed to a conditioner. -/
def handOver (n : Nat) (x : StreamItem) (s : State) : State :=
  let st := s.stream n
  s.setStream n { st with input := st.input ++ [x] }

/-- The index of the first sample at or after `tc` in a frame with Slate `slate` (R68). -/
def firstFrom (fs slate tc : Nat) : Nat := if tc ≤ slate then 0 else ((tc - slate) * fs + 2 ^ 48 - 1) / 2 ^ 48

/-- A slot's frame, and the samples still to be discarded after it (R46, R48, R53, R64, R70). -/
def slotFrame (n k : Nat) (tag : Tag) (mode : Option Nat) (area : List Byte) (sl : Slip) (s : State) : StreamFrame × Nat :=
  let rate := slotRate (s.rd (SPn_CTRL_SLOTRATE n)) k
  let nom := frameSamples rate
  let insert := match sl.recentre with | some z => z.toNat | none => 0
  let debt := (s.port n).skip.getD k 0 + (match sl.recentre with | some z => (-z).toNat | none => 0)
  let drop := min debt nom
  let tag := { tag with
    nsamp := nom + (if sl.rep then 1 else 0) + insert - (if sl.drop then 1 else 0) - drop,
    drop := sl.drop, rep := sl.rep, resync := tag.resync || sl.recentre.isSome }
  (⟨tag, mode, rate, s.rd (SPn_CTRL_FMT n), area, insert, drop⟩, debt - drop)

/-- The frames of a list that belong to other slots. -/
def otherSlots (k : Nat) (l : List (Nat × StreamFrame)) : List (Nat × StreamFrame) := l.filter fun h => h.1 != k

/-- A slot that delivers stops: its consumers are told the cause, 2 NOSTREAM, 3 RATECHG or 4 CLAPHOLD (R144). -/
def endSlot (n k cause : Nat) (s : State) : State :=
  let p := s.port n
  if p.live >>> k % 2 = 1 then
    handOver (4 * n + k) (.ends cause) (s.setPort n { p with live := p.live - 1 <<< k, handFrames := otherSlots k p.handFrames })
  else s

/-- A frame goes to the conditioner of its slot. -/
def sendSlot (n k : Nat) (f : StreamFrame) (s : State) : State :=
  let p := s.port n
  handOver (4 * n + k) (.frame f) (s.setPort n { p with
    live := p.live ||| 1 <<< k, handFrames := otherSlots k p.handFrames ++ [(k, { f with area := [] })] })

/-- The lowest-numbered active slot. -/
def lowestSlot (s : State) (n : Nat) : Option Nat := (List.range 4).find? (slotActive s n)

/-- The index of the first sample at or after Tc that the buffer delivers from a frame: a dropped or discarded sample is not one, and
a repeated copy or an inserted zero before the frame lies before Tc (R68, R70). -/
def clapFirst (tc : Nat) (f : StreamFrame) : Nat :=
  max (firstFrom (61440000 >>> f.rate) f.tag.slate tc) (f.discard + if f.tag.drop then 1 else 0)

/-- A frame holds such a sample. -/
def clapLies (tc : Nat) (f : StreamFrame) : Bool := decide (clapFirst tc f < frameSamples f.rate)

/-- CLAPRES shows the first sample's time minus Tc for the lowest-numbered active slot, truncated to whole fine steps (R68).
[DEDUCED, unsafe: notes/assumptions/29] -/
def clapShow (n k tc : Nat) (f : StreamFrame) (s : State) : State :=
  let fs := 61440000 >>> f.rate
  let late := f.tag.slate * fs + clapFirst tc f * 2 ^ 48 - tc * fs
  if lowestSlot s n = some k then s.wr (SPn_CLAPRES_RES n) (late * 2 ^ 48 * 256 / (fs * s.rate)) else s

/-- A slot begins after a Clapper with the first sample at or after Tc, where the frame holds it (R68).
[DEDUCED, unsafe: notes/assumptions/29] -/
def clapBegin (n k tc : Nat) (f : StreamFrame) (s : State) : State :=
  if !clapLies tc f then s
  else
    let first := clapFirst tc f
    let s := clapShow n k tc f s
    let s := s.setPort n { s.port n with clapSlots := (s.port n).clapSlots - 1 <<< k }
    sendSlot n k { f with tag := { f.tag with nsamp := frameSamples f.rate - first, clapStart := some first } } s

/-- One frame of a slot: held by a Clapper (R67), the first after one (R68), the first of a new rate (R144), or delivered
as it is. [DEDUCED, unsafe: notes/assumptions/29] -/
def deliverSlot (n k : Nat) (tag : Tag) (mode : Option Nat) (area : List Byte) (sl : Slip) (s : State) : State :=
  let (f, left) := slotFrame n k tag mode area sl s
  let p := s.port n
  let s := s.setPort n { p with skip := p.skip.setIfInBounds k left }
  if s.flag (SPn_STAT_CLAP_HELD n) then
    let s := endSlot n k 4 s
    s.setPort n { s.port n with heldFrames := otherSlots k (s.port n).heldFrames ++ [(k, f)] }
  else if p.clapSlots >>> k % 2 = 1 then (match p.clapAt with | some tc => clapBegin n k tc f s | none => s)
  else sendSlot n k f (if slotRate p.rates k = f.rate then s else endSlot n k 3 s)

/-- The section of a slot in the sample area (R39). -/
def section_ (s : State) (n k : Nat) (area : List Byte) : List Byte :=
  let fmt := s.rd (SPn_CTRL_FMT n)
  let rates := s.rd (SPn_CTRL_SLOTRATE n)
  let act := s.rd (SPn_SLOTMASK_ACTIVE n)
  let off := areaBits fmt rates (act % 2 ^ k) / 8
  (area.drop off).take (areaBits fmt rates (act % 2 ^ (k + 1)) / 8 - off)

/-- A frame delivered on every active stream. -/
def deliver (n : Nat) (tag : Tag) (mode : Option Nat) (area : List Byte) (slips : List Slip) (s : State) : State :=
  let s := (List.range 4).foldl (fun s k =>
    if slotActive s n k then
      deliverSlot n k tag mode (if tag.mute = 0 then section_ s n k area else []) (slips.getD k {}) s
    else s) s
  s.setPort n { s.port n with rates := s.rd (SPn_CTRL_SLOTRATE n), filled := s.rd (SPn_SLOTMASK_ACTIVE n) }

/-! ### Link state and the end of a port's streams -/

/-- The slots of a mask deliver no more: their streams end with NOSTREAM (R46, R144). -/
def endSlots (n mask : Nat) (s : State) : State :=
  let p := s.port n
  let gone := fun (k : Nat) => mask >>> k % 2 = 1
  let s := s.setPort n { p with
    skip := p.skip.mapIdx fun k x => if gone k then 0 else x, heldFrames := p.heldFrames.filter fun h => !decide (gone h.1) }
  (List.range 4).foldl (fun s k => if gone k then endSlot n k 2 s else s) s

/-- A disabled port stops decoding (R42). -/
def portStop (n : Nat) (s : State) : State :=
  let s := endSlots n 15 s
  let s := s.clear (SPn_SLOTMASK_CHG_PEND n)
  let s := s.setPort n { s.port n with
    stopping := false, recovering := false, hunt := 0, missing := 0, clapAt := none, clapSlots := 0, maskAt := none }
  if s.flag (SPn_STAT_LINK_UP n) then fecLink n false (s.clear (SPn_STAT_LINK_UP n)) else s

/-- A frame boundary: a port that stops does so here, and takes no further frame (R42).
[DEDUCED, unsafe: notes/assumptions/29] -/
def atBoundary (n : Nat) (next : State → State) (s : State) : State := if (s.port n).stopping then portStop n s else next s

/-- The link goes down after the fourth missing frame (R59, R63). -/
def linkDown (n : Nat) (s : State) : State :=
  let s := (s.clear (SPn_STAT_LINK_UP n)).raise (SPn_STAT_LINK_DOWN n)
  let s := logUnit 0x40 1 n n s
  let s := s.setPort n { s.port n with missing := 0, hunt := 0, recovering := true }
  fecLink n false (filterRestart n s)

/-- The link comes up (R63). -/
def linkUp (n : Nat) (s : State) : State :=
  fecLink n true ((s.setPort n { s.port n with hunt := 0, missing := 0 }).raise (SPn_STAT_LINK_UP n))

/-! ### Receive frames -/

/-- Code groups of a frame at the port's baud rate (R28). -/
def frameGroups (s : State) (n : Nat) : Nat := if s.flag (SPn_CTRL_BAUD n) then 3840 else 1920

/-- A receive frame as the port reads it from its code groups (R31). -/
structure LineFrame where
  /-- Code groups 2 to 79. -/
  header : List Byte
  crc : BitVec 16
  /-- The sample area, from code group 96. -/
  area : List Byte
  tfcnt : Byte
  /-- Code groups 0 and 1 are the SOF pair. -/
  sof : Bool
  codeErr : Bool
  drift : List Int

/-- The octet that a code group is taken for; zero where it is a code error. -/
def octetOf (o : Option LineOctet) : Byte := match o with | some x => x.octet | none => 0

/-- A frame decoded at the port's baud rate, with the running disparity after it.  A frame that does not follow on one received
takes the disparity of its first code group. [DEDUCED, unsafe: notes/assumptions/28] -/
def rxLine (s : State) (n : Nat) (f : RxFrame) : LineFrame × Bool :=
  let len := frameGroups s n
  let gs := f.groups.take len
  let fresh := gs.head? == some (BitVec.ofNat 10 (codeGroup true K28_5))
  let rd0 := match (s.port n).rxRd with | some rd => if f.inPlace then rd else fresh | none => fresh
  let (os, rd) := decodeLine rd0 gs
  let bs := os.map octetOf
  ({ header := (bs.drop 2).take 78, crc := (bs.getD 80 0).setWidth 16 <<< 8 ||| (bs.getD 81 0).setWidth 16,
     area := (bs.drop 96).take (len * 3 / 4), tfcnt := bs.getD (len - 1) 0,
     sof := os.take 2 == [some K28_5, some K27_7],
     codeErr := decide (gs.length < len) || os.any (·.isNone), drift := f.drift }, rd)

/-- A byte of the header by its code group (R31). -/
def rxByte (f : LineFrame) (i : Nat) : Nat := (f.header.getD (i - 2) 0).toNat

/-- The CRC of the frame passes (R31, R32). -/
def rxCrcOk (f : LineFrame) : Bool := crc16 f.header == f.crc

/-- FCNT as received. -/
def rxFcnt (f : LineFrame) : Nat := rxByte f 2 + 256 * rxByte f 3

/-- The mask switches at the first frame that echoes the pending one (R44); PENDING keeps its value.
[DEDUCED, unsafe: notes/assumptions/29] -/
def maskSwitch (n echo : Nat) (s : State) : State :=
  if s.flag (SPn_SLOTMASK_CHG_PEND n) && echo == s.rd (SPn_SLOTMASK_PENDING n) then
    let gone := s.rd (SPn_SLOTMASK_ACTIVE n) &&& (15 - echo)
    let s := s.setPort n { s.port n with maskAt := none }
    endSlots n gone ((s.wr (SPn_SLOTMASK_ACTIVE n) echo).clear (SPn_SLOTMASK_CHG_PEND n))
  else s

/-- A header whose CRC passed: the header registers, the round trip, the mask and FEC take it (R49, R51, R57). -/
def useHeader (n arr : Nat) (f : LineFrame) (s : State) : State :=
  let s := s.setReg (SPn_HDR n) (BitVec.ofNat 48
    (rxByte f 4 * 2 ^ 40 + rxByte f 5 * 2 ^ 32 + rxByte f 6 * 2 ^ 24 + rxByte f 10 * 2 ^ 16 + rxByte f 11 * 2 ^ 8 + rxByte f 12))
  let s := s.put (SPn_STAT_HEAD_LOCK n) (decide (128 ≤ rxByte f 6))
  let s :=
    if rxByte f 10 % 2 = 1 then
      match roundTrip s n arr (rxByte f 7) (rxByte f 8 + 256 * rxByte f 9) with
      | none => s
      | some r => if rttOk s n r then rttAccept n r s else rttDiscard n s
    else s
  let s := maskSwitch n (rxByte f 5 % 16) s
  fecHeader n (rxByte f 6 % 8) (decide (64 ≤ rxByte f 6 % 128)) (f.header.drop 14) s

/-- Ones of the I rail (true) or the Q rail of a D1 section (R40). -/
def railOnes (i : Bool) (area : List Byte) : Nat :=
  area.foldl (fun a b =>
    let v := b.toNat
    let v := if i then v / 2 else v
    a + v % 2 + v / 4 % 2 + v / 16 % 2 + v / 64 % 2) 0

/-- A D1 rail is stuck (R50). -/
def railStuck (ones total : Nat) : Bool := decide (1000 * ones < total) || decide (999 * total < 1000 * ones)

/-- Either rail of slot 0 is stuck. -/
def stuck (s : State) (n : Nat) (f : LineFrame) : Bool :=
  let total := 12 * frameSamples (slotRate (s.rd (SPn_CTRL_SLOTRATE n)) 0)
  let sec := section_ s n 0 f.area
  s.rd (SPn_CTRL_FMT n) == 0 && slotActive s n 0 && (railStuck (railOnes true sec) total || railStuck (railOnes false sec) total)

/-- The priority under which a frame is muted; 0 where it is not (R47). -/
def mutePriority (s : State) (n : Nat) (ebErr : Bool) (f : LineFrame) : Nat :=
  if f.codeErr || f.tfcnt.toNat != rxByte f 2 || ebErr then 2
  else if !rxCrcOk f then 3
  else if rxByte f 4 ≠ 1 then 4
  else if rxFcnt f ≠ s.rd (SPn_FCNT_EXPECT n) then 5
  else if rxByte f 5 % 16 ≠ s.rd (SPn_SLOTMASK_ACTIVE n) ∨ rxByte f 11 ≠ s.rd (SPn_CTRL_SLOTRATE n) ∨
      rxByte f 12 % 4 ≠ s.rd (SPn_CTRL_FMT n) then 6
  else if stuck s n f then 7
  else if s.flag (SPn_STAT_DELAY_FAULT n) || s.flag (SPn_STAT_DLY_SETTLE n) then 8
  else 0

/-- The samples by which a recovered stream rejoins its true times: the difference of the Slates in samples, to the
nearest (R64). -/
def rejoin (fs : Nat) (slate96 extrapolated : Nat) : Int :=
  (2 * ((slate96 : Int) - extrapolated) * fs + 2 ^ 96) / (2 ^ 97 : Nat)

/-- The first good frame of a recovery (R64). -/
def recoverFrame (n slate : Nat) (f : LineFrame) (s : State) : State :=
  let p := s.port n
  let ext := p.ext + framePeriod
  let s := s.setPort n { p with recovering := false }
  let s := (s.raise (SPn_STAT_RESYNC n)).count (SPn_MUTECNT2_RESYNC n)
  let s := (List.range 4).foldl (fun s k => if slotActive s n k then s.wr (fillFld n k) 1024 else s) s
  let s := showFrame n (slate * 2 ^ 48) (rxFcnt f) s
  let slips := (List.range 4).map fun k =>
    ({ recentre := some (rejoin (61440000 >>> slotRate (s.rd (SPn_CTRL_SLOTRATE n)) k) (slate * 2 ^ 48) ext) } : Slip)
  let tag : Tag := { slate := slate, fcnt := rxFcnt f, nsamp := 0, resync := true, free := !s.flag (SPn_STAT_HEAD_LOCK n) }
  deliver n tag (some (rxByte f 6 % 8)) f.area slips s

/-- A frame of a link that is up: the checks of R47, the slips of R53 and the delivery of R70.
[DEDUCED, unsafe: notes/assumptions/28] -/
def takeFrame (n slate : Nat) (unlocked : Bool) (f : LineFrame) (s : State) : State :=
  let (slips, s) := checkFills n unlocked f.drift s
  let prio := mutePriority s n (slips.any fun x => x.recentre.isSome) f
  let fcnt := if rxCrcOk f then rxFcnt f else s.rd (SPn_FCNT_EXPECT n)
  let s := showFrame n (slate * 2 ^ 48) fcnt (countMute n prio s)
  let tag : Tag := { slate := slate, fcnt := fcnt, nsamp := 0, mute := prio, free := !s.flag (SPn_STAT_HEAD_LOCK n) }
  deliver n tag (if rxCrcOk f then some (rxByte f 6 % 8) else none) f.area slips s

/-- A frame whose SOF pair stands where it is expected, on a link that is up (R47 to R64).  The first good frame of a recovery
rejoins the true times; one before it is taken like any other, and muted by what makes it no good one.
[DEDUCED, unsafe: notes/assumptions/28] -/
def rxInPlace (n arr : Nat) (f : LineFrame) (s : State) : State :=
  let s := s.setPort n { s.port n with missing := 0 }
  let slate := slateOf s n arr
  let unlocked := !s.flag (SPn_STAT_HEAD_LOCK n)
  let s := if rxCrcOk f then useHeader n arr f s else s
  if (s.port n).recovering && mutePriority s n false f == 0 then recoverFrame n slate f s else takeFrame n slate unlocked f s

/-- A frame of a port that hunts: with the eighth in place whose CRC passes the link is up.  Every header whose CRC passes is
used, FCNT among its fields (R49, R63). [DEDUCED, unsafe: notes/assumptions/28] -/
def huntFrame (n arr : Nat) (inPlace : Bool) (f : LineFrame) (s : State) : State :=
  if !rxCrcOk f then s.setPort n { s.port n with hunt := 0 }
  else
    let h := if inPlace then (s.port n).hunt + 1 else 1
    let s := s.setPort n { s.port n with hunt := h }
    if 8 ≤ h then rxInPlace n arr f (linkUp n s) else useHeader n arr f (showFcnt n (rxFcnt f) s)

/-- A muted frame in place of one that is missing (R48, R60, R63).  Its Slate keeps the fraction below 2^-48 s of the one before
it. [DEDUCED, unsafe: notes/assumptions/28] -/
def missingFrame (n : Nat) (s : State) : State :=
  let (slips, s) := checkFills n (!s.flag (SPn_STAT_HEAD_LOCK n)) [] s
  let fcnt := s.rd (SPn_FCNT_EXPECT n)
  let slate := (s.port n).slate + framePeriod
  let s := showFrame n slate fcnt (countMute n 1 s)
  deliver n { slate := slate / 2 ^ 48, fcnt := fcnt, nsamp := 0, mute := 1, free := !s.flag (SPn_STAT_HEAD_LOCK n) }
    none [] slips s

/-- A frame period of a link that is up has no SOF pair at the expected position (R63). -/
def missFrame (n : Nat) (s : State) : State :=
  let s := missingFrame n s
  let m := (s.port n).missing + 1
  let s := s.setPort n { s.port n with missing := m, rxRd := none }
  if 4 ≤ m then linkDown n s else s

/-- No SOF pair at the expected position (R63).  A port that hunts keeps its run: the next frame is then not in place.
[DEDUCED, unsafe: notes/assumptions/29] -/
def frameMissing (n : Nat) (s : State) : State :=
  if !portOn s n || !s.flag (SPn_STAT_LINK_UP n) then s else atBoundary n (missFrame n) s

/-- A complete receive frame, from its arrival (R47 to R64); one without its SOF pair is none.
[DEDUCED, unsafe: notes/assumptions/28] -/
def rxFrame (n : Nat) (f : RxFrame) (s : State) : State :=
  if !portOn s n then s
  else
    let (l, rd) := rxLine s n f
    if !l.sof then (if f.inPlace then frameMissing n s else s)
    else
      let arr := s.tb.now + s.fineOf f.sub
      let up := s.flag (SPn_STAT_LINK_UP n)
      if up && !f.inPlace then s
      else
        let s := refreshOwd n (s.setPort n { s.port n with rxRd := some rd })
        if up then atBoundary n (rxInPlace n arr l) s else huntFrame n arr f.inPlace l s

/-- A frame period of a link that is down: a muted frame is delivered (R64).  While the port receives frames that count toward the
link, their FCNT stands in the registers. [DEDUCED, unsafe: notes/assumptions/28] -/
def downFrame (n : Nat) (s : State) : State :=
  let last := s.reg (SPn_FCNT n)
  let hunting := decide (0 < (s.port n).hunt)
  let s := missingFrame n s
  if hunting then s.setReg (SPn_FCNT n) last else s

/-- A frame period of a link that has gone down and is not up again (R64). -/
def linkDownFrame (n : Nat) (s : State) : State :=
  if portOn s n && (s.port n).recovering && !s.flag (SPn_STAT_LINK_UP n) then atBoundary n (downFrame n) s else s

/-! ### The back-channel -/

/-- The octets of a back-channel frame from those of its code groups 2 to 73, `len` in all (R34). -/
def bcOctets (len bcnt : Nat) (body : List Byte) : List LineOctet :=
  [K28_5, K27_7] ++ body.map (⟨·, false⟩) ++ (List.replicate ((len - 76) / 2) [K28_5, D16_2]).flatten ++
    [K29_7, ⟨BitVec.ofNat 8 bcnt, false⟩]

/-- A back-channel frame leaves at its marker instant (R29, R34, R35, R98). -/
def bcFrame (n : Nat) (s : State) : State :=
  if !s.flag (SPn_CTRL_BCEN n) then s
  else
    let (cmd, s) := fecCommand n s
    let p := s.port n
    let req := if s.flag (SPn_SLOTMASK_CHG_PEND n) then s.rd (SPn_SLOTMASK_PENDING n) else s.rd (SPn_SLOTMASK_ACTIVE n)
    let c := match cmd with
      | none => List.replicate 64 (0 : Byte)
      | some (q, c) => toLE 1 q ++ toLE 1 c.op ++ toLE 1 c.slot ++ toLE 8 c.arg ++ List.replicate 53 0
    let body := toLE 1 p.mseq ++ toLE 2 p.bcnt ++ toLE 1 req ++ toLE 1 (s.rd (SPn_CTRL_SLOTRATE n)) ++
      toLE 1 (s.rd (SPn_CTRL_FMT n)) ++ c
    let (groups, rd) := encodeLine p.txRd (bcOctets (frameGroups s n) p.bcnt (body ++ toBE 2 (crc16 body).toNat))
    s.setPort n { p with
      mseq := (p.mseq + 1) % 256, bcnt := (p.bcnt + 1) % 65536, sent := groups, txRd := rd,
      markers := (⟨p.mseq, s.tb.now⟩ :: p.markers).take 256 }

/-- The number of the frame period that stands at a time-base value, by the grid of a port's OFS (R29). -/
def markerIndex (ofs now : Nat) : Nat := (now * 600000000 / 2 ^ 96 + 9375 - ofs % 9375) / 9375

/-- A marker of a port leaves at the tick that takes the time base from `before` to `now`: the first at or after its instant (R29,
R320). -/
def markerDue (s : State) (n before now : Nat) : Bool :=
  s.flag (SPn_CTRL_BCEN n) && markerIndex (s.rd (SPn_BCOFS_OFS n)) before != markerIndex (s.rd (SPn_BCOFS_OFS n)) now

/-! ### Control -/

/-- The port is enabled: it hunts, with the filter settling and the fills at 1,024 (R52, R59, R63).  A port that still decodes to
its frame boundary stops first. [DEDUCED, unsafe: notes/assumptions/29] -/
def portEnable (n : Nat) (s : State) : State :=
  let s := if (s.port n).stopping then portStop n s else s
  let s := s.setPort n { s.port n with
    hunt := 0, missing := 0, recovering := false, rxRd := none, live := 0, filled := 0, skip := Vector.replicate 4 0, heldFrames := [],
    handFrames := [] }
  let s := (List.range 4).foldl (fun s k => s.wr (fillFld n k) 1024) s
  filterRestart n (s.raise (SPn_CTRL_EN n))

/-- SPn_CTRL.EN is written 0 (R42). -/
def portDisable (n : Nat) (s : State) : State :=
  let s := s.clear (SPn_CTRL_EN n)
  if s.flag (SPn_STAT_LINK_UP n) || (s.port n).recovering then s.setPort n { s.port n with stopping := true }
  else portStop n s

/-- SPn_CTRL.EN is written 1 (R38). -/
def spEnable (n : Nat) (s : State) : State :=
  if s.flag (SPn_CTRL_EN n) then s
  else if slotsFit (s.rd (SPn_CTRL_FMT n)) (s.rd (SPn_CTRL_SLOTRATE n)) (s.rd (SPn_SLOTMASK_ACTIVE n))
      (s.flag (SPn_CTRL_BAUD n)) then portEnable n s
  else s.raise (SPn_STAT_CFGERR n)

/-- SPn_CTRL.EN is written 0. [DEDUCED, unsafe: notes/assumptions/29] -/
def spDisable (n : Nat) (s : State) : State := if s.flag (SPn_CTRL_EN n) then portDisable n s else s

/-- Whether a write of SPn_CTRL would change FMT, SLOTRATE or BAUD (R41). -/
def changesFormat (s : State) (n : Nat) (v : Word) : Bool :=
  (SPn_CTRL_FMT n).of v != s.rd (SPn_CTRL_FMT n) || (SPn_CTRL_SLOTRATE n).of v != s.rd (SPn_CTRL_SLOTRATE n) ||
    (SPn_CTRL_BAUD n).of v != s.rd (SPn_CTRL_BAUD n)

/-- BCEN falls: no back-channel frame follows the one in progress, and a head command that is outstanding is lost (R42). -/
def bcenFall (n : Nat) (s : State) : State :=
  if s.flag (SPn_CTRL_BCEN n) then fecLose n (s.clear (SPn_CTRL_BCEN n)) else s

/-- A write of SPn_CTRL (R38, R41, R42).  Where EN fails the check of R37, the other fields are stored and EN stays 0.  Between a
write of EN = 0 and its frame boundary EN counts as 0 for R41: a change of FMT, SLOTRATE or BAUD is taken.
[DEDUCED, unsafe: notes/assumptions/29] -/
def spCtrlWrite (n : Nat) (v : Word) (s : State) : State :=
  if changesFormat s n v && (s.flag (SPn_CTRL_EN n) || s.flag (SPn_CTRL_BCEN n)) then s.raise (SPn_STAT_CFGERR n)
  else
    let en := s.rd (SPn_CTRL_EN n)
    let s := if (SPn_CTRL_BCEN n).of v = 0 then bcenFall n s else s
    let s := (s.typed (SPn_CTRL n) v).wr (SPn_CTRL_EN n) en
    if (SPn_CTRL_EN n).of v = 1 then spEnable n s else spDisable n s

/-- A write of SPn_SLOTMASK.MASK (R38, R43, R45).  EN is 1 in its effect until the frame boundary of R42.  A write while a change
is pending sets MASK_BUSY and is not checked. [DEDUCED, unsafe: notes/assumptions/29] -/
def maskWrite (n m : Nat) (s : State) : State :=
  let en := portOn s n
  if en && s.flag (SPn_SLOTMASK_CHG_PEND n) then s.raise (SPn_STAT_MASK_BUSY n)
  else if !slotsFit (s.rd (SPn_CTRL_FMT n)) (s.rd (SPn_CTRL_SLOTRATE n)) m (s.flag (SPn_CTRL_BAUD n)) then
    s.raise (SPn_STAT_CFGERR n)
  else
    let s := s.wr (SPn_SLOTMASK_MASK n) m
    if en then
      ((s.wr (SPn_SLOTMASK_PENDING n) m).raise (SPn_SLOTMASK_CHG_PEND n)).setPort n { s.port n with maskAt := some s.ticks }
    else s.wr (SPn_SLOTMASK_ACTIVE n) m

/-- MASKTO frame periods since the write have passed at tick `t`; 0 is treated as 1 (R45, R72). -/
def maskDue (s : State) (n t : Nat) : Bool :=
  match (s.port n).maskAt with
  | some w => decide (w + max (s.rd (SPn_CTRL_MASKTO n)) 1 * frameTicks ≤ t)
  | none => false

/-- No frame has echoed the pending mask in time (R45). -/
def maskTimeout (n : Nat) (s : State) : State :=
  ((s.clear (SPn_SLOTMASK_CHG_PEND n)).raise (SPn_STAT_MASK_FAIL n)).setPort n { s.port n with maskAt := none }

/-- A write of SPn_BCOFS (R77). -/
def bcofsWrite (n : Nat) (v : Word) (s : State) : State :=
  if 9375 ≤ (SPn_BCOFS_OFS n).of v ∨ s.flag (SPn_CTRL_BCEN n) then s.raise (SPn_STAT_CFGERR n)
  else s.typed (SPn_BCOFS n) v

/-! ### The Clapper -/

/-- The ports that a Clapper holds are exactly those of a set (R67, R69). -/
def holdPorts (mask : Nat) (s : State) : State :=
  (List.range 32).foldl (fun s n =>
    if mask >>> n % 2 = 1 then
      (s.raise (SPn_STAT_CLAP_HELD n)).setPort n { s.port n with clapAt := none, clapSlots := 0 }
    else (s.clear (SPn_STAT_CLAP_HELD n)).setPort n { s.port n with heldFrames := [] }) s

/-- The slots of a port that deliver still and whose last frame holds Tc: the arming has not stopped them at a boundary, and they
deliver the first sample at or after Tc as they are (R67, R68). -/
def clapGoing (s : State) (tc n : Nat) : List (Nat × StreamFrame) := (s.port n).handFrames.filter fun h => clapLies tc h.2

/-- A port begins at Tc: the frame in hand is delivered from Tc on where it holds Tc (R68).  Of the slots that the arming has not
held at a boundary, those whose last frame holds Tc go on, and the others end here. [DEDUCED, unsafe: notes/assumptions/29] -/
def clapRelease (tc n : Nat) (s : State) : State :=
  let held := (s.port n).heldFrames
  let going := clapGoing s tc n
  let goes := fun (k : Nat) => going.any fun h => h.1 == k
  let s := (List.range 4).foldl (fun s k => if goes k then s else endSlot n k 4 s) s
  let waits := ((List.range 4).filter fun k => slotActive s n k && !goes k).foldl (fun a k => a + 2 ^ k) 0
  let s := (s.clear (SPn_STAT_CLAP_HELD n)).setPort n { s.port n with clapAt := some tc, clapSlots := waits, heldFrames := [] }
  let s := going.foldl (fun s h => clapShow n h.1 tc h.2 s) s
  held.foldl (fun s h => if slotActive s n h.1 then clapBegin n h.1 tc h.2 s else s) s

/-- ARM (R66). -/
def clapArm (s : State) : State :=
  let tc := s.stamp SP_CLAPSEC SP_CLAPFRAC
  if s.clapper.isSome then s.raise SP_CLAPSTAT_BUSY
  else if tc * 2 ^ 48 < s.tb.now + s.ticksOf 8 then s.raise SP_CLAPSTAT_PAST
  else
    let ports := s.rd SP_CLAPMASK_PORTS
    holdPorts ports ({ s with clapper := some ⟨tc, ports⟩ }.raise SP_CLAPSTAT_ARMED)

/-- The armed Clapper is cancelled; its ports are still held (R69). -/
def clapCancel (s : State) : State := { s with clapper := none }.clear SP_CLAPSTAT_ARMED

/-- DISARM (R69). -/
def clapDisarm (s : State) : State := holdPorts 0 (clapCancel s)

/-- DISARM and ARM in one write: ports of both sets stay held without a break, and a refused arming releases all (R69). -/
def clapRearm (s : State) : State :=
  let s := clapArm (clapCancel s)
  if s.clapper.isSome then s else holdPorts 0 s

/-- A write of SP_CLAPCTRL: DISARM, then ARM (R69). -/
def clapCtrl (v : Word) (s : State) : State :=
  if SP_CLAPCTRL_DISARM.of v = 1 then (if SP_CLAPCTRL_ARM.of v = 1 then clapRearm s else clapDisarm s)
  else if SP_CLAPCTRL_ARM.of v = 1 then clapArm s
  else s

/-- An armed Clapper's Tc is reached at a time-base value (R68, R320). -/
def clapDue (s : State) (now : Nat) : Bool := match s.clapper with | some c => decide (c.tc * 2 ^ 48 ≤ now) | none => false

/-- The time base reaches Tc (R68, R69). -/
def clapFire (s : State) : State :=
  match s.clapper with
  | none => s
  | some c =>
    let ports := (List.range 32).filter fun n => c.ports >>> n % 2 == 1
    let ready := fun (s : State) n => s.flag (SPn_STAT_LINK_UP n) && !s.flag (SPn_STAT_DELAY_FAULT n)
    let miss := (ports.filter fun n => !ready s n).foldl (fun a n => a + 2 ^ n) 0
    let s := (({ s with clapper := none }.clear SP_CLAPSTAT_ARMED).raise SP_CLAPSTAT_FIRED).wr SP_CLAPMISS_PORTS miss
    reelClapper c.tc ((ports.filter (ready s)).foldl (fun s n => clapRelease c.tc n s) s)

/-! ### Registers -/

/-- SP_LINKSTAT as it reads (R78). -/
def linkMap (s : State) : Nat := (List.range 32).foldl (fun a n => a + if s.flag (SPn_STAT_LINK_UP n) then 2 ^ n else 0) 0

/-- A write of an SP register. -/
def spWrite (init a : Nat) (v : Word) (s : State) : State :=
  if 0x10070000 ≤ a then (if a = SP_CLAPCTRL then clapCtrl v s else s.typed a v)
  else
    let n := (a - 0x10060000) / 0x800
    if a = SPn_CTRL n then spCtrlWrite n v s
    else if a = SPn_SLOTMASK n then maskWrite n ((SPn_SLOTMASK_MASK n).of v) s
    else if a = SPn_BCOFS n then bcofsWrite n v s
    else if a = SPn_RTTWIN n ∨ a = SPn_ASYM n ∨ a = SPn_HEADLAT n ∨ a = SPn_CABLE n then mirrorWrite init a v s
    else s.typed a v

/-! ### Meanings -/

/-- SP_ENABLE (R38): EN of a port is written 1. -/
def execSpEnable (port : Port) (s : State) : Host.Outcome State Fault Refusal := done (whenOn (SPn_CTRL port) (spEnable port) s)

/-- SP_DISABLE (R42): EN of a port is written 0. -/
def execSpDisable (port : Port) (s : State) : Host.Outcome State Fault Refusal := done (whenOn (SPn_CTRL port) (spDisable port) s)

/-- BCEN_ENABLE (R35). -/
def execBcenEnable (port : Port) (s : State) : Host.Outcome State Fault Refusal := done (whenOn (SPn_CTRL port) (fun s => s.raise (SPn_CTRL_BCEN port)) s)

/-- BCEN_DISABLE (R42): no back-channel frame follows the one in progress. -/
def execBcenDisable (port : Port) (s : State) : Host.Outcome State Fault Refusal := done (whenOn (SPn_CTRL port) (bcenFall port) s)

/-- SP_CONFIG_WRITE (R41): a write of SPn_CTRL. -/
def execSpConfigWrite (port : Port) (value : Word) (s : State) : Host.Outcome State Fault Refusal :=
  done (whenOn (SPn_CTRL port) (spCtrlWrite port value) s)

/-- MASK_WRITE (R43). -/
def execMaskWrite (port : Port) (mask : BitVec 4) (s : State) : Host.Outcome State Fault Refusal :=
  done (whenOn (SPn_SLOTMASK port) (maskWrite port mask.toNat) s)

/-- RECEIVE_FRAME (R47). -/
def execReceiveFrame (port : Port) (frame : RxFrame) (s : State) : Host.Outcome State Fault Refusal :=
  done (rxFrame port frame s)

/-- FRAME_MISSING (R63). -/
def execFrameMissing (port : Port) (s : State) : Host.Outcome State Fault Refusal := done (frameMissing port s)

/-- LINKDOWN_MUTED_FRAME (R64). -/
def execLinkdownMutedFrame (port : Port) (s : State) : Host.Outcome State Fault Refusal := done (linkDownFrame port s)

/-- SP_SLATEFRAC_READ (R77). -/
def execSpSlatefracRead (init : Init) (port : Port) (s : State) : Host.Outcome State Fault Refusal :=
  done (asAccess init (SPn_SLATEFRAC port) false (fun s => latchSec init (SPn_SLATESEC port) (s.reg (SPn_SLATESEC port)).toNat s) s)

/-- CLAPPER_ARM (R66). -/
def execClapperArm (s : State) : Host.Outcome State Fault Refusal := done (whenOn SP_CLAPCTRL clapArm s)

/-- CLAPPER_DISARM (R69). -/
def execClapperDisarm (s : State) : Host.Outcome State Fault Refusal := done (whenOn SP_CLAPCTRL clapDisarm s)

end Sys2Proof.Machine
end

