-- ==== Sys2Proof/Machine/Cond.lean ====
section
/-!
DEFINITION. The conditioners (Conditioners and Head Control, R79 to R97): the six stages, the block and interval ends and
head-state muting.
-/

namespace Sys2Proof.Machine

/-! ### Stage 1 -/

/-- The bits of a sample area, bit 7 of each byte first (R39). -/
def bitsOf (l : List Byte) : List Bool :=
  (l.map fun b => [b.getMsbD 0, b.getMsbD 1, b.getMsbD 2, b.getMsbD 3, b.getMsbD 4, b.getMsbD 5, b.getMsbD 6,
    b.getMsbD 7]).flatten

/-- A code from its bits, most significant first. -/
def codeOf (l : List Bool) : Nat := l.foldl (fun a b => 2 * a + if b then 1 else 0) 0

/-- The 12-bit value of an M-format code of `b` bits (R40, R83). -/
def expand (b c : Nat) : Int := (2 * (c : Int) - ((2 ^ b : Nat) - 1)) * (2 ^ (11 - b) : Nat)

/-- The samples of an M-format section: `n` pairs of an I and a Q code of `b` bits. -/
def mSamples (b : Nat) : Nat → List Bool → List (Int × Int)
  | 0, _ => []
  | n + 1, l => (expand b (codeOf (l.take b)), expand b (codeOf ((l.drop b).take b))) :: mSamples b n (l.drop (2 * b))

/-- Whether a frame starts anew for the decimator: a mute, a slip, a resynchronisation, or samples of it that are discarded
(R85). -/
def isEdge (f : StreamFrame) : Bool := f.tag.mute != 0 || f.tag.drop || f.tag.rep || f.tag.resync || f.discard != 0

/-- A rail bit: 1 stands for +1 and 0 for -1 (R40). -/
def railValue (b : Bool) : Int := if b then 1 else -1

/-- The rail samples of a D1 section: bit 2m is I-rail bit m and bit 2m + 1 is Q-rail bit m (R40). -/
def railPairs : List Bool → List (Int × Int)
  | i :: q :: t => (railValue i, railValue q) :: railPairs t
  | _ => []

/-- The coefficients of (1 + z + … + z^5)^5, the impulse response of a fifth-order CIC decimator by 6 (R84). -/
def cicTaps : List Int :=
  (List.range 5).foldl (fun (a : List Int) _ =>
    (List.range (a.length + 5)).map fun k => ((List.range 6).map fun j => if j ≤ k then a.getD (k - j) 0 else 0).sum) [1]

/-- The CIC's output at rail sample `p`, for one rail. -/
def cicAt (x : Nat → Int) (p : Nat) : Int :=
  (cicTaps.mapIdx fun i h => if i ≤ p then h * x (p - i) else 0).sum

/-- The newest rail sample behind the position of an output sample that it takes: the filters span 302 rail samples, the CIC 26 and the
FIR 46 times 6 more, whose middle, 150 and a half, is the group delay that R84 compensates.
[DESIGN CHOICE, safe: notes/assumptions/12] -/
def decimatorReach : Nat := if Config.decimatorLate then 151 else 150

/-- Output sample `k` of the D1 decimator on one rail that stands at `first` in `x`: the CIC by 6, then the 47-tap FIR by 2 of linear
phase, truncated and saturated (R84). [DESIGN CHOICE, safe: notes/assumptions/12] -/
def decimated (x : Nat → Int) (first k : Nat) : Int :=
  let p := first + 12 * k + decimatorReach
  clampS 12 (((List.range 47).map fun j =>
    if 6 * j ≤ p then Config.firTap (min j (46 - j)) * cicAt x (p - 6 * j) else 0).sum.tdiv (2 ^ Config.firShift : Nat))

/-- The end of the samples at the head of a frame that are Z: 13 from the first sample that an edge leaves, or what is left of them
from a frame before (R85). -/
def warmEnd (c : CondState) (f : StreamFrame) : Nat :=
  if isEdge f then f.discard + (if f.tag.drop then 1 else 0) + 13 else c.warm

/-- The samples still to be Z after a frame. -/
def warmAfter (c : CondState) (f : StreamFrame) : Nat := if f.tag.mute ≠ 0 then 13 else warmEnd c f - frameSamples f.rate

/-- The D1 samples of a frame (R84, R85): Z within 13 samples of an edge.  The filter window reaches into the frame before and the frame `next` after.
[DESIGN CHOICE, safe: notes/assumptions/12] [DEDUCED, unsafe: notes/assumptions/30] -/
def d1Samples (c : CondState) (f : StreamFrame) (nextEdge : Bool) (next : List Byte) : List Sample :=
  let n := frameSamples f.rate
  let rails := (railPairs (bitsOf (c.prevArea ++ f.area ++ next))).toArray
  let first := 4 * c.prevArea.length
  (List.range n).map fun k =>
    if decide (k < warmEnd c f) || (nextEdge && decide (n ≤ k + 13)) then ⟨0, 0, true⟩
    else ⟨decimated (fun p => (rails.getD p (0, 0)).1) first k, decimated (fun p => (rails.getD p (0, 0)).2) first k, false⟩

/-- The stage-1 output of a frame's own samples, in the order of their index. -/
def stage1 (c : CondState) (f : StreamFrame) (nextEdge : Bool) (next : List Byte) : List Sample :=
  if f.tag.mute ≠ 0 then List.replicate (frameSamples f.rate) ⟨0, 0, true⟩
  else if f.fmt = 0 then d1Samples c f nextEdge next
  else (mSamples (f.fmt + 1) (frameSamples f.rate) (bitsOf f.area)).map fun p => ⟨p.1, p.2, false⟩

/-- The delivered samples of a frame, with the Slate and the index each stands for (R53, R55, R56, R64); the first frame after a
Clapper begins with the sample that its tag names (R68). -/
def delivered (c : CondState) (f : StreamFrame) (nextEdge : Bool) (next : List Byte) : List WSample :=
  let own := (stage1 c f nextEdge next).mapIdx fun k x => (⟨x, f.tag.slate, k⟩ : WSample)
  let start := f.discard + (if f.tag.drop then 1 else 0)
  let back := f.insert * 2 ^ 48 / (61440000 >>> f.rate)
  let zeros := (List.range f.insert).map fun k => (⟨⟨0, 0, true⟩, f.tag.slate - back, k⟩ : WSample)
  let again := if f.tag.rep then [c.last.getD ⟨⟨0, 0, true⟩, f.tag.slate, 0⟩] else []
  match f.tag.clapStart with
  | some k => own.drop k
  | none => zeros ++ again ++ own.drop start

/-! ### Stages 2 to 6 -/

/-- What the registers of a conditioner set, and the gain in use. -/
structure CondCfg where
  dcen : Bool
  dcsh : Nat
  blmode : Nat
  thr : Nat
  hold : Nat
  gain : Nat
  /-- The frame's MODE is CONFIG or CAL: the loops hold (R97). -/
  held : Bool
  hmute : Bool
  rate : Nat
  /-- The pole shift and the adaptation shift of each notch (R88). -/
  rsh : List Nat
  mush : List Nat

/-- The millisecond of a sample by R20 (R93). -/
def msOf (rate : Nat) (x : WSample) : Nat := (x.slate + x.k * 2 ^ 48 / (61440000 >>> rate)) * 1000 / 2 ^ 48

/-- Truncation toward minus infinity of `a / 2 ^ n`. -/
def floorDiv (a : Int) (n : Nat) : Int := a / (2 ^ n : Nat)

/-- DC removal of one rail: the output and the new estimate (R86). [DESIGN CHOICE, safe: notes/assumptions/11] -/
def dcStage (g : CondCfg) (d x : Int) : Int × Int :=
  let f := Config.dcFraction
  let diff := x * (2 ^ f : Nat) - d
  (clampS 12 (floorDiv diff f), if g.held then d else d + floorDiv diff g.dcsh)

/-- The blanking threshold, from 1,024 times the mean of e; none where nothing is blanked (R87). -/
def threshold (g : CondCfg) (mean : Option Nat) : Option Nat :=
  if g.blmode = 1 then some g.thr
  else if g.blmode = 2 then mean.map fun m => g.thr * m / (16 * 1024)
  else none

/-- A complex product in units of 2^-`f`, truncated toward minus infinity. -/
def complexMul (f : Nat) (p v : Int × Int) : Int × Int :=
  (floorDiv (p.1 * v.1 - p.2 * v.2) f, floorDiv (p.1 * v.2 + p.2 * v.1) f)

/-- An angle of 2^-24 turn in radians, its cosine and its sine, in units of 2^-96. -/
def turnAngle : Int := 29671503700283895162406
def turnStep : Int × Int :=
  let a := turnAngle
  let a2 := floorDiv (a * a) 96
  (2 ^ 96 - a2 / 2 + floorDiv (a2 * a2) 96 / 24, a - floorDiv (a2 * a) 96 / 6)

/-- Cosine and sine of `c` times 2^-24 turn in units of 2^-96, by the low `b` bits of `c`. -/
def turnPow : Nat → Nat → Int × Int
  | 0, _ => (2 ^ 96, 0)
  | b + 1, c =>
    let h := turnPow b (c / 2)
    let h := complexMul 96 h h
    if c % 2 = 1 then complexMul 96 h turnStep else h

/-- The unit phasor at the angle of a centre, in units of 2^-`notchFraction`, rounded down or up (R88).
[DESIGN CHOICE, safe: notes/assumptions/31] -/
def notchPhasor (centre : Int) : Int × Int :=
  let p := turnPow 24 (unsigned 24 centre)
  let up := Config.notchUp centre
  let one : Int := (2 ^ Config.notchFraction : Nat)
  (floorDiv (p.1 * one) 96 + (if up.1 then 1 else 0), floorDiv (p.2 * one) 96 + (if up.2 then 1 else 0))

/-- The output of a notch in the units of `Config.notchFraction`: a zero on the unit circle at its centre, and a pole on the same
angle at radius 1 - 2^-RSH (R88). [DESIGN CHOICE, safe: notes/assumptions/31] -/
def notchOut (m : Notch) (rsh : Nat) (x : Int × Int) : Int × Int :=
  let one : Int := (2 ^ Config.notchFraction : Nat)
  let p := notchPhasor m.centre
  let zx := complexMul Config.notchFraction p (m.x.1 * one, m.x.2 * one)
  let py := complexMul Config.notchFraction p m.y
  (x.1 * one - zx.1 + (py.1 - floorDiv py.1 rsh), x.2 * one - zx.2 + (py.2 - floorDiv py.2 rsh))

/-- A sample through one notch: what leaves it, 12 bits, and the notch after it.  An ADAPT notch moves its centre and measures
whether or not it is in the path, but while the loops hold (R88, R89, R97). [DESIGN CHOICE, safe: notes/assumptions/31] -/
def notchStep (adapt : Bool) (rsh mush : Nat) (m : Notch) (x : Int × Int) : (Int × Int) × Notch :=
  if m.mode = 0 then (x, m)
  else
    let y := notchOut m rsh x
    let out := (clampS 12 (floorDiv y.1 Config.notchFraction), clampS 12 (floorDiv y.2 Config.notchFraction))
    let centre := if m.mode = 2 ∧ adapt then signed 24 (unsigned 24 (m.centre + floorDiv (Config.notchError m.x m.y x y) mush)) else m.centre
    (if m.inPath then out else x,
      { m with centre := centre, x := x, y := y, inPow := m.inPow + (if adapt then x.1.natAbs ^ 2 + x.2.natAbs ^ 2 else 0),
               outPow := m.outPow + (if adapt then out.1.natAbs ^ 2 + out.2.natAbs ^ 2 else 0) })

/-- A sample through notches 0 to 3 (R79, R88). -/
def notchChain (adapt : Bool) (g : CondCfg) (ms : List Notch) (x : Int × Int) : (Int × Int) × List Notch :=
  (ms.mapIdx fun k m => (k, m)).foldl (fun (acc : (Int × Int) × List Notch) km =>
    let (y, m) := notchStep adapt (g.rsh.getD km.1 6) (g.mush.getD km.1 8) km.2 acc.1
    (y, acc.2 ++ [m])) (x, [])

/-- The AGC output of a rail, and whether it was limited (R91, R92). -/
def agcStage (gain : Nat) (x : Int) : Int × Bool :=
  let y := (x * gain).tdiv 4096
  (clampS 12 y, decide (clampS 12 y ≠ y))

/-- The requantiser's value 2c + 1 of a rail (R92). -/
def requantise (x : Int) : Int :=
  let c := floorDiv x 8
  2 * (if c < -8 then -8 else if 7 < c then 7 else c) + 1

/-- One sample through stages 2 to 6 (R81, R86 to R92, R95).  A sample that is Z before the blanker is not counted as blanked, and
the notches and their loops stand still over a blanked one.
[DESIGN CHOICE, unsafe: notes/assumptions/31] -/
def condSample (g : CondCfg) (x : WSample) (c : CondState) (f : CurFrame) : CondState × CurFrame :=
  let z := x.smp.z
  let (i0, dI) := if g.dcen && !z then dcStage g c.dcI x.smp.i else (x.smp.i, c.dcI)
  let (q0, dQ) := if g.dcen && !z then dcStage g c.dcQ x.smp.q else (x.smp.q, c.dcQ)
  let e := max i0.natAbs q0.natAbs
  let hit := match threshold g c.mean with | some t => !z && decide (t ≤ e) | none => false
  let off := (threshold g c.mean).isNone
  let blank := hit || (!off && decide (0 < c.hold))
  let hold := if off then 0 else if hit then g.hold else c.hold - 1
  let counts := !z && !g.held
  let z2 := z || blank
  let adapt := !z2 && !g.held
  let ((i, q), ms) := if !z2 then notchChain adapt g c.notches.toList (i0, q0) else ((i0, q0), c.notches.toList)
  let z3 := z2 || g.hmute
  let (i5, satI) := agcStage g.gain i
  let (q5, satQ) := agcStage g.gain q
  let c := { c with
    notches := Vector.ofFn fun k => ms.getD k {}, dcI := dI, dcQ := dQ, hold := hold,
    blockSum := if counts then c.blockSum + e else c.blockSum,
    blockLen := if counts then c.blockLen + 1 else c.blockLen,
    notchLen := if adapt then c.notchLen + 1 else c.notchLen,
    agcSum := if adapt then c.agcSum + i.natAbs + q.natAbs else c.agcSum,
    agcLen := if adapt then c.agcLen + 1 else c.agcLen,
    msec := msOf g.rate x, seen := c.seen + 1,
    preSum := if z then c.preSum else c.preSum + i0.natAbs ^ 2 + q0.natAbs ^ 2,
    preLen := if z then c.preLen else c.preLen + 1,
    postSum := if z2 then c.postSum else c.postSum + i.natAbs ^ 2 + q.natAbs ^ 2,
    postLen := if z2 then c.postLen else c.postLen + 1,
    peak := if z then c.peak else max c.peak e,
    blanked := if blank && !z then c.blanked + 1 else c.blanked,
    zeros := if z3 then c.zeros + 1 else c.zeros,
    clips := if !z3 && (satI || satQ) then c.clips + 1 else c.clips,
    notchChg := false }
  let f := { f with
    out12 := ⟨if z3 then ⟨0, 0, true⟩ else ⟨i5, q5, false⟩, x.slate, x.k⟩ :: f.out12,
    out4 := ⟨if z3 then ⟨0, 0, true⟩ else ⟨requantise i5, requantise q5, false⟩, x.slate, x.k⟩ :: f.out4 }
  (c, f)

/-- A block or an interval that has ended awaits its command: no further sample is taken before it. -/
def awaitsEnd (g : CondCfg) (x : WSample) (c : CondState) : Bool :=
  decide (1024 ≤ c.blockLen) || decide (1024 ≤ c.notchLen) || decide (1024 ≤ c.agcLen) ||
    (decide (0 < c.seen) && msOf g.rate x != c.msec)

/-- The samples of a frame, as far as no block or interval end stands in the way.
[DESIGN CHOICE, unsafe: notes/assumptions/31] -/
def condRun (g : CondCfg) : List WSample → CondState → CurFrame → CondState × CurFrame
  | [], c, f => (c, { f with rest := [] })
  | x :: t, c, f =>
    if awaitsEnd g x c then (c, { f with rest := x :: t })
    else
      let f := if c.notchChg then { f with tag := { f.tag with notchChg := true } } else f
      let (c, f) := condSample g x c f
      condRun g t c f

/-- The settings of conditioner `n` for a frame. -/
def condCfg (s : State) (n : Nat) (f : CurFrame) : CondCfg where
  dcen := s.flag (CNDn_CTRL_DCEN n)
  dcsh := min (max (s.rd (CNDn_DC_DCSH n)) 8) 20
  blmode := s.rd (CNDn_CTRL_BLMODE n)
  thr := s.rd (CNDn_BLANK_THR n)
  hold := s.rd (CNDn_BLANK_HOLD n)
  gain := s.rd (CNDn_GAIN_GAIN n)
  held := f.mode == some 1 || f.mode == some 2
  hmute := f.tag.hmute
  rate := f.rate
  rsh := (List.range 4).map fun k => min (max (s.rd (CNDn_NCTLk_RSH n k)) 3) 10
  mush := (List.range 4).map fun k => s.rd (CNDn_NCTLk_MUSH n k)

/-- The head state mutes a frame on the COND taps (R95). -/
def headMutes (s : State) (n : Nat) (mode : Option Nat) : Bool :=
  (match mode with | some m => m != 4 | none => false) ||
    s.headState (n / 4) == H_IDLE || s.headState (n / 4) == H_FAULT

/-- A frame enters the conditioner (R79, R95); `next` is the section of the frame after it where that is known. -/
def condBegin (n : Nat) (f : StreamFrame) (nextEdge : Bool) (next : List Byte) (s : State) : State :=
  let c := s.cond n
  let hm := headMutes s n f.mode
  let xs := delivered c f nextEdge next
  let s := s.put (CNDn_STAT_HMUTE n) hm
  let s := if hm then s.count (CNDn_MUTECNT_HFRAMES n) else s
  s.setCond n { c with
    cur := some { tag := { f.tag with hmute := hm }, mode := f.mode, rate := f.rate, rest := xs, raw := xs },
    last := match xs.getLast? with | some x => some x | none => c.last,
    prevArea := f.area, warm := warmAfter c f }

/-- A finished frame goes to its consumers: COND4 to the array, the two 12-bit taps to the search engine and Reel (R79,
R112, R113). -/
def condDeliver (n : Nat) (f : CurFrame) (s : State) : State :=
  let s := pushFrame n f.tag f.rate f.out4.reverse s
  let t12 : TapFrame := ⟨f.tag, f.rate, f.out12.reverse⟩
  let raw : TapFrame := ⟨f.tag, f.rate, f.raw⟩
  reelFeed n 1 raw (reelFeed n 0 t12 (seFeed n 1 raw (seFeed n 0 t12 s)))

/-- The samples of the frame in the conditioner, and its delivery when none is left. -/
def condContinue (n : Nat) (s : State) : State :=
  let c := s.cond n
  match c.cur with
  | none => s
  | some f =>
    let before := c.blanked
    let (c, f) := condRun (condCfg s n f) f.rest c f
    let whole := f.rest.isEmpty
    let s := s.setCond n { c with cur := if whole then none else some f }
    let s := (List.range 4).foldl (fun s k =>
      s.wr (CNDn_NFRQk_FREQ n k) (unsigned 24 (c.notches.getD k {}).centre)) s
    let s := if before < c.blanked then s.raise (CNDn_STAT_BLANKED n) else s
    let s := s.wrS (CNDn_DC_DCI n) (floorDiv c.dcI Config.dcFraction)
    let s := s.wrS (CNDn_DC_DCQ n) (floorDiv c.dcQ Config.dcFraction)
    if whole then condDeliver n f s else s

/-- The stream ends: its consumers are told after the last frame (R46, R144, R191, R205). -/
def condEnds (n cause : Nat) (s : State) : State :=
  let s := s.setCond n { s.cond n with last := none, prevArea := [], warm := 13 }
  endReels n cause (endPlans n cause (endChannels n cause s))

/-- A conditioner takes the oldest item of its stream, or goes on with the frame it has (R79).  A D1 frame waits for the
item after it, whose start its last samples reach into (R85). [DEDUCED, unsafe: notes/assumptions/30] -/
def conditionFrame (n : Nat) (s : State) : State :=
  if (s.cond n).cur.isSome then condContinue n s
  else
    let st := s.stream n
    match st.input with
    | [] => s
    | .ends cause :: rest => condEnds n cause (s.setStream n { st with input := rest })
    | .frame f :: rest =>
      match rest, f.fmt with
      | [], 0 => s
      | x :: _, _ =>
        let (edge, area) := match x with | .frame g => (isEdge g, g.area) | .ends _ => (true, [])
        condContinue n (condBegin n f edge area (s.setStream n { st with input := rest }))
      | [], _ => condContinue n (condBegin n f false [] (s.setStream n { st with input := rest }))

/-! ### Block and interval ends -/

/-- The blanker mean takes a complete block, by its sum (R87). -/
def blankerBlock (n : Nat) (s : State) : State :=
  let c := s.cond n
  if c.blockLen < 1024 then s
  else s.setCond n { c with mean := some c.blockSum, blockSum := 0, blockLen := 0 }

/-- The power `ip` is at least `d` dB above `op`: their ratio is at or above 10^(d/10). -/
def atLeastDb (ip op d : Nat) : Bool := decide (10 ^ d * op ^ 10 ≤ ip ^ 10)

/-- The greatest d below `fuel` + `d` that `atLeastDb` has. -/
def depthFrom (ip op : Nat) : Nat → Nat → Nat
  | 0, d => d
  | fuel + 1, d => if atLeastDb ip op (d + 1) then depthFrom ip op fuel (d + 1) else d

/-- DEPTH in whole dB, rounded down and not below 0: the power at a notch's input over the power at its output; 255 where nothing leaves it, and
free where nothing enters it either (R89, R116). [DESIGN CHOICE, unsafe: notes/assumptions/31] -/
def notchDepth (m : Notch) (s : State) : Nat × State :=
  if m.outPow = 0 then (if m.inPow = 0 then s.fresh 8 else (255, s)) else (depthFrom m.inPow m.outPow 255 0, s)

/-- An ADAPT notch at the end of a block that it has measured (R89). -/
def notchAdapt (n : Nat) (s : State) (k : Nat) : State :=
  let m := (s.cond n).notches.getD k {}
  let (depth, s) := notchDepth m s
  let c := s.cond n
  let eng := max (s.rd (CNDn_NCTLk_ENG n k)) 1
  let least := fun (d : Nat) => if m.outPow = 0 then decide (d ≤ depth) else atLeastDb m.inPow m.outPow d
  let quiet := if least (eng - 1) then 0 else m.quiet + 1
  let inp := if least eng then true else if 4 ≤ quiet then false else m.inPath
  (s.wr (CNDn_NFRQk_DEPTH n k) depth).setCond n { c with
    notches := c.notches.setIfInBounds k { m with inPath := inp, quiet := quiet, inPow := 0, outPow := 0 },
    notchChg := c.notchChg || inp != m.inPath }

/-- The effect of a block end on notch `k`: a MODE written since takes effect here, and an ADAPT notch starts at CFREQ, out of the
path (R88, R89, R116). -/
def notchEnd (n : Nat) (s : State) (k : Nat) : State :=
  let c := s.cond n
  let m := c.notches.getD k {}
  let mode := s.rd (CNDn_NCTLk_MODE n k) % 3
  if mode = 2 ∧ m.mode = 2 then notchAdapt n s k
  else
    let cf := s.rd (CNDn_NCTLk_CFREQ n k)
    let inp := mode == 1
    let m' : Notch :=
      if mode = m.mode then { m with inPow := 0, outPow := 0 } else { mode := mode, inPath := inp, centre := signed 24 cf }
    (s.wr (CNDn_NFRQk_FREQ n k) (unsigned 24 m'.centre)).setCond n { c with
      notches := c.notches.setIfInBounds k m', notchChg := c.notchChg || inp != m.inPath }

/-- The distance of two centres on the circle of 2^24. -/
def centreGap (a b : Nat) : Nat :=
  let d := (a + 2 ^ 24 - b) % 2 ^ 24
  min d (2 ^ 24 - d)

/-- Two ADAPT notches within 2^14 units at the end of a block, that number included and the shorter way round the circle: the
higher-numbered one goes back to CFREQ and leaves the path (R90). [DESIGN CHOICE, unsafe: notes/assumptions/31] -/
def notchClash (n : Nat) (s : State) (jk : Nat × Nat) : State :=
  let c := s.cond n
  let a := c.notches.getD jk.1 {}
  let b := c.notches.getD jk.2 {}
  if a.mode = 2 ∧ b.mode = 2 ∧ centreGap (s.rd (CNDn_NFRQk_FREQ n jk.1)) (s.rd (CNDn_NFRQk_FREQ n jk.2)) ≤ 2 ^ 14 then
    let s := s.setCond n { c with
      notches := c.notches.setIfInBounds jk.2 { mode := 2, centre := signed 24 (s.rd (CNDn_NCTLk_CFREQ n jk.2)) }, notchChg := c.notchChg || b.inPath }
    let s := s.wr (CNDn_NFRQk_FREQ n jk.2) (s.rd (CNDn_NCTLk_CFREQ n jk.2))
    (s.raise (CNDn_STAT_NCLASH n)).count (CNDn_MUTECNT_NCLASHES n)
  else s

/-- The engagement map of the notches. -/
def engaged (c : CondState) : Nat :=
  (List.range 4).foldl (fun a k => a + if (c.notches.getD k {}).inPath then 2 ^ k else 0) 0

/-- The notches take a complete block (R89, R90). -/
def notchBlock (n : Nat) (s : State) : State :=
  if (s.cond n).notchLen < 1024 then s
  else
    let s := (List.range 4).foldl (notchEnd n) s
    let s := [(0, 1), (0, 2), (0, 3), (1, 2), (1, 3), (2, 3)].foldl (notchClash n) s
    let s := s.setCond n { s.cond n with notchLen := 0 }
    s.wr (CNDn_STAT_ENGAGED n) (engaged (s.cond n))

/-- The gain after a block whose mean magnitude is `m` (R91). -/
def agcGain (gain tgt sh m : Nat) : Nat :=
  let g : Int := gain + ((gain : Int) * ((tgt : Int) - m)).tdiv (tgt * 2 ^ sh : Nat)
  if g < 1 then 1 else if 0xFFFF < g then 0xFFFF else g.toNat

/-- The AGC takes a complete block; GAIN changes in AUTO mode (R91). -/
def agcBlock (n : Nat) (s : State) : State :=
  let c := s.cond n
  if c.agcLen < 1024 then s
  else
    let m := c.agcSum / (2 * c.agcLen)
    let s := s.setCond n { c with agcSum := 0, agcLen := 0 }
    if s.rd (CNDn_CTRL_AGCMODE n) ≠ 0 then s
    else
      s.wr (CNDn_GAIN_GAIN n)
        (agcGain (s.rd (CNDn_GAIN_GAIN n)) (max (s.rd (CNDn_AGC_MAGTGT n)) 1) (s.rd (CNDn_AGC_SH n)) m)

/-- The interval in progress has ended: the time base stands in a later millisecond, and no sample that has arrived lies in it
(R93). -/
def statDue (s : State) (n : Nat) : Bool :=
  let c := s.cond n
  let now := s.tb.now * 1000 / 2 ^ 96
  let waits := match c.cur with
    | some f => (match f.rest with | x :: _ => msOf f.rate x == c.msec | [] => false)
    | none => false
  let later := match c.cur with
    | some f => (match f.rest with | x :: _ => msOf f.rate x != c.msec | [] => false)
    | none => false
  if c.seen = 0 then decide (c.msec + 1 < now) else !waits && (later || decide (c.msec < now))

/-- The end of a statistics interval (R93, R94); of one without a sample the millisecond is the last that has ended. -/
def statEnd (n : Nat) (s : State) : State :=
  if !statDue s n then s else
  let c := s.cond n
  let j := if c.seen = 0 then s.tb.now * 1000 / 2 ^ 96 - 1 else c.msec
  let s := (s.wr (CNDn_STPWR_PRE n) (c.preSum / c.preLen)).wr (CNDn_STPWR_POST n) (c.postSum / c.postLen)
  let s := (s.wr (CNDn_STBLANK_BLANKED n) c.blanked).wr (CNDn_STBLANK_ZCOUNT n) c.zeros
  let s := ((s.wr (CNDn_STCLIP_CLIP n) c.clips).wr (CNDn_STCLIP_NENG n) (engaged c)).wr (CNDn_STCLIP_GAIN n)
    (s.rd (CNDn_GAIN_GAIN n))
  let s := (s.wr (CNDn_STPEAK_PEAK n) c.peak).wr (CNDn_STPEAK_SEQ n) j
  let s := s.raise (CNDn_STAT_STATRDY n)
  let s := s.setCond n { c with
    msec := j, seen := 0, preSum := 0, preLen := 0, postSum := 0, postLen := 0, peak := 0, blanked := 0, zeros := 0, clips := 0 }
  if s.rd (CNDn_GAIN_GAIN n) < s.rd (CNDn_AGC_GAINLO n) then s.raise (CNDn_STAT_INTF n) else s

/-! ### Registers -/

/-- In MANUAL mode GAIN equals MAN (R91). -/
def manualGain (n : Nat) (s : State) : State :=
  if s.rd (CNDn_CTRL_AGCMODE n) = 1 then s.wr (CNDn_GAIN_GAIN n) (s.rd (CNDn_GAIN_MAN n)) else s

/-- A notch that does not adapt has CFREQ for its centre, and NFRQk.FREQ shows it (R88). -/
def showCentres (n : Nat) (s : State) : State :=
  (List.range 4).foldl (fun s k =>
    let c := s.cond n
    let m := c.notches.getD k {}
    let cf := s.rd (CNDn_NCTLk_CFREQ n k)
    if m.mode = 2 then s
    else
      (s.wr (CNDn_NFRQk_FREQ n k) cf).setCond n { c with
        notches := c.notches.setIfInBounds k { m with centre := signed 24 cf } }) s

/-- A write of a CND register (R97, R116). -/
def cndWrite (a : Nat) (v : Word) (s : State) : State :=
  let n := (a - 0x10080000) / 0x200
  let s := showCentres n (manualGain n (s.typed a v))
  if a = CNDn_CTRL n ∧ (CNDn_CTRL_SOFTRST n).of v = 1 then condReset n s else s

/-! ### Meanings -/

/-- CONDITION_FRAME (R79). -/
def execConditionFrame (stream : Stream) (s : State) : Host.Outcome State Fault Refusal := done (conditionFrame stream s)

/-- BLANKER_BLOCK (R87). -/
def execBlankerBlock (stream : Stream) (s : State) : Host.Outcome State Fault Refusal := done (blankerBlock stream s)

/-- NOTCH_BLOCK (R89). -/
def execNotchBlock (stream : Stream) (s : State) : Host.Outcome State Fault Refusal := done (notchBlock stream s)

/-- AGC_BLOCK (R91). -/
def execAgcBlock (stream : Stream) (s : State) : Host.Outcome State Fault Refusal := done (agcBlock stream s)

/-- STAT_INTERVAL_END (R93). -/
def execStatIntervalEnd (stream : Stream) (s : State) : Host.Outcome State Fault Refusal := done (statEnd stream s)

/-- COND_SOFTRST (R97). -/
def execCondSoftrst (stream : Stream) (s : State) : Host.Outcome State Fault Refusal := done (whenOn (CNDn_CTRL stream) (condReset stream) s)

end Sys2Proof.Machine
end

