-- ==== Sys2Proof/Machine/Pulses.lean ====
section
/-!
DEFINITION. Time Pulses and Event Capture (R341 to R362): the generators and what the time base does to them, the capture
units, and the ownership of both.
-/

namespace Sys2Proof.Machine

/-! ### Ownership (R358, R359) -/

/-- The registers of an ownership: that of OWNER with its OWNED and ID fields, and the unit's number in the log (R520):
0 to 15 a generator, 16 to 23 a capture unit, or a pin. -/
structure Owned where
  reg : Nat
  unit : Nat
  pin : Bool := false
  deriving DecidableEq, Repr

/-- The fields of an ownership register, laid out alike for units and pins. -/
def ownedFld (o : Owned) : Fld := ⟨o.reg, 7, 7⟩
def ownerFld (o : Owned) : Fld := ⟨o.reg, 3, 0⟩

/-- The owner of a unit. -/
def ownerOf (s : State) (o : Owned) : Option Nat := if s.flag (ownedFld o) then some (s.rd (ownerFld o)) else none

/-- The DATA of a claim in the log, and of a forced release, where a pin has [5] 1 above the five low bits of its number (R520).
[DEDUCED, unsafe: notes/assumptions/66] -/
def claimData (o : Owned) (claimant owner : Nat) : Nat := o.unit + claimant * 2 ^ 8 + owner * 2 ^ 12
def forcedData (o : Owned) (claimant owner : Nat) : Nat :=
  claimData { o with unit := o.unit % 32 + if o.pin then 32 else 0 } claimant owner

/-- The writes of an OWNER register so far in the present CLK_PER cycle. -/
def turnOf (s : State) (o : Owned) : Turn :=
  (s.pls.turns.find? fun t => t.reg == o.reg && t.cycle == s.ticks / 3).getD ⟨o.reg, s.ticks / 3, ownerOf s o, []⟩

/-- The owner that the FRELs of a cycle leave, then the RELEASEs, then the claims: of those of a unit without an owner the one of the
lowest initiator ID (R358). -/
def Turn.freed (t : Turn) : Option Nat := if t.writes.any fun w => w.frel && w.init == 6 then none else t.owner
def Turn.released (t : Turn) : Option Nat :=
  if t.writes.any fun w => w.rel && t.freed == some w.init then none else t.freed
def Turn.winner (t : Turn) : Option Nat := t.released.or ((t.writes.filter (·.claim)).map (·.init)).min?

/-- The ownership fields of a unit. -/
def setOwner (o : Owned) (w : Option Nat) (s : State) : State :=
  match w with
  | none => (s.clear (ownedFld o)).wr (ownerFld o) 0
  | some w => (s.raise (ownedFld o)).wr (ownerFld o) w

/-- The turn of a register in the present cycle is replaced; those of past cycles are forgotten. -/
def keepTurn (t : Turn) (s : State) : State :=
  { s with pls := { s.pls with turns := t :: s.pls.turns.filter fun u => u.reg != t.reg && u.cycle == t.cycle } }

/-- FREL by SV of a unit that has an owner as the cycle's earlier FRELs leave it. -/
def forceRelease (o : Owned) (t : Turn) (w : OwnerBits) (s : State) : State :=
  match t.freed with
  | some v => if w.frel && w.init == 6 then logEvent 0x63 0 w.init o.unit (forcedData o w.init v) s else s
  | none => s

/-- A claim of a unit that another owns: it is logged, and the claimant gets an error response where it has none from the same write. -/
def refuseClaim (o : Owned) (claimant owner : Nat) (s : State) : State :=
  let s := if o.pin then s.raise PMX_STAT_REFUSED else s
  logEvent (if o.pin then 0x61 else 0x62) 1 claimant o.unit (claimData o claimant owner) (s.raise SAF_STAT_PINREFUSED)

/-- The claim of the cycle that a write displaces is refused (R358). -/
def displace (o : Owned) (t : Turn) (now : Option Nat) (s : State) : State :=
  match t.winner, now with
  | some v, some w =>
    if v ≠ w ∧ t.writes.any (fun x => x.claim && x.init == v) then refuseWrite v o.reg OWNER (refuseClaim o v w s) else s
  | _, _ => s

/-- The parts of a write that are refused: an FREL that is not SV's, a RELEASE that is not the owner's, a claim of a unit that another
owns (R358). -/
def partRefused (t : Turn) (w : OwnerBits) (now : Option Nat) : Bool :=
  (w.frel && w.init != 6) ||
    (w.rel && (t.freed != some w.init || (w.frel && w.init == 6) || t.writes.any fun x => x.rel && x.init == w.init)) ||
    (w.claim && now != some w.init)

/-- A write of an OWNER register, evaluated together with those of its CLK_PER cycle so far: FRELs, RELEASEs, claims (R358).
[DESIGN CHOICE, unsafe: notes/assumptions/66] -/
def ownerWrite (init : Nat) (o : Owned) (frel rel claim : Bool) (s : State) : State :=
  let t := turnOf s o
  let w : OwnerBits := ⟨init, frel, rel, claim⟩
  let t' := { t with writes := t.writes ++ [w] }
  let now := t'.winner
  let s := displace o t now (forceRelease o t w (setOwner o now (keepTurn t' s)))
  let s := match now with
    | some v => if claim && v != init then refuseClaim o init v s else s
    | none => s
  if partRefused t w now then refuseWrite init o.reg OWNER s else s

/-- Generator `n` and capture unit `n` as owned units. -/
def tpgUnit (n : Nat) : Owned := ⟨TPGn_OWNER n, n, false⟩
def evcUnit (n : Nat) : Owned := ⟨EVCn_OWNER n, 16 + n, false⟩

/-- Unit 0 to 15 is a generator, 16 to 23 a capture unit. -/
def ownedUnit (u : Nat) : Owned := if u < 16 then tpgUnit u else evcUnit (u - 16)

/-! ### Generators -/

/-- The states of a generator (R361). -/
def T_IDLE : Nat := 0
def T_ARMED : Nat := 1
def T_DONE : Nat := 2

/-- The hidden state of a generator. -/
def State.tpg (s : State) (n : Nat) : TpgState := s.pls.tpg.getD n {}

/-- The state with the hidden state of a generator replaced. -/
def State.setTpg (s : State) (n : Nat) (x : TpgState) : State :=
  { s with pls := { s.pls with tpg := s.pls.tpg.setIfInBounds n x } }

/-- The targets, the period and the width in 2^-48 s. -/
def tpgTarget (s : State) (n : Nat) : Nat := s.stamp (TPGn_TGTSEC n) (TPGn_TGTFRAC n)
def tpgNext (s : State) (n : Nat) : Nat := s.stamp (TPGn_NEXTSEC n) (TPGn_NEXTFRAC n)
def tpgPeriod (s : State) (n : Nat) : Nat := s.rd (TPGn_PERSEC_SEC n) * 2 ^ 48 + s.rd (TPGn_PERFRAC_FRAC n)
def tpgWidth (s : State) (n : Nat) : Nat := s.rd (TPGn_WIDTH_FRAC n)

/-- A train. -/
def isTrain (s : State) (n : Nat) : Bool := s.flag (TPGn_CTRL_MODE n)

/-- The firing instant of a target in 2^-96 s, by the path in force (R342). -/
def firing (s : State) (n target : Nat) : Int := (target * 2 ^ 48 : Nat) - (s.fineOf (s.tpg n).path : Nat)

/-- The least k ≥ 0 for which target + k × period fires at or after an instant of 2^-96 s. -/
def alignK (s : State) (n target : Nat) (t : Int) : Nat :=
  let short := t - firing s n target
  let p : Int := (tpgPeriod s n * 2 ^ 48 : Nat)
  if short ≤ 0 ∨ p ≤ 0 then 0 else ((short + p - 1) / p).toNat

/-- The next target, with the path for it taken as it stands (R346, R347). [DEDUCED, unsafe: notes/assumptions/35] -/
def setNext (n target : Nat) (s : State) : State :=
  let s := s.setTpg n { s.tpg n with path := s.rd (TPGn_PATH_PATH n) }
  s.setStamp (TPGn_NEXTSEC n) (TPGn_NEXTFRAC n) target

/-- Check 2 of R345. -/
def tpgConfigOk (s : State) (n : Nat) : Bool :=
  let w := tpgWidth s n * 2 ^ 48
  let p := tpgPeriod s n * 2 ^ 48
  decide (s.ticksOf 4 ≤ w) && (!isTrain s n || (decide (s.ticksOf 16 ≤ p) && decide (w + s.ticksOf 4 ≤ p)))

/-- A generator becomes ARMED (R345). -/
def tpgArmed (n target : Nat) (s : State) : State :=
  let s := s.setTpg n { s.tpg n with trail := none, disarm := false }
  (setNext n target s).wr (TPGn_STAT_STATE n) T_ARMED

/-- The time base as a check of ARM sees it: in the CLK_PER cycle of a step tick, what it was before that tick with the
ticks since added (R348). -/
def armNow (s : State) : Nat :=
  match s.tb.stepped with
  | some (k, v) => if k / 3 = s.ticks / 3 then v - s.rate + s.ticksOf (s.ticks - k) else s.tb.now
  | none => s.tb.now

/-- ARM (R345). -/
def tpgArm (n : Nat) (s : State) : State :=
  if s.rd (TPGn_STAT_STATE n) = T_ARMED then s.raise (TPGn_STAT_BUSY n)
  else if !tpgConfigOk s n then s.raise (TPGn_STAT_CFGERR n)
  else
    let tgt := tpgTarget s n
    let s' := s.setTpg n { s.tpg n with path := s.rd (TPGn_PATH_PATH n) }
    let soon : Int := armNow s + s.ticksOf 8
    if soon ≤ firing s' n tgt then tpgArmed n tgt s
    else if isTrain s n then
      (tpgArmed n (tgt + alignK s' n tgt soon * tpgPeriod s n) s).raise (TPGn_STAT_LATE_ALIGNED n)
    else logUnit 0x51 0 n (n + (tgt % 2 ^ 48) * 2 ^ 16) (s.raise (TPGn_STAT_PAST n))

/-- DISARM (R346): at once, or after the pulse in progress. -/
def tpgDisarm (n : Nat) (s : State) : State :=
  let x := s.tpg n
  if x.trail.isSome then s.setTpg n { x with disarm := true } else s.wr (TPGn_STAT_STATE n) T_IDLE

/-- The end of a pulse or of an emission that did not happen: a one-shot becomes DONE, a train goes on, a disarmed
generator becomes IDLE. -/
def pulseOver (n : Nat) (s : State) : State :=
  let x := s.tpg n
  let s := (s.setTpg n { x with trail := none, disarm := false, notBefore := 0 }).clear (TPGn_STAT_LEVEL n)
  if x.disarm then s.wr (TPGn_STAT_STATE n) T_IDLE
  else if isTrain s n then s
  else s.wr (TPGn_STAT_STATE n) T_DONE

/-! ### A tick of a generator -/

/-- One tick interval of the time base: its value at tick n, at tick n + 1 before a step, and at tick n + 1; whether a step
or a load took effect there (R320, R348). -/
structure Span where
  t0 : Nat
  mid : Nat
  now : Nat
  stepped : Bool
  loaded : Bool
  deriving DecidableEq, Repr

/-- The fine steps after tick n of an instant in 2^-96 s (R342). -/
def fineAt (s : State) (w : Span) (t : Int) : Nat := min (256 * (t - w.t0).toNat / s.rate) 255

/-- A leading edge of generator `n` starts the DELAY of the string paired with it: it ends at the first tick DELAY µs after
an edge that leaves `f` fine steps after tick number `at` (R351). -/
def todArm (n at_ f : Nat) (s : State) : State :=
  if s.flag TPE_TODCFG_EN ∧ s.rd TPE_TODCFG_TPG = n then
    let due := at_ + 600 * s.rd TPE_TODCFG_DELAY + (if f = 0 then 0 else 1)
    { s with pls := { s.pls with tod := s.pls.tod ++ [due] } }
  else s

/-- A leading edge leaves `f` fine steps after the tick number `at`, whose value is `tick` (R343, R347).
[DEDUCED, unsafe: notes/assumptions/35] -/
def leadingEdge (n at_ tick f : Nat) (s : State) : State :=
  let x := s.tpg n
  let tgt := tpgNext s n
  let last := (tick + f * s.rate / 256 + s.fineOf x.path) / 2 ^ 48
  let s := (s.setStamp (TPGn_LASTSEC n) (TPGn_LASTFRAC n) last).raise (TPGn_STAT_EDGE n)
  let s := (s.count (TPGn_COUNT_EDGES n)).raise (TPGn_STAT_LEVEL n)
  let s := todArm n at_ f (s.setTpg n { x with trail := some (tgt + tpgWidth s n), trailPath := x.path, last := some tgt })
  if isTrain s n then setNext n (tgt + tpgPeriod s n) s else s

/-- A trailing edge leaves `f` fine steps after its tick (R342, R343). -/
def trailingEdge (n f : Nat) (s : State) : State := pulseOver n (s.setTpg n { s.tpg n with trailFine := f })

/-- The firing instant of the trailing edge of the pulse in progress, by the path of that pulse.
[DEDUCED, unsafe: notes/assumptions/35] -/
def trailFiring (s : State) (n t : Nat) : Int := (t * 2 ^ 48 : Nat) - (s.fineOf (s.tpg n).trailPath : Nat)

/-- The trailing edge of the pulse in progress, if it falls in the interval before a step or a load; one held back by
R348 leaves at its tick. -/
def trailTick (n : Nat) (w : Span) (s : State) : State :=
  match (s.tpg n).trail with
  | none => s
  | some t =>
    if s.ticks < (s.tpg n).notBefore then s
    else if trailFiring s n t < w.mid then
      trailingEdge n (if (s.tpg n).notBefore = 0 then fineAt s w (trailFiring s n t) else 0) s
    else s

/-- The trailing edge of the pulse in progress, if a step or a load jumps over it (R348). -/
def trailJump (n : Nat) (w : Span) (s : State) : State :=
  match (s.tpg n).trail with
  | none => s
  | some t =>
    if s.ticks < (s.tpg n).notBefore ∨ w.now ≤ trailFiring s n t then s
    else if w.loaded then trailingEdge n 0 (s.raise (TPGn_STAT_LOADSKIP n))
    else if w.stepped then trailingEdge n 0 (s.raise (TPGn_STAT_STEPHIT n))
    else s

/-- A step jumps over the next firing instant: only the last target jumped over is emitted, at the step tick, and a
trailing edge jumped over with it follows 4 ticks later (R348). -/
def stepHit (n : Nat) (w : Span) (s : State) : State :=
  let tgt := tpgNext s n
  let k := if isTrain s n then alignK s n tgt w.now - 1 else 0
  let s := if k = 0 then s else (setNext n (tgt + k * tpgPeriod s n) s).count (TPGn_COUNT_NOTEMIT n) k
  let s := leadingEdge n s.ticks w.now 0 (s.raise (TPGn_STAT_STEPHIT n))
  match (s.tpg n).trail with
  | some t =>
    if trailFiring s n t < w.now then
      s.setTpg n { s.tpg n with notBefore := s.ticks + 4 }
    else s
  | none => s

/-- A load passes the next firing instant (R348). -/
def loadSkip (n : Nat) (w : Span) (s : State) : State :=
  let s := s.raise (TPGn_STAT_LOADSKIP n)
  if isTrain s n then
    let tgt := tpgNext s n
    let k := alignK s n tgt ((w.now + s.ticksOf 8 : Nat) : Int)
    (setNext n (tgt + k * tpgPeriod s n) s).raise (TPGn_STAT_LATE_ALIGNED n)
  else s.wr (TPGn_STAT_STATE n) T_DONE

/-- The next target is due: the generator is ARMED, no pulse is in progress and no DISARM waits. -/
def leadReady (s : State) (n : Nat) : Bool :=
  s.rd (TPGn_STAT_STATE n) == T_ARMED && (s.tpg n).trail.isNone && !(s.tpg n).disarm

/-- A step of the CLK_PER cycle in which ARM was written has jumped over an instant (R348). -/
def steppedPast (s : State) (w : Span) (t : Int) : Bool :=
  decide (t < w.t0) && (match s.tb.stepped with | some (k, v) => decide (s.ticks ≤ k + 4) && decide ((v : Int) ≤ t + s.rate) | none => false)

/-- The leading edge of the next target, if it falls in the interval before a step or a load (R342). -/
def leadTick (n : Nat) (w : Span) (s : State) : State :=
  let fire := firing s n (tpgNext s n)
  if !leadReady s n || decide ((w.mid : Int) ≤ fire) then s
  else if steppedPast s w fire then leadingEdge n (s.ticks - 1) w.t0 0 (s.raise (TPGn_STAT_STEPHIT n))
  else leadingEdge n (s.ticks - 1) w.t0 (fineAt s w fire) s

/-- The leading edge of the next target, if a step or a load jumps over it (R348). -/
def leadJump (n : Nat) (w : Span) (s : State) : State :=
  if !leadReady s n || decide ((w.now : Int) ≤ firing s n (tpgNext s n)) then s
  else if w.loaded then loadSkip n w s
  else if w.stepped then stepHit n w s
  else s

/-- The targets that fire before an instant are not emitted (R348). -/
def suppress (n : Nat) (bound : Int) (s : State) : State :=
  if s.rd (TPGn_STAT_STATE n) ≠ T_ARMED ∨ bound ≤ firing s n (tpgNext s n) then s
  else
    let s := s.raise (TPGn_STAT_SUPP n)
    if isTrain s n then
      let tgt := tpgNext s n
      let k := alignK s n tgt bound
      (setNext n (tgt + k * tpgPeriod s n) s).count (TPGn_COUNT_NOTEMIT n) k
    else (s.count (TPGn_COUNT_NOTEMIT n)).wr (TPGn_STAT_STATE n) T_DONE

/-- A tick of a generator during a clock fault: a pulse in progress is cut, a target that falls in it is not emitted, and a
load moves the schedule as it does otherwise (R348). -/
def suppressedTick (n : Nat) (w : Span) (s : State) : State :=
  let s := if (s.tpg n).trail.isSome then pulseOver n (s.raise (TPGn_STAT_TRUNC n)) else s
  if w.loaded then
    let s := suppress n w.mid s
    if s.rd (TPGn_STAT_STATE n) = T_ARMED ∧ firing s n (tpgNext s n) < w.now then loadSkip n w s else s
  else suppress n w.now s

/-- The end of a clock fault: targets that fire less than 8 ticks after it are not emitted (R348).
[DEDUCED, unsafe: notes/assumptions/35] -/
def resumeTick (n : Nat) (w : Span) (s : State) : State :=
  if s.flag (TPGn_STAT_SUPPNOW n) then s.setTpg n { s.tpg n with resume := w.t0 + s.ticksOf 8 } else s

/-- A tick of a generator: what falls in the interval before a step or a load, then what that jumps over. -/
def tpgTick (w : Span) (s : State) (n : Nat) : State :=
  if s.flag SAF_STAT_CLKFAULT then suppressedTick n w (s.raise (TPGn_STAT_SUPPNOW n))
  else
    let s := (resumeTick n w s).clear (TPGn_STAT_SUPPNOW n)
    let s := suppress n (min w.now (s.tpg n).resume) s
    leadJump n w (trailJump n w (leadTick n w (trailTick n w s)))

/-- The tick interval between two states of the time base. -/
def spanOf (before after : State) : Span :=
  let (step, k, _) := stepsDue { before with ticks := before.ticks + 1 }
  let loaded := before.tb.load.isSome && after.tb.load.isNone
  let now := after.tb.now
  { t0 := before.tb.now, mid := if loaded then before.tb.now + after.rate else now - (if k = 0 then 0 else step),
    now := now, stepped := decide (0 < k) && !loaded, loaded := loaded }

/-- All generators and the step marks of the capture units at a tick (R342, R353). -/
def pulsesTick (w : Span) (s : State) : State :=
  let s := (List.range 16).foldl (tpgTick w) s
  if w.stepped then
    { s with pls := { s.pls with evc := s.pls.evc.map fun x => { x with stepped := true } } }
  else s

/-- A generator after the next tick interval. -/
def tpgAfter (s : State) (n : Nat) : State :=
  let s' := tbTick s
  tpgTick (spanOf s s') s' n

/-- The next tick interval places the trailing edge of the pulse in progress. -/
def trailingDue (s : State) (n : Nat) : Bool :=
  (s.tpg n).trail.isSome && !s.flag SAF_STAT_CLKFAULT && ((tpgAfter s n).tpg n).trail != (s.tpg n).trail

/-- The next tick interval places a leading edge. -/
def leadingDue (s : State) (n : Nat) : Bool := (tpgAfter s n).rd (TPGn_COUNT_EDGES n) != s.rd (TPGn_COUNT_EDGES n)

/-! ### Registers of a generator -/

/-- The registers that an ARMED generator keeps (R346). -/
def tpgKeeps (n a : Nat) : Bool :=
  a == TPGn_CTRL n || a == TPGn_TGTSEC n || a == TPGn_TGTFRAC n || a == TPGn_PERSEC n || a == TPGn_PERFRAC n ||
    a == TPGn_WIDTH n

/-- A write of TPGn_CMD: ARM and DISARM together are ignored (R346). -/
def tpgCmd (n : Nat) (arm disarm : Bool) (s : State) : State :=
  if arm && disarm then s.raise (TPGn_STAT_CFGERR n)
  else if arm then tpgArm n s
  else if disarm then tpgDisarm n s
  else s

/-- Whether an initiator owns a unit (R359). -/
def owns (s : State) (init : Nat) (o : Owned) : Bool := ownerOf s o == some init

/-- A write of a register of generator `n` (R345, R346, R358, R359). -/
def tpgWrite (init n a : Nat) (v : Word) (s : State) : State :=
  if a = TPGn_OWNER n then
    ownerWrite init (tpgUnit n) ((TPGn_OWNER_FREL n).of v = 1) ((TPGn_OWNER_RELEASE n).of v = 1)
      ((TPGn_OWNER_CLAIM n).of v = 1) s
  else if a = TPGn_PATH n then mirrorWrite init a v s
  else
    guardW (owns s init (tpgUnit n)) init a OWNER (fun s =>
      if a = TPGn_CMD n then tpgCmd n ((TPGn_CMD_ARM n).of v = 1) ((TPGn_CMD_DISARM n).of v = 1) s
      else if tpgKeeps n a ∧ s.rd (TPGn_STAT_STATE n) = T_ARMED then s.raise (TPGn_STAT_CFGERR n)
      else s.typed a v) s

/-! ### Capture units -/

/-- The hidden state of a capture unit. -/
def State.evc (s : State) (n : Nat) : EvcState := s.pls.evc.getD n {}

/-- The state with the hidden state of a capture unit replaced; FILL shows its queue. -/
def State.setEvc (s : State) (n : Nat) (x : EvcState) : State :=
  ({ s with pls := { s.pls with evc := s.pls.evc.setIfInBounds n x } }).wr (EVCn_STAT_FILL n) x.queue.length

/-- Captures stop in KEEPTIME and DEEP (R356). -/
def evcPowered (s : State) : Bool := s.pwr.power != .keeptime && s.pwr.power != .deep

/-- Expected instants: EXP and PER in 2^-48 s, and WIN, as the registers give them (R355). -/
def evcExp (s : State) (n : Nat) : Nat := s.stamp (EVCn_EXPSEC n) (EVCn_EXPFRAC n)
def evcPer (s : State) (n : Nat) : Nat := s.rd (EVCn_PERSEC_SEC n) * 2 ^ 48 + s.rd (EVCn_PERFRAC_FRAC n)
def evcGrid (s : State) (n : Nat) : EvcGrid := ⟨evcExp s n, evcPer s n, s.rd (EVCn_WIN_WIN n)⟩

/-- E_k of a grid; the k of the one nearest to an instant, the later of two as near; the k of the last one at or before an
instant (R355). [DEDUCED, unsafe: notes/assumptions/36] -/
def gridAt (g : EvcGrid) (k : Int) : Int := g.exp + k * g.per
def gridNear (g : EvcGrid) (t : Int) : Int := (2 * (t - g.exp) + g.per) / (2 * g.per : Int)
def gridUpTo (g : EvcGrid) (t : Int) : Int := (t - g.exp) / (g.per : Int)

/-- The expected instant nearest to `t` with its WIN: up to the last write of EXP, PER or WIN the instants are those of the
grid before it, and later ones those of the registers (R355, R362). -/
def nearestE (s : State) (n : Nat) (t : Int) : Int × Nat :=
  let g := evcGrid s n
  match (s.evc n).grid with
  | none => (gridAt g (gridNear g t), g.win)
  | some (o, w) =>
    let a := gridAt o (min (gridNear o t) (gridUpTo o w))
    let b := gridAt g (max (gridNear g t) (gridUpTo g w + 1))
    if (t - a).natAbs < (t - b).natAbs then (a, o.win) else (b, g.win)

/-- |t − E_k| exceeds WIN (R355). -/
def outsideWindow (t : Int) (e : Int × Nat) : Bool := decide (e.2 * 2 ^ 48 < (t - e.1).natAbs * 10 ^ 9)

/-- WIN in 2^-96 s, and the instant E + WIN at which a window closes. -/
def winOf (win : Nat) : Nat := win * 2 ^ 96 / 10 ^ 9
def closeOf (e : Int × Nat) : Int := e.1 * 2 ^ 48 + winOf e.2

/-- The k of the last window of a grid that has closed before an instant of 2^-96 s. -/
def closedBefore (g : EvcGrid) (x : Int) : Int := (x - 1 - winOf g.win - g.exp * 2 ^ 48) / (g.per * 2 ^ 48 : Int)

/-- The windows that close in a tick interval. -/
def closing (s : State) (n : Nat) (w : Span) : Nat :=
  let g := evcGrid s n
  match (s.evc n).grid with
  | none => (closedBefore g w.now - closedBefore g w.t0).toNat
  | some (o, at_) =>
    (min (closedBefore o w.now) (gridUpTo o at_) - min (closedBefore o w.t0) (gridUpTo o at_)).toNat +
      (max (closedBefore g w.now) (gridUpTo g at_) - max (closedBefore g w.t0) (gridUpTo g at_)).toNat

/-- Whether the unit watches its expected windows (R355). -/
def watches (s : State) (n : Nat) : Bool := s.flag (EVCn_CTRL_RANGEEN n) && s.flag (EVCn_CTRL_EN n) && evcPowered s

/-- The windows that close empty in a tick interval (R355). [DEDUCED, unsafe: notes/assumptions/36] -/
def emptyWindows (s : State) (n : Nat) (w : Span) : Nat :=
  if !watches s n then 0
  else
    let held := match (s.evc n).hit with
      | some e => decide ((w.t0 : Int) ≤ closeOf e) && decide (closeOf e < w.now)
      | none => false
    closing s n w - if held then 1 else 0

/-- The bits of EVCn_CAPINFO (R362). -/
def CI_VALID : Nat := 128
def CI_FALL : Nat := 64
def CI_OUTWIN : Nat := 32
def CI_CLKFLT : Nat := 16
def CI_STEPPED : Nat := 8
def CI_OVFBEFORE : Nat := 4

/-- A capture that is discarded (R352, R354). -/
def evcLose (n : Nat) (s : State) : State := (s.raise (EVCn_STAT_OVF n)).count (EVCn_COUNT_OVF n)

/-- An accepted edge is captured (R353 to R356). -/
def evcStore (n : Nat) (x : Transition) (s : State) : State :=
  let t : Nat := (x.time / 256 - x.path) / 2 ^ 48
  let ranged := s.flag (EVCn_CTRL_RANGEEN n)
  let near := nearestE s n t
  let out := ranged && outsideWindow t near
  let s := if ranged && !out then s.setEvc n { s.evc n with hit := some near } else s
  let s := if out then (s.raise (EVCn_STAT_OUTWIN n)).count (EVCn_COUNT_OUTWIN n) else s
  let s := if x.fault then s.raise (EVCn_STAT_CLKFLT n) else s
  let e := s.evc n
  if out && s.flag (EVCn_CTRL_OUTDROP n) then s
  else if 16 ≤ e.queue.length then evcLose n (s.setEvc n { e with lost := true })
  else
    let info := CI_VALID + (if x.fall then CI_FALL else 0) + (if out then CI_OUTWIN else 0) +
      (if x.fault then CI_CLKFLT else 0) + (if x.stepped then CI_STEPPED else 0) + (if e.lost then CI_OVFBEFORE else 0)
    let s := s.setEvc n { e with queue := e.queue ++ [⟨t, info⟩], lost := false }
    (s.raise (EVCn_STAT_CAP n)).count (EVCn_COUNT_CAPS n)

/-- A transition that gives no capture leaves the mark of a step tick to the next one (R353). -/
def evcUnused (x : Transition) (e : EvcState) : EvcState := { e with stepped := e.stepped || x.stepped }

/-- EDGE selects the transition (R352). -/
def evcSelects (s : State) (n : Nat) (fall : Bool) : Bool :=
  match s.rd (EVCn_CTRL_EDGE n) with
  | 0 => !fall
  | 1 => fall
  | _ => true

/-- An accepted transition that EDGE selects must lie far enough from the previous such one (R352); one that is not stored
leaves the mark of a step tick to the next capture. [DEDUCED, unsafe: notes/assumptions/36] -/
def evcAccept (n : Nat) (x : Transition) (s : State) : State :=
  let e := s.evc n
  let gap := max (s.rd (EVCn_CTRL_FILT n) + 2) 4
  let close := match e.accepted with | some k => decide (x.tick < k + gap) | none => false
  if !evcSelects s n x.fall then s.setEvc n (evcUnused x e)
  else if close then evcLose n (s.setEvc n (evcUnused x e))
  else
    let s' := evcStore n x (s.setEvc n { e with accepted := some x.tick })
    if (s'.evc n).queue.length = e.queue.length then s'.setEvc n (evcUnused x (s'.evc n)) else s'

/-- The pin function EVn reaches the unit through some ball of the Pin Multiplexer (R341, R523). -/
def evcConnected (s : State) (n : Nat) : Bool := (List.range 48).any fun b => s.rd (PMX_PINn_FUNC b) == 17 + n

/-- A transition at the input, `f` fine steps after the present tick; one that comes while another waits in the filter
withdraws both (R352, R353). -/
def evcEdge (n f : Nat) (s : State) : State :=
  if !evcConnected s n then s
  else
    let e := s.evc n
    let e := { e with level := !e.level }
    match e.cand with
    | some y => s.setEvc n { evcUnused y e with cand := none }
    | none =>
      if !evcPowered s || !s.flag (EVCn_CTRL_EN n) then s.setEvc n e
      else
        let x : Transition := ⟨s.ticks, 256 * s.tb.now + f * s.rate, s.fineOf (s.rd (EVCn_PATH_PATH n)), !e.level, e.stepped,
          s.flag SAF_STAT_CLKFAULT⟩
        let e := { e with stepped := false }
        if s.rd (EVCn_CTRL_FILT n) = 0 then evcAccept n x (s.setEvc n e) else s.setEvc n { e with cand := some x }

/-- The transition in the filter has held the new level for FILT ticks at a tick (R352). -/
def filterDue (s : State) (n tick : Nat) : Bool :=
  match (s.evc n).cand with
  | none => false
  | some x => decide (x.tick + s.rd (EVCn_CTRL_FILT n) ≤ tick)

/-- The transition in the filter is accepted (R352). -/
def evcCapture (n : Nat) (s : State) : State :=
  let e := s.evc n
  match e.cand with
  | none => s
  | some x => evcAccept n x (s.setEvc n { e with cand := none })

/-- The windows that a tick interval closes empty are counted (R355). -/
def evcMiss (n : Nat) (w : Span) (s : State) : State :=
  let k := emptyWindows s n w
  if k = 0 then s else (s.raise (EVCn_STAT_MISS n)).count (EVCn_COUNT_MISS n) k

/-- A tick of a capture unit. -/
def evcTick (w : Span) (s : State) (n : Nat) : State :=
  evcMiss n w (if filterDue s n s.ticks then evcCapture n s else s)

/-- The next tick accepts the transition in the filter, or closes a window empty. -/
def captureDue (s : State) (n : Nat) : Bool := filterDue s n (s.ticks + 1)
def missDue (s : State) (n : Nat) : Bool :=
  let s' := tbTick s
  decide (0 < emptyWindows s' n (spanOf s s'))

/-- FLUSH (R354). -/
def evcFlush (n : Nat) (s : State) : State := s.setEvc n { s.evc n with queue := [] }

/-- The capture latched for an initiator. -/
def latchedCapture (e : EvcState) (init : Nat) : Option Capture := (e.latched.find? fun p => p.1 == init).map (·.2)

/-- A read of EVCn_CAPFRAC latches the oldest capture for the initiator (R354). -/
def evcCapFracRead (init n : Nat) (s : State) : State :=
  let e := s.evc n
  let others := e.latched.filter fun p => p.1 != init
  s.setEvc n { e with latched := match e.queue with | [] => others | c :: _ => (init, c) :: others }

/-- A read of EVCn_CAPINFO removes the latched capture from the queue (R354). -/
def evcCapInfoRead (init n : Nat) (s : State) : State :=
  let e := s.evc n
  match latchedCapture e init with
  | none => s
  | some c =>
    s.setEvc n { e with
      latched := e.latched.filter fun p => p.1 != init,
      queue := if e.queue.head? = some c then e.queue.drop 1 else e.queue }

/-- What CAPFRAC, CAPSEC and CAPINFO read (R354). -/
def evcCapFrac (s : State) (n : Nat) : Nat := match (s.evc n).queue with | [] => 0 | c :: _ => c.time % 2 ^ 48
def evcCapSec (s : State) (init n : Nat) : Nat := match latchedCapture (s.evc n) init with | some c => c.time / 2 ^ 48 | none => 0
def evcCapInfo (s : State) (init n : Nat) : Nat := match latchedCapture (s.evc n) init with | some c => c.info | none => 0

/-- The transition in the filter is dropped. -/
def evcWithdraw (e : EvcState) : EvcState :=
  match e.cand with
  | none => e
  | some y => { evcUnused y e with cand := none }

/-- A write of EVCn_CTRL: RANGEEN while WIN is not below half of PER is ignored (R355). -/
def evcCtrl (n : Nat) (v : Word) (s : State) : State :=
  let bad := decide (evcPer s n * 10 ^ 9 ≤ 2 * (s.rd (EVCn_WIN_WIN n) * 2 ^ 48))
  if (EVCn_CTRL_RANGEEN n).of v = 1 ∧ bad then s.raise (EVCn_STAT_CFGERR n)
  else
    let s := s.typed (EVCn_CTRL n) v
    let s := if (EVCn_CTRL_EN n).of v = 0 then s.setEvc n (evcWithdraw (s.evc n)) else s
    let s := if (EVCn_CTRL_RANGEEN n).of v = 0 then s.setEvc n { s.evc n with hit := none, grid := none } else s
    if (EVCn_CTRL_FLUSH n).of v = 1 then evcFlush n s else s

/-- A write of EXP, PER or WIN: while RANGEEN is 1 the expected instants that have passed keep the grid under which they
fell, and those from the next on follow the registers (R362). [DEDUCED, unsafe: notes/assumptions/36] -/
def evcGridWrite (n a : Nat) (v : Word) (s : State) : State :=
  let e := s.evc n
  let now : Int := s.now48
  let g := evcGrid s n
  let kept := match e.grid with
    | some (o, w) => if gridUpTo g now ≤ gridUpTo g w then o else g
    | none => g
  let s := if s.flag (EVCn_CTRL_RANGEEN n) then s.setEvc n { e with grid := some (kept, s.now48) } else s
  s.typed a v

/-- The registers of the expected instants. -/
def evcGridReg (n a : Nat) : Bool :=
  a == EVCn_EXPSEC n || a == EVCn_EXPFRAC n || a == EVCn_PERSEC n || a == EVCn_PERFRAC n || a == EVCn_WIN n

/-- A write of a register of capture unit `n`. -/
def evcWrite (init n a : Nat) (v : Word) (s : State) : State :=
  if a = EVCn_OWNER n then
    ownerWrite init (evcUnit n) ((EVCn_OWNER_FREL n).of v = 1) ((EVCn_OWNER_RELEASE n).of v = 1)
      ((EVCn_OWNER_CLAIM n).of v = 1) s
  else if a = EVCn_PATH n then mirrorWrite init a v s
  else
    guardW (owns s init (evcUnit n)) init a OWNER (fun s =>
      if a = EVCn_CTRL n then evcCtrl n v s
      else if evcGridReg n a then evcGridWrite n a v s
      else s.typed a v) s

/-- TPE_SUMMARY as it reads (R362). -/
def tpeSummary (s : State) : Nat :=
  let t := (List.range 16).foldl (fun a n =>
    a + if (s.reg (TPGn_STAT n) &&& s.reg (TPGn_INTEN n)).toNat % 512 = 0 then 0 else 2 ^ n) 0
  let e := (List.range 8).foldl (fun a n =>
    a + if (s.reg (EVCn_STAT n) &&& s.reg (EVCn_INTEN n)).toNat % 64 = 0 then 0 else 2 ^ n) 0
  t + e * 2 ^ 16

/-- A write of a TPG, EVC or TPE register (R351, R360). -/
def tpeWrite (init a : Nat) (v : Word) (s : State) : State :=
  if a < 0x10050800 then tpgWrite init ((a - 0x10050000) / 0x80) a v s
  else if a < 0x10050C00 then evcWrite init ((a - 0x10050800) / 0x80) a v s
  else guardW (init == 6) init a OWNER (fun s => s.typed a v) s

/-! ### Meanings -/

/-- TPG_ARM (R345): a write of TPGn_CMD.ARM by an initiator. -/
def execTpgArm (init : Init) (gen : Fin 16) (s : State) : Host.Outcome State Fault Refusal :=
  done (asAccess init (TPGn_CMD gen) true (tpgWrite init gen (TPGn_CMD gen) 1) s)

/-- TPG_DISARM (R346): a write of TPGn_CMD.DISARM by an initiator. -/
def execTpgDisarm (init : Init) (gen : Fin 16) (s : State) : Host.Outcome State Fault Refusal :=
  done (asAccess init (TPGn_CMD gen) true (tpgWrite init gen (TPGn_CMD gen) 2) s)

/-- TPG_NEXTLAST_FRAC_READ (R347): reading NEXTFRAC (false) or LASTFRAC (true) latches the matching SEC register. -/
def execTpgNextlastFracRead (init : Init) (gen : Fin 16) (last : Bool) (s : State) : Host.Outcome State Fault Refusal :=
  let sec := if last then TPGn_LASTSEC gen else TPGn_NEXTSEC gen
  done (asAccess init (sec + 8) false (fun s => latchSec init sec (s.reg sec).toNat s) s)

/-- UNIT_CLAIM (R358): units 0 to 15 are the generators, 16 to 23 the capture units. -/
def execUnitClaim (init : Init) (unit : Fin 24) (s : State) : Host.Outcome State Fault Refusal :=
  done (asAccess init (ownedUnit unit).reg true (ownerWrite init (ownedUnit unit) false false true) s)

/-- UNIT_RELEASE (R358). -/
def execUnitRelease (init : Init) (unit : Fin 24) (s : State) : Host.Outcome State Fault Refusal :=
  done (asAccess init (ownedUnit unit).reg true (ownerWrite init (ownedUnit unit) false true false) s)

/-- UNIT_FORCE_RELEASE (R358). -/
def execUnitForceRelease (init : Init) (unit : Fin 24) (s : State) : Host.Outcome State Fault Refusal :=
  done (asAccess init (ownedUnit unit).reg true (ownerWrite init (ownedUnit unit) true false false) s)

/-- EVC_INPUT_EDGE (R352): the input changes level, so many fine steps after the present tick. -/
def execEvcInputEdge (unit : Fin 8) (fine : Fin 256) (s : State) : Host.Outcome State Fault Refusal :=
  done (evcEdge unit fine s)

/-- EVC_FLUSH (R354): a write of EVCn_CTRL.FLUSH by an initiator, its other fields kept. -/
def execEvcFlush (init : Init) (unit : Fin 8) (s : State) : Host.Outcome State Fault Refusal :=
  done (asAccess init (EVCn_CTRL unit) true (fun s => guardW (owns s init (evcUnit unit)) init (EVCn_CTRL unit) OWNER (evcFlush unit) s) s)

/-- EVC_CAPFRAC_READ (R354). -/
def execEvcCapfracRead (init : Init) (unit : Fin 8) (s : State) : Host.Outcome State Fault Refusal :=
  done (asAccess init (EVCn_CAPFRAC unit) false (evcCapFracRead init unit) s)

/-- EVC_CAPINFO_READ (R354). -/
def execEvcCapinfoRead (init : Init) (unit : Fin 8) (s : State) : Host.Outcome State Fault Refusal :=
  done (asAccess init (EVCn_CAPINFO unit) false (evcCapInfoRead init unit) s)

end Sys2Proof.Machine
end

