-- ==== Sys2Proof/Machine/Boot.lean ====
section
/-!
DEFINITION. MSI-X messages (R535, R537) and the status of the boot (R528, R534): what every chapter that starts SV or tells
the host uses.
-/

namespace Sys2Proof.Machine

/-- The mask bit of a vector in the MSI-X table, which is 1 at reset: memory holds its complement. [PRESUMED, unsafe: notes/assumptions/54] -/
def vectorMasked (s : State) (v : Nat) : Bool := (s.byte (0x10151000 + 16 * v + 12)).toNat % 2 == 0

/-- A message of MSI-X may leave: enabled, no Function Mask, Bus Master Enable, and the vector is not masked (R537).
[PRESUMED, unsafe: notes/assumptions/54] -/
def vectorGoes (s : State) (v : Nat) : Bool :=
  s.flag HST_PCISTAT_MSIXEN && !s.hst.mask && s.flag HST_PCISTAT_BME && !vectorMasked s v

/-- Vector `v` is raised: a message to the host, or a pending bit until it may leave. [PRESUMED, unsafe: notes/assumptions/54] -/
def raiseVector (v : Nat) (s : State) : State :=
  if vectorGoes s v then { s with hst := { s.hst with vectors := s.hst.vectors ++ [v] } }
  else { s with hst := { s.hst with pba := s.hst.pba ||| 1 <<< v } }

/-- HST_BOOT.STATUS (R558). -/
def BOOT_RUNNING : Nat := 0
def BOOT_WAITHOST : Nat := 1
def BOOT_VERIFY : Nat := 2
def BOOT_DONE : Nat := 3
def BOOT_FAIL : Nat := 4

/-- A change of the boot status raises vector 1. -/
def bootStatus (st cause : Nat) (s : State) : State :=
  let s' := (s.wr HST_BOOT_STATUS st).wr HST_BOOT_CAUSE cause
  if s.rd HST_BOOT_STATUS = st then s' else raiseVector 1 s'

/-- The boot ROM enables byte link `j`, unless it is: its rings lie below the staging area (R533, R534).
[DESIGN CHOICE, unsafe: notes/assumptions/56] -/
def romLink (s : State) (j : Nat) : State :=
  if s.bit HST_CTRL_LINKEN j then s
  else ((s.wr (HST_Lj_RXBASE_BASE j) (0x7F0 + 2 * j)).wr (HST_Lj_TXBASE_BASE j) (0x7F1 + 2 * j)).raiseBit HST_CTRL_LINKEN j

/-- No image has passed: every host link is served (R534). -/
def bootFailed (cause : Nat) (s : State) : State := (List.range 4).foldl romLink (bootStatus BOOT_FAIL cause s)

/-- SV enters its boot ROM: BOOTSEL is sampled, and the ROM waits for the host, reads the flash or gives up (R528). -/
def bootStart (s : State) : State :=
  let b := s.straps.bootsel
  let s := (s.wr HST_BOOT_BOOTSEL b).wr SYS_STRAP_BOOTSEL b
  let s := { s with hst := { s.hst with ready := false, boot := none, slot := 0, stageBad := false } }
  if b = 0 then bootStatus BOOT_RUNNING 0 s
  else if b < 4 then bootStatus BOOT_WAITHOST 0 (if b = 3 then romLink s 1 else s)
  else bootFailed 1 s

end Sys2Proof.Machine
end

