-- ==== Sys2Proof/Machine/Clocks.lean ====
section
/-!
DEFINITION. The clock fault (Faults and Health, R508 to R510) and Clock Synthesis (R363 to R386): the reference inputs, the
root PLL and the output synthesisers.
-/

namespace Sys2Proof.Machine

/-! ### The clock fault -/

/-- A check of R508 fails or passes: 0 LOS, 1 FREQ, 2 GROSS. -/
def setFailing (k : Nat) (b : Bool) (s : State) : State :=
  let f := s.saf.failing
  let old := f >>> k % 2
  { s with saf := { s.saf with failing := f - old <<< k + (if b then 1 <<< k else 0) } }

/-- A clock fault starts while a check fails, and gathers causes while it is in force (R509). -/
def clockFault (s : State) : State :=
  let f := s.saf.failing
  if f = 0 then s
  else if s.flag SAF_STAT_CLKFAULT then s.wr SAF_CFSTAT_CAUSE (s.rd SAF_CFSTAT_CAUSE ||| f)
  else
    let s := ((s.raise SAF_STAT_CLKFAULT).raise SAF_STAT_CFSTART).wr SAF_CFSTAT_CAUSE f
    let s := s.count SAF_COUNT_CF
    let s := { s with saf := { s.saf with faultTicks := 0, fromReset := false, okTicks := 0 } }
    refreshTrust (logUnit 0x01 2 0 f s)

/-- The clock fault ends (R510). -/
def clockFaultEnd (s : State) : State :=
  let us := min (s.saf.faultTicks / 600) (2 ^ 32 - 1)
  let s := ((s.clear SAF_STAT_CLKFAULT).raise SAF_STAT_CFEND).wr SAF_CFSTAT_LASTUS us
  refreshTrust (logUnit 0x02 1 0 us s)

/-! ### References -/

/-- CLK_STAT.STATE (R388). -/
def C_ACQUIRE : Nat := 0
def C_LOCKED : Nat := 1
def C_FROZEN : Nat := 2
def C_RELOCK : Nat := 3
def C_SWITCH : Nat := 4

/-- The states of a reference input (R368). -/
def R_ABSENT : Nat := 0
def R_PRESENT : Nat := 1
def R_VALID : Nat := 2

/-- The monitor field of a reference: 0 REFA, 1 REFB. -/
def refFld (r : Nat) : Fld := if r = 0 then CLK_REFMON_ASTATE else CLK_REFMON_BSTATE

/-- The state of a reference, the selected reference and the other one. -/
def refState (s : State) (r : Nat) : Nat := s.rd (refFld r)
def selected (s : State) : Nat := s.rd CLK_STAT_SEL
def other (s : State) : Nat := 1 - selected s

/-- FSEL and MULT of a reference as CLK_REFCFG holds them. -/
def refCfg (s : State) (r : Nat) : Nat × Nat :=
  if r = 0 then (s.rd CLK_REFCFG_AFSEL, s.rd CLK_REFCFG_AMULT) else (s.rd CLK_REFCFG_BFSEL, s.rd CLK_REFCFG_BMULT)

/-- The frequency that FSEL declares, in units of 10 kHz (R363); a write stores no reserved code. -/
def refFreq (fsel : Nat) : Nat :=
  match fsel with
  | 0 => 1000 | 1 => 1280 | 2 => 1920 | 3 => 2000 | 4 => 2500 | 5 => 3072 | 6 => 3840 | 7 => 4000 | 8 => 5000 | _ => 0

/-- Twice the factor M of a reference path; code 3 is treated as 0 (R364). -/
def pathFactor (mult : Nat) : Nat := match mult with | 1 => 4 | 2 => 1 | _ => 2

/-- Eight times N = 4,800 MHz / f_PD of the root for a path's FSEL and MULT (R364). -/
def rootN8 (p : Nat × Nat) : Nat := 8 * 480000 * 2 / (refFreq p.1 * pathFactor p.2)

/-- FREQALT as the formula of R369 gives it. -/
def freqAlt (freqNow y : Int) : Int := (2 ^ 48 : Nat) * ((2 ^ 48 : Nat) + freqNow) / ((2 ^ 48 : Nat) + y) - (2 ^ 48 : Nat)

/-- ALTVALID in CLK_STAT and its mirror in TB_STAT (R369). -/
def refreshAlt (s : State) : State :=
  let alt := s.rdS TB_FREQALT_FREQ
  let ok := s.clk.yValid && decide (-14073748835 ≤ alt) && decide (alt ≤ 14073748835)
  (s.put CLK_STAT_ALTVALID ok).put TB_STAT_ALTVALID ok

/-- FREQALT recomputed from FREQNOW and YOTHER, whichever of them has changed (R369). -/
def recomputeAlt (s : State) : State :=
  refreshAlt (s.wrS TB_FREQALT_FREQ (clampS 48 (freqAlt (s.rdS TB_FREQNOW_FREQ) (s.rdS CLK_REFCMP_YOTHER))))

/-- The comparator's result no longer stands for the non-selected reference. -/
def dropWindow (s : State) : State := refreshAlt { s with clk := { s.clk with yValid := false } }

/-- The LOS check of R508: the selected reference has been lost and is ABSENT. -/
def losCheck (s : State) : State :=
  let r := selected s
  clockFault (setFailing 0 (s.clk.lost.getD r false && refState s r == R_ABSENT) s)

/-! ### The root PLL -/

/-- The state of the root. -/
def rootState (s : State) : Nat := s.rd CLK_STAT_STATE

/-- The root enters a state; LOCK is 1 in LOCKED. -/
def rootEnter (st : Nat) (s : State) : State := (s.wr CLK_STAT_STATE st).put CLK_STAT_LOCK (st == C_LOCKED)

/-- The lowest-numbered valid band with room on both sides of a frequency, among `n` (R365): the frequency and the band
limits in MHz times 2^48. -/
def findBand (valid : Nat → Bool) (flo fhi : Nat → Nat) (margin f : Nat) (n : Nat) : Option Nat :=
  (List.range n).find? fun k =>
    valid k && decide ((flo k + margin) * 2 ^ 48 ≤ f) && decide (f + margin * 2 ^ 48 ≤ fhi k * 2 ^ 48)

/-- Band selection at the start of an acquisition; whether one qualified (R365). -/
def rootBand (s : State) : Bool × State :=
  match findBand (fun k => s.flag (CLK_BANDk_VALID k)) (fun k => s.rd (CLK_BANDk_FLO k)) (fun k => s.rd (CLK_BANDk_FHI k)) 20
      (4800 * 2 ^ 48) 32 with
  | some k => (true, s.wr CLK_STAT_BAND k)
  | none => (false, (s.raise CLK_STAT_NOBAND).raise CLK_STAT_RELOCKFAIL)

/-- The path of a reference takes its configuration, and the root its feedback ratio (R364). -/
def takePath (r : Nat) (s : State) : State :=
  { s with clk := { s.clk with path := s.clk.path.setIfInBounds r (refCfg s r), n8 := rootN8 (refCfg s r) } }

/-- The acquisition of a boot: without a qualified band the root stays FROZEN (R365, R374). -/
def bootAcquire (s : State) : State :=
  let (ok, s) := rootBand s
  rootEnter (if ok then C_ACQUIRE else C_FROZEN) s

/-- A relock on the selected reference; a commanded one takes its path anew (R373). -/
def beginRelock (command : Bool) (s : State) : State :=
  let s := { s with clk := { s.clk with await := false, ticked := false, since := some s.ticks } }
  let r := selected s
  let s := if command then takePath r s
    else { s with clk := { s.clk with n8 := rootN8 (s.clk.path.getD r (0, 0)) } }
  let (ok, s) := rootBand s
  rootEnter (if ok then C_RELOCK else C_FROZEN) s

/-- A switch to the non-selected reference: steps 1 and 2 of R372. -/
def beginSwitch (s : State) : State :=
  let s := { s with clk := { s.clk with await := false, ticked := false, since := some s.ticks } }
  let (ok, s) := rootBand (takePath (other s) s)
  rootEnter (if ok then C_SWITCH else C_FROZEN) s

/-- The FREQ check begins a new window on the non-selected reference (R508). -/
def freqRestart (s : State) : State := { s with saf := { s.saf with freqFrom := s.ticks, judged := false } }

/-- The switch tick: steps 3 and 4 of R372, with YOTHER and ALTVALID as R369 sets them; the time base has applied R315.  The new
reference, now selected, is VALID while PRESENT (R368), and the FREQ check begins a window against the former one (R508).  The preset
word is rounded down. [DEDUCED, unsafe: notes/assumptions/37] -/
def clkSwitchTick (s : State) : State :=
  let old := selected s
  let new := other s
  let y := s.rdS CLK_REFCMP_YOTHER
  let word : Int := s.rd CLK_DTW_DTW
  let s := s.wrS CLK_DTW_DTW (word * ((2 ^ 48 : Nat) + y) / (2 ^ 48 : Nat))
  let s := (s.wr CLK_STAT_SEL new).wrS CLK_REFCMP_YOTHER (freqAlt 0 y)
  let s := if refState s new = R_PRESENT then s.wr (refFld new) R_VALID else s
  let s := { s with clk := { s.clk with
    ticked := true, yValid := s.clk.yValid && refState s old == R_VALID, winFrom := s.ticks } }
  losCheck (refreshAlt (setFailing 1 false (freqRestart s)))

/-- A reference becomes VALID, and a root that awaits one relocks on it (R368, R371).
[DEDUCED, safe: notes/assumptions/61] -/
def refValid (r : Nat) (s : State) : State :=
  let s := s.wr (refFld r) R_VALID
  let s := { s with clk := { s.clk with
    lost := s.clk.lost.setIfInBounds r false, winFrom := if r = selected s then s.clk.winFrom else s.ticks } }
  let s :=
    if s.clk.await && rootState s == C_FROZEN then (if r = selected s then beginRelock false s else beginSwitch s) else s
  losCheck s

/-- An input is PRESENT from now on, and its qualification starts (R368). -/
def startPresent (r : Nat) (s : State) : State :=
  { s.wr (refFld r) R_PRESENT with clk := { s.clk with presentAt := s.clk.presentAt.setIfInBounds r s.ticks } }

/-- Edges arrive at an ABSENT input: the selected one is VALID at once, unless it was lost (R368); a window of the FREQ check
begins on the other one (R508). -/
def refPresent (r : Nat) (s : State) : State :=
  if refState s r ≠ R_ABSENT then s
  else if r = selected s then (if s.clk.lost.getD r false then losCheck (startPresent r s) else refValid r s)
  else losCheck (startPresent r (freqRestart s))

/-- QUAL × 10 ms have passed at tick `t` since a PRESENT input became so; QUAL = 0 is treated as 1 (R368, R388). -/
def qualDue (s : State) (r t : Nat) : Bool :=
  refState s r == R_PRESENT &&
    decide (s.clk.presentAt.getD r 0 + max (s.rd CLK_REFCFG_QUAL) 1 * 10 * msTicks ≤ t)

/-- An input has been PRESENT for QUAL × 10 ms; that the frequency of a non-selected one has kept its tolerance is the command's to
say (R368). -/
def refQualified (r : Nat) (s : State) : State := if qualDue s r s.ticks then refValid r s else s

/-- The selected reference is lost (R368, R371, R375). [DEDUCED, safe: notes/assumptions/61] -/
def refLos (s : State) : State :=
  let r := selected s
  if refState s r = R_ABSENT then s
  else
    let s := s.wr (refFld r) R_ABSENT
    let s := { s with clk := { s.clk with lost := s.clk.lost.setIfInBounds r true } }
    let s := (s.raise (if r = 0 then CLK_STAT_LOSA else CLK_STAT_LOSB)).count CLK_COUNT_LOS
    let s := losCheck (logUnit 0x03 2 r r s)
    if rootState s = C_SWITCH ∧ !s.clk.ticked then s
    else if s.flag CLK_CTRL_AUTOSW ∧ refState s (other s) = R_VALID ∧ s.flag CLK_STAT_ALTVALID then beginSwitch s
    else rootEnter C_FROZEN { s with clk := { s.clk with await := true, ticked := false } }

/-- The non-selected input becomes ABSENT; a switch to it before its switch tick is abandoned (R368, R375). -/
def refAbsent (s : State) : State :=
  let r := other s
  if refState s r = R_ABSENT then s
  else
    let s := dropWindow (setFailing 1 false (s.wr (refFld r) R_ABSENT))
    if rootState s = C_SWITCH ∧ !s.clk.ticked then
      if refState s (selected s) = R_VALID then beginRelock false s
      else (rootEnter C_FROZEN { s with clk := { s.clk with await := true } }).raise CLK_STAT_RELOCKFAIL
    else s

/-- The comparator's window of 1 s, taken once the root has locked and while the other input is VALID, is complete (R369). -/
def windowDone (s : State) : Bool :=
  refState s (other s) == R_VALID && s.clk.lockedOnce && decide (s.clk.winFrom + 1000 * msTicks ≤ s.ticks)

/-- A complete window of the comparator (R368, R369). -/
def refWindow (y : Int) (s : State) : State :=
  if !windowDone s then s
  else
    let s := { s with clk := { s.clk with winFrom := s.ticks } }.wrS CLK_REFCMP_YOTHER y
    if max (s.rd CLK_REFCFG_REFTOL) 1 * 2 ^ 48 < y.natAbs * 10 ^ 6 then dropWindow (startPresent (other s) (recomputeAlt s))
    else recomputeAlt { s with clk := { s.clk with yValid := true } }

/-- SV leaves reset after a cold reset, and SAF writes the RESET entry (R374, R518). -/
def releaseSv (s : State) : State :=
  if s.clk.svOut then s
  else
    let s := { s with clk := { s.clk with svOut := true } }
    bootStart (logUnit 0x70 2 0 (s.reg PWR_RSTCAUSE).toNat s)

/-- The root declares LOCKED; it cannot lock to an input without edges (R370, R372 to R374). [DESIGN CHOICE, unsafe: notes/assumptions/37] -/
def rootLocked (s : State) : State :=
  let st := rootState s
  if refState s (selected s) ≠ R_ABSENT ∧ (st = C_ACQUIRE ∨ st = C_RELOCK ∨ (st = C_SWITCH ∧ s.clk.ticked)) then
    let (w, s) := s.fresh 24
    let (p, s) := s.fresh 8
    let s := (s.wr CLK_DTW_DTW w).wr CLK_DTW_POS p
    let s := if st = C_ACQUIRE then s else s.count CLK_COUNT_RELOCKS
    let s := if st = C_SWITCH then s.raise CLK_STAT_SWITCHED else s
    let s := { s with clk := { s.clk with
      lockedOnce := true, await := false, ticked := false, since := none,
      winFrom := if s.clk.lockedOnce then s.clk.winFrom else s.ticks } }
    releaseSv (rootEnter C_LOCKED s)
  else s

/-- The root loses lock (R370). -/
def rootLol (s : State) : State :=
  if rootState s ≠ C_LOCKED then s
  else logUnit 0x04 1 0 0 ((rootEnter C_FROZEN (s.raise CLK_STAT_LOL)).count CLK_COUNT_LOL)

/-- Lock has not been reached at tick `t`, 400 µs after the start of a relock or a switch (R372, R373). -/
def relockDue (s : State) (t : Nat) : Bool :=
  (rootState s == C_RELOCK || rootState s == C_SWITCH) &&
    match s.clk.since with | some w => decide (w + 400 * usTicks ≤ t) | none => false

/-- A relock or a switch has failed (R372, R373). [DESIGN CHOICE, unsafe: notes/assumptions/37] -/
def rootTimeout (s : State) : State :=
  (rootEnter C_FROZEN { s with clk := { s.clk with ticked := false, since := none } }).raise CLK_STAT_RELOCKFAIL

/-- 1 ms (false) and 2 ms (true) after a cold reset: the root has not locked yet, be it for want of a band (R365, R374). -/
def bootTimeout (late : Bool) (s : State) : State :=
  let waiting := (rootState s == C_ACQUIRE || rootState s == C_FROZEN) && !s.clk.lockedOnce
  if !late then
    if waiting && refState s 0 == R_ABSENT && selected s == 0 then
      let s := bootAcquire (takePath 1 (s.wr CLK_STAT_SEL 1))
      if refState s 1 = R_PRESENT then refValid 1 s else s
    else s
  else
    let s := if waiting then rootEnter C_FROZEN { s with clk := { s.clk with await := true } } else s
    releaseSv s

/-- 1 ms (false) or 2 ms (true) pass at tick `t` since the cold reset (R374). -/
def bootDue (s : State) (late : Bool) (t : Nat) : Bool := !s.clk.svOut && t == s.clk.resetAt + (if late then 2 else 1) * msTicks

/-- What is due at this tick at the references and the root: the
qualification of a lost reference, the end of an acquisition without lock, and the steps of the boot (R368, R372, R374). -/
def clkTick (s : State) : State :=
  let s := if qualDue s (selected s) s.ticks then refValid (selected s) s else s
  let s := if relockDue s s.ticks then rootTimeout s else s
  let s := if bootDue s false s.ticks then bootTimeout false s else s
  if bootDue s true s.ticks then bootTimeout true s else s

/-- The conditions of R510 hold: no check fails, the FREQ check has judged a complete window where it is made, and the root is
locked. -/
def faultClears (s : State) : Bool :=
  s.saf.failing == 0 && s.flag CLK_STAT_LOCK && (refState s (other s) == R_ABSENT || s.saf.judged)

/-- Ticks of the hold of R510; CFHOLD lies from 10 to 100. -/
def holdTicks (s : State) : Nat := min (max (s.rd SAF_CFCFG_CFHOLD) 10) 100 * usTicks

/-- One tick of a clock fault in force (R509, R510). -/
def faultTick (s : State) : State :=
  if !s.flag SAF_STAT_CLKFAULT then s
  else
    let ok := if faultClears s then s.saf.okTicks + 1 else 0
    let s := { s with saf := { s.saf with faultTicks := s.saf.faultTicks + 1, okTicks := ok } }
    if holdTicks s ≤ ok then clockFaultEnd s else s

/-- The clock fault ends at the next tick. -/
def faultEndDue (s : State) : Bool := s.flag SAF_STAT_CLKFAULT && faultClears s && decide (holdTicks s ≤ s.saf.okTicks + 1)

/-- A write of CLK_CMD (R373). -/
def clkCmd (relock switch : Bool) (s : State) : State :=
  let busy := rootState s == C_SWITCH || rootState s == C_RELOCK
  let noAlt := refState s (other s) != R_VALID || !s.flag CLK_STAT_ALTVALID
  if !relock && !switch then s
  else if (relock && switch) || busy || (switch && noAlt) then s.raise CLK_STAT_CMDREF
  else if switch then beginSwitch s
  else beginRelock true s

/-- A write of CLK_REFCFG (R363, R375): it is one for the non-selected reference where it changes that one's FSEL or MULT.
[DEDUCED, unsafe: notes/assumptions/37] -/
def refCfgWrite (v : Word) (s : State) : State :=
  if 8 < CLK_REFCFG_AFSEL.of v ∨ 8 < CLK_REFCFG_BFSEL.of v then s.raise CLK_STAT_CFGERR
  else
    let r := other s
    let before := refCfg s r
    let s := s.typed CLK_REFCFG v
    if refCfg s r = before ∨ refState s r = R_ABSENT then s else dropWindow (startPresent r s)

/-- A write of a CLK register. -/
def clkWrite (a : Nat) (v : Word) (s : State) : State :=
  if a = CLK_CMD then clkCmd (CLK_CMD_RELOCK.of v = 1) (CLK_CMD_SWITCH.of v = 1) s
  else if a = CLK_REFCFG then refCfgWrite v s
  else s.typed a v

/-- CLK_DIV takes the dividers of a level (R366, R367). -/
def setDividers (level : Nat) (s : State) : State :=
  let (c, y) := if level = 0 then (4, 6) else if level = 1 then (6, 8) else (12, 12)
  (s.wr CLK_DIV_CORRDIV c).wr CLK_DIV_SYSDIV y

/-! ### Output synthesisers -/

/-- A VCO period as OsyState.vco counts it. -/
def vcoPeriod : Nat := 600 * 2 ^ 48

/-- The hidden state of a synthesiser. -/
def State.osyn (s : State) (n : Nat) : OsyState := s.osy.getD n {}

/-- The state with the hidden state of a synthesiser replaced. -/
def State.setOsy (s : State) (n : Nat) (x : OsyState) : State := { s with osy := s.osy.setIfInBounds n x }

/-- f_PD in MHz for a MULT code (R364, R376). -/
def pdMHz (mult : Nat) : Nat := match mult with | 1 => 200 | 2 => 50 | _ => 100

/-- W in 2^-48 (R377). -/
def osyW (s : State) (n : Nat) : Nat := s.rd (OSYn_NINT_NINT n) * 2 ^ 48 + s.rd (OSYn_NFRAC_NFRAC n)

/-- T of R377. -/
def osyT (s : State) (n : Nat) : Int :=
  match s.rd (OSYn_CTRL_TRACK n) with
  | 0 => 0
  | 1 => s.rdS TB_FREQNOW_FREQ
  | _ => s.rdS TB_FREQNOW_FREQ + s.tb.s

/-- Weff in 2^-48 (R377). -/
def osyWeff (s : State) (n : Nat) : Int :=
  (osyW s n : Int) * ((2 ^ 48 : Nat) + osyT s n + s.rdS (OSYn_RAMPFREQ_FREQ n)) / (2 ^ 48 : Nat)

/-- The MULT in force: while EN is 1 the one that the enable or a RELOCK took (R381). -/
def osyMult (s : State) (n : Nat) : Nat :=
  if s.flag (OSYn_CTRL_EN n) || (s.osyn n).stopping then (s.osyn n).mult else s.rd (OSYn_CTRL_MULT n)

/-- f_VCO in MHz times 2^48 (R377). -/
def osyVco (s : State) (n : Nat) : Nat := (pdMHz (osyMult s n) * osyWeff s n).toNat

/-- Band selection of a synthesiser at f_PD × W (R376). -/
def osyBand (s : State) (n mult w : Nat) : Option Nat :=
  findBand (fun k => s.flag (OSYn_BANDk_VALID n k)) (fun k => s.rd (OSYn_BANDk_FLO n k)) (fun k => s.rd (OSYn_BANDk_FHI n k)) 25
    (pdMHz mult * w) 64

/-- The VCO of a synthesiser stops (R381). -/
def osyStopped (n : Nat) (s : State) : State :=
  let s := (s.clear (OSYn_STAT_LOCK n)).setReg (OSYn_RAMPFREQ n) 0
  let s := (s.setReg (OSYn_PHASEACC n) 0).wr (OSYn_RAMPCTRL_STATE n) 0
  (s.wr (OSYn_RAMPCTRL_SEG n) 0).setOsy n { mult := (s.osyn n).mult }

/-- EN of a synthesiser rises: both dividers start on one edge of the VCO, and an end that waits for its outputs is made first (R378,
R381). [DEDUCED, unsafe: notes/assumptions/38] -/
def osyEnable (n : Nat) (s : State) : State :=
  let mult := s.rd (OSYn_CTRL_MULT n)
  let f := pdMHz mult * osyW s n
  if s.flag (OSYn_CTRL_EN n) then s
  else if f < 5600 * 2 ^ 48 ∨ 6600 * 2 ^ 48 < f then s.raise (OSYn_STAT_CFGERR n)
  else
    match osyBand s n mult (osyW s n) with
    | none => s.raise (OSYn_STAT_NOBAND n)
    | some k =>
      let s := if (s.osyn n).stopping then osyStopped n s else s
      let s := (s.raise (OSYn_CTRL_EN n)).wr (OSYn_STAT_BAND n) k
      s.setOsy n { s.osyn n with mult := mult, acquiring := true, relocking := false, bandMeas := none }

/-- A pad of a synthesiser is driven (R380). -/
def outputDriven (s : State) (n k : Nat) : Bool := (s.osyn n).pads.getD k false

/-- EN of a synthesiser falls: its VCO stops once no pad is driven (R380, R381). -/
def osyDisable (n : Nat) (s : State) : State :=
  if !s.flag (OSYn_CTRL_EN n) then s
  else
    let s := s.clear (OSYn_CTRL_EN n)
    if outputDriven s n 0 || outputDriven s n 1 then s.setOsy n { s.osyn n with stopping := true } else osyStopped n s

/-- The synthesiser reaches LOCK; its tuning word and, at its first LOCK, the phase of its VCO are then what the loop has found; a RELOCK
moves that phase by at most one period (R381, R382). [DEDUCED, safe: notes/assumptions/38] -/
def osyLocked (n : Nat) (s : State) : State :=
  let x := s.osyn n
  if !x.acquiring then s
  else
    let (w, s) := s.fresh 24
    let (p, s) := s.fresh 8
    let s := ((s.wr (OSYn_DTW_DTW n) w).wr (OSYn_DTW_POS n) p).raise (OSYn_STAT_LOCK n)
    let s := if x.relocking then s.raise (OSYn_STAT_RELOCKED n) else s
    let (v, s) := s.fresh 72
    let shift := if x.relocking then v % 2 ^ 49 * 600 else v * 600 + vcoPeriod
    s.setOsy n { x with acquiring := false, relocking := false, started := true, vco := x.vco + shift - vcoPeriod }

/-- The synthesiser loses lock and freezes (R376). [DEDUCED, unsafe: notes/assumptions/38] -/
def osyLol (n : Nat) (s : State) : State :=
  if s.flag (OSYn_STAT_LOCK n) then logUnit 0x04 1 (2 + n) (2 + n) ((s.clear (OSYn_STAT_LOCK n)).raise (OSYn_STAT_LOL n)) else s

/-- W scaled by M_old / M_new, truncated (R382). -/
def scaleW (w old new : Nat) : Nat := w * pdMHz old / pdMHz new

/-- RELOCK of a synthesiser (R382). -/
def osyRelock (n : Nat) (s : State) : State :=
  let x := s.osyn n
  if !s.flag (OSYn_CTRL_EN n) || x.relocking then s.raise (OSYn_STAT_CFGERR n)
  else
    let mult := s.rd (OSYn_CTRL_MULT n)
    let w := scaleW (osyW s n) x.mult mult
    let s := (s.wr (OSYn_NINT_NINT n) (w / 2 ^ 48)).wr (OSYn_NFRAC_NFRAC n) w
    let s := s.clear (OSYn_STAT_LOCK n)
    match osyBand s n mult w with
    | none => (s.setOsy n { x with mult := mult, acquiring := false, relocking := false }).raise (OSYn_STAT_NOBAND n)
    | some k => (s.setOsy n { x with mult := mult, acquiring := true, relocking := true }).wr (OSYn_STAT_BAND n) k

/-- Output `k` of a synthesiser: its enable, format, divider and fraction. -/
def oeFld (n k : Nat) : Fld := if k = 0 then OSYn_OUTCTRL_OE0 n else OSYn_OUTCTRL_OE1 n
def fmtFld (n k : Nat) : Fld := if k = 0 then OSYn_OUTCTRL_FMT0 n else OSYn_OUTCTRL_FMT1 n
def sqFld (n k : Nat) : Fld := if k = 0 then OSYn_OUTCTRL_SQ0 n else OSYn_OUTCTRL_SQ1 n

/-- The checks of R379 on a write of 1 to OEk, with the format to be used. -/
def outputOk (s : State) (n k fmt : Nat) : Bool :=
  let int := s.rd (OSYn_DIVj_INT n k)
  let num := s.rd (OSYn_FRACj_NUM n k)
  let den := s.rd (OSYn_FRACj_DEN n k)
  let f := osyVco s n * den
  let d := int * den + num
  decide (den ≠ 0) && decide (6 ≤ int) && (num == 0 || decide (8 ≤ int)) && decide (num < den) &&
    decide (d * 2 ^ 48 ≤ 1000 * f) && decide (f ≤ 800 * 2 ^ 48 * d) && (fmt != 2 || decide (f ≤ 250 * 2 ^ 48 * d))

/-- OEk is written 1 (R379, R380). -/
def outputEnable (n k : Nat) (s : State) : State :=
  if s.flag (oeFld n k) then s
  else if outputOk s n k (s.rd (fmtFld n k)) then s.raise (oeFld n k)
  else s.raise (OSYn_STAT_CFGERR n)

/-- OEk is written 0 (R380). -/
def outputDisable (n k : Nat) (s : State) : State := s.clear (oeFld n k)

/-- Whether output `k` is to drive its pin: what the pad follows at rising edges of the divided output (R380, R381, R386). -/
def outputWanted (s : State) (n k : Nat) : Bool :=
  s.flag (OSYn_CTRL_EN n) && (s.osyn n).started && s.flag (oeFld n k) && !(s.flag (sqFld n k) && s.flag SAF_STAT_CLKFAULT) &&
    !entering s

/-- The rising edge `m` of a divided output, in 1/64 of a VCO period: the interpolator places it at the nearest of them (R378).
[DEDUCED, safe: notes/assumptions/38] -/
def risingEdge (s : State) (n k m : Nat) : Nat :=
  let den := s.rd (OSYn_FRACj_DEN n k)
  let d := s.rd (OSYn_DIVj_INT n k) * den + s.rd (OSYn_FRACj_NUM n k)
  (s.osyn n).starts.getD k 0 + (128 * m * d + den) / (2 * den)

/-- The first rising edge at or after a phase of the VCO; none of a divider whose words divide by nothing. -/
def edgeFrom (s : State) (n k vco : Nat) : Option Nat :=
  let den := s.rd (OSYn_FRACj_DEN n k)
  let d := s.rd (OSYn_DIVj_INT n k) * den + s.rd (OSYn_FRACj_NUM n k)
  if den = 0 ∨ d = 0 then none
  else
    let m := (64 * vco / vcoPeriod - (s.osyn n).starts.getD k 0) * den / (64 * d)
    ([m, m + 1].map (risingEdge s n k)).find? fun e => decide (64 * vco ≤ e * vcoPeriod)

/-- The fine steps into the next tick interval of the first rising edge of an output that falls in it. -/
def edgeIn (s : State) (n k : Nat) : Option Nat :=
  let v := (s.osyn n).vco
  match edgeFrom s n k v with
  | some e =>
    if e * vcoPeriod < 64 * (v + osyVco s n) then some ((e * vcoPeriod - 64 * v) * 256 / (64 * osyVco s n)) else none
  | none => none

/-- A divider restarts at the next rising edge of the other (R379). [DEDUCED, unsafe: notes/assumptions/38] -/
def divRestart (n k : Nat) (s : State) : State :=
  let x := s.osyn n
  let from_ := (edgeFrom s n (1 - k) x.vco).getD (64 * x.vco / vcoPeriod)
  s.setOsy n { x with starts := x.starts.setIfInBounds k from_ }

/-- The pads over the next tick interval: each takes what it is to do at a rising edge of its output. -/
def padsAfter (s : State) (n : Nat) : Vector Bool 2 :=
  Vector.ofFn fun k => if (edgeIn s n k).isSome then outputWanted s n k else outputDriven s n k

/-! ### The ramp generator (R383, R384) -/

/-- The first segment from `i` on whose duration is not zero. -/
def nextSegment (s : State) (n i : Nat) : Option Nat :=
  (List.range (s.rd (OSYn_RAMPCTRL_NSEGM1 n) + 1)).find? fun j => decide (i ≤ j) && s.rd (OSYn_SEGsDUR_DUR n j) != 0

/-- A segment begins, or the profile is complete. -/
def enterSegment (n i : Nat) (s : State) : State :=
  match nextSegment s n i with
  | some j => (s.setOsy n { s.osyn n with left := s.rd (OSYn_SEGsDUR_DUR n j) }).wr (OSYn_RAMPCTRL_SEG n) j
  | none => (s.wr (OSYn_RAMPCTRL_STATE n) 0).raise (OSYn_STAT_RAMPDONE n)

/-- RAMPGO. -/
def rampGo (n : Nat) (s : State) : State :=
  if s.rd (OSYn_RAMPCTRL_STATE n) = 1 ∨ !s.flag (OSYn_CTRL_EN n) ∨ !s.flag (OSYn_STAT_LOCK n) then s.raise (OSYn_STAT_CFGERR n)
  else
    let s := (s.setReg (OSYn_PHASEACC n) 0).setOsy n { s.osyn n with sum := 0 }
    enterSegment n 0 (s.wr (OSYn_RAMPCTRL_STATE n) 1)

/-- RAMPSTOP. -/
def rampStop (n : Nat) (s : State) : State :=
  if s.rd (OSYn_RAMPCTRL_STATE n) = 1 then s.wr (OSYn_RAMPCTRL_STATE n) 2 else s

/-- step_s of a rate (R383). -/
def rampStep (rate : Int) : Int :=
  let m : Int := (rate.natAbs * 2 ^ 80 / (256 * 10 ^ 9 * 600000000) : Nat)
  if rate < 0 then -m else m

/-- The limit of RAMPFREQ in 2^-80 (R384). -/
def rampLimit : Int := 14073748835 * (2 ^ 32 : Nat)

/-- One tick of a ramp that runs. -/
def rampMove (n : Nat) (s : State) : State :=
  let x := s.osyn n
  let v := x.ramp + rampStep (s.rdS (OSYn_SEGsRATE_RATE n (s.rd (OSYn_RAMPCTRL_SEG n))))
  let lim := if v < -rampLimit then -rampLimit else if rampLimit < v then rampLimit else v
  let s := if lim = v then s else s.raise (OSYn_STAT_RSAT n)
  let s := s.setOsy n { x with ramp := lim, left := x.left - 1 }
  let s := s.wrS (OSYn_RAMPFREQ_FREQ n) (floorDiv lim 32)
  if x.left ≤ 1 then enterSegment n (s.rd (OSYn_RAMPCTRL_SEG n) + 1) s else s

/-- The VCO of a synthesiser runs: EN is 1, or a pad runs to the end of its cycle; from the entry to KEEPTIME or DEEP on it stops with its
outputs (R381, R386). -/
def osyRuns (s : State) (n : Nat) : Bool :=
  (s.flag (OSYn_CTRL_EN n) || (s.osyn n).stopping) && !(entering s && !outputDriven s n 0 && !outputDriven s n 1)

/-- The fine steps into the next tick interval at which the edge of PHMEAS leaves its pad: the first rising edge that it drives (R385). -/
def phEdge (s : State) (n : Nat) : Option Nat :=
  match (s.osyn n).phMeas with
  | some k => if osyRuns s n && (padsAfter s n).getD k false then edgeIn s n k else none
  | none => none

/-- The edge is measured, `f` fine steps into the tick interval that begins at the time-base value `t0` (R385). -/
def phCapture (n t0 f : Nat) (s : State) : State :=
  ((s.setOsy n { s.osyn n with phMeas := none }).setStamp (OSYn_PHSEC n) (OSYn_PHFRAC n) ((t0 + f * s.rate / 256) / 2 ^ 48)).raise
    (OSYn_STAT_PHDONE n)

/-- The ramp and PHASEACC over one tick (R383). -/
def rampOver (n : Nat) (s : State) : State :=
  let s := if s.rd (OSYn_RAMPCTRL_STATE n) = 1 then rampMove n s else s
  let x := s.osyn n
  let sum := x.sum + s.rdS (OSYn_RAMPFREQ_FREQ n)
  (s.setOsy n { x with sum := sum }).wrS (OSYn_PHASEACC_PHASE n) ((sum * 5000).tdiv (3 * 2 ^ 48 : Nat))

/-- One tick of a synthesiser: `before` is the state as the interval begins. [DEDUCED, unsafe: notes/assumptions/38] -/
def osyTick (before s : State) (n : Nat) : State :=
  if !osyRuns before n then s
  else
    let s := match phEdge before n with | some f => phCapture n before.tb.now f s | none => s
    let x := s.osyn n
    let s := s.setOsy n { x with vco := x.vco + osyVco before n, pads := padsAfter before n }
    if x.stopping && !outputDriven s n 0 && !outputDriven s n 1 then osyStopped n s else rampOver n s

/-- The segment running ends at the next tick. -/
def segmentDue (s : State) (n : Nat) : Bool :=
  osyRuns s n && s.rd (OSYn_RAMPCTRL_STATE n) == 1 && decide ((s.osyn n).left ≤ 1)

/-! ### Measurements (R385) -/

/-- PHMEAS. -/
def phMeas (n out : Nat) (s : State) : State := s.setOsy n { s.osyn n with phMeas := some out }

/-- BANDMEAS: accepted only while EN is 0 and no measurement runs. -/
def bandMeas (n band : Nat) (s : State) : State :=
  if s.flag (OSYn_CTRL_EN n) || (s.osyn n).bandMeas.isSome then s.raise (OSYn_STAT_CFGERR n)
  else s.setOsy n { s.osyn n with bandMeas := some (band, s.ticks) }

/-- The 50 µs of a band measurement have passed (R385). -/
def bandMeasDue (s : State) (n : Nat) : Bool :=
  match (s.osyn n).bandMeas with | some (_, t) => decide (t + 50 * usTicks ≤ s.ticks) | none => false

/-- The measurement's result in MHz. -/
def bandMeasDone (n flo fhi : Nat) (s : State) : State :=
  if !bandMeasDue s n then s
  else
    let s := (s.wr (OSYn_BANDMEAS_FLO n) flo).wr (OSYn_BANDMEAS_FHI n) fhi
    (s.setOsy n { s.osyn n with bandMeas := none }).raise (OSYn_STAT_BMDONE n)

/-! ### Registers -/

/-- A write of OSYn_CMD (R382 to R386): RAMPSTOP with RAMPGO applies RAMPSTOP and refuses RAMPGO. -/
def osyCmd (n : Nat) (v : Word) (s : State) : State :=
  let s := if (OSYn_CMD_RELOCK n).of v = 1 then osyRelock n s else s
  let stop := (OSYn_CMD_RAMPSTOP n).of v = 1
  let go := (OSYn_CMD_RAMPGO n).of v = 1
  let s := if stop then rampStop n s else s
  let s := if go then (if stop then s.raise (OSYn_STAT_CFGERR n) else rampGo n s) else s
  let s := if (OSYn_CMD_PHMEAS n).of v = 1 then phMeas n ((OSYn_CMD_PHOUT n).of v) s else s
  if (OSYn_CMD_BANDMEAS n).of v = 1 then bandMeas n ((OSYn_CMD_BMBAND n).of v) s else s

/-- A write of NINT or NFRAC (R381). -/
def osyWWrite (n a : Nat) (v : Word) (s : State) : State :=
  let s' := s.typed a v
  let f := pdMHz (s.osyn n).mult * osyW s' n
  let k := s.rd (OSYn_STAT_BAND n)
  let fits := decide ((s.rd (OSYn_BANDk_FLO n k) + 25) * 2 ^ 48 ≤ f) && decide (f + 25 * 2 ^ 48 ≤ s.rd (OSYn_BANDk_FHI n k) * 2 ^ 48)
  if s.flag (OSYn_CTRL_EN n) ∧ !fits then s.raise (OSYn_STAT_CFGERR n) else s'

/-- A write of OSYn_OUTCTRL (R379, R380). -/
def outCtrlWrite (n : Nat) (v : Word) (s : State) : State :=
  let e0 := s.rd (OSYn_OUTCTRL_OE0 n)
  let e1 := s.rd (OSYn_OUTCTRL_OE1 n)
  let s := ((s.typed (OSYn_OUTCTRL n) v).wr (OSYn_OUTCTRL_OE0 n) e0).wr (OSYn_OUTCTRL_OE1 n) e1
  let one := fun (k : Nat) (on : Bool) (s : State) => if on then outputEnable n k s else outputDisable n k s
  one 1 ((OSYn_OUTCTRL_OE1 n).of v = 1) (one 0 ((OSYn_OUTCTRL_OE0 n).of v = 1) s)

/-- A write of OSYn_CTRL (R381). -/
def osyCtrlWrite (n : Nat) (v : Word) (s : State) : State :=
  let en := s.rd (OSYn_CTRL_EN n)
  let s := (s.typed (OSYn_CTRL n) v).wr (OSYn_CTRL_EN n) en
  if (OSYn_CTRL_EN n).of v = 1 then osyEnable n s else osyDisable n s

/-- A write of an OSY register. -/
def osyWrite (a : Nat) (v : Word) (s : State) : State :=
  let n := (a - 0x10030000) / 0x800
  let off := a % 0x800
  let keeps := s.raise (OSYn_STAT_CFGERR n)
  if a = OSYn_CMD n then osyCmd n v s
  else if a = OSYn_CTRL n then osyCtrlWrite n v s
  else if a = OSYn_OUTCTRL n then outCtrlWrite n v s
  else if a = OSYn_NINT n ∨ a = OSYn_NFRAC n then osyWWrite n a v s
  else if 0x40 ≤ off ∧ off < 0x60 then
    let k := (off - 0x40) / 0x10
    if s.flag (oeFld n k) then keeps else divRestart n k (s.typed a v)
  else if (a = OSYn_RAMPCTRL n ∨ (0x100 ≤ off ∧ off < 0x200)) ∧ s.rd (OSYn_RAMPCTRL_STATE n) = 1 then keeps
  else s.typed a v

/-! ### Meanings -/

/-- What comes to the references and the root has no effect in DEEP, which unpowers them (R489, R508). -/
def whileClk (f : State → State) (s : State) : State := if s.pwr.power = .deep then s else f s

/-- CLK_RELOCK (R373). -/
def execClkRelock (s : State) : Host.Outcome State Fault Refusal := done (whenOn CLK_CMD (clkCmd true false) s)

/-- CLK_SWITCH (R373). -/
def execClkSwitch (s : State) : Host.Outcome State Fault Refusal := done (whenOn CLK_CMD (clkCmd false true) s)

/-- REF_LOS (R371). -/
def execRefLos (s : State) : Host.Outcome State Fault Refusal := done (whileClk refLos s)

/-- REF_ABSENT (R368). -/
def execRefAbsent (s : State) : Host.Outcome State Fault Refusal := done (whileClk refAbsent s)

/-- REF_PRESENT (R368): 0 REFA, 1 REFB. -/
def execRefPresent (ref : Fin 2) (s : State) : Host.Outcome State Fault Refusal := done (whileClk (refPresent ref) s)

/-- REF_QUALIFIED (R368). -/
def execRefQualified (ref : Fin 2) (s : State) : Host.Outcome State Fault Refusal := done (whileClk (refQualified ref) s)

/-- REFCMP_WINDOW (R369): the offset measured, signed, in 2^-48. -/
def execRefcmpWindow (y : BitVec 48) (s : State) : Host.Outcome State Fault Refusal := done (whileClk (refWindow y.toInt) s)

/-- PLL_LOCKED (R370). -/
def execPllLocked (s : State) : Host.Outcome State Fault Refusal := done (whileClk rootLocked s)

/-- PLL_LOL (R370). -/
def execPllLol (s : State) : Host.Outcome State Fault Refusal := done (whileClk rootLol s)

/-- BAUD_SYNTH_LOSS_OF_LOCK (R366). -/
def execBaudSynthLossOfLock (s : State) : Host.Outcome State Fault Refusal :=
  done (if hostOn s then logUnit 0x04 1 1 1 (s.raise CLK_STAT_SPLOL) else s)

/-- OSY_ENABLE (R381). -/
def execOsyEnable (unit : Fin 4) (s : State) : Host.Outcome State Fault Refusal := done (whenOn (OSYn_CTRL unit) (osyEnable unit) s)

/-- OSY_DISABLE (R381). -/
def execOsyDisable (unit : Fin 4) (s : State) : Host.Outcome State Fault Refusal := done (whenOn (OSYn_CTRL unit) (osyDisable unit) s)

/-- OSY_LOCKED (R381). -/
def execOsyLocked (unit : Fin 4) (s : State) : Host.Outcome State Fault Refusal := done (osyLocked unit s)

/-- OSY_LOL (R376). -/
def execOsyLol (unit : Fin 4) (s : State) : Host.Outcome State Fault Refusal := done (osyLol unit s)

/-- OSY_RELOCK (R382). -/
def execOsyRelock (unit : Fin 4) (s : State) : Host.Outcome State Fault Refusal := done (whenOn (OSYn_CMD unit) (osyRelock unit) s)

/-- OSY_OUTPUT_ENABLE (R380). -/
def execOsyOutputEnable (unit : Fin 4) (out : Fin 2) (s : State) : Host.Outcome State Fault Refusal :=
  done (whenOn (OSYn_OUTCTRL unit) (outputEnable unit out) s)

/-- OSY_OUTPUT_DISABLE (R380). -/
def execOsyOutputDisable (unit : Fin 4) (out : Fin 2) (s : State) : Host.Outcome State Fault Refusal :=
  done (whenOn (OSYn_OUTCTRL unit) (outputDisable unit out) s)

/-- RAMPGO (R383). -/
def execRampgo (unit : Fin 4) (s : State) : Host.Outcome State Fault Refusal := done (whenOn (OSYn_CMD unit) (rampGo unit) s)

/-- RAMPSTOP (R384). -/
def execRampstop (unit : Fin 4) (s : State) : Host.Outcome State Fault Refusal := done (whenOn (OSYn_CMD unit) (rampStop unit) s)

/-- PHMEAS (R385). -/
def execPhmeas (unit : Fin 4) (out : Fin 2) (s : State) : Host.Outcome State Fault Refusal := done (whenOn (OSYn_CMD unit) (phMeas unit out) s)

/-- BANDMEAS (R385). -/
def execBandmeas (unit : Fin 4) (band : Fin 64) (s : State) : Host.Outcome State Fault Refusal := done (whenOn (OSYn_CMD unit) (bandMeas unit band) s)

/-- BANDMEAS_DONE (R385): the frequencies measured, in MHz. -/
def execBandmeasDone (unit : Fin 4) (flo fhi : BitVec 13) (s : State) : Host.Outcome State Fault Refusal :=
  done (bandMeasDone unit flo.toNat fhi.toNat s)

/-- The FREQ check judges a mean deviation in 2^-48: once the root has locked, and 1 ms after the non-selected reference came under
measurement (R508). -/
def freqCheck (deviation : Int) (s : State) : State :=
  let limit := min (max (s.rd SAF_CFCFG_CFPPM) 1) 50
  if s.pwr.power = .deep ∨ refState s (other s) = R_ABSENT ∨ !s.clk.lockedOnce ∨ s.ticks < s.saf.freqFrom + msTicks then s
  else
    let s := { s with saf := { s.saf with judged := true } }
    clockFault (setFailing 1 (decide (limit * 2 ^ 48 < deviation.natAbs * 10 ^ 6)) s)

/-- FREQ_CHECK (R508): the mean deviation over a complete window, signed, in 2^-48. -/
def execFreqCheck (deviation : BitVec 48) (s : State) : Host.Outcome State Fault Refusal := done (freqCheck deviation.toInt s)

/-- GROSS_CHECK (R508), while SAF has power: the deviations of CLK_TB, CLK_CORR, CLK_SYS and CLK_PER from nominal, in ppm. -/
def execGrossCheck (tb corr sys per : Int) (s : State) : Host.Outcome State Fault Refusal :=
  let limit := max (s.rd SAF_CFCFG_GROSS) 1 * 10000
  let bad := fun (d : Int) => decide (limit < d.natAbs)
  done (if s.pwr.power = .deep then s else clockFault (setFailing 2 (bad tb || bad corr || bad sys || bad per) s))

end Sys2Proof.Machine
end

