-- ==== Sys2Proof/Machine/Crypto.lean ====
section
/-!
DEFINITION. The algorithms that Security names by their standards: SHA-256 and SHA-384 with HMAC, AES with CTR, GCM and
CMAC, the key unwrapping of RFC 5649, and ECDSA verification on P-256 and P-521 (R420, R421, R428, R432, R439).
-/

namespace Sys2Proof.Machine

/-! ### SHA-2 and HMAC -/

/-- The round constants 0 to 19 of SHA-512; their upper halves are those of SHA-256. -/
def shaK0 : List Nat := [
  0x428A2F98D728AE22, 0x7137449123EF65CD, 0xB5C0FBCFEC4D3B2F, 0xE9B5DBA58189DBBC,
  0x3956C25BF348B538, 0x59F111F1B605D019, 0x923F82A4AF194F9B, 0xAB1C5ED5DA6D8118,
  0xD807AA98A3030242, 0x12835B0145706FBE, 0x243185BE4EE4B28C, 0x550C7DC3D5FFB4E2,
  0x72BE5D74F27B896F, 0x80DEB1FE3B1696B1, 0x9BDC06A725C71235, 0xC19BF174CF692694,
  0xE49B69C19EF14AD2, 0xEFBE4786384F25E3, 0x0FC19DC68B8CD5B5, 0x240CA1CC77AC9C65]

/-- The round constants 20 to 39 of SHA-512; their upper halves are those of SHA-256. -/
def shaK1 : List Nat := [
  0x2DE92C6F592B0275, 0x4A7484AA6EA6E483, 0x5CB0A9DCBD41FBD4, 0x76F988DA831153B5,
  0x983E5152EE66DFAB, 0xA831C66D2DB43210, 0xB00327C898FB213F, 0xBF597FC7BEEF0EE4,
  0xC6E00BF33DA88FC2, 0xD5A79147930AA725, 0x06CA6351E003826F, 0x142929670A0E6E70,
  0x27B70A8546D22FFC, 0x2E1B21385C26C926, 0x4D2C6DFC5AC42AED, 0x53380D139D95B3DF,
  0x650A73548BAF63DE, 0x766A0ABB3C77B2A8, 0x81C2C92E47EDAEE6, 0x92722C851482353B]

/-- The round constants 40 to 59 of SHA-512; their upper halves are those of SHA-256. -/
def shaK2 : List Nat := [
  0xA2BFE8A14CF10364, 0xA81A664BBC423001, 0xC24B8B70D0F89791, 0xC76C51A30654BE30,
  0xD192E819D6EF5218, 0xD69906245565A910, 0xF40E35855771202A, 0x106AA07032BBD1B8,
  0x19A4C116B8D2D0C8, 0x1E376C085141AB53, 0x2748774CDF8EEB99, 0x34B0BCB5E19B48A8,
  0x391C0CB3C5C95A63, 0x4ED8AA4AE3418ACB, 0x5B9CCA4F7763E373, 0x682E6FF3D6B2B8A3,
  0x748F82EE5DEFB2FC, 0x78A5636F43172F60, 0x84C87814A1F0AB72, 0x8CC702081A6439EC]

/-- The round constants 60 to 79 of SHA-512; their upper halves are those of SHA-256. -/
def shaK3 : List Nat := [
  0x90BEFFFA23631E28, 0xA4506CEBDE82BDE9, 0xBEF9A3F7B2C67915, 0xC67178F2E372532B,
  0xCA273ECEEA26619C, 0xD186B8C721C0C207, 0xEADA7DD6CDE0EB1E, 0xF57D4F7FEE6ED178,
  0x06F067AA72176FBA, 0x0A637DC5A2C898A6, 0x113F9804BEF90DAE, 0x1B710B35131C471B,
  0x28DB77F523047D84, 0x32CAAB7B40C72493, 0x3C9EBE0A15C9BEBC, 0x431D67C49C100D4C,
  0x4CC5D4BECB3E42B6, 0x597F299CFC657E2A, 0x5FCB6FAB3AD6FAEC, 0x6C44198C4A475817]

/-- The round constants. -/
def shaK : List Nat := shaK0 ++ shaK1 ++ shaK2 ++ shaK3

/-- The initial value of SHA-512; its upper halves are that of SHA-256. -/
def sha512Init : List Nat := [
  0x6A09E667F3BCC908, 0xBB67AE8584CAA73B, 0x3C6EF372FE94F82B, 0xA54FF53A5F1D36F1,
  0x510E527FADE682D1, 0x9B05688C2B3E6C1F, 0x1F83D9ABFB41BD6B, 0x5BE0CD19137E2179]

/-- The initial value of SHA-384. -/
def sha384Init : List Nat := [
  0xCBBB9D5DC1059ED8, 0x629A292A367CD507, 0x9159015A3070DD17, 0x152FECD8F70E5939,
  0x67332667FFC00B31, 0x8EB44A8768581511, 0xDB0C2E0D64F98FA7, 0x47B5481DBEFA4FA4]

/-- A hash of the family: word bits, rounds, block bytes, the rotations of its four functions, and its initial value. -/
structure ShaKind where
  bits : Nat
  rounds : Nat
  block : Nat
  big0 : Nat × Nat × Nat
  big1 : Nat × Nat × Nat
  small0 : Nat × Nat × Nat
  small1 : Nat × Nat × Nat
  k : List Nat
  init : List Nat
  out : Nat

/-- SHA-256. -/
def sha256Kind : ShaKind :=
  { bits := 32, rounds := 64, block := 64, big0 := (2, 13, 22), big1 := (6, 11, 25), small0 := (7, 18, 3), small1 := (17, 19, 10),
    k := (shaK.take 64).map (· >>> 32), init := sha512Init.map (· >>> 32), out := 32 }

/-- SHA-512, whose rounds are those of SHA-384 (R294). -/
def sha512Kind : ShaKind :=
  { bits := 64, rounds := 80, block := 128, big0 := (28, 34, 39), big1 := (14, 18, 41), small0 := (1, 8, 7), small1 := (19, 61, 6),
    k := shaK, init := sha512Init, out := 64 }

/-- SHA-384. -/
def sha384Kind : ShaKind :=
  { bits := 64, rounds := 80, block := 128, big0 := (28, 34, 39), big1 := (14, 18, 41), small0 := (1, 8, 7), small1 := (19, 61, 6),
    k := shaK, init := sha384Init, out := 48 }

/-- A word rotated right. -/
def rotr (w n x : Nat) : Nat := (x >>> n ||| x <<< (w - n)) % 2 ^ w

/-- The exclusive OR of three rotations. -/
def rot3 (w : Nat) (r : Nat × Nat × Nat) (x : Nat) : Nat := rotr w r.1 x ^^^ rotr w r.2.1 x ^^^ rotr w r.2.2 x

/-- The exclusive OR of two rotations and a shift. -/
def rot2s (w : Nat) (r : Nat × Nat × Nat) (x : Nat) : Nat := rotr w r.1 x ^^^ rotr w r.2.1 x ^^^ x >>> r.2.2

/-- The message schedule, newest word first, extended by `n` words. -/
def shaExtend (h : ShaKind) : Nat → List Nat → List Nat
  | 0, ws => ws
  | n + 1, ws =>
    let g := fun i => ws.getD i 0
    shaExtend h n
      ((rot2s h.bits h.small1 (g 1) + g 6 + rot2s h.bits h.small0 (g 14) + g 15) % 2 ^ h.bits :: ws)

/-- One round: the eight working words, and the round constant with the schedule's word. -/
def shaRound (h : ShaKind) (v : List Nat) (kw : Nat) : List Nat :=
  match v with
  | [a, b, c, d, e, f, g, x] =>
    let ch := (e &&& f) ^^^ ((2 ^ h.bits - 1 - e) &&& g)
    let maj := (a &&& b) ^^^ (a &&& c) ^^^ (b &&& c)
    let t1 := x + rot3 h.bits h.big1 e + ch + kw
    let t2 := rot3 h.bits h.big0 a + maj
    [(t1 + t2) % 2 ^ h.bits, a, b, c, (d + t1) % 2 ^ h.bits, e, f, g]
  | _ => v

/-- The compression of one block. -/
def shaBlock (h : ShaKind) (v : List Nat) (blk : List Byte) : List Nat :=
  let n := h.bits / 8
  let ws := ((List.range 16).map fun i => ofBE ((blk.drop (n * i)).take n)).reverse
  let sched := (shaExtend h (h.rounds - 16) ws).reverse
  let r := (h.k.zip sched).foldl (fun v (k, w) => shaRound h v (k + w)) v
  (v.zip r).map fun (a, b) => (a + b) % 2 ^ h.bits

/-- A list cut into pieces of `k` items; `fuel` bounds their number. -/
def pieces {α : Type} (k : Nat) : Nat → List α → List (List α)
  | 0, _ => []
  | fuel + 1, l => if l.isEmpty then [] else l.take k :: pieces k fuel (l.drop k)

/-- The padded message. -/
def shaPad (h : ShaKind) (m : List Byte) : List Byte :=
  let tail := 1 + h.bits / 4
  let fill := (h.block - (m.length + tail) % h.block) % h.block
  m ++ (0x80#8 :: List.replicate fill 0) ++ toBE (h.bits / 4) (8 * m.length)

/-- The digest of a message. [PRESUMED, unsafe: notes/assumptions/63] -/
def sha (h : ShaKind) (m : List Byte) : List Byte :=
  let p := shaPad h m
  ((pieces h.block p.length p).foldl (shaBlock h) h.init).flatMap (toBE (h.bits / 8)) |>.take h.out

/-- SHA-256. -/
def sha256 (m : List Byte) : List Byte := sha sha256Kind m

/-- HMAC. -/
def hmac (h : ShaKind) (key m : List Byte) : List Byte :=
  let k := if h.block < key.length then sha h key else key
  let k := k ++ List.replicate (h.block - k.length) 0
  sha h (k.map (· ^^^ 0x5C#8) ++ sha h (k.map (· ^^^ 0x36#8) ++ m))

/-! ### AES -/

/-- The product of two elements of the field of AES, over the bits of the first. -/
def gmul : Nat → Nat → Nat → Nat
  | 0, _, _ => 0
  | n + 1, a, b =>
    let b2 := if 128 ≤ b then (2 * b) ^^^ 0x11B else 2 * b
    (if a % 2 = 1 then b else 0) ^^^ gmul n (a / 2) b2

/-- The inverse in the field, 0 for 0: the power 254. -/
def ginv (a : Nat) : Nat :=
  let sq := fun x => gmul 8 x x
  let a2 := sq a; let a4 := sq a2; let a8 := sq a4; let a16 := sq a8; let a32 := sq a16; let a64 := sq a32; let a128 := sq a64
  let m := gmul 8
  m (m (m (m (m (m a2 a4) a8) a16) a32) a64) a128

/-- A byte rotated left. -/
def rotl8 (n x : Nat) : Nat := (x <<< n ||| x >>> (8 - n)) % 256

/-- The substitution of AES and its inverse. -/
def sbox (x : Nat) : Nat :=
  let b := ginv x
  b ^^^ rotl8 1 b ^^^ rotl8 2 b ^^^ rotl8 3 b ^^^ rotl8 4 b ^^^ 0x63
def invSbox (x : Nat) : Nat := ginv (rotl8 1 x ^^^ rotl8 3 x ^^^ rotl8 6 x ^^^ 5)

/-- The exclusive OR of two lists. -/
def xorL (a b : List Nat) : List Nat := (a.zip b).map fun (x, y) => x ^^^ y

/-- The key schedule of `nk` words, newest word first, extended by `n` words; `i` is the number of the next word. -/
def aesExtend (nk : Nat) : Nat → Nat → Nat → List (List Nat) → List (List Nat)
  | 0, _, _, ws => ws
  | n + 1, i, rcon, ws =>
    let t := ws.getD 0 []
    let (t, rcon) :=
      if i % nk = 0 then (xorL ((t.drop 1 ++ t.take 1).map sbox) [rcon, 0, 0, 0], gmul 8 2 rcon)
      else if nk = 8 ∧ i % nk = 4 then (t.map sbox, rcon)
      else (t, rcon)
    aesExtend nk n (i + 1) rcon (xorL t (ws.getD (nk - 1) []) :: ws)

/-- The round keys of a key of 16, 24 or 32 bytes, 16 bytes each. -/
def aesKeys (key : List Byte) : List (List Nat) :=
  let nk := key.length / 4
  let ws := (pieces 4 8 (key.map (·.toNat))).reverse
  let all := (aesExtend nk (4 * (nk + 7) - nk) nk 1 ws).reverse
  (pieces 4 15 all).map List.flatten

/-- The byte of column c, row r of the state comes from another column. -/
def shiftRows (inv : Bool) (b : List Nat) : List Nat :=
  (List.range 16).map fun i =>
    let c := i / 4
    let r := i % 4
    b.getD (4 * ((if inv then c + 4 - r else c + r) % 4) + r) 0

/-- The mixing of columns, by the first row of its matrix. -/
def mixColumns (m : List Nat) (b : List Nat) : List Nat :=
  (List.range 16).map fun i =>
    let c := i / 4
    let r := i % 4
    (List.range 4).foldl (fun a j => a ^^^ gmul 8 (m.getD ((j + 4 - r) % 4) 0) (b.getD (4 * c + j) 0)) 0

/-- One block enciphered under round keys. -/
def aesEncBlock (ks : List (List Nat)) (b : List Nat) : List Nat :=
  match ks with
  | [] => b
  | k0 :: rest =>
    let mid := rest.dropLast.foldl (fun s k => xorL (mixColumns [2, 3, 1, 1] (shiftRows false (s.map sbox))) k) (xorL b k0)
    xorL (shiftRows false (mid.map sbox)) (rest.getLastD [])

/-- One block deciphered under round keys. -/
def aesDecBlock (ks : List (List Nat)) (b : List Nat) : List Nat :=
  match ks.reverse with
  | [] => b
  | k0 :: rest =>
    let mid := rest.dropLast.foldl (fun s k => mixColumns [14, 11, 13, 9] (xorL ((shiftRows true s).map invSbox) k)) (xorL b k0)
    xorL ((shiftRows true mid).map invSbox) (rest.getLastD [])

/-- AES on a number of 128 bits, most significant byte first. -/
def aesNat (ks : List (List Nat)) (x : Nat) : Nat :=
  ofBE ((aesEncBlock ks ((toBE 16 x).map (·.toNat))).map (BitVec.ofNat 8))

/-- The exclusive OR of two byte strings. -/
def xorB (a b : List Byte) : List Byte := (a.zip b).map fun (x, y) => x ^^^ y

/-- CTR from an initial counter block whose low 32 bits count. -/
def aesCtr (ks : List (List Nat)) (ctr : Nat) (m : List Byte) : List Byte :=
  let blks := pieces 16 m.length m
  (blks.zip (List.range blks.length)).flatMap fun (b, i) =>
    xorB b (toBE 16 (aesNat ks (ctr / 2 ^ 32 * 2 ^ 32 + (ctr + i) % 2 ^ 32)))

/-- The doubling of CMAC. -/
def cmacDouble (x : Nat) : Nat := (2 * x) % 2 ^ 128 ^^^ (if 2 ^ 127 ≤ x then 0x87 else 0)

/-- AES-CMAC. -/
def cmac (key m : List Byte) : List Byte :=
  let ks := aesKeys key
  let k1 := cmacDouble (aesNat ks 0)
  let n := (m.length + 15) / 16 - 1
  let last := m.drop (16 * n)
  let tail := if last.length = 16 then ofBE last ^^^ k1
    else ofBE (last ++ (0x80#8 :: List.replicate (15 - last.length) 0)) ^^^ cmacDouble k1
  let c := (pieces 16 n (m.take (16 * n))).foldl (fun c b => aesNat ks (c ^^^ ofBE b)) 0
  toBE 16 (aesNat ks (c ^^^ tail))

/-- The product of GHASH, over `n` bits of the first factor from bit `n - 1` down. -/
def ghashMul : Nat → Nat → Nat → Nat
  | 0, _, _ => 0
  | n + 1, x, v =>
    (if x.testBit n then v else 0) ^^^ ghashMul n x (v / 2 ^^^ (if v % 2 = 1 then 0xE1 <<< 120 else 0))

/-- A byte string filled with zeros to whole blocks. -/
def padBlock (m : List Byte) : List Byte := m ++ List.replicate ((16 - m.length % 16) % 16) 0

/-- The full tag of GCM for a 96-bit IV. -/
def gcmTag (ks : List (List Nat)) (iv : Nat) (aad ct : List Byte) : List Byte :=
  let h := aesNat ks 0
  let all := padBlock aad ++ padBlock ct ++ toBE 8 (8 * aad.length) ++ toBE 8 (8 * ct.length)
  let g := (pieces 16 all.length all).foldl (fun y b => ghashMul 128 (y ^^^ ofBE b) h) 0
  toBE 16 (g ^^^ aesNat ks (iv * 2 ^ 32 + 1))

/-- The data of GCM, either way. -/
def gcmData (ks : List (List Nat)) (iv : Nat) (m : List Byte) : List Byte := aesCtr ks (iv * 2 ^ 32 + 2) m

/-- The six passes of the key unwrapping over `t` steps left: A and the semiblocks. -/
def unwrapSteps (ks : List (List Nat)) (n : Nat) : Nat → List Byte → List (List Byte) → List Byte × List (List Byte)
  | 0, a, r => (a, r)
  | t + 1, a, r =>
    let i := t % n
    let x := ofBE a ^^^ (t + 1)
    let b := aesDecBlock ks ((toBE 8 x ++ r.getD i []).map (·.toNat)) |>.map (BitVec.ofNat 8)
    unwrapSteps ks n t (b.take 8) (r.set i (b.drop 8))

/-- The plaintext of an RFC 5649 blob under a 256-bit key, if its integrity check passes. -/
def keyUnwrap (kek blob : List Byte) : Option (List Byte) :=
  let ks := aesKeys kek
  let n := blob.length / 8 - 1
  if blob.length % 8 ≠ 0 ∨ n < 1 then none
  else
    let semi := pieces 8 (n + 1) blob
    let (a, r) := if n = 1 then
        let b := (aesDecBlock ks (blob.map (·.toNat))).map (BitVec.ofNat 8)
        (b.take 8, [b.drop 8])
      else unwrapSteps ks n (6 * n) (semi.getD 0 []) (semi.drop 1)
    let p := r.flatten
    let mli := ofBE (a.drop 4)
    if ofBE (a.take 4) = 0xA65959A6 ∧ 8 * (n - 1) < mli ∧ mli ≤ 8 * n ∧ (p.drop mli).all (· == 0#8) then some (p.take mli)
    else none

/-! ### ECDSA -/

/-- A curve y² = x³ − 3x + b: its field, b, base point, order and the bytes of a coordinate. -/
structure Curve where
  p : Nat
  b : Nat
  gx : Nat
  gy : Nat
  n : Nat
  len : Nat
  bits : Nat

/-- P-256. -/
def p256 : Curve :=
  { p := 2 ^ 256 - 2 ^ 224 + 2 ^ 192 + 2 ^ 96 - 1
    b := 0x5AC635D8AA3A93E7B3EBBD55769886BC651D06B0CC53B0F63BCE3C3E27D2604B
    gx := 0x6B17D1F2E12C4247F8BCE6E563A440F277037D812DEB33A0F4A13945D898C296
    gy := 0x4FE342E2FE1A7F9B8EE7EB4A7C0F9E162BCE33576B315ECECBB6406837BF51F5
    n := 0xFFFFFFFF00000000FFFFFFFFFFFFFFFFBCE6FAADA7179E84F3B9CAC2FC632551
    len := 32, bits := 256 }

/-- P-521. -/
def p521 : Curve :=
  { p := 2 ^ 521 - 1
    b := 0x0051953EB9618E1C9A1F929A21A0B68540EEA2DA725B99B315F3B8B489918EF109E156193951EC7E937B1652C0BD3BB1BF073573DF883D2C34F1EF451FD46B503F00
    gx := 0x00C6858E06B70404E9CD9E3ECB662395B4429C648139053FB521F828AF606B4D3DBAA14B5E77EFE75928FE1DC127A2FFA8DE3348B3C1856A429BF97E7E31C2E5BD66
    gy := 0x011839296A789A3BC0045C8A5FB42C7D1BD998F54449579B446817AFBD17273E662C97EE72995EF42640C550B9013FAD0761353C7086A272C24088BE94769FD16650
    n := 0x01FFFFFFFFFFFFFFFFFFFFFFFFFFFFFFFFFFFFFFFFFFFFFFFFFFFFFFFFFFFFFFFFFA51868783BF2F966B7FCC0148F709A5D03BB5C9B8899C47AEBB6FB71E91386409
    len := 66, bits := 521 }

/-- A power modulo `m`, over the bits of the exponent. -/
def powMod (m : Nat) : Nat → Nat → Nat → Nat
  | 0, _, _ => 1 % m
  | n + 1, a, e =>
    let r := powMod m n (a * a % m) (e / 2)
    if e % 2 = 1 then a * r % m else r

/-- The inverse modulo a prime. -/
def invMod (m a : Nat) : Nat := powMod m 522 a (m - 2)

/-- A point: none is the neutral element. -/
abbrev Pt := Option (Nat × Nat)

/-- The sum of two points of a curve. -/
def addPt (c : Curve) : Pt → Pt → Pt
  | none, q => q
  | q, none => q
  | some (x1, y1), some (x2, y2) =>
    if x1 = x2 ∧ (y1 + y2) % c.p = 0 then none
    else
      let l := if x1 = x2 then (3 * x1 * x1 + (c.p - 3)) * invMod c.p (2 * y1 % c.p) % c.p
        else (y2 + c.p - y1) * invMod c.p ((x2 + c.p - x1) % c.p) % c.p
      let x := (l * l + 2 * c.p - x1 - x2) % c.p
      some (x, (l * (x1 + c.p - x) + c.p - y1) % c.p)

/-- A multiple of a point, over the bits of the factor. -/
def mulPt (c : Curve) : Nat → Nat → Pt → Pt
  | 0, _, _ => none
  | n + 1, k, q =>
    let r := mulPt c n (k / 2) (addPt c q q)
    if k % 2 = 1 then addPt c q r else r

/-- Whether a public key lies on the curve. -/
def onCurve (c : Curve) (x y : Nat) : Bool :=
  decide (x < c.p) && decide (y < c.p) && y * y % c.p == (x * x * x + (c.p - 3) * x + c.b) % c.p

/-- ECDSA verification of a digest, taken leftmost to the bit length of the order (R439).
[DEDUCED, safe: notes/assumptions/15] -/
def ecdsa (c : Curve) (key digest sig : List Byte) : Bool :=
  let q := (ofBE (key.take c.len), ofBE (key.drop c.len))
  let r := ofBE (sig.take c.len)
  let t := ofBE (sig.drop c.len)
  let e := ofBE digest >>> (8 * digest.length - c.bits)
  if r = 0 ∨ c.n ≤ r ∨ t = 0 ∨ c.n ≤ t then false
  else
    let w := invMod c.n t
    match addPt c (mulPt c 522 (e * w % c.n) (some (c.gx, c.gy))) (mulPt c 522 (r * w % c.n) (some q)) with
    | some (x, _) => x % c.n == r
    | none => false

end Sys2Proof.Machine
end

