-- ==== Sys2Proof/Machine/Store.lean ====
section
/-!
DEFINITION. OTP (R475), the Chain copies and the load of the mirrored registers (R478 to R480), and what a cold reset does
to the whole device (R374, R464, R465, R506, R528, R564, R588).
-/

namespace Sys2Proof.Machine

/-! ### OTP -/

/-- A row of OTP. -/
def otpRow (s : State) (r : Nat) : Nat := (s.nvs.otp.getD r 0).toNat

/-- Rows `r` to `r + n - 1` as one number, the lowest row least significant. -/
def otpRows (s : State) (r n : Nat) : Nat := (List.range n).foldl (fun a i => a + otpRow s (r + i) <<< (64 * i)) 0

/-- DK, DEVID and the hashes of the three keys (R475). -/
def otpDk (s : State) : Nat := otpRows s 0 4
def otpDevid (s : State) : Nat := otpRow s 4
def otpHash (s : State) (sel : Nat) : Nat := otpRows s (4 * sel + 1) 4

/-- Bits of row 17. -/
def otpBit (s : State) (k : Nat) : Bool := (otpRow s 17).testBit k

/-- The lifecycle state: how far the thermometer code has risen. -/
def otpLcs (s : State) : Nat :=
  if otpBit s 2 then RETURNED else if otpBit s 1 then DEPLOYED else if otpBit s 0 then PROVISIONED else BLANK

/-- The number of bits set in the ROLLBACK row. -/
def rollback (s : State) : Nat := (List.range 64).countP fun k => (otpRow s 18).testBit k

/-- The registers that OTP gives their reset value (R374, R376, R456, R475). -/
def loadOtp (s : State) : State :=
  let s := ((s.wr SVU_LCS_LCS (otpLcs s)).put SVU_LCS_OWNREV (otpBit s 8)).put SVU_LCS_DKLOCK (otpBit s 9)
  let s := s.put SVU_TRUST_LCSOK (s.lcs == PROVISIONED || s.lcs == DEPLOYED)
  let s := (s.wr SVU_DEVIDH_ID (otpDevid s / 2 ^ 32)).wr SVU_DEVIDL_ID (otpDevid s)
  let cfg := s.reg CLK_REFCFG
  let s := s.setReg CLK_REFCFG (BitVec.ofNat 48 (cfg.toNat / 65536 * 65536 + otpRow s 19 % 65536))
  let entry := fun (first k : Nat) (s : State) => BitVec.ofNat 48 (otpRow s (first + k / 2) / 2 ^ (32 * (k % 2)) % 2 ^ 32)
  let s := (List.range 32).foldl (fun s k => s.setReg (CLK_BANDk k) (entry 20 k s)) s
  (List.range 4).foldl (fun s n => (List.range 64).foldl (fun s k => s.setReg (OSYn_BANDk n k) (entry 36 k s)) s) s

/-! ### Chain -/

/-- Bytes of an image. -/
def imgLe (img : List Byte) (at_ n : Nat) : Nat := ofLE ((img.drop at_).take n)

/-- The address of copy A (0) or B (1). -/
def copyAddr (c : Nat) : Nat := 0x063E0000 + 0x1000 * c

/-- The length of an image. -/
def chainLen : Nat := 2368

/-- A copy of the image. -/
def chainCopy (s : State) (c : Nat) : List Byte := s.bytes (copyAddr c) chainLen

/-- The CRC of an image (R478). -/
def chainCrc (img : List Byte) : Nat := crc32c (img.take 60 ++ (img.drop 64).take (chainLen - 64))

/-- GEN, LOCKED and CMDSEQ of an image. -/
def imgGen (img : List Byte) : Nat := imgLe img 8 4
def imgLocked (img : List Byte) : Bool := imgLe img 6 1 == 1
def imgSeq (img : List Byte) : Nat := imgLe img 12 4

/-- A copy is valid (R479). -/
def copyValid (img : List Byte) : Bool :=
  imgLe img 0 4 == 0x48434B4D && imgLe img 4 2 == 1 && decide (imgLe img 6 1 ≤ 1) && imgLe img 60 4 == chainCrc img

/-- Every word of a copy can be read (R460, R474). [DEDUCED, safe: notes/assumptions/22] -/
def copySound (s : State) (c : Nat) : Bool := !hasDouble (copyAddr c) chainLen s

/-- The controller reads both copies: their single-bit errors are corrected and counted, and the others counted (R460, R474). -/
def readCopies (s : State) : State :=
  (List.range 2).foldl (fun s c => countBad (copyAddr c) chainLen false (correct (copyAddr c) chainLen s)) s

/-- The copy in force (R479). -/
def inForce (s : State) : Option Nat :=
  let a := chainCopy s 0
  let b := chainCopy s 1
  match copySound s 0 && copyValid a, copySound s 1 && copyValid b with
  | false, false => none
  | true, false => some 0
  | false, true => some 1
  | true, true =>
    let d := (imgGen b + 2 ^ 32 - imgGen a) % 2 ^ 32
    if 1 ≤ d ∧ d < 2 ^ 31 then some 1 else some 0

/-- The mirrored registers with the values of an image; a record that is not VALID gives reset values (R479). -/
def mirrorValues (img : List Byte) : List (Nat × Nat) :=
  let port := fun (a : Nat) =>
    let r := 64 + 64 * a
    let ok := (imgLe img (r + 42) 1).testBit 0
    let v := fun (reg n : Nat) => if ok then (reg, n) else (reg, (regReset reg).toNat)
    [v (SPn_CABLE a) (imgLe img (r + 44) 3), v (SPn_HEADLAT a) (imgLe img (r + 47) 3), v (SPn_ASYM a) (imgLe img (r + 50) 3),
      v (SPn_RTTWIN a) (imgLe img (r + 53) 3 + imgLe img (r + 56) 3 * 2 ^ 24)]
  (List.range 32).flatMap port
    ++ [(TB_STEPLIM, imgLe img 2112 5), (TB_SLEWLIM, imgLe img 2117 3 % 2 ^ 20), (TB_FSLOPE, imgLe img 2120 3),
      (TB_OWNERS, imgLe img 2123 2)]
    ++ ((List.range 16).map fun n => (TPGn_PATH n, imgLe img (2176 + 3 * n) 3))
    ++ ((List.range 8).map fun n => (EVCn_PATH n, imgLe img (2224 + 3 * n) 3))
    ++ ((List.range 4).flatMap fun p =>
      [(ETHn_TXPATH p, imgLe img (2248 + 9 * p) 3), (ETHn_RXPATH p, imgLe img (2251 + 9 * p) 3),
        (ETHn_ASYM p, imgLe img (2254 + 9 * p) 3)])

/-- The addresses of the mirrored registers. -/
def mirrorRegs : List Nat := (mirrorValues []).map (·.1)

/-- The mirrored registers are loaded from the copy in force, or with their reset values (R479, R480). -/
def loadMirror (s : State) : State :=
  let s := readCopies s
  let s := match inForce s with
    | some c =>
      let img := chainCopy s c
      let s := (mirrorValues img).foldl (fun (s : State) (a, v) => s.setReg a (BitVec.ofNat 48 v)) s
      let s := (s.put NVS_STAT_LOCKED (imgLocked img)).clear NVS_STAT_CHAINBAD
      (s.wr NVS_CHGEN_GEN (imgGen img)).wr NVS_CHSEQ_SEQ (imgSeq img)
    | none =>
      let s := mirrorRegs.foldl (fun (s : State) a => s.setReg a (regReset a)) s
      let s := (s.clear NVS_STAT_LOCKED).raise NVS_STAT_CHAINBAD
      (s.wr NVS_CHGEN_GEN 0).wr NVS_CHSEQ_SEQ 0
  flushCopies (s.raise NVS_STAT_CHAINRDY)

/-! ### Repairs -/

/-- The rows repaired in a bank, oldest first. -/
def repairsOf (s : State) (b : Nat) : List Nat := (s.memc.repairs.filter (·.1 == b)).map (·.2)

/-- The repair records are applied (R464). -/
def applyRepairs (s : State) : State :=
  (List.range 48).foldl (fun s b =>
    let rows := (repairsOf s b).take 4
    let v := (rows.zip (List.range 4)).foldl (fun a (r, k) => a + r <<< (11 * k)) (rows.length <<< 45)
    s.setReg (MEMb_REPAIR b) (BitVec.ofNat 48 v)) s

/-! ### The cold reset -/

/-- What the always-on domain keeps of a register file: PWR_RTC, PWR_RTCALM, PWR_WAKESRC and PWR_RSTCAUSE, every PWR
register at a wake from DEEP, and SAF_LOGWP (R500, R506, R518). -/
def keptReg (deep : Bool) (a : Nat) : Bool :=
  a == PWR_RTC || a == PWR_RTCALM || a == PWR_WAKESRC || a == PWR_RSTCAUSE || a == SAF_LOGWP || (deep && a / 65536 == 0x1001)

/-- Memory that a cold reset leaves: the nonvolatile store and AON RAM (R477, R588). -/
def keptMem (a : Nat) : Bool := (decide (0x06000000 ≤ a) && decide (a < 0x06400000)) || (decide (0x08000000 ≤ a) && decide (a < 0x08010000))

/-- Everything else of the state after a cold reset: what the nonvolatile store, OTP, the always-on domain and the balls
hold, and the model's own fields. [DESIGN CHOICE, unsafe: notes/assumptions/2] -/
def coldBase (deep : Bool) (s : State) : State :=
  { regs := s.regs.filter fun c => keptReg deep c.1
    mem := s.mem.filter fun c => keptMem c.1
    memc := { confAt := s.ticks, repairs := s.memc.repairs, single := s.memc.single.filter keptMem, double := s.memc.double.filter keptMem }
    nvs := { loadCnt := s.nvs.loadCnt, dbgCnt := s.nvs.dbgCnt, otp := s.nvs.otp, logWp := s.nvs.logWp, worn := s.nvs.worn }
    saf := { newest := s.saf.newest, copies := s.saf.copies }
    pwr := { wakePin := s.pwr.wakePin, rtcPhase := s.pwr.rtcPhase, crystal := s.pwr.crystal }
    clk := { resetAt := s.ticks }
    straps := s.straps, ticks := s.ticks, freeCount := s.freeCount, pending := s.pending }

/-- The straps of the I²C address are sampled (R544, R581). -/
def sampleStraps (s : State) : State :=
  ((s.wr HST_I2CCFG_ADDR (0x58 + s.straps.i2caddr)).wr SYS_STRAP_I2CADDR s.straps.i2caddr).wr SYS_STRAP_BOOTSEL s.straps.bootsel
    |>.wr HST_BOOT_BOOTSEL s.straps.bootsel

/-- The counters that the store keeps are shown (R423, R447, R526). -/
def showCounters (s : State) : State :=
  ((s.wr CXE_LOADCNT_COUNT s.nvs.loadCnt).wr SVU_DBGCNT_COUNT s.nvs.dbgCnt).wr SAF_LOGWP_NVSWP s.nvs.logWp

/-- The destructive march test of a cold reset, where OTP asks for it (R465). -/
def bootMarch (s : State) : State :=
  if otpBit s 10 then
    { s with memc := { s.memc with march := some (0, 47, false), bootMarch := true } }.raise MEM_MARCHSTAT_BUSY
  else s

/-- A cold reset, to the completion of the first mirror load: `deep` at a wake from DEEP.
[DESIGN CHOICE, unsafe: notes/assumptions/4] -/
def coldReset (deep : Bool) (s : State) : State :=
  let s := coldBase deep s
  let s := s.wr PWR_STAT_LEVEL 2
  let s := sampleStraps (showCounters (loadOtp s))
  let s := applyRepairs s
  let s := if deep then s else bootMarch s
  loadMirror (bootAcquire (takePath 0 (takePath 1 s)))

/-- A cold reset with its cause in PWR_RSTCAUSE. -/
def resetBy (cause : Fld) (s : State) : State := coldReset false (s.raise cause)

end Sys2Proof.Machine
end

