-- ==== Sys2Proof/Machine/Run.lean ====
section
/-!
DEFINITION. What several chapters do to the cores and the performance level: the run states of a core with its watchdog and
its trace (R250, R511, R567), and level changes (R491 to R494).
-/

namespace Sys2Proof.Machine

/-! ### Watchdogs (R511) -/

/-- The state with one watchdog replaced. -/
def State.setDog (s : State) (n : Nat) (w : Watchdog) : State :=
  { s with saf := { s.saf with dogs := s.saf.dogs.setIfInBounds n w } }

/-- A count begins with the PERIOD in force now, if the watchdog is enabled. -/
def dogRestart (n : Nat) (s : State) : State :=
  if s.flag (SAF_WDCFGn_EN n) then s.setDog n { period := max (s.rd (SAF_WDCFGn_PERIOD n)) 1, counting := true, count := 0 }
  else s

/-- The watchdog pauses. -/
def dogPause (n : Nat) (s : State) : State := s.setDog n { s.saf.dogs.getD n {} with counting := false }

/-! ### Run states (R250) -/

/-- KCn_STAT.STATE. -/
def K_RESET : Nat := 0
def K_RUN : Nat := 1
def K_WAIT : Nat := 2
def K_HALTED : Nat := 3
def K_STOPPED : Nat := 4
def K_FAULT : Nat := 5

/-- The hidden state of a core. -/
def State.core (s : State) (n : Nat) : CoreState := s.cores.getD n {}

/-- The state with the hidden state of a core replaced. -/
def State.setCore (s : State) (n : Nat) (c : CoreState) : State := { s with cores := s.cores.setIfInBounds n c }

/-- Whether a core's clock runs (R489). -/
def clocked (s : State) (n : Nat) : Bool :=
  match s.pwr.power with
  | .active => true
  | .standby => n == 6
  | .entering t _ => n == 6 && t == 1
  | .exiting => n == 6
  | _ => false

/-- A core that issues: in RUN or WAIT. -/
def issuing (st : Nat) : Bool := st == K_RUN || st == K_WAIT

/-- Whether SV's firmware runs. -/
def svRuns (s : State) : Bool := s.hst.ready && issuing (s.coreState 6) && clocked s 6

/-- A core enters a run state; its watchdog pauses outside RUN and WAIT and restarts with a full period (R511). -/
def enterRun (n st : Nat) (s : State) : State :=
  let old := s.coreState n
  let s := s.wr (KCn_STAT_STATE n) st
  if issuing st && !issuing old then dogRestart n s
  else if !issuing st && issuing old then dogPause n s
  else s

/-- A core event is traced: 0 transfer, 1 exception, 2 HALTED, 3 RTE (R567, R568). -/
def traceCore (n ev pc cause : Nat) (s : State) : State :=
  if s.bit DBG_TRSRC_CORES n then
    traceWord (n * 2 ^ 45 + ev * 2 ^ 43 + pc * 2 ^ 29 + cause * 2 ^ 24 + (s.ticks - s.dbgStart) % 2 ^ 24) s
  else s

/-- A core enters HALTED from RUN or WAIT (R253). -/
def haltCore (n : Nat) (s : State) : State :=
  let s := s.setCore n { s.core n with former := s.coreState n }
  traceCore n 2 (s.core n).pc.toNat 0 ((enterRun n K_HALTED s).raise (KCn_STAT_HALTED n))

/-- Whether some core is HALTED while the level is D2 or D3 (R450). -/
def debugHalted (s : State) : Bool :=
  decide (2 ≤ s.rd SVU_DBG_LEVEL) && (List.range 7).any fun n => s.coreState n == K_HALTED

/-! ### Performance levels (R490 to R494) -/

/-- The results of PWR_STAT (R507). -/
def P_OK : Nat := 0
def P_BUSY : Nat := 1
def P_BADSTATE : Nat := 2
def P_DEBUG_HOLD : Nat := 3
def P_WAKE_ACTIVE : Nat := 4
def P_BUDGET : Nat := 5
def P_ABORTED : Nat := 6
def P_VIDFAIL : Nat := 7

/-- A request ends with a result. -/
def pwrEnd (r : Nat) (s : State) : State :=
  let s := s.wr PWR_STAT_RESULT r
  if r = P_OK then s else s.raise PWR_STAT_REFUSED

/-- LIMIT of a level (R124). -/
def levelLimit (lv : Nat) : Nat := if lv = 0 then 576000 else if lv = 1 then 384000 else 192000

/-- ENGLIM of a level (R124). -/
def levelEng (lv : Nat) : Nat := if lv = 0 then 5000 else if lv = 1 then 3333 else 1666

/-- The conditions of R125 for a level. -/
def levelFits (s : State) (lv : Nat) : Bool :=
  decide (s.rd CSH_BUDGET_USED ≤ levelLimit lv) &&
    (List.range 128).all fun e => decide (s.rd (CA_ENGe_LOAD e) ≤ levelEng lv)

/-- The level in force. -/
def State.level (s : State) : Nat := s.rd PWR_STAT_LEVEL

/-- Cycles in which a core in RUN issues nothing (R221, R266). -/
def stallCore (n k : Nat) (s : State) : State :=
  let s := (s.count (KCn_CYCLE_COUNT n) k).count (KCn_STALL_COUNT n) k
  s.setCore n { s.core n with cycle := (s.core n).cycle + BitVec.ofNat 48 k }

/-- A running core stalls for a number of cycles that the manual leaves open (R233, R240). [DESIGN CHOICE, safe: notes/assumptions/44] -/
def stallFree (n : Nat) (s : State) : State :=
  let (k, s) := s.fresh 16
  stallCore n k s

/-- The dividers of a level take force, with its LIMIT, while every running core stalls (R240, R367, R491). -/
def switchLevel (lv : Nat) (s : State) : State :=
  let s := (List.range 7).foldl (fun s n => if s.coreState n = K_RUN ∧ clocked s n then stallFree n s else s) s
  ((setDividers lv s).wr PWR_STAT_LEVEL lv).wr CSH_BUDGET_LIMIT (levelLimit lv)

/-- The VID code of a level (R490). -/
def vidCode (lv : Nat) : Nat := 2 - lv

/-- A level change begins (R491). -/
def beginLevel (lv : Nat) (s : State) : State :=
  let old := s.level
  let raise_ := decide (lv < old)
  let s := if raise_ then s else switchLevel lv s
  { s with pwr := { s.pwr with change := some ⟨lv, old, raise_ && s.flag PWR_CFG_VPGEN, s.ticks⟩, vid := vidCode lv } }
    |>.raise PWR_STAT_LEVELBUSY

/-- Whether an entry, an exit or a level change runs (R494). -/
def pwrBusy (s : State) : Bool :=
  s.pwr.change.isSome || (match s.pwr.power with | .entering _ _ => true | .exiting => true | _ => false)

/-- The checks of R494 on a level request, and its start. -/
def levelChecked (lv : Nat) (s : State) : State :=
  let refuse := fun (r : Nat) => (pwrEnd r s).wr PWR_PERF_TARGET ((s.pwr.deferred).getD s.level)
  if pwrBusy s then refuse P_BUSY
  else if lv = 3 then refuse P_BADSTATE
  else if !levelFits s lv then refuse P_BUDGET
  else beginLevel lv s

/-- No level request is deferred any more. -/
def undefer (s : State) : State :=
  if s.pwr.deferred.isSome then { s with pwr := { s.pwr with deferred := none } }.clear PWR_STAT_DEFERRED else s

/-- A write of PWR_PERF.TARGET; a later request replaces a deferred one (R491, R493). [DEDUCED, unsafe: notes/assumptions/50] -/
def levelRequest (lv : Nat) (s : State) : State :=
  if lv = s.level then (pwrEnd P_OK (undefer s)).wr PWR_PERF_TARGET lv
  else if debugHalted s then
    ({ s with pwr := { s.pwr with deferred := some lv } }.raise PWR_STAT_DEFERRED).wr PWR_PERF_TARGET lv
  else levelChecked lv (s.wr PWR_PERF_TARGET lv)

/-- A deferred level request is checked once no core is HALTED at D2 or D3 (R451, R493). -/
def runDeferred (s : State) : State :=
  match s.pwr.deferred with
  | none => s
  | some lv =>
    if debugHalted s then s
    else
      let s := undefer s
      if lv = s.level then pwrEnd P_OK s else levelChecked lv s

/-- The settling time of a level change that does not await VPG has passed at tick `t`; SETTLE = 0 is treated as 1 (R491, R507). -/
def levelDue (s : State) (t : Nat) : Bool :=
  match s.pwr.change with
  | some c => !c.awaitVpg && decide (c.since + max (s.rd PWR_CFG_SETTLE) 1 * usTicks ≤ t)
  | none => false

/-- VPG has not been high within 1 ms of a raising code at tick `t` (R492). -/
def vidDue (s : State) (t : Nat) : Bool :=
  match s.pwr.change with
  | some c => c.awaitVpg && decide (c.since + msTicks ≤ t)
  | none => false

/-- The wait of a level change ends (R491). -/
def levelEnd (s : State) : State :=
  match s.pwr.change with
  | none => s
  | some c =>
    let s := if s.level = c.target then s else switchLevel c.target s
    let s := { s with pwr := { s.pwr with change := none } }.clear PWR_STAT_LEVELBUSY
    ((s.raise PWR_STAT_LEVELDONE).count PWR_COUNT_LEVELCHG).wr PWR_STAT_RESULT P_OK

/-- VPG has not been high within 1 ms of a raising code (R492). -/
def vidFail (s : State) : State :=
  match s.pwr.change with
  | none => s
  | some c =>
    let s := { s with pwr := { s.pwr with change := none, vid := vidCode c.former } }.clear PWR_STAT_LEVELBUSY
    (s.raise PWR_STAT_VIDFAIL).wr PWR_STAT_RESULT P_VIDFAIL

/-- VPG is high: a change that awaits it goes on, once 10 µs have passed since the code was driven (R491). -/
def vpgHigh (s : State) : State :=
  match s.pwr.change with
  | some c => if c.awaitVpg && decide (c.since + 10 * usTicks ≤ s.ticks) then levelEnd s else s
  | none => s

/-! ### HALTREQ -/

/-- A HALTED core returns to the state it left (R250). -/
def resumeCore (n : Nat) (s : State) : State :=
  if s.coreState n = K_HALTED then runDeferred (enterRun n (s.core n).former s) else s

/-- HALTREQ of a core is written: a core that issues and whose clock runs halts unless an access that its boundary awaits is outstanding, and
one held resumes (R250, R253). -/
def haltReq (n : Nat) (b : Bool) (s : State) : State :=
  let s := s.put (KCn_CTRL_HALTREQ n) b
  if b then
    if issuing (s.coreState n) && clocked s n && !(s.core n).out.any (·.dest.isSome) then haltCore n s else s
  else resumeCore n s

end Sys2Proof.Machine
end

