-- ==== Sys2Proof/Machine/Security.lean ====
section
/-!
DEFINITION. Security (R419 to R456): the key pages and the operations of CXE, the signature verifier, the lifecycle, the
debug levels and TIME_TRUST.
-/

namespace Sys2Proof.Machine

/-! ### Key pages (R424 to R427) -/

/-- The initiator that the engine reads and writes memory as (R466). -/
def CXE_INIT : Nat := 13

/-- SV's initiator. -/
def SV_INIT : Nat := 6

/-- The owner of a page. -/
def pageOwner (s : State) (n : Nat) : Nat := s.rd (CXE_OWNi_OWNERS (n / 8)) >>> (4 * (n % 8)) % 16

/-- The state with a page owned by an initiator. -/
def setPageOwner (n init : Nat) (s : State) : State :=
  let f := CXE_OWNi_OWNERS (n / 8)
  let old := pageOwner s n
  s.wr f (s.rd f - old <<< (4 * (n % 8)) + (init % 16) <<< (4 * (n % 8)))

/-- The states of a slot (R454). -/
def SL_EMPTY : Nat := 0
def SL_READY : Nat := 1
def SL_RETIRED : Nat := 2
def SL_LOADING : Nat := 3

/-- The key and the salt of a slot. -/
def State.slotKey (s : State) (n m : Nat) : KeySlot := s.cxe.keys.getD (8 * n + m) {}

/-- The state with the key and the salt of a slot replaced. -/
def State.setSlotKey (s : State) (n m : Nat) (k : KeySlot) : State :=
  { s with cxe := { s.cxe with keys := s.cxe.keys.setIfInBounds (8 * n + m) k } }

/-- The operations a page queues or runs (R428). -/
def pageOps (s : State) (n : Nat) : Nat := ((s.cxe.queue ++ s.cxe.running).filter (·.page == n)).length

/-- LEVEL of every page shows its operations. -/
def refreshLevels (s : State) : State :=
  (List.range 16).foldl (fun s n => s.wr (CXE_KPn_STAT_LEVEL n) (pageOps s n)) s

/-! ### Statuses and descriptors -/

/-- The completion statuses of R431. -/
def OP_OK : Nat := 1
def OP_LEN : Nat := 2
def OP_EXHAUSTED : Nat := 3
def OP_TAGFAIL : Nat := 4
def OP_NOKEY : Nat := 5
def OP_ZEROISED : Nat := 6
def OP_FWERR : Nat := 7
def OP_BADDESC : Nat := 8
def OP_USAGE : Nat := 9
def OP_UNWRAPFAIL : Nat := 10
def OP_BADBLOB : Nat := 11
def OP_OWNER : Nat := 12
def OP_SLOTBUSY : Nat := 13
def OP_LCS : Nat := 14
def OP_LOADEXH : Nat := 15
def OP_DEBUG : Nat := 16
def OP_SCRUBERR : Nat := 17

/-- A word of a descriptor. -/
def CxeOp.w (o : CxeOp) (i : Nat) : Nat := (o.words.getD []).getD i 0

/-- The fields of a descriptor (R428). -/
def CxeOp.op (o : CxeOp) : Nat := bits (o.w 0) 7 0
def CxeOp.slot (o : CxeOp) : Nat := bits (o.w 0) 18 16
def CxeOp.tagLen (o : CxeOp) : Nat := bits (o.w 0) 31 24
def CxeOp.len (o : CxeOp) : Nat := bits (o.w 1) 31 0
def CxeOp.aadLen (o : CxeOp) : Nat := bits (o.w 1) 63 32
def CxeOp.src (o : CxeOp) : Nat := o.w 2
def CxeOp.dst (o : CxeOp) : Nat := o.w 3
def CxeOp.aad (o : CxeOp) : Nat := o.w 4
def CxeOp.iv (o : CxeOp) : Nat := o.w 5
def CxeOp.tagAddr (o : CxeOp) : Nat := o.w 6

/-- The tag length lies in the range of its operation (R428). -/
def tagLenOk (op n : Nat) : Bool :=
  if 3 ≤ op ∧ op ≤ 6 then within 4 16 n
  else if op = 7 ∨ op = 8 then n == 16 || n == 32
  else if op = 9 ∨ op = 10 then n == 24 || n == 48
  else true

/-- The descriptor keeps the ranges of R428 and R429. -/
def descRanges (o : CxeOp) : Bool :=
  within 1 13 o.op && bits (o.w 0) 63 48 == 0 && bits (o.w 0) 39 32 == 0 && bits (o.w 0) 23 22 == 0 && bits (o.w 0) 19 19 == 0 &&
    bits (o.w 0) 15 8 == 0 && bits (o.w 7) 31 10 == 0 && ([2, 3, 4, 5, 6].all fun i => decide (o.w i < 2 ^ 32)) && tagLenOk o.op o.tagLen &&
    !(o.op == 13 && o.len == 0)

/-- The bit of USAGE that an operation needs (R422). -/
def usageBit (op : Nat) : Nat := if op ≤ 2 then 0 else if op = 3 then 1 else if op = 4 then 2 else if op ≤ 6 then 3 else 4

/-- The checks on the slot of an operation that uses a key (R426, R428, R432); 0 where it may run. -/
def slotCheck (s : State) (o : CxeOp) : Nat :=
  let st := s.rd (CXE_KPn_SLOTm_STATE o.page o.slot)
  let type := s.rd (CXE_KPn_SLOTm_TYPE o.page o.slot)
  if st = SL_RETIRED then OP_EXHAUSTED
  else if st ≠ SL_READY then OP_NOKEY
  else if s.rd (CXE_KPn_SLOTm_OWNER o.page o.slot) ≠ pageOwner s o.page then OP_OWNER
  else if !s.bit (CXE_KPn_SLOTm_USAGE o.page o.slot) (usageBit o.op) then OP_USAGE
  else if (type == 4) != decide (7 ≤ o.op) then OP_USAGE
  else 0

/-- The checks of UNWRAP on the device and the slot (R420, R426, R451). -/
def unwrapCheck (s : State) (o : CxeOp) : Nat :=
  let st := s.rd (CXE_KPn_SLOTm_STATE o.page o.slot)
  if s.lcs = RETURNED then OP_LCS
  else if s.lcs = DEPLOYED ∧ s.flag SVU_DBG_D2SEEN then OP_DEBUG
  else if st = SL_READY ∨ st = SL_LOADING then OP_SLOTBUSY
  else 0

/-- An encryption that has begun retires the slot of an operation at its completion: no other takes an IV of it (R432).
[DEDUCED, unsafe: notes/assumptions/40] -/
def retiring (s : State) (o : CxeOp) : Bool :=
  (o.op == 1 || o.op == 3) && s.cxe.running.any fun r => r.retires && r.page == o.page && r.slot == o.slot

/-- The checks before an operation touches data; 0 where it may. [DEDUCED, unsafe: notes/assumptions/40] -/
def opCheck (s : State) (o : CxeOp) : Nat :=
  if o.words.isNone then OP_FWERR
  else if !descRanges o then OP_BADDESC
  else if 16777216 < o.len + o.aadLen then OP_LEN
  else if o.op ≤ 10 then (if retiring s o then OP_EXHAUSTED else slotCheck s o)
  else if o.op = 13 then unwrapCheck s o
  else 0

/-! ### Memory accesses of the engine -/

/-- A read of the engine. -/
def cxeRead (a n : Nat) (s : State) : Option (List Byte) × State :=
  let (c, d, s) := dmaRead CXE_INIT a n s
  (if c = 0 then some d else none, s)

/-- A write of the engine; whether every piece was accepted. -/
def cxeWrite (a : Nat) (bs : List Byte) (s : State) : Bool × State :=
  let (c, s) := dmaWrite CXE_INIT a bs s
  (c == 0, s)

/-- The blocks of data. -/
def dataBlocks (bs : List Byte) : List (List Byte) := pieces 16 bs.length bs

/-- CLK_PER cycles of the engine (R435). -/
def busy (n : Nat) (s : State) : State := s.count CXE_BUSY_CYCLES n

/-- Data in blocks, each with its address. -/
def blocksAt : Nat → List (List Byte) → List (Nat × List Byte)
  | _, [] => []
  | a, b :: t => (a, b) :: blocksAt (a + b.length) t

/-- An operation has run with a status. -/
def CxeOp.ran (o : CxeOp) (st : Nat) : CxeOp := { o with status := st, unver := false }

/-- An operation that has passed its checks and has these blocks to write. -/
def CxeOp.writes (o : CxeOp) (st : Nat) (d : List Byte) : CxeOp := { o.ran st with left := blocksAt o.dst (dataBlocks d) }

/-- A tag check has failed (R436). -/
def tagFailed (s : State) : State := (s.raise CXE_STAT_TAGFAIL).count CXE_COUNT_TAGFAIL

/-- A scrub: the blocks left are those of zeros over the destination (R436). -/
def CxeOp.scrub (o : CxeOp) (st : Nat) : CxeOp :=
  { o with status := st, left := blocksAt o.dst (dataBlocks (List.replicate o.len 0)), last := none, scrubbed := true }

/-- A GCM_DEC whose tag is wrong, or that an error response has stopped, turns to its scrub once nothing is left to write (R436, R437). -/
def opSettle (o : CxeOp) (s : State) : CxeOp × State :=
  if o.op = 4 ∧ o.left = [] ∧ !o.scrubbed then
    if o.status = OP_TAGFAIL then (o.scrub OP_TAGFAIL, tagFailed s)
    else if o.status = OP_FWERR then (o.scrub OP_FWERR, s)
    else (o, s)
  else (o, s)

/-- One block of an operation that has begun: an error response ends it with FWERR, but a scrub goes on (R434, R436, R437). -/
def opStep (o : CxeOp) (s : State) : CxeOp × State :=
  match o.left with
  | [] => (o, s)
  | (a, b) :: t =>
    let (ok, s) := cxeWrite a b (busy 1 s)
    if ok then opSettle { o with left := t } s
    else if o.scrubbed then ({ o with left := t, scrubBad := true }, s)
    else opSettle { o with left := [], last := none, status := OP_FWERR } s

/-- The blocks left of an operation, one after another. -/
def opBlocks (n : Nat) (o : CxeOp) (s : State) : CxeOp × State := (List.range n).foldl (fun (o, s) _ => opStep o s) (o, s)

/-- The rest of an operation: its data, a scrub that they lead to, and its tag or digest. -/
def opFinish (o : CxeOp) (s : State) : CxeOp × State :=
  let (o, s) := opBlocks o.left.length o s
  let (o, s) := opBlocks o.left.length o s
  let (o, s) := match o.last with
    | none => (o, s)
    | some (a, b) =>
      let (ok, s) := cxeWrite a b s
      (if ok then o else { o with status := OP_FWERR }, s)
  ({ o with last := none, unver := o.scrubBad, status := if o.scrubBad && o.status == OP_TAGFAIL then OP_SCRUBERR else o.status }, s)

/-! ### The operations -/

/-- The key of an operation's slot. -/
def opKey (s : State) (o : CxeOp) : List Byte := (s.slotKey o.page o.slot).key

/-- The IV of an encryption: DEVID's low half, the salt and the invocation counter; the counter is raised (R432). -/
def takeIv (o : CxeOp) (s : State) : Nat × CxeOp × State :=
  let f := CXE_KPn_SLOTm_INVOC o.page o.slot
  let n := s.rd f
  let iv := otpDevid s % 2 ^ 32 * 2 ^ 64 + (s.slotKey o.page o.slot).salt % 2 ^ 32 * 2 ^ 32 + n
  (iv, { o with invoc := n, retires := n + 1 == 2 ^ 32 - 1 }, s.wr f (min (n + 1) (2 ^ 32 - 1)))

/-- CTR_ENC (R432). -/
def ctrEnc (o : CxeOp) (s : State) : CxeOp × State :=
  match cxeRead o.src o.len s with
  | (none, s) => (o.ran OP_FWERR, s)
  | (some d, s) =>
    let (iv, o, s) := takeIv o s
    let (ok, s) := cxeWrite o.iv (toBE 12 iv) s
    (if ok then o.writes OP_OK (aesCtr (aesKeys (opKey s o)) (iv * 2 ^ 32) d) else o.ran OP_FWERR, s)

/-- CTR_DEC (R428). -/
def ctrDec (o : CxeOp) (s : State) : CxeOp × State :=
  match cxeRead o.iv 12 s with
  | (none, s) => (o.ran OP_FWERR, s)
  | (some iv, s) =>
    match cxeRead o.src o.len s with
    | (none, s) => (o.ran OP_FWERR, s)
    | (some d, s) => (o.writes OP_OK (aesCtr (aesKeys (opKey s o)) (ofBE iv * 2 ^ 32) d), s)

/-- Cycles of GCM over its AAD, a block each (R435); those of its data are counted as they are written. -/
def aadCycles (o : CxeOp) : Nat := (o.aadLen + 15) / 16

/-- GCM_ENC (R432). -/
def gcmEnc (o : CxeOp) (s : State) : CxeOp × State :=
  let s := busy (aadCycles o) s
  match cxeRead o.aad o.aadLen s with
  | (none, s) => (o.ran OP_FWERR, s)
  | (some aad, s) =>
    match cxeRead o.src o.len s with
    | (none, s) => (o.ran OP_FWERR, s)
    | (some d, s) =>
      let (iv, o, s) := takeIv o s
      let ks := aesKeys (opKey s o)
      let (ok, s) := cxeWrite o.iv (toBE 12 iv) s
      let ct := gcmData ks iv d
      (if ok then { o.writes OP_OK ct with last := some (o.tagAddr, (gcmTag ks iv aad ct).take o.tagLen) } else o.ran OP_FWERR, s)

/-- GCM_DEC (R436): its plaintext is written block by block, and a wrong tag found only after the last. -/
def gcmDec (o : CxeOp) (s : State) : CxeOp × State :=
  let s := busy (aadCycles o) s
  match cxeRead o.aad o.aadLen s with
  | (none, s) => opSettle (o.ran OP_FWERR) s
  | (some aad, s) =>
    match cxeRead o.iv 12 s with
    | (none, s) => opSettle (o.ran OP_FWERR) s
    | (some iv, s) =>
      match cxeRead o.tagAddr o.tagLen s with
      | (none, s) => opSettle (o.ran OP_FWERR) s
      | (some tag, s) =>
        match cxeRead o.src o.len s with
        | (none, s) => opSettle (o.ran OP_FWERR) s
        | (some ct, s) =>
          let ks := aesKeys (opKey s o)
          let good := (gcmTag ks (ofBE iv) aad ct).take o.tagLen == tag
          opSettle (o.writes (if good then OP_OK else OP_TAGFAIL) (gcmData ks (ofBE iv) ct)) s

/-- The tag of a message written to TAGADDR, or compared with the one there. -/
def tagOp (gen : Bool) (full : List Byte) (o : CxeOp) (s : State) : CxeOp × State :=
  if gen then ({ o.ran OP_OK with last := some (o.tagAddr, full.take o.tagLen) }, s)
  else
    match cxeRead o.tagAddr o.tagLen s with
    | (none, s) => (o.ran OP_FWERR, s)
    | (some tag, s) => if tag = full.take o.tagLen then (o.ran OP_OK, s) else (o.ran OP_TAGFAIL, tagFailed s)

/-- CMAC_GEN and CMAC_VER. -/
def cmacOp (gen : Bool) (o : CxeOp) (s : State) : CxeOp × State :=
  match cxeRead o.src o.len (busy ((o.len + 15) / 16) s) with
  | (none, s) => (o.ran OP_FWERR, s)
  | (some d, s) => tagOp gen (cmac (opKey s o) d) o s

/-- Cycles of a hash over a message (R435). -/
def shaCycles (h : ShaKind) (n : Nat) : Nat := (n + h.bits / 4 + 1 + h.block - 1) / h.block * (if h.bits = 32 then 4 else 8)

/-- HMAC_GEN, HMAC_VER, HMAC384_GEN and HMAC384_VER. -/
def hmacOp (h : ShaKind) (gen : Bool) (o : CxeOp) (s : State) : CxeOp × State :=
  match cxeRead o.src o.len (busy (shaCycles h o.len + if h.bits = 32 then 4 else 8) s) with
  | (none, s) => (o.ran OP_FWERR, s)
  | (some d, s) => tagOp gen (hmac h (opKey s o) d) o s

/-- SHA256 and SHA384. -/
def shaOp (h : ShaKind) (o : CxeOp) (s : State) : CxeOp × State :=
  match cxeRead o.src o.len (busy (shaCycles h o.len) s) with
  | (none, s) => (o.ran OP_FWERR, s)
  | (some d, s) => ({ o.ran OP_OK with last := some (o.dst, sha h d) }, s)

/-- Block `i` of the counter-mode KDF of NIST SP 800-108 with AES-256-CMAC, for the label "MK4096-KWK" and DEVID as context (R420).
[DESIGN CHOICE, safe: notes/assumptions/13] -/
def kdfBlock (key : List Byte) (devid i : Nat) : List Byte :=
  cmac key (Config.kdfBytes 0 i ++ ("MK4096-KWK".toList.map fun c => BitVec.ofNat 8 c.toNat) ++ (0#8 :: Config.kdfBytes 1 devid) ++
    Config.kdfBytes 2 256)

/-- KWK of the device: in BLANK the all-zero key stands for DK (R420). -/
def kwk (s : State) : List Byte :=
  let dk := toBE 32 (if s.lcs = BLANK then 0 else otpDk s)
  kdfBlock dk (otpDevid s) 1 ++ kdfBlock dk (otpDevid s) 2

/-- The attribute word of a blob is acceptable with `k` key bytes (R422). -/
def attrOk (w k : Nat) : Bool :=
  let type := bits w 7 0
  let klen := bits w 15 8
  bits w 63 28 == 0 && bits w 23 21 == 0 && klen == k &&
    (match type with | 1 => klen == 16 | 2 => klen == 24 | 3 => klen == 32 | 4 => within 16 64 klen | _ => false)

/-- UNWRAP (R421 to R423, R426): a blob that passes leaves the slot LOADING until its completion. -/
def unwrapOp (o : CxeOp) (s : State) : CxeOp × State :=
  match cxeRead o.src o.len (busy (14 * 6 * (o.len / 8 - 1)) s) with
  | (none, s) => (o.ran OP_FWERR, s)
  | (some blob, s) =>
    match keyUnwrap (kwk s) blob with
    | none => (o.ran OP_UNWRAPFAIL, s.count CXE_COUNT_UNWRAPFAIL)
    | some p =>
      let w := ofLE (p.take 8)
      let key := p.drop 8
      if p.length < 8 ∨ !attrOk w key.length then (o.ran OP_BADBLOB, s.count CXE_COUNT_UNWRAPFAIL)
      else if bits w 27 24 ≠ pageOwner s o.page ∧ pageOwner s o.page ≠ SV_INIT then (o.ran OP_OWNER, s)
      else if s.nvs.loadCnt + 1 = 2 ^ 32 then (o.ran OP_LOADEXH, s.raise CXE_STAT_LOADEXH)
      else
        let c := s.nvs.loadCnt + 1
        let s := { s with nvs := { s.nvs with loadCnt := c } }.wr CXE_LOADCNT_COUNT c
        let s := s.setSlotKey o.page o.slot ⟨key, c⟩
        let s := (s.setReg (CXE_KPn_SLOTm o.page o.slot) 0).wr (CXE_KPn_SLOTm_OWNER o.page o.slot) (bits w 27 24)
        let s := (s.wr (CXE_KPn_SLOTm_TYPE o.page o.slot) (bits w 7 0)).wr (CXE_KPn_SLOTm_USAGE o.page o.slot) (bits w 20 16)
        (o.ran OP_OK, s.wr (CXE_KPn_SLOTm_STATE o.page o.slot) SL_LOADING)

/-! ### Submission, running and completion -/

/-- W7 of an operation (R428). -/
def w7 (o : CxeOp) (done_ : Bool) : Nat :=
  o.invoc % 2 ^ 32 * 2 ^ 32 + (if done_ then 512 else 0) + (if o.unver then 256 else 0) + o.status

/-- W7 is written to the descriptor. -/
def writeW7 (o : CxeOp) (done_ : Bool) (s : State) : State := (dmaWrite CXE_INIT (o.desc + 56) (toLE 8 (w7 o done_)) s).2

/-- A write of CXE_KPn_SUBMIT by the page's owner (R428, R430). [DEDUCED, unsafe: notes/assumptions/40] -/
def cxeSubmit (n addr : Nat) (s : State) : State :=
  if 8 ≤ pageOps s n then s.raise (CXE_KPn_STAT_QFULL n)
  else
    let (d, s) := cxeRead addr 64 s
    let ws := d.map fun d => (List.range 8).map fun i => ofLE ((d.drop (8 * i)).take 8)
    let o : CxeOp := { page := n, desc := addr, words := ws, prio := 1 }
    let o := { o with prio := max (bits (o.w 0) 21 20) 1, unver := o.op == 4 }
    let s := writeW7 o false s
    refreshLevels { s with cxe := { s.cxe with queue := s.cxe.queue ++ [o] } }

/-- An operation completes: W7, DONE and ERR (R430). -/
def cxeFinish (o : CxeOp) (s : State) : State :=
  let s := (writeW7 o true (busy 4 s)).raise (CXE_KPn_STAT_DONE o.page)
  let s := if o.status = OP_OK then s else s.raise (CXE_KPn_STAT_ERR o.page)
  refreshLevels s

/-- The operation that the engine runs next: of the highest priority queued, the first submitted (R433). -/
def nextOp (s : State) : Option CxeOp :=
  (List.range 4).findSome? fun p => s.cxe.queue.find? fun o => o.prio == p

/-- The engine is free for a priority: nothing of it or of a higher one has begun, an ICV of the Ethernet ports included (R433, R434). -/
def engineFree (s : State) (prio : Nat) : Bool := s.cxe.icv == 0 && s.cxe.running.all fun o => decide (prio < o.prio)

/-- The engine begins its next operation, if that is of the code `code`: it reads its input, and its blocks are then written one by one
(R433 to R437). [DESIGN CHOICE, unsafe: notes/assumptions/7] -/
def cxeRun (code : Nat) (f : CxeOp → State → CxeOp × State) (s : State) : State :=
  match nextOp s with
  | none => s
  | some o =>
    if o.op ≠ code ∨ !engineFree s o.prio then s
    else
      let s := { s with cxe := { s.cxe with queue := s.cxe.queue.erase o } }
      let c := opCheck s o
      let s := if c = OP_EXHAUSTED then s.raise CXE_STAT_EXHAUST else s
      let (o, s) := if c ≠ 0 then (o.ran c, busy 24 s) else f o (busy 24 s)
      { s with cxe := { s.cxe with running := o :: s.cxe.running } }

/-- The end of an operation: a slot that it retires or has loaded takes its state (R423, R432). -/
def slotAfter (o : CxeOp) (s : State) : State :=
  let f := CXE_KPn_SLOTm_STATE o.page o.slot
  if o.op = 13 ∧ o.status = OP_OK then s.wr f SL_READY
  else if o.retires ∧ s.rd f = SL_READY then (s.wr f SL_RETIRED).raise CXE_STAT_EXHAUST
  else s

/-- The engine writes a block of the highest operation begun in every cycle of CLK_PER: three ticks (R434, R435).
[DESIGN CHOICE, unsafe: notes/assumptions/7] -/
def cxeTick (s : State) : State :=
  if s.ticks % 3 ≠ 0 then s
  else if 0 < s.cxe.icv then { s with cxe := { s.cxe with icv := s.cxe.icv - 1 } }
  else match s.cxe.running with
  | [] => s
  | o :: rest =>
    if o.left = [] then s
    else
      let (o, s) := opStep o s
      { s with cxe := { s.cxe with running := o :: rest } }

/-- The next operation is a descriptor that names none, and the engine is free for its priority (R433). -/
def nextUnknown (s : State) : Option CxeOp := (nextOp s).filter fun o => !within 1 13 o.op && engineFree s o.prio

/-- A descriptor that names no operation completes with its status; else the highest operation begun does. -/
def cxeEnd (s : State) : State :=
  match nextUnknown s with
  | some o => cxeFinish (o.ran (opCheck s o)) (busy 24 { s with cxe := { s.cxe with queue := s.cxe.queue.erase o } })
  | none =>
    match s.cxe.running with
    | [] => s
    | o :: rest =>
      let (o, s) := opFinish o s
      cxeFinish o (slotAfter o { s with cxe := { s.cxe with running := rest } })

/-- An operation completes; while an ICV of priority 0 runs, none does (R433, R434). -/
def cxeComplete (s : State) : State := if 0 < s.cxe.icv then s else cxeEnd s

/-- Every operation that has begun completes. -/
def cxeDrain (s : State) : State :=
  s.cxe.running.foldl (fun s _ => cxeEnd s) { s with cxe := { s.cxe with queue := [], icv := 0 } }

/-! ### Zeroisation (R427, R438) -/

/-- An operation uses a slot that is zeroised; a reclaim of the whole page takes a descriptor that names no operation too (R425, R438). -/
def opUses (n : Nat) (whole : Bool) (hit : Nat → Bool) (o : CxeOp) : Bool :=
  o.page == n && (if within 1 13 o.op then o.op != 11 && o.op != 12 && hit o.slot else whole)

/-- Whether an operation has passed its checks and touched data. -/
def CxeOp.touched (o : CxeOp) : Bool := [OP_OK, OP_TAGFAIL, OP_FWERR, OP_SCRUBERR].contains o.status

/-- An operation that has begun stops at the end of its block; a GCM_DEC is scrubbed (R436, R438). -/
def stopOp (n : Nat) (whole : Bool) (hit : Nat → Bool) (o : CxeOp) : CxeOp :=
  if !opUses n whole hit o then o
  else if o.op = 4 ∧ o.touched then
    if o.scrubbed then { o with status := OP_ZEROISED } else o.scrub OP_ZEROISED
  else { o with status := OP_ZEROISED, unver := false, retires := false, left := [], last := none }

/-- Slots of a page are zeroised: the operations begun on them stop, and those queued complete with ZEROISED in queue order. -/
def zeroSlots (n : Nat) (whole : Bool) (hit : Nat → Bool) (s : State) : State :=
  let s := (List.range 8).foldl (fun s m =>
    if hit m then ((s.setReg (CXE_KPn_SLOTm n m) 0).setSlotKey n m {}).raise (CXE_KPn_STAT_ZEROED n) else s) s
  let gone := s.cxe.queue.filter (opUses n whole hit)
  let s := { s with cxe := { s.cxe with
    queue := s.cxe.queue.filter fun o => !opUses n whole hit o
    running := s.cxe.running.map (stopOp n whole hit) } }
  gone.foldl (fun s o => cxeFinish (o.ran OP_ZEROISED) s) s

/-- A page is zeroised whole and returns to SV (R425). -/
def reclaimPage (n : Nat) (s : State) : State := setPageOwner n SV_INIT (zeroSlots n true (fun _ => true) s)

/-- Every key page is zeroised and returns to SV (R424, R451). -/
def zeroiseAll (s : State) : State := (List.range 16).foldl (fun s n => reclaimPage n s) s

/-- GIVE (R425). -/
def pageGive (n newOwner : Nat) (s : State) : State :=
  if pageOps s n ≠ 0 then s.raise (CXE_KPn_STAT_ERR n)
  else
    let keep := s
    setPageOwner n newOwner
      (zeroSlots n false (fun m => keep.rd (CXE_KPn_SLOTm_STATE n m) != SL_EMPTY && keep.rd (CXE_KPn_SLOTm_OWNER n m) != newOwner) s)

/-- ZERO with a slot mask (R427). -/
def pageZero (n mask : Nat) (s : State) : State := zeroSlots n false (fun m => mask.testBit m) s

/-- A write of CXE_RECLAIM by SV (R425). -/
def reclaim (pages : Nat) (s : State) : State :=
  (List.range 16).foldl (fun s n => if pages.testBit n then reclaimPage n s else s) s

/-- An access to a page by another than its owner (R424). -/
def pageViolation (init a : Nat) (write : Bool) (s : State) : State :=
  let s := ((s.raise CXE_STAT_VIOL).count CXE_COUNT_VIOL).wr CXE_VIOLADDR_ADDR a
  let s := (s.put CXE_VIOLINFO_WRITE write).wr CXE_VIOLINFO_INIT init
  icError init a write OWNER s

/-- The page that an address of the block belongs to; the global registers belong to none (R453). -/
def pageOf (a : Nat) : Option Nat := if 0x10120C00 ≤ a ∧ a < 0x10121000 then none else some ((a - 0x10120000) / 0x1000)

/-- What a page does only for its owner. -/
def ownPage (init n a : Nat) (f : State → State) (s : State) : State :=
  if pageOwner s n = init then f s else pageViolation init a true s

/-- A write of CXE_KPn_CTRL: ZERO, then GIVE. -/
def pageCtrl (n : Nat) (v : Word) (s : State) : State :=
  let s := if (CXE_KPn_CTRL_ZERO n).of v = 1 then pageZero n ((CXE_KPn_CTRL_ZMASK n).of v) s else s
  if (CXE_KPn_CTRL_GIVE n).of v = 1 then pageGive n ((CXE_KPn_CTRL_NEWOWNER n).of v) s else s

/-- A write of a CXE register (R424, R425, R453). -/
def cxeWriteReg (init a : Nat) (v : Word) (s : State) : State :=
  match pageOf a with
  | none =>
    if a = CXE_RECLAIM then guardW (init == SV_INIT) init a OWNER (reclaim (CXE_RECLAIM_PAGES.of v)) s
    else s.typed a v
  | some n =>
    ownPage init n a (fun s =>
      if a = CXE_KPn_CTRL n then pageCtrl n v s
      else if a = CXE_KPn_SUBMIT n then cxeSubmit n ((CXE_KPn_SUBMIT_DESC n).of v * 64) s
      else s.typed a v) s

/-! ### The signature verifier (R439 to R441) -/

/-- The results of a job (R440). -/
def V_VALID : Nat := 1
def V_INVALID : Nat := 2
def V_KEYMISMATCH : Nat := 3
def V_BADKEY : Nat := 4
def V_BADDESC : Nat := 5
def V_FWERR : Nat := 6
def V_REVOKED : Nat := 7

/-- SVU_QSTAT shows the queue. -/
def refreshSvu (s : State) : State :=
  (s.wr SVU_QSTAT_LEVEL s.svu.jobs.length).put SVU_QSTAT_BUSY (!s.svu.jobs.isEmpty || s.svu.cert)

/-- The anchor of a PKSEL from 1 to 4 (R441). -/
def anchor (s : State) (sel : Nat) : Nat := if sel = 4 then Config.rmaKeyHash.toNat else otpHash s sel

/-- The check of a public key and a signature over a digest (R441). -/
def svuCheck (c : Curve) (sel : Nat) (key digest sig : List Byte) (s : State) : Nat :=
  if sel = 1 ∧ otpBit s 8 then V_REVOKED
  else if sel ≠ 0 ∧ ofBE (sha256 key) ≠ anchor s sel then V_KEYMISMATCH
  else if !onCurve c (ofBE (key.take c.len)) (ofBE (key.drop c.len)) then V_BADKEY
  else if ecdsa c key digest sig then V_VALID
  else V_INVALID

/-- A job's result from its descriptor (R440). [DEDUCED, safe: notes/assumptions/15] -/
def svuJob (addr : Nat) (s : State) : Nat × Nat × State :=
  match cxeRead addr 64 s with
  | (none, s) => (V_FWERR, 0, s)
  | (some d, s) =>
    let w := fun i => ofLE ((d.drop (8 * i)).take 8)
    let n := bits (w 0) 15 8
    let sel := bits (w 0) 6 4
    let bad := (n != 32 && n != 48 && n != 64) || decide (5 ≤ sel) || bits (w 0) 55 16 != 0 || bits (w 0) 7 7 != 0 ||
      bits (w 0) 3 1 != 0 || decide (2 ^ 32 ≤ w 1) || decide (2 ^ 32 ≤ w 2) || decide (2 ^ 32 ≤ w 3) || w 4 != 0 || w 5 != 0 || w 6 != 0
    if bad then (V_BADDESC, sel, s)
    else
      let c := if bits (w 0) 0 0 = 1 then p521 else p256
      match cxeRead (w 1) (2 * c.len) s with
      | (none, s) => (V_FWERR, sel, s)
      | (some key, s) =>
        match cxeRead (w 2) n s with
        | (none, s) => (V_FWERR, sel, s)
        | (some dig, s) =>
          match cxeRead (w 3) (2 * c.len) s with
          | (none, s) => (V_FWERR, sel, s)
          | (some sig, s) => (svuCheck c sel key dig sig s, sel, s)

/-- A job joins the queue; a full one takes it not (R440). -/
def svuPush (j : SvuJob) (s : State) : State :=
  if 8 ≤ s.svu.jobs.length then s.raise SVU_STAT_QFULL
  else refreshSvu { s with svu := { s.svu with jobs := s.svu.jobs ++ [j] } }

/-- A write of SVU_SUBMIT (R440). -/
def svuSubmit (init addr : Nat) (s : State) : State :=
  guardW (init == 4 || init == 5 || init == 6 || init == 15) init SVU_SUBMIT OWNER (svuPush (.desc addr)) s

/-- A job has ended with a result (R456). -/
def svuCounted (r : Nat) (s : State) : State :=
  (if r = V_VALID then s.count SVU_COUNT_VALID else s.count SVU_COUNT_FAILED).raise SVU_STAT_DONE

/-- The result of a job, and for that of a descriptor W7 (R440, R441, R482). -/
def svuResult (j : SvuJob) (s : State) : Nat × State :=
  match j with
  | .desc a =>
    let (r, sel, s) := svuJob a s
    (r, (dmaWrite CXE_INIT (a + 56) (toLE 8 (sel * 256 + 128 + r)) s).2)
  | .chain key digest sig => (svuCheck p256 3 key digest sig s, s)
  | .root p521_ pub digest sig _ _ _ => (svuCheck (if p521_ then p521 else p256) 0 pub digest sig s, s)

/-- The oldest job ends: its result, DONE and the counts; a certificate comes first, but for the job in progress when it was submitted
(R440).  The result is 0 where no job ends. -/
def svuJobDone (s : State) : Nat × State :=
  match s.svu.jobs with
  | [] => (0, s)
  | j :: rest =>
    if s.svu.cert && !s.svu.before then (0, s)
    else
      let (r, s) := svuResult j s
      (r, refreshSvu (svuCounted r { s with svu := { s.svu with jobs := rest, before := false } }))

/-! ### TIME_TRUST (R449) -/

/-- A write of SVU_TRUST: TRUSTREQ only by a solution core. -/
def trustWrite (init : Nat) (v : Word) (s : State) : State :=
  guardW (init == 4 || init == 5) init SVU_TRUST OWNER (fun s => refreshTrust (s.typed SVU_TRUST v)) s

/-! ### Debug levels (R444 to R448) -/

/-- A level is granted (R446, R450, R451). -/
def grantLevel (lv : Nat) (s : State) : State :=
  let s := if s.lcs = DEPLOYED ∧ lv = 2 then zeroiseAll s else s
  let s := (s.wr SVU_DBG_LEVEL lv).raise SVU_STAT_DBGGRANT
  refreshTrust (if 2 ≤ lv then s.raise SVU_DBG_D2SEEN else s)

/-- The level returns to D0, and halted cores resume (R445). -/
def dropLevel (s : State) : State :=
  (List.range 7).foldl (fun s n => haltReq n false s) (s.wr SVU_DBG_LEVEL 0)

/-- A request without a certificate (R448). -/
def levelReq (lv : Nat) (s : State) : State :=
  if s.svu.cert then s
  else if lv = 0 then dropLevel s
  else if s.lcs = BLANK ∨ s.lcs = RETURNED then grantLevel lv s
  else s.raise SVU_STAT_DBGFAIL

/-- A certificate is submitted: it runs next after the job in progress (R440, R447). -/
def certSubmit (s : State) : State :=
  if s.svu.cert then s else refreshSvu { s with svu := { s.svu with cert := true, before := !s.svu.jobs.isEmpty } }

/-- The 84 bytes of the mailbox. -/
def mailbox (s : State) : List Byte := (List.range 14).flatMap fun k => toLE 6 (s.reg (SVU_DBGMBk k)).toNat

/-- Whether the fields of a certificate agree with the device (R447). -/
def certFields (s : State) (b : List Byte) : Bool :=
  ofLE (b.take 8) == otpDevid s && imgLe b 8 4 == s.nvs.dbgCnt && (imgLe b 13 1 == 1 || imgLe b 13 1 == 2) && imgLe b 14 2 == 0 &&
    imgLe b 80 4 == 0

/-- The check of the signature over bytes 0 to 15 of a certificate or a request, under the anchor that its PKSEL names; `key` is the
public key (R441, R447). [DEDUCED, unsafe: notes/assumptions/41] -/
def signedFields (key : List Byte) (b : List Byte) (s : State) : Nat :=
  svuCheck p256 (imgLe b 13 1) key (sha256 (b.take 16)) ((b.drop 16).take 64) s

/-- SVU ends the check of the certificate, with the public key that it was checked under (R447).
[DEDUCED, unsafe: notes/assumptions/41] -/
def certVerified (key : List Byte) (s : State) : State :=
  if !s.svu.cert || s.svu.before then s
  else
    let b := mailbox s
    let lv := imgLe b 12 1
    let fits := certFields s b
    let allowed := within 1 (if s.lcs = PROVISIONED ∨ s.lcs = DEPLOYED then 2 else 3) lv
    let s := { s with svu := { s.svu with cert := false }, nvs := { s.nvs with dbgCnt := (s.nvs.dbgCnt + 1) % 2 ^ 32 } }
    let s := refreshSvu (s.wr SVU_DBGCNT_COUNT s.nvs.dbgCnt)
    if !fits then
      let (r, s) := s.fresh 8
      (s.wr SVU_DBG_RESULT r).raise SVU_STAT_DBGFAIL
    else
      let r := signedFields key b s
      let s := s.wr SVU_DBG_RESULT r
      if r = V_VALID ∧ allowed then grantLevel lv s else s.raise SVU_STAT_DBGFAIL

/-- A write of SVU_DBG by the debug port (R445, R447, R448). -/
def dbgWrite (v : Word) (s : State) : State :=
  let req := SVU_DBG_REQ.of v = 1
  let sub := SVU_DBG_SUBMIT.of v = 1
  let drop := SVU_DBG_DROP.of v = 1
  if req ∧ (sub ∨ drop) then s.raise SVU_STAT_DBGFAIL
  else if req then levelReq (SVU_DBG_REQLEVEL.of v) s
  else
    let s := if drop then dropLevel s else s
    if sub then certSubmit s else s

/-! ### Lifecycle (R443) -/

/-- Bits set in an OTP row. -/
def otpSet (r v : Nat) (s : State) : State :=
  { s with nvs := { s.nvs with otp := s.nvs.otp.setIfInBounds r (s.nvs.otp.getD r 0 ||| BitVec.ofNat 64 v) } }

/-- An accepted transition: the pages are zeroised, OTP is programmed, LCDONE is set and a cold reset follows. -/
def lcAccept (target : Nat) (s : State) : State :=
  let s := otpSet 17 (2 ^ target - 1 + if target = RETURNED then 2 ^ 9 else 0) (zeroiseAll s)
  resetBy PWR_RSTCAUSE_LCRESET (s.raise SVU_STAT_LCDONE)

/-- A transition of the table of R443, and whether it needs a signature. -/
def lcTransition (old new : Nat) : Option Bool :=
  if old = BLANK ∧ new = PROVISIONED then some false
  else if old = PROVISIONED ∧ new = DEPLOYED then some true
  else if (old = PROVISIONED ∨ old = DEPLOYED) ∧ new = RETURNED then some true
  else none

/-- A write of SVU_LCCMD by SV (R443). -/
def lcRequest (target addr : Nat) (s : State) : State :=
  let (d, s) := cxeRead addr 80 s
  let fail := s.raise SVU_STAT_LCFAIL
  match d with
  | none => fail
  | some b =>
    let fields := ofLE (b.take 8) == otpDevid s && imgLe b 8 4 == 0 && imgLe b 12 1 == target && imgLe b 14 2 == 0
    match lcTransition s.lcs target with
    | none => fail
    | some signed =>
      if !fields then fail
      else if !signed then (if otpHash s 1 = 0 then fail else lcAccept target s)
      else if imgLe b 13 1 ≠ 1 ∧ imgLe b 13 1 ≠ 2 then fail
      else { s with svu := { s.svu with lc := some ⟨target, b⟩ } }

/-- The signature check of the request ends, with the public key that it was checked under. -/
def lcVerified (key : List Byte) (s : State) : State :=
  match s.svu.lc with
  | none => s
  | some r =>
    let s := { s with svu := { s.svu with lc := none } }
    if signedFields key r.bytes s = V_VALID then lcAccept r.target s else s.raise SVU_STAT_LCFAIL

/-- A write of an SVU register (R440, R449, R456). -/
def svuWriteReg (init a : Nat) (v : Word) (s : State) : State :=
  if a = SVU_SUBMIT then svuSubmit init (SVU_SUBMIT_DESC.of v * 64) s
  else if a = SVU_LCCMD then
    guardW (init == SV_INIT) init a OWNER (lcRequest (SVU_LCCMD_TARGET.of v) (SVU_LCCMD_REQ.of v * 64)) s
  else if a = SVU_DBG then guardW (init == 14) init a OWNER (dbgWrite v) s
  else if a = SVU_TRUST then trustWrite init v s
  else if SVU_DBGMBk 0 ≤ a ∧ a ≤ SVU_DBGMBk 13 then guardW (init == 14) init a OWNER (fun s => s.setReg a v) s
  else s.typed a v

/-! ### Meanings -/

/-- PAGE_GIVE (R425). -/
def execPageGive (init : Init) (page : Fin 16) (newOwner : Init) (s : State) : Host.Outcome State Fault Refusal :=
  done (asAccess init (CXE_KPn_CTRL page) true (ownPage init page (CXE_KPn_CTRL page) (pageGive page newOwner)) s)

/-- PAGE_ZERO (R427). -/
def execPageZero (init : Init) (page : Fin 16) (mask : Byte) (s : State) : Host.Outcome State Fault Refusal :=
  done (asAccess init (CXE_KPn_CTRL page) true (ownPage init page (CXE_KPn_CTRL page) (pageZero page mask.toNat)) s)

/-- PAGE_RECLAIM (R425). -/
def execPageReclaim (init : Init) (pages : BitVec 16) (s : State) : Host.Outcome State Fault Refusal :=
  done (asAccess init CXE_RECLAIM true (guardW (init == 6) init CXE_RECLAIM OWNER (reclaim pages.toNat)) s)

/-- CTR_ENC (R432): the engine runs its next operation. -/
def execCtrEnc (s : State) : Host.Outcome State Fault Refusal := done (cxeRun 1 ctrEnc s)

/-- CTR_DEC (R428). -/
def execCtrDec (s : State) : Host.Outcome State Fault Refusal := done (cxeRun 2 ctrDec s)

/-- GCM_ENC (R432). -/
def execGcmEnc (s : State) : Host.Outcome State Fault Refusal := done (cxeRun 3 gcmEnc s)

/-- GCM_DEC (R436). -/
def execGcmDec (s : State) : Host.Outcome State Fault Refusal := done (cxeRun 4 gcmDec s)

/-- CMAC_GEN (R428). -/
def execCmacGen (s : State) : Host.Outcome State Fault Refusal := done (cxeRun 5 (cmacOp true) s)

/-- CMAC_VER (R428). -/
def execCmacVer (s : State) : Host.Outcome State Fault Refusal := done (cxeRun 6 (cmacOp false) s)

/-- HMAC_GEN (R428). -/
def execHmacGen (s : State) : Host.Outcome State Fault Refusal := done (cxeRun 7 (hmacOp sha256Kind true) s)

/-- HMAC_VER (R428). -/
def execHmacVer (s : State) : Host.Outcome State Fault Refusal := done (cxeRun 8 (hmacOp sha256Kind false) s)

/-- HMAC384_GEN (R428). -/
def execHmac384Gen (s : State) : Host.Outcome State Fault Refusal := done (cxeRun 9 (hmacOp sha384Kind true) s)

/-- HMAC384_VER (R428). -/
def execHmac384Ver (s : State) : Host.Outcome State Fault Refusal := done (cxeRun 10 (hmacOp sha384Kind false) s)

/-- SHA256 (R428). -/
def execSha256 (s : State) : Host.Outcome State Fault Refusal := done (cxeRun 11 (shaOp sha256Kind) s)

/-- SHA384 (R428). -/
def execSha384 (s : State) : Host.Outcome State Fault Refusal := done (cxeRun 12 (shaOp sha384Kind) s)

/-- UNWRAP (R422). -/
def execUnwrap (s : State) : Host.Outcome State Fault Refusal := done (cxeRun 13 unwrapOp s)

/-- CXE_OP_COMPLETE (R430). [DESIGN CHOICE, safe: notes/assumptions/7] [DESIGN CHOICE, unsafe: notes/assumptions/66] -/
def execCxeOpComplete (s : State) : Host.Outcome State Fault Refusal := done (cxeComplete s)

/-- SVU_SUBMIT (R440). -/
def execSvuSubmit (init : Init) (desc : BitVec 26) (s : State) : Host.Outcome State Fault Refusal :=
  done (asAccess init SVU_SUBMIT true (svuSubmit init (desc.toNat * 64)) s)

/-- LIFECYCLE_REQUEST (R443). -/
def execLifecycleRequest (init : Init) (target : Fin 4) (req : BitVec 26) (s : State) : Host.Outcome State Fault Refusal :=
  done (asAccess init SVU_LCCMD true (guardW (init == 6) init SVU_LCCMD OWNER (lcRequest target (req.toNat * 64))) s)

/-- LIFECYCLE_REQUEST_VERIFIED (R443): `key` is the public key. -/
def execLifecycleRequestVerified (key : List Byte) (s : State) : Host.Outcome State Fault Refusal := done (lcVerified key s)

/-- DBG_CERT_SUBMIT (R447). -/
def execDbgCertSubmit (init : Init) (s : State) : Host.Outcome State Fault Refusal :=
  done (asAccess init SVU_DBG true (guardW (init == 14) init SVU_DBG OWNER certSubmit) s)

/-- CERTIFICATE_VERIFIED (R447): `key` is the public key. -/
def execCertificateVerified (key : List Byte) (s : State) : Host.Outcome State Fault Refusal := done (certVerified key s)

/-- DBG_LEVEL_REQ (R448). -/
def execDbgLevelReq (init : Init) (level : Fin 4) (s : State) : Host.Outcome State Fault Refusal :=
  done (asAccess init SVU_DBG true (guardW (init == 14) init SVU_DBG OWNER (levelReq level)) s)

/-- DBG_DROP (R445). -/
def execDbgDrop (init : Init) (s : State) : Host.Outcome State Fault Refusal :=
  done (asAccess init SVU_DBG true (guardW (init == 14) init SVU_DBG OWNER dropLevel) s)

/-- TRUSTREQ_WRITE (R449). -/
def execTrustreqWrite (init : Init) (req : Bool) (s : State) : Host.Outcome State Fault Refusal :=
  done (asAccess init SVU_TRUST true (fun s => guardW (init == 4 || init == 5) init SVU_TRUST OWNER (fun s => refreshTrust (s.put SVU_TRUST_TRUSTREQ req)) s) s)

end Sys2Proof.Machine
end

