-- ==== Sys2Proof/Machine/Ethernet.lean ====
section
/-!
DEFINITION. Ethernet Timing Ports (R390 to R418): modes, stamps, the streams and answers of the time transmitter, integrity
protection, ESMC, the rings of SV and the source offsets.
-/

namespace Sys2Proof.Machine

/-- The initiator of the Ethernet DMA (R466). -/
def ETH_INIT : Nat := 12

/-! ### Modes (R390, R393) -/

/-- The FEC code as it acts. -/
def fecOf (f : Nat) : Nat := if f = 3 then 0 else f

/-- The combinations of R390. -/
def modeOk (rate fec : Nat) (an : Bool) : Bool :=
  match rate with
  | 0 | 1 => fec == 0
  | 2 => decide (fec ≤ 1) && !an
  | _ => !an

/-- PMALAT.TX and PMALAT.RX of a mode (R393). -/
def pmaLat (rate fec : Nat) : Nat × Nat :=
  match rate, fec with
  | 0, _ | 1, _ => (9600, 17280)
  | 2, 0 => (3840, 5760)
  | 2, _ => (6912, 14208)
  | _, 0 => (1920, 3264)
  | _, 1 => (3072, 8064)
  | _, _ => (5376, 18240)

/-- EN of a port is set (R390). -/
def ethEnable (n : Nat) (s : State) : State :=
  if s.flag (ETHn_CTRL_EN n) then s
  else
    let rate := s.rd (ETHn_CTRL_RATE n)
    let fec := fecOf (s.rd (ETHn_CTRL_FEC n))
    if !modeOk rate fec (s.flag (ETHn_CTRL_AN n)) then s.raise (ETHn_STAT_CFGERR n)
    else
      let (tx, rx) := pmaLat rate fec
      (((s.raise (ETHn_CTRL_EN n)).clear (ETHn_STAT_REFFB n)).wr (ETHn_PMALAT_TX n) tx).wr (ETHn_PMALAT_RX n) rx

/-- EN of a port is cleared. -/
def ethDisable (n : Nat) (s : State) : State :=
  ((s.clear (ETHn_CTRL_EN n)).clear (ETHn_STAT_LINK_UP n)).clear (ETHn_STAT_RXFVALID n)

/-- A window of the recovered clock begins (R411). -/
def rxfBegin (n : Nat) (s : State) : State := { s with eth := { s.eth with rxfFrom := s.eth.rxfFrom.setIfInBounds n s.ticks } }

/-- A window of the recovered clock is complete: 1 s with the link up (R411). -/
def rxfDone (s : State) (n : Nat) : Bool :=
  s.flag (ETHn_STAT_LINK_UP n) && decide (s.eth.rxfFrom.getD n 0 + 1000 * msTicks ≤ s.ticks)

/-- The link comes up or goes down (R390, R411). -/
def ethLink (n : Nat) (up : Bool) (s : State) : State :=
  if !s.flag (ETHn_CTRL_EN n) then s
  else if up then (if s.flag (ETHn_STAT_LINK_UP n) then s else rxfBegin n (s.raise (ETHn_STAT_LINK_UP n)))
  else (s.clear (ETHn_STAT_LINK_UP n)).clear (ETHn_STAT_RXFVALID n)

/-! ### SyncE and ESMC (R391, R411 to R413) -/

/-- The SSM code to be sent (R412). -/
def txqlOf (s : State) (n : Nat) : Nat :=
  if !s.timeValid then s.rd (ETHn_ESMC_QLFAIL n)
  else if !s.flag TB_TIMESTAT_HOLDOVER && s.flag (ETHn_CTRL_REFSRC n) && !s.flag (ETHn_STAT_REFFB n) then s.rd (ETHn_ESMC_QLOK n)
  else s.rd (ETHn_ESMC_QLHOLD n)

/-- TXQL follows its conditions, and a change sets QLCHG; the 10 ms of the event PDU run from the first change that none has told (R412). -/
def refreshQl (s : State) (n : Nat) : State :=
  let q := txqlOf s n
  if s.rd (ETHn_ESMC_TXQL n) = q then s
  else
    let s := (s.wr (ETHn_ESMC_TXQL n) q).raise (ETHn_STAT_QLCHG n)
    { s with eth := { s.eth with qlAt := s.eth.qlAt.setIfInBounds n (some ((s.eth.qlAt.getD n none).getD s.ticks)) } }

/-- TXQL of every port. -/
def refreshQls (s : State) : State := (List.range 4).foldl refreshQl s

/-- OSY3 output 1 runs at the internal tap: its pin's enable does not matter there (R378, R380, R391). -/
def tapRuns (s : State) : Bool :=
  s.flag (OSYn_CTRL_EN 3) && (s.osyn 3).started && !(s.flag (OSYn_OUTCTRL_SQ1 3) && s.flag SAF_STAT_CLKFAULT) && !entering s

/-- The 1 ms since OSY3 output 1 stopped has passed at tick `t` (R391). -/
def fallbackDue (s : State) (t : Nat) : Bool := match s.eth.tapStop with | some w => t == w + msTicks | none => false

/-- A port that takes its reference from OSY3 changes over to the root (R391). -/
def ethFallback (s : State) (n : Nat) : State :=
  if s.flag (ETHn_CTRL_EN n) && s.flag (ETHn_CTRL_REFSRC n) then refreshQl (s.raise (ETHn_STAT_REFFB n)) n else s

/-- The internal tap at a tick: its stop is noted, and 1 ms later the ports change over (R391). -/
def tapTick (s : State) : State :=
  if tapRuns s then (if s.eth.tapStop.isSome then { s with eth := { s.eth with tapStop := none } } else s)
  else if s.eth.tapStop.isNone then { s with eth := { s.eth with tapStop := some s.ticks } }
  else if fallbackDue s s.ticks then (List.range 4).foldl ethFallback s
  else s

/-- The ICV of bytes with the key of a port: HMAC-SHA-256, of which the leftmost 16 bytes unless ICV32 is 1 (R404). -/
def portIcv (s : State) (n : Nat) (m : List Byte) : List Byte :=
  (hmac sha256Kind (s.slotKey (s.rd (ETHn_AUTHCFG_KPAGE n)) (s.rd (ETHn_AUTHCFG_KSLOT n))).key m).take (if s.flag (ETHn_AUTHCFG_ICV32 n) then 32 else 16)

/-- CXE's cycles for an ICV of a port: its start, the blocks of the message, and the outer block (R435); they are the engine's first
(R433). -/
def icvBusy (m : List Byte) (s : State) : State :=
  let n := 8 + shaCycles sha256Kind m.length + 4
  busy n { s with cxe := { s.cxe with icv := s.cxe.icv + n } }

/-- The messageType of IEEE 1588; a message that is not PTP's, or that SV forms, has none here. [PRESUMED, unsafe: notes/assumptions/39] -/
def EthKind.code : EthKind → Int
  | .sync => 0 | .followUp => 8 | .delayResp => 9 | .esmcInfo | .esmcEvent | .frame => -1

/-- The fields of a message that its ICV covers, correctionField as zero: its type and flags, the instance that sends it, sequenceId and
time, and of the TLV the SPP, the keyID and the length (R404). -/
def EthMsg.fields (m : EthMsg) : List Int :=
  [m.kind.code, if m.grant.isSome then 1 else 0, if m.twoStep then 1 else 0, m.clock, m.portNumber, m.domain, m.minor, m.seq, m.sec, m.ns] ++
    match m.key with | some (spp, keyId, len) => [(spp : Int), keyId, len] | none => []
def EthMsg.signed (m : EthMsg) : List Byte := Config.authInput m.fields m.body

/-- A message that takes a TLV gets its ICV (R404). -/
def EthMsg.sign (s : State) (m : EthMsg) : EthMsg := if m.key.isNone then m else { m with icv := portIcv s m.port m.signed }

/-- The bytes of a message that hardware forms, its correctionField and its ICV in place. -/
def EthMsg.wire (m : EthMsg) : List Byte := Config.ptpBytes (m.corr :: m.fields) (m.body ++ m.icv)

/-- The 16-bit words of some bytes in wire order, summed, and the checksum of UDP over them. [PRESUMED, unsafe: notes/assumptions/39] -/
def sum16 : List Byte → Nat
  | a :: b :: t => a.toNat * 256 + b.toNat + sum16 t
  | [a] => a.toNat * 256
  | [] => 0
def onesSum (bs : List Byte) : Nat :=
  let v := 65535 - sum16 bs % 65535
  if v = 0 then 65535 else v

/-- The UDP checksum under IPv6: over the addresses, the length, the protocol, the UDP header and the message (R396).
[PRESUMED, unsafe: notes/assumptions/39] -/
def EthMsg.sum6 (m : EthMsg) : Nat :=
  let len := 8 + m.wire.length
  let udp := if m.kind = .sync then 319 else 320
  onesSum (m.sip ++ (if m.dip.isEmpty then Config.ptpGroup6 else m.dip) ++ toBE 4 len ++ toBE 4 17 ++ toBE 2 udp ++ toBE 2 udp ++ toBE 2 len ++
    m.wire)

/-- The UDP checksum of a message that hardware forms: zero under IPv4, computed when the message is complete under IPv6 (R396). -/
def EthMsg.seal (m : EthMsg) : EthMsg :=
  if m.kind.code < 0 then m
  else { m with udpSum := if m.transport = 1 then some 0 else if m.transport = 2 then some m.sum6 else none }

/-- Messages leave beside those the command has sent already, with their ICVs and checksums (R396, R404, R435). -/
def ethSend (ms : List EthMsg) (s : State) : State :=
  let s' := { s with eth := { s.eth with sent := s.eth.sent ++ ms.map fun m => (m.sign s).seal } }
  ms.foldl (fun s m => if m.key.isNone then s else icvBusy m.signed s) s'

/-- A command that sends begins: nothing is sent by it yet. -/
def ethSilent (s : State) : State := { s with eth := { s.eth with sent := [] } }

/-- A message of a port with what every message of it carries (R395, R417). -/
def ethHead (s : State) (n : Nat) (k : EthKind) : EthMsg :=
  { kind := k, port := n, clock := s.rd ETH_CLKIDH_ID * 2 ^ 32 + s.rd ETH_CLKIDL_ID, portNumber := n + 1,
    domain := s.rd (ETHn_PTPCFG_DOMAIN n), minor := s.rd (ETHn_PTPCFG_VERSION n), smac := s.rd (ETHn_MACADDR_MAC n),
    vlan := if s.flag (ETHn_VLAN_EN n) then some (s.rd (ETHn_VLAN_TCI n)) else none }

/-- TRANSPORT as it acts. -/
def transportOf (s : State) (n : Nat) : Nat := let t := s.rd (ETHn_PTPCFG_TRANSPORT n); if t = 3 then 0 else t

/-- The port's own IP address for a transport, in wire order (R417). -/
def ownIp (s : State) (n transport : Nat) : List Byte :=
  match transport with
  | 1 => toBE 4 (s.rd (ETHn_IPV4_ADDR n))
  | 2 => let w := fun i => s.rd (ETHn_IPV6_i_ADDR n i)
    toBE 16 (w 0 + w 1 * 2 ^ 48 + w 2 * 2 ^ 96)
  | _ => []

/-- The message addressed to all (R395): the destination MAC address that L2DA names under IEEE 802.3. -/
def toAll (s : State) (n : Nat) (m : EthMsg) : EthMsg :=
  let t := transportOf s n
  { m with
    transport := t, sip := ownIp s n t,
    dmac := if t = 0 then (if s.flag (ETHn_PTPCFG_L2DA n) then 0x0180C200000E else 0x011B19000000) else 0 }

/-- The message addressed to the receiver of a grant entry (R399). -/
def toGrant (s : State) (n : Nat) (e : List Byte) (m : EthMsg) : EthMsg :=
  let f := (e.getD 0 0).toNat
  let t := if f.testBit 4 then 0 else if f.testBit 3 then 2 else 1
  { m with
    transport := t, sip := ownIp s n t, dmac := ofBE ((e.drop 14).take 6),
    dip := if t = 0 then [] else (e.drop 20).take (if t = 1 then 4 else 16) }

/-- A port that is enabled and has its link. -/
def ethUp (s : State) (n : Nat) : Bool := s.flag (ETHn_CTRL_EN n) && s.flag (ETHn_STAT_LINK_UP n)

/-- The extended code of an ESMC PDU: EQL in the QLOK state, 0xFF otherwise (R412). -/
def esmcEql (s : State) (n : Nat) : Nat :=
  if s.timeValid && !s.flag TB_TIMESTAT_HOLDOVER && s.flag (ETHn_CTRL_REFSRC n) && !s.flag (ETHn_STAT_REFFB n) then s.rd (ETHn_ESMC_EQL n)
  else 0xFF

/-- The codes that an ESMC PDU carries: the SSM code, and under EXT the enhanced one. -/
def esmcBody (s : State) (n : Nat) : List Byte :=
  BitVec.ofNat 8 (s.rd (ETHn_ESMC_TXQL n)) :: if s.flag (ETHn_ESMC_EXT n) then [BitVec.ofNat 8 (esmcEql s n)] else []

/-- A port sends ESMC PDUs. -/
def esmcSends (s : State) (n : Nat) : Bool := ethUp s n && s.flag (ETHn_ESMC_TXEN n)

/-- An ESMC PDU leaves (R412). -/
def esmcPdu (k : EthKind) (n : Nat) (s : State) : State :=
  if esmcSends s n then ethSend [{ ethHead s n k with body := esmcBody s n }] s else s

/-- The event PDU that a change of TXQL calls for leaves (R412). -/
def esmcEvent (n : Nat) (s : State) : State :=
  if (s.eth.qlAt.getD n none).isNone then s
  else esmcPdu .esmcEvent n { s with eth := { s.eth with qlAt := s.eth.qlAt.setIfInBounds n none } }

/-- The information PDU of a second is due at tick `t`: one leaves each 600,000,000 ticks. [DESIGN CHOICE, unsafe: notes/assumptions/39] -/
def infoDue (t : Nat) : Bool := t % 600000000 == 0

/-- An event PDU has waited 10 ms at tick `t` (R412). -/
def eventDue (s : State) (n t : Nat) : Bool :=
  match s.eth.qlAt.getD n none with | some w => decide (w + 10 * msTicks ≤ t) | none => false

/-- No ESMC PDU has arrived for 5 s at tick `t` (R413). -/
def esmcDue (s : State) (n t : Nat) : Bool :=
  s.flag (ETHn_ESMC_RXEN n) && match s.eth.esmcAt.getD n none with | some w => decide (w + 5 * 600000000 ≤ t) | none => false

/-- An ESMC PDU arrives, or none has for 5 s (R413). -/
def esmcSeen (n : Nat) (w : Option Nat) (s : State) : State :=
  { s with eth := { s.eth with esmcAt := s.eth.esmcAt.setIfInBounds n w } }
def esmcTimeout (n : Nat) (s : State) : State :=
  ((esmcSeen n none s).wr (ETHn_ESMC_RXQL n) 0xF).raise (ETHn_STAT_ESMCTO n)

/-- What is due at a port's ESMC at a tick (R412, R413). -/
def esmcTick (s : State) (n : Nat) : State :=
  let s := if esmcDue s n s.ticks then esmcTimeout n s else s
  let s := if infoDue s.ticks then esmcPdu .esmcInfo n s else s
  if eventDue s n s.ticks then esmcEvent n s else s

/-! ### Time on the reference plane (R393, R396) -/

/-- A stamp so many fine steps, less than a tick, after a tick of the time-base value `t`, in 2^-48 s (R22). -/
def stampAt (s : State) (t fine : Nat) : Nat := (t + fine * s.rate / 256) / 2 ^ 48

/-- The egress time of a stamp, truncated to 2^-48 s. -/
def egress (s : State) (n stamp : Nat) : Nat :=
  (stamp * 2 ^ 48 + s.fineOf (s.rd (ETHn_PMALAT_TX n) + s.rd (ETHn_TXPATH_PATH n))) / 2 ^ 48

/-- The ingress time of a stamp, truncated to 2^-48 s. -/
def ingress (s : State) (n stamp : Nat) : Nat :=
  (stamp * 2 ^ 48 - s.fineOf (s.rd (ETHn_PMALAT_RX n) + s.rd (ETHn_RXPATH_PATH n))) / 2 ^ 48

/-- Seconds, whole nanoseconds, and the fraction of one in 2^-16 ns, truncated. -/
def secOf (t : Nat) : Nat := t / 2 ^ 48
def nsOf (t : Nat) : Nat := t % 2 ^ 48 * 10 ^ 9 / 2 ^ 48
def nsFrac (t : Nat) : Nat := t % 2 ^ 48 * 10 ^ 9 % 2 ^ 48 / 2 ^ 32

/-! ### Integrity (R404 to R407) -/

/-- AUTHMODE as it acts. -/
def authMode (s : State) (n : Nat) : Nat := min (s.rd (ETHn_PTPCFG_AUTHMODE n)) 2

/-- The key of a port is present: an HMAC key, READY, of a page that initiator 12 owns. -/
def keyPresent (s : State) (n : Nat) : Bool :=
  let p := s.rd (ETHn_AUTHCFG_KPAGE n)
  let k := s.rd (ETHn_AUTHCFG_KSLOT n)
  pageOwner s p == ETH_INIT && s.rd (CXE_KPn_SLOTm_STATE p k) == SL_READY && s.rd (CXE_KPn_SLOTm_TYPE p k) == 4 &&
    s.rd (CXE_KPn_SLOTm_OWNER p k) == ETH_INIT && s.bit (CXE_KPn_SLOTm_USAGE p k) 4

/-- The TLV that the port appends: SPP, keyID and the bytes of the ICV (R404). -/
def authTlv (s : State) (n : Nat) : Nat × Nat × Nat :=
  (s.rd (ETHn_AUTHCFG_SPP n), s.rd (ETHn_AUTHCFG_KEYID n), if s.flag (ETHn_AUTHCFG_ICV32 n) then 32 else 16)

/-- Whether a PTP message may be sent, with which TLV, and the state with NOKEY where the key is wanting. -/
def authTx (n : Nat) (s : State) : Bool × Option (Nat × Nat × Nat) × State :=
  if authMode s n = 0 then (true, none, s)
  else if keyPresent s n then (true, some (authTlv s n), s)
  else (authMode s n == 1, none, s.raise (ETHn_STAT_NOKEY n))

/-- A failed verification is counted (R406). -/
def authFailed (n : Nat) (s : State) : State := (s.count (ETHn_CNTERR_AUTHFAIL n)).raise (ETHn_STAT_AUTHFAIL n)

/-- A received PTP message is accepted, and with NOAUTH and AUTH marks (R406, R407).  A TLV that does not match SPP and keyID fails.
[DEDUCED, unsafe: notes/assumptions/39] -/
def authRx (n : Nat) (tlv : Tlv) (frame : List Byte) (s : State) : Option (Bool × Bool) × State :=
  let mode := authMode s n
  if mode = 0 then (some (false, false), s)
  else
    let s := if mode = 2 ∧ !keyPresent s n then s.raise (ETHn_STAT_NOKEY n) else s
    match tlv with
    | .absent => if mode = 1 then (some (true, false), s) else (none, authFailed n s)
    | .present spp keyId icv =>
      let m := Config.authInput [] frame
      let good := icv == portIcv s n m && keyPresent s n
      let s := if keyPresent s n then icvBusy m s else s
      if good && spp.toNat == s.rd (ETHn_AUTHCFG_SPP n) && keyId.toNat == s.rd (ETHn_AUTHCFG_KEYID n) then (some (false, true), s)
      else (none, authFailed n s)

/-! ### Grants (R398, R399) -/

/-- The address of a grant entry. -/
def grantAddr (s : State) (i : Nat) : Nat := s.rd ETH_GRTBASE_BASE * 16384 + 64 * i

/-- An entry within the ranges of R399. -/
def grantOk (e : List Byte) : Bool :=
  let b := fun i => (e.getD i 0).toNat
  decide (b 0 < 32) && decide (b 1 < 4) && (decide (b 2 ≤ 4) || decide (249 ≤ b 2)) && b 3 == 0 && (e.drop 44).all (· == 0#8)

/-- The entry is valid, and its bytes. -/
def grantValid (e : List Byte) : Bool := (e.getD 0 0).toNat % 2 == 1

/-- The entry is lapsed at a second. -/
def grantLapsed (e : List Byte) (sec : Nat) : Bool := decide (imgLe e 36 6 ≤ sec)

/-- Valid, unexpired entries (R418). -/
def grantsActive (s : State) : Nat :=
  (List.range 256).countP fun i =>
    let e := s.bytes (grantAddr s i) 64
    grantValid e && grantOk e && !grantLapsed e s.sec

/-- An entry as the DMA reads it: none where it is skipped. -/
def readGrant (i : Nat) (s : State) : Option (List Byte) × State :=
  let (c, e, s) := dmaRead ETH_INIT (grantAddr s i) 64 s
  if c ≠ 0 ∨ !grantValid e then (none, s)
  else if grantOk e then (some e, s)
  else (none, s.raise ETH_GRTSTAT_CFGERR)

/-! ### Sync streams (R396, R398, R400, R403, R415) -/

/-- A log period from its code: −7 to +4, other values −7. -/
def logPeriod (v : Nat) : Int := let z := signed 8 v; if -7 ≤ z ∧ z ≤ 4 then z else -7

/-- The instants of a stream of log period L after `a` and up to `b`, those before `from_` left out, all in 2^-96 s: how many, and
the last of them in 2^-48 s (R400). -/
def syncInstants (l : Int) (a b from_ : Nat) : Nat × Nat :=
  let p := 2 ^ (96 + l).toNat
  let first := max (a / p + 1) ((from_ + p - 1) / p)
  (b / p + 1 - first, b / p * p / 2 ^ 48)

/-- Sync instants that are not sent. [DEDUCED, unsafe: notes/assumptions/39] -/
def syncNotSent (n k : Nat) (s : State) : State :=
  if k = 0 then s else (s.count (ETHn_CNTERR_NOTSENT n) k).raise (ETHn_STAT_NOTSENT n)

/-- A stream at a tick interval that holds `k` of its instants, the last of them `t`: that one is queued, unless the link is down or a
clock fault is in force, and the others, jumped over by a step, count as not sent (R400, R403, R415). -/
def syncQueue (n k t : Nat) (grant : Option Nat) (s : State) : State :=
  if k = 0 then s
  else
    let s := syncNotSent n (k - 1) s
    if s.flag SAF_STAT_CLKFAULT || !s.flag (ETHn_STAT_LINK_UP n) then syncNotSent n 1 s
    else { s with eth := { s.eth with queue := s.eth.queue.setIfInBounds n (s.eth.queue.getD n [] ++ [⟨grant, t⟩]) } }

/-- The multicast stream of a port over a tick interval. -/
def mcastSync (n a b : Nat) (s : State) : State :=
  if !s.flag (ETHn_MCAST_EN n) then s
  else
    let (k, t) := syncInstants (logPeriod (unsigned 8 (signed 4 (s.rd (ETHn_MCAST_SYNCLOG n))))) a b s.eth.resume
    syncQueue n k t none s

/-- A grant of a port over a tick interval; it sends nothing at or after its EXPIRY. -/
def grantSync (n a b : Nat) (s : State) (i : Nat) : State :=
  match readGrant i s with
  | (none, s) => s
  | (some e, s) =>
    let f := fun i => (e.getD i 0).toNat
    let (k, t) := syncInstants (logPeriod (f 2)) a b s.eth.resume
    if f 1 ≠ n ∨ !(f 0).testBit 1 ∨ grantLapsed e (secOf t) then s else syncQueue n k t (some i) s

/-- A port in the time transmitter role over a tick interval: the multicast stream first, then its grants in ascending order (R398,
R400). -/
def portSync (a b : Nat) (s : State) (n : Nat) : State :=
  if !s.flag (ETHn_CTRL_EN n) || s.flag (ETHn_PTPCFG_ROLE n) then s
  else (List.range 256).foldl (grantSync n a b) (mcastSync n a b s)

/-- An instant of the finest grid, 2^-7 s, lies after `a` and up to `b`. -/
def syncGrid (a b : Nat) : Bool := a / 2 ^ 89 != b / 2 ^ 89

/-- The streams at a tick.  A load passes instants by, and the streams go on from the first at least 8 ticks later (R415). -/
def syncTick (w : Span) (s : State) : State :=
  if w.loaded then { s with eth := { s.eth with resume := w.now + s.ticksOf 8 } }
  else if syncGrid w.t0 w.now then (List.range 4).foldl (portSync w.t0 w.now) s
  else s

/-- A Sync, and its Follow_Up under two-step, `fine` fine steps after the present tick (R392, R396). -/
def syncMsgs (s : State) (n t fine seq : Nat) (head : EthMsg) : List EthMsg :=
  let e := egress s n (stampAt s s.tb.now fine)
  if s.flag (ETHn_PTPCFG_ONESTEP n) then
    [{ head with kind := .sync, seq := seq, sec := secOf e, ns := nsOf e, corr := nsFrac e }]
  else
    [{ head with kind := .sync, seq := seq, sec := secOf t, ns := nsOf t, twoStep := true },
      { head with kind := .followUp, seq := seq, sec := secOf e, ns := nsOf e, corr := nsFrac e }]

/-- A queued Sync of the multicast stream leaves. -/
def sendMcast (n t fine : Nat) (tlv : Option (Nat × Nat × Nat)) (s : State) : State :=
  let seq := s.eth.seq.getD n 0
  let head := toAll s n { ethHead s n .sync with key := tlv }
  let s := ethSend (syncMsgs s n t fine seq head) (s.count (ETHn_CNTTX_SYNC n))
  { s with eth := { s.eth with seq := s.eth.seq.setIfInBounds n ((seq + 1) % 65536) } }

/-- A queued Sync of a grant leaves, and its sequenceId is written back (R399). -/
def sendGrant (n i t fine : Nat) (tlv : Option (Nat × Nat × Nat)) (s : State) : State :=
  match readGrant i s with
  | (none, s) => s
  | (some e, s) =>
    let seq := imgLe e 42 2
    let head := toGrant s n e { ethHead s n .sync with key := tlv, grant := some i }
    let s := ethSend (syncMsgs s n t fine seq head) (s.count (ETHn_CNTTX_SYNC n))
    (dmaWrite ETH_INIT (grantAddr s i + 42) (toLE 2 (seq + 1)) s).2

/-- A queued Sync leaves, unless a clock fault, the link or the key forbids it (R398, R403, R407). -/
def sendSync (n : Nat) (s : State) (x : SyncJob × Nat) : State :=
  let (j, fine) := x
  if s.flag SAF_STAT_CLKFAULT || !ethUp s n then syncNotSent n 1 s
  else
    let (ok, tlv, s) := authTx n s
    if !ok then syncNotSent n 1 s
    else match j.grant with
      | none => sendMcast n j.t fine tlv s
      | some i => sendGrant n i j.t fine tlv s

/-- Queued Syncs of a port leave in their order within the present tick interval, each so many fine steps into it as `waits` says; those
behind them stay queued (R22, R400). -/
def sendSyncs (n : Nat) (waits : List (Fin 256)) (s : State) : State :=
  let q := s.eth.queue.getD n []
  if q.isEmpty then s
  else
    let s := ethSilent { s with eth := { s.eth with queue := s.eth.queue.setIfInBounds n (q.drop waits.length) } }
    (q.zip (waits.map (·.val))).foldl (sendSync n) s

/-! ### Announce (R402) -/

/-- What an Announce says of the device: clockClass, timeSource, and timeTraceable with frequencyTraceable; none where it is as
received from the parent. -/
structure Announce where
  cls : Nat
  timeSource : Nat
  traceable : Option Bool
  deriving DecidableEq, Repr

/-- The timeSource of a source in force. -/
def sourceCode (src : Nat) : Option Nat :=
  if src = 1 then some 0x20 else if within 6 13 src then some 0x10 else if within 2 5 src then some 0x40 else none

/-- The Announce content of a port by the first row of R402 that applies, where one does. -/
def announce (s : State) (n : Nat) : Option Announce :=
  let src := s.rd TB_TIMESTAT_SOURCE
  let telecom := s.rd (ETHn_PTPCFG_PROFILE n) == 2 || s.rd (ETHn_PTPCFG_PROFILE n) == 3
  if !s.flag TB_STAT_TIMESET then some ⟨248, 0xA0, some false⟩
  else if !s.timeValid then some ⟨if telecom then 140 else 52, s.eth.timeSource, some false⟩
  else if src = 1 ∨ within 6 13 src then some ⟨6, (sourceCode src).getD 0, some true⟩
  else if within 2 5 src then some ⟨s.rd (ETHn_SRCINFO_CLASS (src - 2)), 0x40, none⟩
  else if s.flag TB_TIMESTAT_HOLDOVER then some ⟨7, s.eth.timeSource, some true⟩
  else none

/-- The timeSource is kept for the holdover that may follow (R402). -/
def keepSource (s : State) : State :=
  if s.timeValid then
    match sourceCode (s.rd TB_TIMESTAT_SOURCE) with
    | some c => if s.eth.timeSource = c then s else { s with eth := { s.eth with timeSource := c } }
    | none => s
  else s

/-! ### The receive ring (R414) -/

/-- A slot's header and frame. -/
def slotBytes (flags t : Nat) (frame : List Byte) : List Byte :=
  toLE 2 frame.length ++ toLE 2 flags ++ toLE 6 (t % 2 ^ 48) ++ toLE 6 (t / 2 ^ 48) ++ frame

/-- A frame that SV does not get. -/
def rxDrop (n : Nat) (s : State) : State := (s.count (ETHn_CNTERR_RXDROP n)).raise (ETHn_STAT_RXDROP n)

/-- A frame goes to the receive ring. -/
def rxRing (n flags t : Nat) (frame : List Byte) (s : State) : State :=
  let wp := s.rd (ETHn_RXWP_INDEX n)
  if 256 ≤ (wp + 65536 - s.rd (ETHn_RXRP_INDEX n)) % 65536 ∨ 2032 < frame.length then rxDrop n s
  else
    let (c, s) := dmaWrite ETH_INIT (s.rd (ETHn_RXRING_BASE n) * 2048 + 2048 * (wp % 256)) (slotBytes flags t frame) s
    if c ≠ 0 then rxDrop n s
    else ((s.count (ETHn_RXWP_INDEX n)).raise (ETHn_STAT_RXFRAME n)).count (ETHn_CNTRX_TOSV n)

/-- The flags of a receive slot. -/
def rxFlags (s : State) (ts auth noauth : Bool) : Nat :=
  (if ts then 1 else 0) + (if auth then 8 else 0) + (if noauth then 16 else 0) + (if ts && s.flag SAF_STAT_CLKFAULT then 32 else 0)

/-- A frame that the port does not consume (R406, R414). -/
def ethFrame (n : Nat) (kind : FrameKind) (tlv : Tlv) (fine : Nat) (frame : List Byte) (s : State) : State :=
  if !ethUp s n then s
  else
    match kind with
    | .other => rxDrop n s
    | .arpIcmp => rxRing n 0 0 frame s
    | _ =>
      match authRx n tlv frame s with
      | (none, s) => s
      | (some (noauth, auth), s) =>
        let ts := decide (kind = .ptpEvent)
        let t := if ts then ingress s n (stampAt s s.tb.now fine) else 0
        rxRing n (rxFlags s ts auth noauth) t frame s

/-! ### Delay_Req (R397, R401) -/

/-- A Delay_Req that is discarded. -/
def respDrop (n : Nat) (s : State) : State := (s.count (ETHn_CNTERR_RESPDROP n)).raise (ETHn_STAT_RESPDROP n)

/-- A valid, unexpired grant with DRESP that matches a source and a port. -/
def grantMatch (n : Nat) (source : List Byte) (s : State) : Option Nat × State :=
  (List.range 256).foldl (fun (acc : Option Nat × State) i =>
    match acc with
    | (some j, s) => (some j, s)
    | (none, s) =>
      match readGrant i s with
      | (none, s) => (none, s)
      | (some e, s) =>
        let hit := (e.getD 1 0).toNat == n && (e.getD 0 0).toNat.testBit 2 && !grantLapsed e s.sec && (e.drop 4).take 10 == source
        (if hit then some i else none, s)) (none, s)

/-- The second of 600,000,000 ticks that the device is in, and the Delay_Req answered in it so far (R401).
[DESIGN CHOICE, unsafe: notes/assumptions/39] -/
def respSecond (s : State) : Nat := s.ticks / 600000000
def answeredNow (s : State) : Nat := if s.eth.respSec = respSecond s then s.eth.respCount else 0

/-- The responder answers 65,536 Delay_Req of a second at least; whether it answers one beyond them the request's `beyond` says. -/
def beyondCapacity (r : DelayReq) (s : State) : Bool := r.beyond && decide (65536 ≤ answeredNow s)

/-- A Delay_Resp leaves. -/
def respSent (n : Nat) (m : EthMsg) (s : State) : State :=
  let k := answeredNow s + 1
  let s := ((ethSend [m] (ethSilent s)).count (ETHn_CNTTX_DRESP n)).count ETH_RESPCNT_SENT
  { s with eth := { s.eth with respSec := respSecond s, respCount := k } }

/-- The answer to a Delay_Req, by its transport: to all where it came to all, and to its sender otherwise (R401). -/
def delayResp (n : Nat) (r : DelayReq) (grant : Option Nat) (s : State) : State :=
  if beyondCapacity r s then (respDrop n s).count ETH_RESPCNT_DROPS
  else
    let (ok, tlv, s) := authTx n s
    if !ok then respDrop n s
    else
      let t := ingress s n (stampAt s s.tb.now r.fine)
      let h := { ethHead s n .delayResp with
        grant := grant, seq := r.seq.toNat, sec := secOf t, ns := nsOf t, corr := r.corr.toInt - nsFrac t, key := tlv,
        body := r.source }
      let h := { h with transport := r.transport, sip := ownIp s n r.transport }
      let m := if r.multicast then { h with dmac := r.dmac.toNat, dip := r.dip } else { h with dmac := r.smac.toNat, dip := r.sip }
      respSent n m s

/-- A Delay_Req arrives (R401, R403, R406). -/
def delayReq (n : Nat) (r : DelayReq) (s : State) : State :=
  if !ethUp s n then s
  else
    let s := s.count (ETHn_CNTRX_DREQ n)
    if s.flag SAF_STAT_CLKFAULT then respDrop n s
    else if s.flag (ETHn_PTPCFG_ROLE n) then ethFrame n .ptpEvent r.tlv r.fine r.frame s
    else
      match authRx n r.tlv r.frame s with
      | (none, s) => s
      | (some (noauth, auth), s) =>
        let (g, s) := grantMatch n r.source s
        if g.isSome then delayResp n r g s
        else if r.multicast && s.flag (ETHn_MCAST_DRESP n) then delayResp n r none s
        else rxRing n (rxFlags s true auth noauth) (ingress s n (stampAt s s.tb.now r.fine)) r.frame s

/-! ### The transmit ring (R403, R407, R414) -/

/-- A frame's EtherType and what follows it, past one IEEE 802.1Q tag (R395). -/
def etherPayload (f : List Byte) : Nat × List Byte :=
  let at12 := ofBE ((f.drop 12).take 2)
  if at12 = 0x8100 then (ofBE ((f.drop 16).take 2), f.drop 18) else (at12, f.drop 14)

/-- The PTP message that UDP carries: its ports are 319 and 320. -/
def udpPtp (u : List Byte) : Option (List Byte) :=
  let dst := ofBE ((u.drop 2).take 2)
  if dst = 319 ∨ dst = 320 then some (u.drop 8) else none

/-- The PTP message that a frame carries on one of the transports of R395, where it carries one.
[PRESUMED, unsafe: notes/assumptions/39] -/
def ptpMessage (f : List Byte) : Option (List Byte) :=
  let (ty, p) := etherPayload f
  let b := fun i => (p.getD i 0).toNat
  if ty = 0x88F7 then some p
  else if ty = 0x0800 ∧ b 9 = 17 then udpPtp (p.drop (b 0 % 16 * 4))
  else if ty = 0x86DD ∧ b 6 = 17 then udpPtp (p.drop 40)
  else none

/-- An event message: Sync, Delay_Req, Pdelay_Req and Pdelay_Resp, messageType 0 to 3 (R392). -/
def ptpEvent (m : List Byte) : Bool := decide ((m.getD 0 0).toNat % 16 < 4)

/-- The port sends the frame at TXRP and completes its slot. [DEDUCED, unsafe: notes/assumptions/39] -/
def txSlot (n fine : Nat) (s : State) : State :=
  let rp := s.rd (ETHn_TXRP_INDEX n)
  if !ethUp s n || rp == s.rd (ETHn_TXWP_INDEX n) then s
  else
    let a := s.rd (ETHn_TXRING_BASE n) * 2048 + 2048 * (rp % 64)
    let (c, h, s) := dmaRead ETH_INIT a 16 s
    let flags := imgLe h 2 2
    let tsreq := flags.testBit 1
    let (c', frame, s) := dmaRead ETH_INIT (a + 16) (min (imgLe h 0 2) 2032) s
    let ptp := ptpMessage frame
    let (ok, tlv, s) := if flags.testBit 3 ∨ ptp.isSome then authTx n s else (true, none, s)
    let goes := c == 0 && c' == 0 && ok && !(ptp.any ptpEvent && s.flag SAF_STAT_CLKFAULT)
    let t := egress s n (stampAt s s.tb.now fine)
    let frac : Int := if flags.testBit 2 then nsFrac t else 0
    let s := ethSilent s
    let s := if goes then
        ethSend [{ kind := .frame, port := n, sec := secOf t, ns := nsOf t, corr := frac, key := tlv, body := frame }] s
      else s
    let ts := tsreq && goes
    let flags' := flags ||| 64 ||| (if ts then 1 else 0)
    let s := (dmaWrite ETH_INIT (a + 2) (toLE 2 flags' ++ (if ts then toLE 6 (t % 2 ^ 48) ++ toLE 6 (t / 2 ^ 48) else [])) s).2
    (s.count (ETHn_TXRP_INDEX n)).raise (ETHn_STAT_TXDONE n)

/-! ### Registers -/

/-- A write of ETHn_CTRL (R390). -/
def ethCtrl (n : Nat) (v : Word) (s : State) : State :=
  let en := s.flag (ETHn_CTRL_EN n)
  let new := (writeFields (((regSpec? (ETHn_CTRL n)).map (·.fields)).getD []) (ETHn_CTRL n) (s.reg (ETHn_CTRL n)) v)
  let mode := fun (w : Word) => w.toNat / 2
  if en then
    if mode new ≠ mode (s.reg (ETHn_CTRL n)) then s.raise (ETHn_STAT_CFGERR n)
    else if (ETHn_CTRL_EN n).of v = 1 then s
    else ethDisable n s
  else
    let s := (s.typed (ETHn_CTRL n) v).clear (ETHn_CTRL_EN n)
    if (ETHn_CTRL_EN n).of v = 1 then ethEnable n s else s

/-- A write of ETHn_PTPCFG (R405). -/
def ptpCfgWrite (n : Nat) (v : Word) (s : State) : State :=
  let mode := (ETHn_PTPCFG_AUTHMODE n).of v
  let bad := (mode ≠ 0 ∧ (ETHn_PTPCFG_ONESTEP n).of v = 1) ∨ (mode ≠ 0 ∧ pageOwner s (s.rd (ETHn_AUTHCFG_KPAGE n)) ≠ ETH_INIT)
  if bad then s.raise (ETHn_STAT_CFGERR n) else s.typed (ETHn_PTPCFG n) v

/-- An index written by SV, refused where the ring would hold a negative number of slots or more than `cap`. -/
def ethIndex (n a cap : Nat) (wp rp : Nat) (v : Word) (s : State) : State :=
  if (wp + 65536 - rp) % 65536 ≤ cap then s.typed a v else s.raise (ETHn_STAT_CFGERR n)

/-- A write of an ETH register (R390, R394, R405, R409, R414, R418). -/
def ethWrite (init a : Nat) (v : Word) (s : State) : State :=
  let n := (a - 0x10110000) / 0x4000
  if a = ETH_GRTBASE then
    if (List.range 4).any fun n => s.flag (ETHn_CTRL_EN n) then s.raise ETH_GRTSTAT_CFGERR else s.typed a v
  else if a = ETHn_CTRL n then refreshQl (ethCtrl n v s) n
  else if a = ETHn_TXPATH n ∨ a = ETHn_RXPATH n ∨ a = ETHn_ASYM n then mirrorWrite init a v s
  else if a = ETHn_PTPCFG n then ptpCfgWrite n v s
  else if a = ETHn_SRCOFS n ∨ a = ETHn_SRCINFO n then guardW (init == SV_INIT) init a OWNER (fun s => s.typed a v) s
  else if a = ETHn_RXRP n then ethIndex n a 256 (s.rd (ETHn_RXWP_INDEX n)) ((ETHn_RXRP_INDEX n).of v) v s
  else if a = ETHn_TXWP n then ethIndex n a 64 ((ETHn_TXWP_INDEX n).of v) (s.rd (ETHn_TXRP_INDEX n)) v s
  else
    let s' := s.typed a (if a = ETHn_IPV6_i n 2 then v &&& 0xFFFFFFFF else v)
    let s' := if s'.flag (ETHn_ESMC_RXEN n) && !s.flag (ETHn_ESMC_RXEN n) then esmcSeen n (some s.ticks) s' else s'
    refreshQl s' n

/-- Twice the mean path delay of an exchange, and twice its offset without ASYM, in ps times 2^96 (R408). -/
def roundTrip2 (x : PtpExchange) : Int :=
  (((x.t2.toNat : Int) - x.t1.toNat) + ((x.t4.toNat : Int) - x.t3.toNat)) * (10 ^ 12 * 2 ^ 48 : Nat) -
    (x.cs.toInt + x.cr.toInt) * (1000 * 2 ^ 80 : Nat)
def offset2 (x : PtpExchange) : Int :=
  (((x.t2.toNat : Int) - x.t1.toNat) - ((x.t4.toNat : Int) - x.t3.toNat)) * (10 ^ 12 * 2 ^ 48 : Nat) -
    (x.cs.toInt - x.cr.toInt) * (1000 * 2 ^ 80 : Nat)

/-- The offset of an exchange in ps, truncated (R408). [DEDUCED, unsafe: notes/assumptions/39] -/
def offsetPs (s : State) (n : Nat) (x : PtpExchange) : Int :=
  (offset2 x - 2 * (s.rdS (ETHn_ASYM_ASYM n) * s.rate).tdiv 256 * (10 ^ 12 : Nat)).tdiv (2 * 2 ^ 96 : Nat)

/-- MINEX and ACCCLASS (R409, R410). -/
def ptpRx (s : State) : Nat × Nat := s.hst.ptpRx.getD (4, 7)

/-- The exchange with the smallest round trip, the first of equals. -/
def bestExchange : List PtpExchange → Option PtpExchange
  | [] => none
  | x :: l => match bestExchange l with
    | some y => if roundTrip2 x ≤ roundTrip2 y then some x else some y
    | none => some x

/-- The conditions of R410 on an offset. -/
def offsetValid (s : State) (n : Nat) (x : PtpExchange) (p : PtpParent) : Bool :=
  s.flag (ETHn_STAT_LINK_UP n) && !p.timedOut && decide (p.cls.toNat ≤ (ptpRx s).2) && p.traceable &&
    (authMode s n != 2 || x.verified) && !x.clkFlt &&
    (match s.eth.parent.getD n none with | some q => q == p.identity | none => true)

/-- SV writes the offset of a port in the receiver role for the second that has ended, and then SRCINFO with SEQ raised; where too
few exchanges fell in that second, or none, the offset stands and VALID is 0 (R409, R410).
[DEDUCED, unsafe: notes/assumptions/39] -/
def sourceOffset (n : Nat) (xs : List PtpExchange) (p : PtpParent) (unc : Nat) (s : State) : State :=
  if !svRuns s || !s.flag (ETHn_PTPCFG_ROLE n) then s
  else
    let xs := xs.filter fun x => x.t2.toNat / 2 ^ 48 + 1 == s.sec
    let s' := match bestExchange xs with
      | some x =>
        if (ptpRx s).1 ≤ xs.length then
          ((s.wrS (ETHn_SRCOFS_OFS n) (offsetPs s n x)).wr (ETHn_SRCINFO_UNC n) (min unc (2 ^ 23 - 1))).put (ETHn_SRCINFO_VALID n)
            (offsetValid s n x p)
        else s.clear (ETHn_SRCINFO_VALID n)
      | none => s.clear (ETHn_SRCINFO_VALID n)
    let s' := (s'.wr (ETHn_SRCINFO_CLASS n) p.cls.toNat).count (ETHn_SRCINFO_SEQ n)
    { s' with eth := { s'.eth with parent := s'.eth.parent.setIfInBounds n (some p.identity) } }

/-! ### Meanings -/

/-- ETH_ENABLE (R390). -/
def execEthEnable (port : Fin 4) (s : State) : Host.Outcome State Fault Refusal := done (whenOn (ETHn_CTRL port) (fun s => refreshQl (ethEnable port s) port) s)

/-- ETH_LINK_CHANGE (R390). -/
def execEthLinkChange (port : Fin 4) (up : Bool) (s : State) : Host.Outcome State Fault Refusal := done (ethLink port up s)

/-- DELAY_REQ_RECEIVED (R401). -/
def execDelayReqReceived (port : Fin 4) (req : DelayReq) (s : State) : Host.Outcome State Fault Refusal :=
  done (delayReq port req s)

/-- ETH_TX_SLOT (R414): fine steps from the tick of the command to the stamp. -/
def execEthTxSlot (port : Fin 4) (fine : Fin 256) (s : State) : Host.Outcome State Fault Refusal := done (txSlot port fine s)

/-- ESMC_EVENT_PDU (R412): the port tells a change of TXQL, within the 10 ms that it may take. -/
def execEsmcEventPdu (port : Fin 4) (s : State) : Host.Outcome State Fault Refusal := done (esmcEvent port (ethSilent s))

/-- A received ESMC PDU: the port consumes it, or without RXEN discards it as a frame of no other kind (R413, R414). -/
def esmcReceive (n : Nat) (ql : Nat) (s : State) : State :=
  if !ethUp s n then s
  else if s.flag (ETHn_ESMC_RXEN n) then (esmcSeen n (some s.ticks) s).wr (ETHn_ESMC_RXQL n) ql
  else rxDrop n s

/-- ESMC_RECEIVED (R413). -/
def execEsmcReceived (port : Fin 4) (ql : BitVec 4) (s : State) : Host.Outcome State Fault Refusal :=
  done (esmcReceive port ql.toNat s)

/-- RXFREQ_WINDOW (R411): the recovered clock's offset over a window of 1 s, signed, in 2^-48. -/
def execRxfreqWindow (port : Fin 4) (freq : BitVec 48) (s : State) : Host.Outcome State Fault Refusal :=
  done (if rxfDone s port then ((rxfBegin port s).setReg (ETHn_RXFREQ port) freq).raise (ETHn_STAT_RXFVALID port) else s)

/-- PTP_SOURCE_OFFSET (R409): the exchanges of a port, its parent, and the 1σ of the offset in ps, for which the manual gives no
rule. [DESIGN CHOICE, safe: notes/assumptions/39] -/
def execPtpSourceOffset (port : Fin 4) (exchanges : List PtpExchange) (parent : PtpParent) (unc : Nat) (s : State) :
    Host.Outcome State Fault Refusal := done (sourceOffset port exchanges parent unc s)

end Sys2Proof.Machine
end

