-- ==== Sys2Proof/Machine/Nvs.lean ====
section
/-!
DEFINITION. Shared memory's tests and repairs (R459 to R465), Chain commands (R481 to R484) and OTP commands (R476).
-/

namespace Sys2Proof.Machine

/-! ### Shared memory -/

/-- CONFCLR: every conflict counter at zero (R459). -/
def confClr (s : State) : State :=
  let s := s.resetRegs (MEMb_CONFi 0 0) (MEMb_CONFi 47 15 + 8)
  { s with memc := { s.memc with confAt := s.ticks } }

/-- The address of word `i` of bank `b`, in address order within the bank (R457, R461). -/
def bankWord (b i : Nat) : Nat := (i / 32 * 48 + b) * 256 + i % 32 * 8

/-- The scrubber reads one word of each bank and corrects a single-bit error (R461). -/
def scrubRead (s : State) : State :=
  let i := s.memc.scrubAt
  let s := (List.range 48).foldl (fun s b =>
    let a := bankWord b i
    let s := correct a 8 s
    countBad a 8 false s) s
  { s with memc := { s.memc with scrubAt := (i + 1) % 65536, scrubCycles := 0 } }

/-- A scrub read is due at the next CLK_SYS cycle (R461). -/
def scrubDue (s : State) : Bool :=
  s.rd MEM_CTRL_SCRUBINT != 0 && decide (s.rd MEM_CTRL_SCRUBINT ≤ s.memc.scrubCycles + 1)

/-- One CLK_SYS cycle of the scrubber (R461). -/
def scrubCycle (s : State) : State :=
  if s.rd MEM_CTRL_SCRUBINT = 0 then s
  else if scrubDue s then scrubRead s
  else { s with memc := { s.memc with scrubCycles := s.memc.scrubCycles + 1 } }

/-- The row that a march test is at after so many cycles of its bank: 320 a granule in preserving mode, else the element in progress,
upward in the first three and the last, and downward between (R462). [DESIGN CHOICE, unsafe: notes/assumptions/23] -/
def marchRow (pres : Bool) (c : Nat) : Nat :=
  if pres then min (c / 320) 2047
  else if c < 65536 then c / 32
  else if c < 327680 then (c - 65536) % 131072 / 64
  else if c < 589824 then 2047 - (c - 327680) % 131072 / 64
  else min ((c - 589824) / 32) 2047

/-- The CLK_SYS cycles of a march test of a bank (R462). -/
def MARCH_CYCLES : Nat := 655360

/-- One CLK_SYS cycle of a march test: ROW shows the row in progress (R462, R486).
[DESIGN CHOICE, unsafe: notes/assumptions/23] -/
def marchCycle (s : State) : State :=
  match s.memc.march with
  | none => s
  | some (_, _, pres) =>
    let s := { s with memc := { s.memc with marchCycles := s.memc.marchCycles + 1 } }
    s.wr MEM_MARCHSTAT_ROW (marchRow pres s.memc.marchCycles)

/-- The word write at the head of the store's queue ends after 200 ns (R474). -/
def nvsTick (s : State) : State :=
  if s.nvs.queue.isEmpty then s
  else if 120 ≤ s.nvs.wordTicks + 1 then nvsLand s
  else { s with nvs := { s.nvs with wordTicks := s.nvs.wordTicks + 1 } }

/-- It ends at the next tick. -/
def wordDue (s : State) : Bool := !s.nvs.queue.isEmpty && decide (120 ≤ s.nvs.wordTicks + 1)

/-- GO of MEM_MARCHCMD (R462, R463). -/
def marchGo (first last : Nat) (pres : Bool) (s : State) : State :=
  if s.memc.march.isSome ∨ last < first ∨ 47 < last then s.raise MEM_STAT_MARCHERR
  else
    let s := { s with memc := { s.memc with march := some (first, last, pres), marchCycles := 0 } }
    (s.raise MEM_MARCHSTAT_BUSY).put MEM_MARCHSTAT_PRES pres

/-- Every word of banks `first` to `last` is zero, with a valid code. -/
def zeroBanks (first last : Nat) (s : State) : State :=
  let kept := fun (a : Nat) => !(decide (a < 0x01800000) && decide (first ≤ bankOf a) && decide (bankOf a ≤ last))
  { s with
    mem := s.mem.filter fun c => kept c.1
    memc := { s.memc with single := s.memc.single.filter kept, double := s.memc.double.filter kept } }

/-- A repair is recorded, or refused when the bank has four (R464) or does not exist. [DESIGN CHOICE, safe: notes/assumptions/23] -/
def repairRecord (b row : Nat) (s : State) : State :=
  if 4 ≤ (repairsOf s b).length ∨ 48 ≤ b then s.raise MEM_STAT_REPERR
  else ({ s with memc := { s.memc with repairs := s.memc.repairs ++ [(b, row)] } }).raise (MEMb_REPAIR_REPPEND b)

/-- A bank is bad (R465). -/
def markBad (b : Nat) (s : State) : State :=
  logUnit 0x23 2 b b ((s.raiseBit MEM_BADBANK_BANKS b).raise MEM_STAT_BADBANK)

/-- The failing rows of the boot's test: each is repaired while spares last, and a bank that needs more, or that fails
again, is bad (R465). [DESIGN CHOICE, safe: notes/assumptions/23] -/
def bootRepairs (rows : List (Nat × Nat)) (still : List Nat) (s : State) : State :=
  let (s, bad) := rows.foldl (fun (s, bad) (b, r) =>
    if 4 ≤ (repairsOf s b).length then (s, b :: bad)
    else ({ s with memc := { s.memc with repairs := s.memc.repairs ++ [(b, r)] } }, bad)) (s, [])
  (List.range 48).foldl (fun s b => if bad.contains b ∨ still.contains b then markBad b s else s) (applyRepairs s)

/-- The march test ends: `fails` holds the failing words in the order found, `still` the repaired banks that fail again
(R462, R463, R465). [DESIGN CHOICE, safe: notes/assumptions/23] -/
def marchDone (fails still : List Nat) (s : State) : State :=
  match s.memc.march with
  | none => s
  | some (first, last, pres) =>
    if s.memc.marchCycles < MARCH_CYCLES then s else
    let granules := (fails.map (· / 256)).eraseDups
    let boot := s.memc.bootMarch
    let s := { s with memc := { s.memc with march := none, bootMarch := false } }
    let s := if pres then s else zeroBanks first last s
    let s := (s.clear MEM_MARCHSTAT_BUSY).wr MEM_MARCHSTAT_FAILS (min granules.length 65535)
    let s := match fails with
      | a :: _ => (s.wr MEM_MARCHFAIL_ADDR a).raise MEM_MARCHFAIL_VALID
      | [] => s.clear MEM_MARCHFAIL_VALID
    let s := s.raise MEM_STAT_MARCHDONE
    if boot then bootRepairs (granules.map fun g => (g % 48, g / 48)) still s else s

/-- A write of a MEM register (R459, R463, R464, R486). -/
def memRegWrite (init a : Nat) (v : Word) (s : State) : State :=
  if a = MEM_CTRL then
    let s := s.typed a v
    if MEM_CTRL_CONFCLR.of v = 1 then confClr s else s
  else if a = MEM_MARCHCMD then
    guardW (init == SV_INIT) init a OWNER (fun s =>
      if MEM_MARCHCMD_GO.of v = 1 then marchGo (MEM_MARCHCMD_FIRST.of v) (MEM_MARCHCMD_LAST.of v) (MEM_MARCHCMD_MODE.of v = 1) s
      else s) s
  else if a = MEM_REPAIRCMD then
    guardW (init == SV_INIT) init a OWNER (fun s =>
      if MEM_REPAIRCMD_GO.of v = 1 then repairRecord (MEM_REPAIRCMD_BANK.of v) (MEM_REPAIRCMD_ROW.of v) s else s) s
  else s.typed a v

/-! ### Chain commands (R481 to R483) -/

/-- The results of NVS_CHRES (R483). -/
def CH_OK : Nat := 0
def CH_BUSY : Nat := 1
def CH_LOCKED : Nat := 2
def CH_BADIMG : Nat := 3
def CH_BADSIG : Nat := 4
def CH_KEYMISMATCH : Nat := 5
def CH_REPLAY : Nat := 6
def CH_DEVID : Nat := 7
def CH_NOINST : Nat := 8
def CH_ROOTCHG : Nat := 9
def CH_NVSERR : Nat := 10
def CH_PWRDOWN : Nat := 11
def CH_BADCMD : Nat := 12
def CH_READERR : Nat := 13

/-- The NVS controller's initiator. -/
def NVS_INIT : Nat := 15

/-- A Chain command ends with a result. -/
def chainResult (op r : Nat) (s : State) : State :=
  let s := (s.wr NVS_CHRES_OP op).wr NVS_CHRES_RESULT r
  if r = CH_OK then s.raise NVS_STAT_CHDONE else s.raise NVS_STAT_CHFAIL

/-- The command that runs is over. -/
def chainOver (s : State) : State := { s with nvs := { s.nvs with chain := none } }.clear NVS_STAT_BUSY

/-- A write of NVS_CHCMD (R481, R483): a command is taken, refused as unknown, or ends with BUSY.
[DEDUCED, unsafe: notes/assumptions/25] -/
def chainCmd (init op addr : Nat) (s : State) : State :=
  if op < 1 ∨ 4 < op then chainResult op CH_BADCMD s
  else if s.nvs.chain.isSome then chainResult op CH_BUSY s
  else ({ s with nvs := { s.nvs with chain := some { op, addr, init } } }).raise NVS_STAT_BUSY

/-- Bytes that must be zero (R478). -/
def zerosAt (img : List Byte) (a n : Nat) : Bool := ((img.drop a).take n).all (· == 0#8)

/-- An antenna record of an image (R478, R483). -/
def recordOk (img : List Byte) (a : Nat) : Bool :=
  let r := 64 + 64 * a
  let fl := imgLe img (r + 42) 2
  decide (fl ≤ 1) && zerosAt img (r + 59) 5 && (fl == 0 || decide (imgLe img (r + 53) 3 ≤ imgLe img (r + 56) 3))

/-- Check 7 of R483. -/
def imageOk (img : List Byte) : Bool :=
  let owners := imgLe img 2123 2
  img.length == chainLen && imgLe img 0 4 == 0x48434B4D && imgLe img 4 2 == 1 && zerosAt img 7 1 && zerosAt img 16 44 &&
    ((List.range 32).all (recordOk img)) && zerosAt img 2125 3 && zerosAt img 2136 40 && zerosAt img 2284 20 && zerosAt img 2336 32 &&
    decide (imgLe img 2112 5 ≤ 10 ^ 12) && within 1 256000 (imgLe img 2117 3) && imgLe img 2120 3 != 0 && imgLe img 2128 4 != 0 &&
    imgLe img 2132 4 != 0 && owners != 0 && owners &&& 0xB380 == 0

/-- The Merkle root of an image. -/
def merkleRoot (img : List Byte) : List Byte := (img.drop 2304).take 32

/-- Part of a list replaced. -/
def splice (img : List Byte) (at_ : Nat) (b : List Byte) : List Byte := img.take at_ ++ b ++ img.drop (at_ + b.length)

/-- The image with GEN, LOCKED, CMDSEQ and CRC of the controller. -/
def sealImage (img : List Byte) (gen seq : Nat) (locked : Bool) : List Byte :=
  let img := splice img 6 [if locked then 1#8 else 0#8]
  let img := splice (splice img 8 (toLE 4 gen)) 12 (toLE 4 seq)
  splice img 60 (toLE 4 (chainCrc img))

/-- An image is committed to the copy not in force, and the mirrored registers are loaded (R479). -/
def commit (img : List Byte) (locked : Bool) (seq : Nat) (s : State) : State :=
  let (c, gen) := match inForce s with
    | some c => (1 - c, imgGen (chainCopy s c) + 1)
    | none => (0, 1)
  loadMirror ((clearErrors (copyAddr c) chainLen s).setBytes (copyAddr c) (sealImage img gen seq locked))

/-- Words of a commit have landed and the CRC word has not: a write failed (check 9). -/
def commitFailed (img : List Byte) (s : State) : State :=
  let c := match inForce s with | some c => 1 - c | none => 0
  (clearErrors (copyAddr c) chainLen s).setBytes (copyAddr c) (splice img 60 [0#8, 0#8, 0#8, 0#8])

/-- The image in force and its CMDSEQ. -/
def imageInForce (s : State) : Option (List Byte) := (inForce s).map (chainCopy s)

/-- What a command has come to: a result, or an image to commit with LOCKED and CMDSEQ. -/
inductive ChainEnd where
  | fails (r : Nat)
  | writes (img : List Byte) (locked : Bool) (seq : Nat)
  | reload
  | waits

/-- An unsigned COMMIT (checks 2, 5, 7 and 8). -/
def commitEnd (addr : Nat) (s : State) : ChainEnd × State :=
  let (c, img, s) := dmaRead NVS_INIT addr chainLen s
  if c ≠ 0 then (.fails CH_READERR, s)
  else if s.flag NVS_STAT_LOCKED ∨ s.flag NVS_STAT_CHAINBAD then (.fails CH_LOCKED, s)
  else if !imageOk img then (.fails CH_BADIMG, s)
  else
    let old := ((imageInForce s).map merkleRoot).getD []
    if merkleRoot img ≠ old ∧ !old.all (· == 0#8) then (.fails CH_ROOTCHG, s)
    else (.writes img false (s.rd NVS_CHSEQ_SEQ), s)

/-- LOCK (checks 6 and 7). -/
def lockEnd (s : State) : ChainEnd :=
  if otpHash s 3 = 0 then .fails CH_NOINST
  else
    match imageInForce s with
    | none => .fails CH_BADIMG
    | some img => if imageOk img then .writes img true (imgSeq img) else .fails CH_BADIMG

/-- What a signed command whose signature verifies comes to (R482, check 7). -/
def signedAct (op len : Nat) (h img : List Byte) (s : State) : ChainEnd :=
  if imgLe h 16 4 ≠ len ∨ !zerosAt h 13 3 ∨ !zerosAt h 20 44 then .fails CH_BADIMG
  else if op = 1 then (if imageOk img then .writes img (s.flag NVS_STAT_LOCKED) (imgLe h 8 4) else .fails CH_BADIMG)
  else
    match imageInForce s with
    | none => .fails CH_BADIMG
    | some old => if imageOk old then .writes old false (imgLe h 8 4) else .fails CH_BADIMG

/-- A signed command is read: the checks 1 to 3, and its header with what follows it. -/
def signedRead (addr : Nat) (s : State) : Nat × (List Byte × List Byte) × State :=
  let (c, h, s) := dmaRead NVS_INIT addr 128 s
  let op := imgLe h 12 1
  let (c', rest, s') := dmaRead NVS_INIT (addr + 128) ((if op = 1 then chainLen else 0) + 64) s
  if c ≠ 0 then (CH_READERR, (h, []), s)
  else if op ≠ 1 ∧ op ≠ 2 then (CH_BADCMD, (h, []), s)
  else if c' ≠ 0 then (CH_READERR, (h, []), s')
  else if ofLE (h.take 8) ≠ otpDevid s then (CH_DEVID, (h, rest), s')
  else if imgLe h 8 4 ≤ s.rd NVS_CHSEQ_SEQ then (CH_REPLAY, (h, rest), s')
  else (CH_OK, (h, rest), s')

/-- The signature of a signed command is given to SVU, as one of its jobs; where SVU's queue is full the controller waits for room
(R440, R482). [DEDUCED, safe: notes/assumptions/25] -/
def signedSubmit (c : ChainCmd) (h rest : List Byte) (s : State) : State :=
  let s := { s with nvs := { s.nvs with chain := some { c with read := some (h, rest), submitted := decide (s.svu.jobs.length < 8) } } }
  if 8 ≤ s.svu.jobs.length then s
  else
    let len := rest.length - 64
    svuPush (.chain ((h.drop 64).take 64) (sha256 (h.take 64 ++ rest.take len)) (rest.drop len)) s

/-- A signed command as far as it has come: it is read and submitted, it waits for SVU, or SVU has answered (checks 1 to 4 and 7). -/
def signedEnd (c : ChainCmd) (s : State) : ChainEnd × State :=
  match c.read, c.verdict with
  | none, _ =>
    let (r, x, s) := signedRead c.addr s
    if r = CH_OK then (.waits, signedSubmit c x.1 x.2 s) else (.fails r, s)
  | some x, none => (.waits, if c.submitted then s else signedSubmit c x.1 x.2 s)
  | some (h, rest), some r =>
    let len := rest.length - 64
    if r = V_KEYMISMATCH then (.fails CH_KEYMISMATCH, s)
    else if r ≠ V_VALID then (.fails CH_BADSIG, s)
    else (signedAct (imgLe h 12 1) len h (rest.take len) s, s)

/-- SVU has answered for the signed command that waits for it. -/
def chainVerdict (r : Nat) (s : State) : State :=
  match s.nvs.chain with
  | some c => if c.submitted then { s with nvs := { s.nvs with chain := some { c with verdict := some r } } } else s
  | none => s

/-- The Chain command that runs is verified, as far as it can be: it ends with the result of a check that fails, or its writes begin
(R483). [DEDUCED, unsafe: notes/assumptions/25] -/
def chainVerify (s : State) : State :=
  match s.nvs.chain with
  | none => s
  | some c =>
    if c.writing.isSome then s
    else
      let (e, s) := match c.op with
        | 1 => commitEnd c.addr s
        | 2 => (lockEnd s, s)
        | 3 => signedEnd c s
        | _ => (ChainEnd.reload, s)
      match e with
      | .fails r => flushCopies (chainResult c.op r (chainOver s))
      | .writes img locked seq => { s with nvs := { s.nvs with chain := some { c with writing := some (img, locked, seq) } } }
      | .reload | .waits => s

/-- The Chain command that runs ends, once it is verified; `ok` is whether every write of the store completes (R483).
[DEDUCED, unsafe: notes/assumptions/25] -/
def chainDone (ok : Bool) (s : State) : State :=
  let s := chainVerify s
  match s.nvs.chain with
  | none => s
  | some c =>
    match c.writing with
    | some (img, locked, seq) =>
      let s := chainOver s
      flushCopies <| if ok then chainResult c.op CH_OK (commit img locked seq s) else chainResult c.op CH_NVSERR (commitFailed img s)
    | none => if c.op = 4 then flushCopies (chainResult c.op CH_OK (loadMirror (chainOver s))) else s

/-- The signature job of the Chain command that runs leaves SVU's queue. -/
def dropChainJob (s : State) : State :=
  refreshSvu { s with svu := { s.svu with jobs := s.svu.jobs.filter fun j => match j with | .chain _ _ _ => false | _ => true } }

/-- A Chain command at an entry to KEEPTIME or DEEP: writes that have begun are waited for, a verification ends with
PWRDOWN (R484). -/
def chainPowerDown (s : State) : State :=
  match s.nvs.chain with
  | none => s
  | some c => if c.writing.isSome then chainDone true s else flushCopies (chainResult c.op CH_PWRDOWN (chainOver (dropChainJob s)))

/-- Whether an initiator may write NVS_CHCMD (R481). -/
def mayChain (init : Nat) : Bool := init == 6 || init == 10 || init == 11

/-! ### OTP commands (R476) -/

/-- READ: rows of DK read as zero. -/
def otpRead (row : Nat) (s : State) : State :=
  if s.nvs.otpProg.isSome then s.raise NVS_STAT_OTPERR
  else
    let v := if row < 4 then 0 else otpRow s row
    ((s.wr NVS_OTPDATAH_DATA (v / 2 ^ 32)).wr NVS_OTPDATAL_DATA v).raise NVS_STAT_OTPDONE

/-- A row may take these bits in the present lifecycle state (R475). -/
def otpMay (s : State) (row v : Nat) : Bool :=
  let lc := s.lcs
  if within 5 8 row then lc == BLANK
  else if within 9 12 row then lc == BLANK || lc == PROVISIONED
  else if within 13 16 row then lc != RETURNED
  else if row = 17 then
    v &&& (2 ^ 64 - 1 - 0x500) == 0 && (!v.testBit 8 || lc == PROVISIONED || lc == DEPLOYED) && (!v.testBit 10 || lc != RETURNED)
  else if row = 18 then lc == PROVISIONED || lc == DEPLOYED
  else if within 19 67 row then lc == BLANK
  else false

/-- PROG. -/
def otpProg (row : Nat) (s : State) : State :=
  let v := s.rd NVS_OTPDATAH_DATA * 2 ^ 32 + s.rd NVS_OTPDATAL_DATA
  if s.nvs.otpProg.isSome ∨ !otpMay s row v then s.raise NVS_STAT_OTPERR
  else { s with nvs := { s.nvs with otpProg := some (row, v), otpAt := s.ticks } }

/-- The 100 µs of a programming have passed at tick `t` (R476). -/
def otpDue (s : State) (t : Nat) : Bool := s.nvs.otpProg.isSome && decide (s.nvs.otpAt + 100 * usTicks ≤ t)

/-- Programming ends. -/
def otpProgDone (s : State) : State :=
  match s.nvs.otpProg with
  | none => s
  | some (row, v) =>
    let s := otpSet row v { s with nvs := { s.nvs with otpProg := none } }
    (s.put SVU_LCS_OWNREV (otpBit s 8)).raise NVS_STAT_OTPDONE

/-- A write of NVS_OTPCMD by SV; READ and PROG together are refused. -/
def otpCmd (v : Word) (s : State) : State :=
  let r := NVS_OTPCMD_READ.of v = 1
  let p := NVS_OTPCMD_PROG.of v = 1
  if r ∧ p then s.raise NVS_STAT_OTPERR
  else if r then otpRead (NVS_OTPCMD_ROW.of v) s
  else if p then otpProg (NVS_OTPCMD_ROW.of v) s
  else s

/-- A write of an NVS register (R476, R481). -/
def nvsWrite (init a : Nat) (v : Word) (s : State) : State :=
  if a = NVS_CHCMD then
    guardW (mayChain init) init a OWNER (chainCmd init (NVS_CHCMD_OP.of v) (NVS_CHCMD_ADDR.of v * 64)) s
  else if a = NVS_OTPCMD then guardW (init == SV_INIT) init a OWNER (otpCmd v) s
  else s.typed a v

/-! ### Meanings -/

/-- CONFCLR (R459). -/
def execConfclr (s : State) : Host.Outcome State Fault Refusal := done (whenOn MEM_CTRL confClr s)

/-- MARCH_GO (R463). -/
def execMarchGo (init : Init) (first last : Fin 64) (preserving : Bool) (s : State) : Host.Outcome State Fault Refusal :=
  done (asAccess init MEM_MARCHCMD true (guardW (init == 6) init MEM_MARCHCMD OWNER (marchGo first last preserving)) s)

/-- MARCH_COMPLETE (R463), once the cycles of the test have passed: the failing words in the order found, and the repaired banks that fail again.
[DESIGN CHOICE, unsafe: notes/assumptions/23] -/
def execMarchComplete (fails : List (BitVec 32)) (still : List (Fin 48)) (s : State) : Host.Outcome State Fault Refusal :=
  done (marchDone (fails.map (·.toNat)) (still.map (·.val)) s)

/-- REPAIR_RECORD (R464). -/
def execRepairRecord (init : Init) (bank : Fin 48) (row : BitVec 11) (s : State) : Host.Outcome State Fault Refusal :=
  done (asAccess init MEM_REPAIRCMD true (guardW (init == 6) init MEM_REPAIRCMD OWNER (repairRecord bank row.toNat)) s)

/-- CHAIN_COMMIT (R481). -/
def execChainCommit (init : Init) (addr : BitVec 26) (s : State) : Host.Outcome State Fault Refusal :=
  done (asAccess init NVS_CHCMD true (guardW (mayChain init) init NVS_CHCMD OWNER (chainCmd init 1 (addr.toNat * 64))) s)

/-- CHAIN_LOCK (R481). -/
def execChainLock (init : Init) (s : State) : Host.Outcome State Fault Refusal :=
  done (asAccess init NVS_CHCMD true (guardW (mayChain init) init NVS_CHCMD OWNER (chainCmd init 2 0)) s)

/-- CHAIN_SIGNED (R482). -/
def execChainSigned (init : Init) (addr : BitVec 26) (s : State) : Host.Outcome State Fault Refusal :=
  done (asAccess init NVS_CHCMD true (guardW (mayChain init) init NVS_CHCMD OWNER (chainCmd init 3 (addr.toNat * 64))) s)

/-- CHAIN_RELOAD (R481). -/
def execChainReload (init : Init) (s : State) : Host.Outcome State Fault Refusal :=
  done (asAccess init NVS_CHCMD true (guardW (mayChain init) init NVS_CHCMD OWNER (chainCmd init 4 0)) s)

/-- CHAIN_COMMAND_DONE (R483): `ok` is whether every write of the store completes.
[DESIGN CHOICE, unsafe: notes/assumptions/66] -/
def execChainCommandDone (ok : Bool) (s : State) : Host.Outcome State Fault Refusal := done (chainDone ok s)

/-- OTP_READ (R476). -/
def execOtpRead (init : Init) (row : Fin 128) (s : State) : Host.Outcome State Fault Refusal :=
  done (asAccess init NVS_OTPCMD true (guardW (init == 6) init NVS_OTPCMD OWNER (otpRead row)) s)

/-- OTP_PROG (R476). -/
def execOtpProg (init : Init) (row : Fin 128) (s : State) : Host.Outcome State Fault Refusal :=
  done (asAccess init NVS_OTPCMD true (guardW (init == 6) init NVS_OTPCMD OWNER (otpProg row)) s)

end Sys2Proof.Machine
end

