-- ==== Sys2Proof/Machine/Flags.lean ====
section
/-!
DEFINITION. ST of a Kloko core (R219), the results of the ALU and IMM classes with their flags (R229, R257, R258), and the
condition codes (R262).
-/

namespace Sys2Proof.Machine

/-! ### The bits of ST (R219) -/

def ST_Z : Nat := 0
def ST_N : Nat := 1
def ST_C : Nat := 2
def ST_V : Nat := 3
def ST_FRAC : Nat := 4
def ST_IE : Nat := 5
def ST_EXL : Nat := 6
def ST_AOVE : Nat := 7
def ST_MSATE : Nat := 8
def ST_A0SAT : Nat := 9
def ST_MOVSAT : Nat := 16
def ST_BSCALE : Nat := 17
def ST_AOV : Nat := 18

/-- A word with bit `k` set to a truth value. -/
def setBitW (w : Word) (k : Nat) (b : Bool) : Word := if b then w ||| (1#48 <<< k) else w &&& ~~~(1#48 <<< k)

/-- The bits of ST that hold anything. -/
def stMask : Word := 0x707FF#48

/-! ### Results -/

/-- A result of the ALU or IMM class: its value, and C and V where the instruction sets them. -/
structure AluOut where
  value : Word
  c : Option Bool := none
  v : Option Bool := none
  deriving DecidableEq, Repr

/-- Z and N from a result, C and V where it sets them. [DEDUCED, unsafe: notes/assumptions/42] -/
def setFlags (st : Word) (r : AluOut) : Word :=
  let st := setBitW (setBitW st ST_Z (r.value == 0)) ST_N r.value.msb
  let st := match r.c with | some b => setBitW st ST_C b | none => st
  match r.v with | some b => setBitW st ST_V b | none => st

/-- An integer outside the signed range of 48 bits. -/
def outside48 (z : Int) : Bool := decide (z < -(2 ^ 47 : Int)) || decide ((2 ^ 47 : Int) ≤ z)

/-- A sum with a carry in. -/
def addOut (x y : Word) (cin : Bool) : AluOut :=
  let k : Nat := if cin then 1 else 0
  { value := BitVec.ofNat 48 (x.toNat + y.toNat + k), c := some (decide (2 ^ 48 ≤ x.toNat + y.toNat + k)),
    v := some (outside48 (x.toInt + y.toInt + k)) }

/-- A difference with a borrow in; C is 1 for no borrow. -/
def subOut (x y : Word) (borrow : Bool) : AluOut :=
  let k : Nat := if borrow then 1 else 0
  { value := BitVec.ofInt 48 (x.toInt - y.toInt - k), c := some (decide (y.toNat + k ≤ x.toNat)),
    v := some (outside48 (x.toInt - y.toInt - k)) }

/-- The nearer limit of an integer in 48 bits, with V. -/
def satOut (z : Int) : AluOut := { value := BitVec.ofInt 48 (clampS 48 z), v := some (outside48 z) }

/-- Minus a value; of −2^47 it is −2^47. -/
def negOut (x : Word) : AluOut := { value := -x, v := some (outside48 (-x.toInt)) }

/-- A bitwise result: C unchanged, V 0. -/
def bitOut (x : Word) : AluOut := { value := x, v := some false }

/-- A result that sets Z and N alone. -/
def plainOut (x : Word) : AluOut := { value := x }

/-- C of a shift by `n`: the last bit shifted out, 0 above 48, unchanged by a shift of 0.
[DEDUCED, unsafe: notes/assumptions/42] -/
def shiftC (n : Nat) (last : Bool) : Option Bool := if n = 0 then none else some (decide (n ≤ 48) && last)

/-- A shift left. -/
def shlOut (x : Word) (n : Nat) : AluOut := { value := x <<< n, c := shiftC n (x.getLsbD (48 - n)) }

/-- A shift right with zero fill. -/
def shrOut (x : Word) (n : Nat) : AluOut := { value := x >>> n, c := shiftC n (x.getLsbD (n - 1)) }

/-- An arithmetic shift right: floor(S / 2^n). -/
def sraOut (x : Word) (n : Nat) : AluOut :=
  { value := BitVec.ofInt 48 (x.toInt / (2 ^ n : Nat)), c := shiftC n (x.getLsbD (n - 1)) }

/-- The low 48 bits of the exact product. -/
def mullOut (x y : Word) : AluOut :=
  { value := BitVec.ofInt 48 (x.toInt * y.toInt), v := some (outside48 (x.toInt * y.toInt)) }

/-- The leading bits equal to bit 47, minus one. -/
def clsOf (x : Word) : Nat := ((List.range 48).takeWhile fun i => x.getLsbD (47 - i) == x.msb).length - 1

/-! ### Conditions -/

/-- Whether a COND code holds (R262). -/
def condHolds (st : Word) (c : Nat) : Bool :=
  let b := fun (k : Nat) => st.getLsbD k
  match c with
  | 0 => b ST_Z
  | 1 => !b ST_Z
  | 2 => b ST_N != b ST_V
  | 3 => b ST_N == b ST_V
  | 4 => b ST_Z || (b ST_N != b ST_V)
  | 5 => !b ST_Z && (b ST_N == b ST_V)
  | 6 => !b ST_C
  | 7 => b ST_C
  | 8 => b ST_N
  | 9 => !b ST_N
  | 10 => b ST_V
  | 11 => !b ST_V
  | 12 => b ST_A0SAT
  | 13 => b (ST_A0SAT + 1)
  | 14 => b ST_MOVSAT
  | _ => true

end Sys2Proof.Machine
end

