-- ==== Sys2Proof/Machine/Operands.lean ====
section
/-!
DEFINITION. The registers of a Kloko core as an instruction reads and writes them: general registers and accumulators with
their scaling (R218 to R228), pointers with circular wrap (R230, R231), data memory (R213 to R216), parallel moves (R255),
the special registers (R221), the interrupt lines (R246, R248, R249) and exceptions (R241 to R244, R251, R512).
-/

namespace Sys2Proof.Machine

/-! ### General registers and ST -/

/-- A general register. -/
def CoreState.gr (c : CoreState) (k : Nat) : Word := c.g.getD k 0

/-- The core with a general register written. -/
def CoreState.setG (c : CoreState) (k : Nat) (v : Word) : CoreState := { c with g := c.g.setIfInBounds k v }

/-- A bit of ST. -/
def CoreState.stBit (c : CoreState) (k : Nat) : Bool := c.st.getLsbD k

/-- The core with a bit of ST set to a truth value. -/
def CoreState.setSt (c : CoreState) (k : Nat) (b : Bool) : CoreState := { c with st := setBitW c.st k b }

/-- The core with a result of the ALU or IMM class in D, and its flags. -/
def CoreState.result (c : CoreState) (d : Nat) (r : AluOut) : CoreState := { c.setG d r.value with st := setFlags c.st r }

/-- 48F of R226 and R228. -/
def CoreState.frac48 (c : CoreState) : Nat := if c.stBit ST_FRAC then 48 else 0

/-! ### Accumulators -/

/-- An accumulator as an integer. -/
def CoreState.acc (c : CoreState) (k : Nat) : Int := (c.a.getD k 0).toInt

/-- The latch of an accumulator. -/
def CoreState.latched (c : CoreState) (k : Nat) : Bool := c.stBit (ST_A0SAT + k)

/-- The core with an accumulator written; the latch stands as it was. -/
def CoreState.putAcc (c : CoreState) (k : Nat) (z : Int) : CoreState := { c with a := c.a.setIfInBounds k (BitVec.ofInt 112 z) }

/-- The core with an accumulator written and its latch cleared. -/
def CoreState.loadAcc (c : CoreState) (k : Nat) (z : Int) : CoreState := (c.putAcc k z).setSt (ST_A0SAT + k) false

/-- An accumulation (R224, R225): a latched accumulator stays; a result out of range takes the nearer limit, sets AOV and
the latch.  Whether it overflowed. -/
def CoreState.accumulate (c : CoreState) (k : Nat) (z : Int) : Bool × CoreState :=
  if c.latched k then (false, c)
  else if clampS 112 z = z then (false, c.putAcc k z)
  else (true, ((c.putAcc k (clampS 112 z)).setSt ST_AOV true).setSt (ST_A0SAT + k) true)

/-- A product that starts an accumulation: MPY and MPYSU clear the latch (R225). -/
def CoreState.startAcc (c : CoreState) (k : Nat) (z : Int) : CoreState := c.loadAcc k z

/-- SCL.SHIFT as a number and SCL.AUTO (R220). -/
def CoreState.shift (c : CoreState) : Int := signed 6 (c.scl.toNat % 64)
def CoreState.auto (c : CoreState) : Bool := c.scl.getLsbD 8

/-- SCL with a value written: SHIFT clamped to −16 to +16, other bits zero (R220). -/
def sclOf (v : Word) : Word :=
  let z := signed 6 (v.toNat % 64)
  let z := if z < -16 then -16 else if 16 < z then 16 else z
  BitVec.ofNat 48 (unsigned 6 z + (if v.getLsbD 8 then 256 else 0))

/-- A number times 2^-e, truncated toward minus infinity. -/
def scaleDown (z e : Int) : Int := if 0 ≤ e then z / (2 ^ e.toNat : Nat) else z * (2 ^ (-e).toNat : Nat)

/-- What a move from an accumulator delivers, and whether it saturated (R226). -/
def CoreState.moveOut (c : CoreState) (k : Nat) : Word × Bool :=
  let v := scaleDown (c.acc k) (c.shift + c.frac48)
  (BitVec.ofInt 48 (clampS 48 v), outside48 v)

/-- What a move that saturated leaves: MOV_SAT, and under AUTO a SHIFT raised by one and BSCALE (R226, R227). -/
def CoreState.moveSat (c : CoreState) (sat : Bool) : CoreState :=
  if !sat then c
  else
    let c := c.setSt ST_MOVSAT true
    if c.auto then { c.setSt ST_BSCALE true with scl := sclOf (BitVec.ofNat 48 (unsigned 6 (min (c.shift + 1) 16) + 256)) } else c

/-- A load into REG: a general register, or an accumulator under R228. -/
def CoreState.loadReg (c : CoreState) (r : Nat) (v : Word) : CoreState :=
  if r < 16 then c.setG r v else c.loadAcc (r - 16) (v.toInt * (2 ^ c.frac48 : Nat))

/-- What REG stores, and whether the move saturated. -/
def CoreState.storeReg (c : CoreState) (r : Nat) : Word × Bool := if r < 16 then (c.gr r, false) else c.moveOut (r - 16)

/-! ### Pointers -/

/-- A pointer, its buffer's base, its length as the next instruction uses it, and its step (R230, R231). -/
def CoreState.ptr (c : CoreState) (k : Nat) : Nat := (c.p.getD k 0).toNat
def CoreState.bufBase (c : CoreState) (k : Nat) : Nat := (c.b.getD k 0).toNat
def CoreState.bufLen (c : CoreState) (k : Nat) : Nat :=
  match c.oldLen with
  | some (q, l) => if q = k then l.toNat else (c.l.getD k 0).toNat
  | none => (c.l.getD k 0).toNat
def CoreState.stepM (c : CoreState) (k : Nat) : Int := (c.m.getD k 0).toInt

/-- The core with a pointer written. -/
def CoreState.setPtr (c : CoreState) (k : Nat) (v : Nat) : CoreState := { c with p := c.p.setIfInBounds k (BitVec.ofNat 15 v) }

/-- A pointer inside its buffer. -/
def inBuffer (p b l : Nat) : Bool := l != 0 && decide (b ≤ p) && decide (p < b + l)

/-- A pointer modified by `d` (R230). -/
def wrapPtr (p b l : Nat) (d : Int) : Nat :=
  if inBuffer p b l then ((b : Int) + ((p : Int) - b + d) % l).toNat % 32768 else (((p : Int) + d) % 32768).toNat

/-- The core with a pointer modified. -/
def CoreState.modify (c : CoreState) (k : Nat) (d : Int) : CoreState :=
  c.setPtr k (wrapPtr (c.ptr k) (c.bufBase k) (c.bufLen k) d)

/-- The core with a length written: a pointer inside the old buffer is brought inside the new one (R231). -/
def CoreState.setLen (c : CoreState) (k : Nat) (v : BitVec 15) : CoreState :=
  let c' := { c with l := c.l.setIfInBounds k v }
  if inBuffer (c.ptr k) (c.bufBase k) (c.bufLen k) && v != 0
  then c'.setPtr k (c.bufBase k + (c.ptr k - c.bufBase k) % v.toNat) else c'

/-- The amount of a post-modify (R255). -/
def moveStep (c : CoreState) (ptr mod : Nat) : Int :=
  match mod with | 0 => 0 | 1 => 1 | 2 => -1 | _ => c.stepM ptr

/-! ### Data memory -/

/-- The slot of data word `w` and of instruction `i` of core `n` (R213). -/
def dmSlot (n w : Nat) : Nat := 0x02000000 + 0x100000 * n + 8 * w
def imSlot (n i : Nat) : Nat := 0x02080000 + 0x100000 * n + 8 * i

/-- A data word read by its core; none where its error cannot be corrected (R216). -/
def readDm (n w : Nat) (s : State) : Option Word × State :=
  let a := dmSlot n w
  if hasDouble a 8 s then (none, countUnc a s) else (some (BitVec.ofNat 48 (s.le a 6)), correct a 8 s)

/-- A data word written by its core. -/
def writeDm (n w : Nat) (v : Word) (s : State) : State := (clearErrors (dmSlot n w) 8 s).setLE (dmSlot n w) 6 v.toNat

/-! ### Parallel moves -/

/-- What the moves of an instruction have done so far: the memories, the loads to be delivered, whether a move saturated,
and the data word whose read failed. -/
structure MoveOut where
  s : State
  loads : List (Nat × Word) := []
  sat : Bool := false
  bad : Option Nat := none

/-- One move in its slot, with the registers as they stood before the instruction (R215, R236). -/
def moveOne (n : Nat) (c : CoreState) (m : Move) (o : MoveOut) : MoveOut :=
  let w := c.ptr m.ptr
  if m.store then
    let (v, sat) := c.storeReg m.reg
    { o with s := writeDm n w v o.s, sat := o.sat || sat }
  else
    match readDm n w o.s with
    | (some v, s) => { o with s := s, loads := o.loads ++ [(m.reg.val, v)] }
    | (none, _) => { o with bad := some w }

/-- Two stores of one instruction to the same word (R215). -/
def collides (c : CoreState) (ms : List Move) : Bool :=
  match ms with
  | [x, y] => x.store && y.store && c.ptr x.ptr == c.ptr y.ptr
  | _ => false

/-- The moves of an instruction, slot A first. -/
def doMoves (n : Nat) (c : CoreState) (ms : List Move) (s : State) : MoveOut :=
  let o := ms.foldl (fun o m => moveOne n c m o) { s := s }
  if collides c ms then { o with s := o.s.count (KCn_COLLIDE_COUNT n) } else o

/-- What the moves leave in the registers, after the arithmetic part. -/
def applyMoves (ms : List Move) (o : MoveOut) (before c : CoreState) : CoreState :=
  let c := o.loads.foldl (fun (c : CoreState) (r, v) => c.loadReg r v) c
  let c := ms.foldl (fun (c : CoreState) m => c.setPtr m.ptr
    (wrapPtr (before.ptr m.ptr) (before.bufBase m.ptr) (before.bufLen m.ptr) (moveStep before m.ptr m.mod))) c
  c.moveSat o.sat

/-- A move field that names no register: ILLOP (R255). -/
def badMoveReg (ms : List Move) : Bool := ms.any fun m => decide (18 ≤ m.reg.val)

/-- A forbidden combination (R255): two moves with one pointer, two loads of one register, or a load of what the
instruction writes. -/
def badCombination (ms : List Move) (writes : Option Nat) : Bool :=
  (match ms with
    | [x, y] => x.ptr == y.ptr || (!x.store && !y.store && x.reg == y.reg)
    | _ => false)
  || ms.any fun m => !m.store && writes == some m.reg.val

/-! ### Interrupt lines -/

/-- An enabled status bit of a block at 1. -/
def statReq (s : State) (stat inten : Nat) : Bool := ((s.reg stat) &&& (s.reg inten)).toNat != 0

/-- Whether a source requests (R246). -/
def requesting (s : State) (src : Nat) : Bool :=
  match src with
  | 0 => ringDoorbell s 0
  | 1 => ringDoorbell s 1
  | 2 => ringDoorbell s 2
  | 3 => ringDoorbell s 3
  | 4 => statReq s CA_STAT CA_INTEN
  | 5 => statReq s CSH_STAT CSH_INTEN
  | 6 => statReq s SE_STAT SE_INTEN || rptDoorbell s
  | 7 => statReq s REEL_STAT REEL_INTEN
  | 8 => (List.range 32).any fun n => statReq s (SPn_STAT n) (SPn_INTEN n)
  | 9 => (List.range 128).any fun n => statReq s (CNDn_STAT n) (CNDn_INTEN n)
  | 10 => (List.range 32).any fun n => statReq s (FECn_STAT n) (FECn_INTEN n)
  | 11 => statReq s CGN_STAT CGN_INTEN
  | 12 => statReq s TB_STAT TB_INTEN
  | 13 => ((List.range 16).any fun n => statReq s (TPGn_STAT n) (TPGn_INTEN n)) ||
      ((List.range 8).any fun n => statReq s (EVCn_STAT n) (EVCn_INTEN n))
  | 14 => statReq s CLK_STAT CLK_INTEN
  | 15 => (List.range 4).any fun n => statReq s (OSYn_STAT n) (OSYn_INTEN n)
  | 16 => statReq s (ETHn_STAT 0) (ETHn_INTEN 0) || s.flag ETH_GRTSTAT_CFGERR
  | 17 => statReq s (ETHn_STAT 1) (ETHn_INTEN 1)
  | 18 => statReq s (ETHn_STAT 2) (ETHn_INTEN 2)
  | 19 => statReq s (ETHn_STAT 3) (ETHn_INTEN 3)
  | 20 => statReq s CXE_STAT CXE_INTEN || (List.range 16).any fun n => statReq s (CXE_KPn_STAT n) (CXE_KPn_INTEN n)
  | 21 => statReq s SVU_STAT SVU_INTEN
  | 22 => statReq s NVS_STAT NVS_INTEN
  | 23 => statReq s HST_STAT HST_INTEN
  | 24 => statReq s PWR_STAT PWR_INTEN
  | 25 => statReq s SAF_STAT SAF_INTEN
  | 26 => statReq s MEM_STAT MEM_INTEN
  | 27 => statReq s IC_STAT IC_INTEN
  | 28 => statReq s PMX_STAT PMX_INTEN
  | 29 => false
  | k => if k < 37 then s.rd (KCn_DBELL_BITS (k - 30)) != 0 else s.flag (KCn_STAT_TEXP (k - 37))

/-- Line `k` of core `n` requests: some source routed to it does. -/
def lineReq (s : State) (n k : Nat) : Bool :=
  (List.range 44).any fun src =>
    s.flag (KC_IRTs_EN src) && s.rd (KC_IRTs_CORE src) == n && s.rd (KC_IRTs_LINE src) == k && requesting s src

/-- IPEND of a core. -/
def ipend (s : State) (n : Nat) : Nat := (List.range 16).foldl (fun a k => a + if lineReq s n k then 2 ^ k else 0) 0

/-- The lowest-numbered pending line that IMASK enables. -/
def pendingLine (s : State) (n : Nat) : Option Nat :=
  (List.range 16).find? fun k => (s.core n).imask.getLsbD k && lineReq s n k

/-- What ends WAIT (R248). -/
def wakes (s : State) (n : Nat) : Bool := (s.core n).nmi || (pendingLine s n).isSome

/-! ### Special registers -/

/-- DEPTH (R221). -/
def depthOf (c : CoreState) : Nat := c.loops.length + c.rets.length * 256

/-- A special register as MVS reads it. -/
def readSpecial (s : State) (n spec : Nat) : Option Word :=
  let c := s.core n
  match spec with
  | 0 => some c.st
  | 1 => some c.scl
  | 2 => some (c.epc.setWidth 48)
  | 3 => some c.est
  | 4 => some c.ecause
  | 5 => some c.evbase
  | 6 => some c.imask
  | 7 => some (BitVec.ofNat 48 (ipend s n))
  | 8 => some (BitVec.ofNat 48 ((c.loops.head?.map (·.left)).getD 0))
  | 9 => some (BitVec.ofNat 48 (depthOf c))
  | 10 => some c.cycle
  | 11 => some (BitVec.ofNat 48 n)
  | _ => none

/-- The core with a special register written; none where the number names none that can be. -/
def writeSpecial (c : CoreState) (spec : Nat) (v : Word) : Option CoreState :=
  match spec with
  | 0 => some { c with st := v &&& stMask }
  | 1 => some { c with scl := sclOf v }
  | 2 => some { c with epc := v.setWidth 14 }
  | 3 => some { c with est := v &&& stMask }
  | 4 => some { c with ecause := v &&& 0xFF1F#48 }
  | 5 => some { c with evbase := v &&& 0x3F80#48 }
  | 6 => some { c with imask := v &&& 0xFFFF#48 }
  | _ => none

/-! ### Exceptions -/

/-- The causes of R241. -/
def X_ILLOP : Nat := 0
def X_ILLCOMB : Nat := 1
def X_AOV : Nat := 2
def X_MOVSAT : Nat := 3
def X_DMEM_UE : Nat := 4
def X_IMEM_PERR : Nat := 5
def X_LDERR : Nat := 6
def X_STERR : Nat := 7
def X_LOOPOVF : Nat := 8
def X_RSOVF : Nat := 9
def X_RSUNF : Nat := 10
def X_TRAP : Nat := 11
def X_BRK : Nat := 12
def X_STEP : Nat := 13
def X_ALIGN : Nat := 14
def X_NMI : Nat := 15

/-- Entry to an exception (R242): ST and the return address are saved, the cause is written, EXL is set, IE is cleared, and
the core goes on at EVBASE + 4 × cause, whose instruction executes 5 cycles after the one before (R238).
[DEDUCED, unsafe: notes/assumptions/44] -/
def enterExc (n cause : Nat) (epc : BitVec 14) (s : State) : State :=
  let c := s.core n
  let word := cause + (if cause = X_TRAP then c.trapNo * 256 else 0)
  let c := { c with est := c.st, epc := epc, ecause := BitVec.ofNat 48 word
                    st := setBitW (setBitW c.st ST_EXL true) ST_IE false
                    pc := BitVec.ofNat 14 (c.evbase.toNat + 4 * cause), oldLen := none, made := {}, madeBefore := {} }
  traceCore n 1 epc.toNat cause (stallCore n 4 ((s.setCore n c).wr (KCn_STAT_ECAUSE n) cause))

/-- An error response is recorded in KCn_BUSERR and KCn_BUSINFO (R235, R266). -/
def recordErr (n : Nat) (x : GlobalAcc) (s : State) : State :=
  ((s.wr (KCn_BUSERR_ADDR n) x.errAddr).put (KCn_BUSINFO_STORE n) x.dest.isNone).wr (KCn_BUSINFO_SIZE n) x.size

/-- A core enters FAULT, and its outstanding accesses complete: by a double fault (1) or its watchdog (2) (R251, R512). -/
def faultCore (n why : Nat) (s : State) : State :=
  let c := s.core n
  let s := ((enterRun n K_FAULT s).wr (KCn_STAT_FCAUSE n) why).raise (KCn_STAT_FAULT n)
  let s := c.out.foldl (fun s x => if x.cause = 0 then s else recordErr n x s) s
  let s := s.setCore n { c with out := [], ldErr := false, stErr := false }
  let s := (s.raiseBit (if why = 2 then SAF_WDSTAT_WDOG else SAF_WDSTAT_DFAULT) n).raise SAF_STAT_CORE
  let s := s.count SAF_COUNT_WDOG
  let s := if why = 2 then logUnit 0x10 2 n (n + c.pc.toNat * 16) s
    else logUnit 0x11 2 n (n + c.epc.toNat * 16 + (c.ecause.toNat % 32) * 2 ^ 18) s
  let s := (List.range 7).foldl (fun (s : State) m =>
    if m != n && s.bit SAF_NMIMASK_MASK m && issuing (s.coreState m) then s.setCore m { s.core m with nmi := true } else s) s
  if n = 6 ∧ s.flag SAF_CTRL_SVRST then resetBy PWR_RSTCAUSE_SAFRST s else s

/-- Synchronous causes with the address at which RTE resumes: the lowest is taken and the others wait for RTE, or the core
faults while EXL is 1 (R243, R244). [DEDUCED, unsafe: notes/assumptions/47] -/
def syncCauses (n : Nat) (causes : List Nat) (epc : BitVec 14) (s : State) : State :=
  let c := s.core n
  if c.stBit ST_EXL then faultCore n 1 s
  else
    let all := (List.range 32).filter fun k => causes.contains k || c.causes.contains k
    match all with
    | [] => s
    | k :: rest => enterExc n k epc (s.setCore n { c with causes := rest })

/-- LDERR, then STERR, at an instruction boundary; WAIT has none (R235, R243, R250).
[DEDUCED, unsafe: notes/assumptions/47] -/
def takeAsync (n : Nat) (s : State) : State :=
  let c := s.core n
  if c.stBit ST_EXL || s.coreState n != K_RUN then s
  else if c.ldErr then enterExc n X_LDERR c.pc (s.setCore n { c with ldErr := false })
  else if c.stErr then enterExc n X_STERR c.pc (s.setCore n { c with stErr := false })
  else s

/-- A HALTREQ that a global load held back takes effect (R253). -/
def haltDue (n : Nat) (s : State) : State :=
  if s.flag (KCn_CTRL_HALTREQ n) && issuing (s.coreState n) && !(s.core n).out.any (·.dest.isSome) then haltCore n s else s

/-- The core answers an access: a load writes its register, and an error response is recorded and waits to be taken
(R233, R235). -/
def answer (n : Nat) (x : GlobalAcc) (s : State) : State :=
  let c := s.core n
  let c := match x.dest with | some g => c.setG g (if x.cause = 0 then x.value else 0) | none => c
  if x.cause = 0 then s.setCore n c
  else
    let c := if x.dest.isSome then { c with ldErr := true } else { c with stErr := true }
    recordErr n x (s.setCore n c)

/-- Two accesses that reach one 16-byte block. -/
def sameBlock (x y : GlobalAcc) : Bool :=
  x.firstBlock == y.firstBlock || x.firstBlock == y.lastBlock || x.lastBlock == y.firstBlock || x.lastBlock == y.lastBlock

/-- The accesses of a list, oldest first, that no earlier access to one of their blocks holds back (R233). -/
def unblocked (before : List GlobalAcc) : List GlobalAcc → List GlobalAcc
  | [] => []
  | x :: t => if before.any (sameBlock x) then unblocked (before ++ [x]) t else x :: unblocked (before ++ [x]) t

/-- An outstanding access is answered. [DEDUCED, unsafe: notes/assumptions/48] -/
def answerOne (n : Nat) (x : GlobalAcc) (s : State) : State :=
  let c := s.core n
  answer n x (s.setCore n { c with out := c.out.erase x })

/-- The oldest outstanding access is answered. -/
def answerOldest (n : Nat) (s : State) : State := match (s.core n).out with | [] => s | x :: _ => answerOne n x s

/-- Every outstanding access is answered. -/
def answerAll (n : Nat) (s : State) : State :=
  (s.core n).out.foldl (fun s x => answer n x s) (s.setCore n { s.core n with out := [] })

/-! ### Run control -/

/-- A reset of a core: its outstanding accesses complete and their results are discarded (R252, R511); it may be the last to leave HALTED
(R451, R493).
[DESIGN CHOICE, unsafe: notes/assumptions/2] -/
def resetCore (n : Nat) (s : State) : State :=
  let s := (s.core n).out.foldl (fun s x => if x.cause = 0 then s else recordErr n x s) s
  let s := (enterRun n K_RESET s).setCore n {}
  runDeferred (s.clear (SAF_WDCFGn_EN n))

/-- START of a core (R250); none starts until an image has passed (R534). [DEDUCED, safe: notes/assumptions/49] -/
def startCore (n : Nat) (s : State) : State :=
  let st := s.coreState n
  let go := fun (s : State) => haltDue n (enterRun n K_RUN s)
  if s.rd HST_BOOT_STATUS ≠ BOOT_DONE then s
  else if st = K_RESET then go (s.setCore n { s.core n with pc := BitVec.ofNat 14 (s.rd (KCn_BOOTPC_PC n)) })
  else if st = K_STOPPED then go s
  else s

/-- NMI of a core is raised (R241). -/
def raiseNmi (n : Nat) (s : State) : State := s.setCore n { s.core n with nmi := true }

end Sys2Proof.Machine
end

