-- ==== Sys2Proof/Machine/Power.lean ====
section
/-!
DEFINITION. Power States (R489 to R507): level requests, entries and exits, the save list, wake events and the resets that
the supplies and the RESET_N ball give (R572, R577, R581).
-/

namespace Sys2Proof.Machine

/-! ### State requests -/

/-- PWR_STAT.STATE (R507). -/
def PS_ACTIVE : Nat := 0
def PS_STANDBY : Nat := 1
def PS_ENTERING : Nat := 2
def PS_EXITING : Nat := 3

/-- The power states that PWR_CMD.TARGET names. -/
def powerOf (t : Nat) : Power := match t with | 0 => .active | 1 => .standby | 2 => .keeptime | _ => .deep

/-- The WAKE pin stands at its active level (R502). -/
def wakePinActive (s : State) : Bool := s.pwr.wakePin != s.flag PWR_WAKECFG_WAKEPOL

/-- PWR_RTC is at or above PWR_RTCALM. -/
def alarmActive (s : State) : Bool := decide (s.rd PWR_RTCALM_ALARM ≤ s.rd PWR_RTC_COUNT)

/-- The lowest code among the enabled level-type sources that stand active (R502). -/
def levelSource (s : State) : Option Nat :=
  if s.flag PWR_WAKEEN_WAKE && wakePinActive s then some 1
  else if s.flag PWR_WAKEEN_RTC && alarmActive s then some 2
  else none

/-- The source of a wake is recorded (R502). -/
def recordWake (code : Nat) (s : State) : State :=
  let s := { s with pwr := { s.pwr with wakeAt := some (s.rd PWR_RTC_COUNT) } }
  (s.wr PWR_WAKESRC_CODE code).wr PWR_WAKESRC_AT (s.rd PWR_RTC_COUNT)

/-- A wake event has been taken in the present always-on cycle. -/
def wokeNow (s : State) : Bool := s.pwr.wakeAt == some (s.rd PWR_RTC_COUNT)

/-- A further event of the cycle in which a wake was taken: the lowest code is recorded (R502, R505). -/
def recordLower (code : Nat) (s : State) : State :=
  if wokeNow s ∧ code < s.rd PWR_WAKESRC_CODE then s.wr PWR_WAKESRC_CODE code else s

/-- The device is in a power state. -/
def setPower (p : Power) (code : Nat) (s : State) : State := { s with pwr := { s.pwr with power := p } }.wr PWR_STAT_STATE code

/-! ### STANDBY (R495, R496) -/

/-- Everything of the blocks that STANDBY unpowers returns to its reset value. [DEDUCED, unsafe: notes/assumptions/64] -/
def dropArray (s : State) : State :=
  let s := s.resetRegs 0x100B0000 0x100E0000
  let s := ((s.zeroMem 0x04000000 0x04100000).zeroMem 0x05000000 0x05100000).zeroMem 0x05800000 0x05820000
  { s with ca := {}, cgn := {}, se := {}, reels := Vector.replicate 8 {} }

/-- The scheduler stops every channel and discards its commands (R495). -/
def stopScheduler (s : State) : State :=
  let s := (chansIn s ACTIVE).foldl (fun s c => stopChannel c 1 s) s
  let s := (chansIn s HELD).foldl (fun s c => cancelHeld c s) s
  { s with ca := { s.ca with cmds := [], reserved := Vector.replicate 8 0 } }

/-- A core stops at a boundary once its accesses are answered (R495). -/
def stopCore (n : Nat) (s : State) : State := if issuing (s.coreState n) then dogPause n (answerAll n s) else s

/-- The steps of R495. -/
def standbySteps (s : State) : State :=
  let s := (List.range 4).foldl (fun s k => sePowerDown k s) s
  let s := (List.range 8).foldl (fun s k => reelPowerDown k s) s
  let s := stopScheduler s
  let s := (List.range 6).foldl (fun s n => stopCore n s) s
  dropArray s

/-- The blocks are powered and zeroed, and the six cores resume with full watchdog periods (R496); the firmware sets up the rings of
the array again (R272). [DEDUCED, unsafe: notes/assumptions/50] -/
def powerArray (s : State) : State :=
  let s := dropArray s
  let s := s.wr CSH_BUDGET_LIMIT (levelLimit s.level)
  let s := (List.range 6).foldl (fun s n => if issuing (s.coreState n) then haltDue n (takeAsync n (dogRestart n s)) else s) s
  if s.hst.ready then ringSetup s else s

/-- An exit from STANDBY by source `code` begins (R496). [DESIGN CHOICE, unsafe: notes/assumptions/50] -/
def leaveStandby (code : Nat) (s : State) : State := setPower .exiting PS_EXITING (recordWake code s)

/-- The exit ends: the device is in ACTIVE (R496). -/
def endExit (s : State) : State := ((setPower .active PS_ACTIVE (powerArray s)).raise PWR_STAT_WOKE).count PWR_COUNT_WAKES

/-- An entry ends with ABORTED (R503). -/
def aborted (code : Nat) (s : State) : State :=
  ((recordWake code s).raise PWR_STAT_ABORTED).wr PWR_STAT_RESULT P_ABORTED |>.count PWR_COUNT_ABORTS

/-- A STANDBY entry begins: its steps are taken, and a wake event may abort it until the next tick ends it (R495, R503).
[DESIGN CHOICE, unsafe: notes/assumptions/50] [DEDUCED, unsafe: notes/assumptions/50] -/
def enterStandby (s : State) : State := setPower (.entering 1 false) PS_ENTERING (standbySteps s)

/-- The entry ends: an enabled level-type source that stands active aborts it (R503). [DEDUCED, unsafe: notes/assumptions/50] -/
def endStandby (s : State) : State :=
  match levelSource s with
  | some code => aborted code (setPower .active PS_ACTIVE (powerArray s))
  | none => pwrEnd P_OK (setPower .standby PS_STANDBY s)

/-! ### KEEPTIME and DEEP (R497, R498) -/

/-- The registers of the save list, in its order. -/
def saveList : List Nat :=
  [IC_FWDEF, IC_FWCTRL] ++ ((List.range 32).flatMap fun n => [IC_FWn_BASE n, IC_FWn_LIMIT n, IC_FWn_PERM n])
    ++ ((List.range 4).flatMap fun n =>
      [OSYn_CTRL n, OSYn_NINT n, OSYn_NFRAC n, OSYn_OUTCTRL n, OSYn_DIVj n 0, OSYn_DIVj n 1, OSYn_FRACj n 0, OSYn_FRACj n 1,
        OSYn_RAMPCTRL n] ++ ((List.range 16).flatMap fun k => [OSYn_SEGsRATE n k, OSYn_SEGsDUR n k])
        ++ (List.range 64).map (OSYn_BANDk n))

/-- The save area, the number of its words, and their place. -/
def SAVE : Nat := 0x0800E000
def SAVE_COUNT : Nat := 518

/-- The save list is written to AON RAM (R498). -/
def saveRegs (s : State) : State :=
  let words := saveList.flatMap fun a => toLE 8 (s.reg a).toNat
  let s := (clearErrors SAVE (16 + 8 * SAVE_COUNT) s).setBytes (SAVE + 16) words
  ((s.setLE SAVE 4 SAVE_COUNT).setLE (SAVE + 4) 4 (crc32c words)).setLE (SAVE + 8) 8 0

/-- Whether the save area's header fits its words. -/
def saveOk (s : State) : Bool :=
  s.le SAVE 4 == SAVE_COUNT && s.le (SAVE + 4) 4 == crc32c (s.bytes (SAVE + 16) (8 * SAVE_COUNT))

/-- One saved register restored; of OSYn_RAMPCTRL only NSEGM1. -/
def restoreReg (s : State) (ia : Nat × Nat) : State :=
  let (i, a) := ia
  let v := BitVec.ofNat 48 (s.le (SAVE + 16 + 8 * i) 6)
  match (List.range 4).find? (fun n => a == OSYn_RAMPCTRL n) with
  | some n => s.wr (OSYn_RAMPCTRL_NSEGM1 n) ((OSYn_RAMPCTRL_NSEGM1 n).of v)
  | none => s.setReg a v

/-- A restored synthesiser with EN set acquires lock (R499). -/
def restoreOsy (s : State) (n : Nat) : State :=
  if s.flag (OSYn_CTRL_EN n) then osyEnable n (s.clear (OSYn_CTRL_EN n)) else s

/-- The save list is restored, or SAVEBAD is set (R499). -/
def restoreRegs (s : State) : State :=
  if saveOk s then
    (List.range 4).foldl restoreOsy (((List.range SAVE_COUNT).zip saveList).foldl restoreReg s)
  else s.raise PWR_STAT_SAVEBAD

/-- A march test that preserves stops without MARCHDONE (R497). -/
def stopMarch (s : State) : State :=
  match s.memc.march with
  | some (_, _, true) => { s with memc := { s.memc with march := none } }.clear MEM_MARCHSTAT_BUSY
  | _ => s

/-- KEEPTIME lowers the level to P2 (R493, R497). -/
def lowerToP2 (s : State) : State :=
  if s.level = 2 then s
  else
    let s := switchLevel 2 s
    ({ s with pwr := { s.pwr with vid := vidCode 2 } }.raise PWR_STAT_LEVELDONE).count PWR_COUNT_LEVELCHG

/-- Validity and trust are withdrawn, and holdover stands (R497). -/
def withdrawTime (s : State) : State :=
  let s := ((s.clear TB_TIMESTAT_VALIDREQ).wr TB_TIMESTAT_SOURCE 0).raise TB_TIMESTAT_HOLDOVER
  refreshTrust (s.clear SVU_TRUST_TRUSTREQ)

/-- The steps 1 to 6 of R497: the device then waits for the cut-over point. -/
def enterDeep (target : Nat) (s : State) : State :=
  let fromStandby := s.pwr.power == .standby
  let s := pwrEnd P_OK s
  let s := if fromStandby then s else standbySteps s
  let s := cxeDrain (zeroiseAll (stopMarch (chainPowerDown s)))
  let keep := decide (target = 2)
  let s := if keep then lowerToP2 s else s
  let s := answerAll 6 s
  let up := (List.range 4).filter fun n => s.flag (ETHn_STAT_LINK_UP n)
  let s := up.foldl (fun s n => ethLink n false s) { s with pwr := { s.pwr with links := up } }
  let s := if keep then saveRegs (withdrawTime s) else s
  setPower (.entering target fromStandby) PS_ENTERING s

/-- An enabled wake event ends an entry before its end or its cut-over point: SV and the Ethernet links start again, and in STANDBY a
level-type source that stands active wakes the device at once (R502, R503, R511). [DEDUCED, unsafe: notes/assumptions/50] -/
def abortEntry (code : Nat) (fromStandby : Bool) (s : State) : State :=
  let up := s.pwr.links
  let s := if fromStandby then setPower .standby PS_STANDBY s else setPower .active PS_ACTIVE (powerArray s)
  let s := up.foldl (fun s n => ethLink n true s) { s with pwr := { s.pwr with links := [] } }
  let s := aborted code (if issuing (s.coreState 6) && (s.saf.dogs.getD 6 {}).counting then dogRestart 6 s else s)
  match levelSource s with
  | some c => if fromStandby then leaveStandby c s else s
  | none => s

/-- A state request that passes its checks runs; a request for the state in force ends with OK (R494); a deferred level change does not
hold it up (R505). -/
def stateRequest (target : Nat) (s : State) : State :=
  if s.pwr.power = powerOf target then pwrEnd P_OK s
  else if target = 0 ∧ s.pwr.power = .exiting ∧ wokeNow s then pwrEnd P_OK s
  else if pwrBusy s then pwrEnd P_BUSY s
  else if s.pwr.power ≠ .active ∧ s.pwr.power ≠ .standby then pwrEnd P_BADSTATE s
  else if 2 ≤ target ∧ debugHalted s then pwrEnd P_DEBUG_HOLD s
  else if 2 ≤ target ∧ (levelSource s).isSome then pwrEnd P_WAKE_ACTIVE s
  else if target = 0 then pwrEnd P_OK (leaveStandby 6 s)
  else if target = 1 then enterStandby s
  else enterDeep target s

/-! ### Waking -/

/-- A register that lives through KEEPTIME: those of TB, TPG and TPE, CLK, PMX, PWR and the straps, D2SEEN, SAF_CFCFG,
SAF_CFSTAT and SAF_LOGWP; SAF_STAT, SAF_COUNT and SVU_DBG are masked beside (R498, R590, R446). -/
def keepsReg (a : Nat) : Bool :=
  let b := a / 65536
  a == SYS_STRAP || b == 0x1001 || b == 0x1002 || b == 0x1004 || b == 0x1017 || (b == 0x1005 && !(decide (0x800 ≤ a % 65536) && decide (a % 65536 < 0xC00)))
    || a == SAF_CFCFG || a == SAF_CFSTAT || a == SAF_LOGWP

/-- What KEEPTIME leaves of the state. [DEDUCED, unsafe: notes/assumptions/64] -/
def keeptimeBase (s : State) : State :=
  let s' : State :=
    { regs := s.regs.filter fun c => keepsReg c.1
      mem := s.mem.filter fun c => keptMem c.1
      memc := { confAt := s.ticks, repairs := s.memc.repairs, single := s.memc.single.filter keptMem, double := s.memc.double.filter keptMem }
      nvs := { loadCnt := s.nvs.loadCnt, dbgCnt := s.nvs.dbgCnt, otp := s.nvs.otp, logWp := s.nvs.logWp, worn := s.nvs.worn }
      saf := { newest := s.saf.newest, copies := s.saf.copies, failing := s.saf.failing, faultTicks := s.saf.faultTicks,
               fromReset := s.saf.fromReset, okTicks := s.saf.okTicks, freqFrom := s.saf.freqFrom, judged := s.saf.judged }
      pwr := s.pwr, tb := s.tb, clk := s.clk, pls := { tpg := s.pls.tpg }
      straps := s.straps, ticks := s.ticks, freeCount := s.freeCount, pending := s.pending }
  let s' := ((s'.wr SAF_STAT_CLKFAULT (s.rd SAF_STAT_CLKFAULT)).wr SAF_STAT_CFSTART (s.rd SAF_STAT_CFSTART)).wr SAF_STAT_CFEND (s.rd SAF_STAT_CFEND)
  (s'.wr SAF_COUNT_CF (s.rd SAF_COUNT_CF)).wr SVU_DBG_D2SEEN (s.rd SVU_DBG_D2SEEN)

/-- OTP's registers are loaded, but for those of CLK, which KEEPTIME keeps. -/
def loadOtpKept (s : State) : State :=
  let s' := loadOtp s
  let keep := [CLK_REFCFG, CLK_DTW] ++ (List.range 32).map CLK_BANDk
  keep.foldl (fun (s' : State) a => s'.setReg a (s.reg a)) s'

/-- A wake from KEEPTIME (R499). -/
def wakeKeeptime (code : Nat) (s : State) : State :=
  let s := recordWake code s
  let s := { s with pwr := { s.pwr with switching := 0, links := [] } }
  let s := applyRepairs (showCounters (loadOtpKept s))
  let s := s.wr HST_I2CCFG_ADDR (0x58 + s.rd SYS_STRAP_I2CADDR)
  let s := loadMirror (restoreRegs s)
  let s := (setPower .active PS_ACTIVE s).raise PWR_STAT_WOKE |>.count PWR_COUNT_WAKES
  refreshTrust (bootStart s)

/-- The end of a wake from DEEP: the sequence of a cold reset (R500). -/
def endDeep (s : State) : State :=
  ((setPower .active PS_ACTIVE (coldReset true s)).raise PWR_RSTCAUSE_DEEPWAKE).raise PWR_STAT_WOKE |>.count PWR_COUNT_WAKES

/-- A wake from DEEP drives CORE_EN high, and waits PWR_CFG.COREUP x 10 µs (R500). -/
def wakeDeep (code : Nat) (s : State) : State :=
  if s.pwr.coreUp.isSome then recordLower code s
  else
    let s := recordWake code s
    { s with pwr := { s.pwr with coreEn := true, coreUp := some (s.rd PWR_CFG_COREUP * 6000) } }

/-- A tick of a wake from DEEP. -/
def deepTick (s : State) : State :=
  match s.pwr.coreUp with
  | none => s
  | some n => if n ≤ 1 then endDeep s else { s with pwr := { s.pwr with coreUp := some (n - 1) } }

/-- A wake event of an enabled source (R502, R503); the I²C address wakes from KEEPTIME and DEEP only, and while the domains switch off
every event is lost. -/
def wakeEvent (code : Nat) (s : State) : State :=
  if !s.pwr.supplied ∨ 0 < s.pwr.switching then s
  else
    match s.pwr.power with
    | .standby => if code = 3 then s else leaveStandby code s
    | .entering t fromStandby => if t = 1 ∧ code = 3 then s else abortEntry code fromStandby s
    | .keeptime => wakeKeeptime code s
    | .deep => wakeDeep code s
    | .active => recordLower code s
    | .exiting => if code = 3 then s else recordLower code s

/-- A level-type source that stands active acts for as long as it does (R502). -/
def levelWake (s : State) : State := match levelSource s with | some code => wakeEvent code s | none => s

/-- The always-on cycles in which the domains switch off (R497). -/
def SWITCH_CYCLES : Nat := 4

/-- The cut-over point (R497, R503): the domains switch off during the next 4 always-on cycles, and in DEEP the regulator takes its
mode (R501). -/
def cutover (s : State) : State :=
  match s.pwr.power with
  | .entering 2 _ =>
    let s := setPower .keeptime PS_ACTIVE (keeptimeBase s)
    { s with pwr := { s.pwr with switching := SWITCH_CYCLES } }
  | .entering 3 _ =>
    let s := coldBase true s
    { s with pwr := { s.pwr with power := .deep, coreEn := false, switching := SWITCH_CYCLES, lowMode := s.flag PWR_CFG_AONLP } }
  | _ => s

/-- An always-on cycle of a cut-over: at the end of the last one the level-type sources are sampled (R503). -/
def switchCycle (s : State) : State :=
  match s.pwr.switching with
  | 0 => s
  | k + 1 =>
    let s := { s with pwr := { s.pwr with switching := k } }
    if k = 0 then levelWake s else s

/-- What the next tick ends: a STANDBY entry or an exit from STANDBY. -/
def powerTick (s : State) : State :=
  match s.pwr.power with
  | .entering 1 _ => endStandby s
  | .exiting => endExit s
  | _ => s

/-- The level of the WAKE ball. -/
def wakePin (b : Bool) (s : State) : State :=
  let s := { s with pwr := { s.pwr with wakePin := b } }
  if s.flag PWR_WAKEEN_WAKE && wakePinActive s then wakeEvent 1 s else s

/-- The real-time alarm. -/
def rtcAlarm (s : State) : State := if s.flag PWR_WAKEEN_RTC && alarmActive s then levelWake s else s

/-- An EV0 edge held for two always-on cycles. -/
def ev0Edge (falling : Bool) (s : State) : State :=
  let e := s.rd PWR_WAKECFG_EV0EDGE
  let sel := decide (2 ≤ e) || (e == 1) == falling
  if s.flag PWR_WAKEEN_EV0 && sel then wakeEvent 4 s else s

/-- A DBGREQ rising edge held for two always-on cycles: not in DEPLOYED. -/
def dbgReq (s : State) : State := if s.flag PWR_WAKEEN_DBGREQ && otpLcs s != DEPLOYED then wakeEvent 5 s else s

/-! ### Supplies and resets -/

/-- Power is lost: the word write in progress leaves the old content, the new one or an uncorrectable word, and those behind it
have not begun (R474). [DESIGN CHOICE, unsafe: notes/assumptions/24] -/
def cutWrites (s : State) : State :=
  match s.nvs.queue with
  | [] => s
  | (a, old) :: rest =>
    let (k, s) := (rest.reverse.foldl (fun (s : State) (w, o) => s.setLE w 8 o) s).fresh 2
    if k = 0 then s
    else if k = 1 then s.setLE a 8 old
    else { s with memc := { s.memc with double := s.memc.double ++ [a] } }

/-- The always-on domain and every block as VDD_AON_IN finds them: only the nonvolatile store, OTP and the balls hold
anything. -/
def unsupplied (s : State) : State :=
  let s := cutWrites s
  { mem := s.mem.filter fun c => decide (0x06000000 ≤ c.1) && decide (c.1 < 0x06400000)
    memc := { confAt := s.ticks, repairs := s.memc.repairs, single := s.memc.single.filter fun a => decide (0x06000000 ≤ a) && decide (a < 0x06400000),
              double := s.memc.double.filter fun a => decide (0x06000000 ≤ a) && decide (a < 0x06400000) }
    nvs := { loadCnt := s.nvs.loadCnt, dbgCnt := s.nvs.dbgCnt, otp := s.nvs.otp, logWp := s.nvs.logWp, worn := s.nvs.worn }
    straps := s.straps, freeCount := s.freeCount, ticks := s.ticks, pending := s.pending
    pwr := { wakePin := s.pwr.wakePin, power := .deep, coreEn := false, supplied := false } }

/-- VDD_AON_IN is applied: the PWR registers take their reset values, and CORE_EN rises (R506, R572). -/
def powerUp (s : State) : State :=
  if s.pwr.supplied then s else { s with pwr := { s.pwr with supplied := true, coreEn := true } }

/-- A cold reset whose supplies stand (R374, R572). -/
def supplyReset (s : State) : State := if s.pwr.supplied then coldReset false s else s

/-- A cold reset with its cause; none without VDD_AON_IN. -/
def resetIf (cause : Fld) (s : State) : State := if s.pwr.supplied then resetBy cause s else s

/-! ### Registers -/

/-- Who may write PWR_CMD and PWR_PERF (R494). -/
def mayState (init : Nat) : Bool := init == 6 || init == 10 || init == 11
def mayLevel (init : Nat) : Bool := init == 4 || init == 5 || mayState init

/-- PWR_CMD.TARGET is written. -/
def writeTarget (init target : Nat) (s : State) : State :=
  guardW (mayState init) init PWR_CMD OWNER (fun s => if target < 4 then stateRequest target s else s) s

/-- PWR_PERF.TARGET is written. -/
def writePerf (init lv : Nat) (s : State) : State := guardW (mayLevel init) init PWR_PERF OWNER (levelRequest lv) s

/-- A write of a PWR register. -/
def pwrWrite (init a : Nat) (v : Word) (s : State) : State :=
  if a = PWR_CMD then writeTarget init (PWR_CMD_TARGET.of v) s
  else if a = PWR_PERF then writePerf init (PWR_PERF_TARGET.of v) s
  else
    let s := s.typed a v
    if s.pwr.power = .active then s else levelWake s

/-! ### Meanings -/

/-- LEVEL_CHANGE (R491): a write of PWR_PERF.TARGET. -/
def execLevelChange (init : Init) (target : Fin 4) (s : State) : Host.Outcome State Fault Refusal := done (asAccess init PWR_PERF true (writePerf init target) s)

/-- STANDBY_ENTRY (R495): a write of PWR_CMD.TARGET = STANDBY. -/
def execStandbyEntry (init : Init) (s : State) : Host.Outcome State Fault Refusal := done (asAccess init PWR_CMD true (writeTarget init 1) s)

/-- STANDBY_EXIT (R496): a write of PWR_CMD.TARGET = ACTIVE. -/
def execStandbyExit (init : Init) (s : State) : Host.Outcome State Fault Refusal := done (asAccess init PWR_CMD true (writeTarget init 0) s)

/-- KEEPTIME_ENTRY (R497). -/
def execKeeptimeEntry (init : Init) (s : State) : Host.Outcome State Fault Refusal := done (asAccess init PWR_CMD true (writeTarget init 2) s)

/-- DEEP_ENTRY (R497). -/
def execDeepEntry (init : Init) (s : State) : Host.Outcome State Fault Refusal := done (asAccess init PWR_CMD true (writeTarget init 3) s)

/-- CUTOVER (R497). -/
def execCutover (s : State) : Host.Outcome State Fault Refusal := done (cutover s)

/-- WAKE_PIN (R502): the level that the ball takes. -/
def execWakePin (level : Bool) (s : State) : Host.Outcome State Fault Refusal := done (wakePin level s)

/-- RTC_ALARM (R502). -/
def execRtcAlarm (s : State) : Host.Outcome State Fault Refusal := done (rtcAlarm s)

/-- EV0_WAKE_EDGE (R502). -/
def execEv0WakeEdge (falling : Bool) (s : State) : Host.Outcome State Fault Refusal := done (ev0Edge falling s)

/-- DBGREQ_WAKE (R502). -/
def execDbgreqWake (s : State) : Host.Outcome State Fault Refusal := done (dbgReq s)

/-- POWER_UP (R572). -/
def execPowerUp (s : State) : Host.Outcome State Fault Refusal := done (powerUp s)

/-- COLD_RESET (R374). -/
def execColdReset (s : State) : Host.Outcome State Fault Refusal := done (supplyReset s)

/-- RESET_PIN (R581). -/
def execResetPin (s : State) : Host.Outcome State Fault Refusal := done (resetIf PWR_RSTCAUSE_PIN s)

/-- BROWNOUT (R501). -/
def execBrownout (s : State) : Host.Outcome State Fault Refusal := done (resetIf PWR_RSTCAUSE_BROWNOUT s)

/-- CRYSTAL_SWITCHOVER (R577). -/
def execCrystalSwitchover (s : State) : Host.Outcome State Fault Refusal :=
  done (if s.pwr.supplied then { s with pwr := { s.pwr with crystal := true } } else s)

/-- VDD_AON_IN_LOSS (R572). -/
def execVddAonInLoss (s : State) : Host.Outcome State Fault Refusal := done (unsupplied s)

end Sys2Proof.Machine
end

