-- ==== Sys2Proof/Machine/Faults.lean ====
section
/-!
DEFINITION. Faults and Health but for the clock fault and the log (R511 to R527), the registers of the cores (R250, R253,
R265 to R267) and the trace registers (R567).
-/

namespace Sys2Proof.Machine

/-! ### Watchdogs (R511, R512) -/

/-- A kick restarts the count of a watchdog that counts. [DEDUCED, unsafe: notes/assumptions/51] -/
def dogKick (n : Nat) (s : State) : State :=
  if (s.saf.dogs.getD n {}).counting then dogRestart n s else s

/-- The count of core `n` has reached its PERIOD. -/
def dogExpires (n : Nat) (s : State) : State := if (s.saf.dogs.getD n {}).counting then faultCore n 2 s else s

/-- A write of SAF_WDCFGn: EN stays once it is set, and setting it begins a count in a core that issues (R511).
[DEDUCED, unsafe: notes/assumptions/51] -/
def dogConfig (n : Nat) (v : Word) (s : State) : State :=
  let was := s.flag (SAF_WDCFGn_EN n)
  let s := s.typed (SAF_WDCFGn n) v
  if was then s.raise (SAF_WDCFGn_EN n)
  else if s.flag (SAF_WDCFGn_EN n) && issuing (s.coreState n) && clocked s n then dogRestart n s
  else s

/-! ### Supplies and temperature (R514, R515) -/

/-- The nominal VDD_CORE of a level in mV (R490). -/
def coreNominal (lv : Nat) : Nat := if lv = 0 then 850 else if lv = 1 then 780 else 720

/-- A sample outside the limits of its supply; those of VDD_CORE are offsets from the nominal of the level in force. -/
def outOfLimits (s : State) (k mv : Nat) : Bool :=
  let lo := s.rd (SAF_VLIMk_LO k)
  let hi := s.rd (SAF_VLIMk_HI k)
  if k = 0 then decide (mv + lo < coreNominal s.level) || decide (coreNominal s.level + hi < mv)
  else decide (mv < lo) || decide (hi < mv)

/-- A sample of supply `k`: the fourth in a row outside its limits is an excursion. -/
def supplySample (s : State) (kv : Nat × Nat) : State :=
  let (k, mv) := kv
  let bad := outOfLimits s k mv && !(k == 0 && s.flag PWR_STAT_LEVELBUSY)
  let run := if bad then s.saf.runs.getD k 0 + 1 else 0
  let s := { s with saf := { s.saf with runs := s.saf.runs.setIfInBounds k run } }.wr (SAF_VOLTk_MV k) mv
  if run = 4 then logUnit 0x30 1 k (k + mv * 65536) ((s.raise SAF_STAT_VEXC).count SAF_COUNT_VEXC) else s

/-- A sample of VDD_CORE against the core floor: the fourth in a row below 650 mV orders a cold reset. -/
def floorSample (mv : Nat) (s : State) : State :=
  let run := if mv < 650 then s.saf.floorRun + 1 else 0
  let s := { s with saf := { s.saf with floorRun := run } }
  if run = 4 then resetBy PWR_RSTCAUSE_SAFRST (logUnit 0x31 2 0 (mv * 65536) s) else s

/-- The six supplies are sampled, while SAF has power (R489, R590). -/
def sampleSupplies (mv : List Nat) (s : State) : State :=
  if !hostOn s then s else floorSample (mv.headD 0) (((List.range 6).zip mv).foldl supplySample s)

/-- The hottest of four readings of 12 bits, and its sensor. -/
def hottest (t : List Nat) : Nat × Int :=
  ((List.range 4).zip t).foldl (fun best (k, v) => if best.2 < signed 12 v then (k, signed 12 v) else best) (0, -2048)

/-- The four readings as SAF_TEMP holds them. -/
def tempList (s : State) : List Nat := (List.range 4).map fun k => s.rd SAF_TEMP_T >>> (12 * k) % 4096

/-- DATA of a temperature entry. -/
def tempData (h : Nat × Int) : Nat := h.1 + unsigned 12 h.2 * 65536

/-- TCRIT is reached: THOT rises, STANDBY is requested where THERMSTBY asks for it, and the entry carries the RESULT. -/
def tempCritical (h : Nat × Int) (s : State) : State :=
  let s := s.raise SAF_STAT_THOT
  if s.flag SAF_CTRL_THERMSTBY then
    let s := stateRequest 1 s
    logUnit 0x33 2 h.1 (tempData h + s.rd PWR_STAT_RESULT * 2 ^ 32) s
  else logUnit 0x33 2 h.1 (tempData h) s

/-- The die sensors are read, while SAF has power (R489, R590): an entry is written when a limit is reached from below, and
when a status bit that stands at 0 is set.
[DEDUCED, unsafe: notes/assumptions/41] -/
def sampleTemps (t : List Nat) (s : State) : State :=
  if !hostOn s then s else
  let before := (hottest (tempList s)).2
  let h := hottest t
  let s := s.wr SAF_TEMP_T ((t.getD 0 0) + (t.getD 1 0) * 2 ^ 12 + (t.getD 2 0) * 2 ^ 24 + (t.getD 3 0) * 2 ^ 36)
  let warned := s.flag SAF_STAT_TWARN
  let hot := s.flag SAF_STAT_TCRIT
  let warn := signed 12 (s.rd SAF_TLIM_TWARN)
  let crit := signed 12 (s.rd SAF_TLIM_TCRIT)
  let s := if h.2 ≤ crit - 32 then s.clear SAF_STAT_THOT else s
  let s := if warn ≤ h.2 then
      let s := s.raise SAF_STAT_TWARN
      if before < warn || !warned then logUnit 0x32 1 h.1 (tempData h) s else s
    else s
  if crit ≤ h.2 then
    let s := s.raise SAF_STAT_TCRIT
    if !s.flag SAF_STAT_THOT then tempCritical h s else if hot then s else logUnit 0x33 2 h.1 (tempData h) s
  else s

/-! ### Firmware entries (R522) -/

/-- A write of SAF_SWLOG. -/
def swLog (init : Nat) (v : Word) (s : State) : State :=
  guardW (init == 4 || init == 5 || init == 6) init SAF_SWLOG OWNER
    (logEvent (0x8000 + SAF_SWLOG_CODE.of v) (SAF_SWLOG_SEV.of v) init 0 (SAF_SWLOG_DATA.of v)) s

/-- A write of a SAF register (R526). -/
def safWrite (init a : Nat) (v : Word) (s : State) : State :=
  let fw := init == 4 || init == 5 || init == 6
  let off := a - 0x10160000
  if a = SAF_SWLOG then swLog init v s
  else if 0x200 ≤ off ∧ off < 0x238 then guardW fw init a OWNER (dogConfig ((off - 0x200) / 8) v) s
  else if 0x240 ≤ off ∧ off < 0x278 then
    let n := (off - 0x240) / 8
    guardW (init == n) init a OWNER (fun s => if (SAF_WDKICKn_KICK n).of v = 1 then dogKick n s else s) s
  else if a = SAF_CTRL ∨ a = SAF_CFCFG ∨ a = SAF_TLIM ∨ a = SAF_NMIMASK ∨ (0x140 ≤ off ∧ off < 0x170) then
    guardW fw init a OWNER (fun s => s.typed a v) s
  else s.typed a v

/-! ### Pins (R523, R524) -/

/-- A ball as an owned unit. -/
def pinUnit (n : Nat) : Owned := ⟨PMX_PINn n, n, true⟩

/-- Whether a FUNC may stand at a ball: no reserved code, an input from one ball only, EV0 from PIO0 only. -/
def funcOk (s : State) (n f : Nat) : Bool :=
  decide (f < 30) && !(f == 17 && n != 0)
    && !(decide (17 ≤ f) && decide (f < 25) && (List.range 48).any fun m => m != n && s.rd (PMX_PINn_FUNC m) == f)

/-- FUNC and OUT of a ball are written. -/
def pinFunc (n : Nat) (v : Word) (s : State) : State :=
  if funcOk s n ((PMX_PINn_FUNC n).of v) then
    (s.wr (PMX_PINn_FUNC n) ((PMX_PINn_FUNC n).of v)).wr (PMX_PINn_OUT n) ((PMX_PINn_OUT n).of v)
  else s.raise PMX_STAT_CFGERR

/-- A write of PMX_PINn: the ownership bits first, then FUNC and OUT where the writer owns the ball before or after them; one whose FUNC
may not stand is ignored whole; a write without ownership bits by any other initiator gets an error response (R523, R524).
[DEDUCED, unsafe: notes/assumptions/66] -/
def pinWrite (init n : Nat) (v : Word) (s : State) : State :=
  let frel := (PMX_PINn_FREL n).of v = 1
  let rel := (PMX_PINn_RELEASE n).of v = 1
  let claim := (PMX_PINn_CLAIM n).of v = 1
  if (frel || rel || claim) && !funcOk s n ((PMX_PINn_FUNC n).of v) then s.raise PMX_STAT_CFGERR
  else if frel || rel || claim then
    let s' := ownerWrite init (pinUnit n) frel rel claim s
    if owns s init (pinUnit n) || owns s' init (pinUnit n) then pinFunc n v s' else s'
  else guardW (owns s init (pinUnit n)) init (PMX_PINn n) OWNER (pinFunc n v) s

/-- A write of a PMX register. -/
def pmxWrite (init a : Nat) (v : Word) (s : State) : State :=
  if a < PMX_PINn 48 then pinWrite init ((a - PMX_PINn 0) / 8) v s else s.typed a v

/-! ### Core registers -/

/-- A write of KCn_CTRL; HALTREQ and STEP are the debug port's alone, and STEP is carried out by the caller (R250, R252,
R253). -/
def kcCtrl (init n : Nat) (v : Word) (s : State) : State :=
  let s := if (KCn_CTRL_RESET n).of v = 1 then resetCore n s else s
  let s := if init = 14 then haltReq n ((KCn_CTRL_HALTREQ n).of v = 1) s else s
  let s := if (KCn_CTRL_START n).of v = 1 then startCore n s else s
  if (KCn_CTRL_NMI n).of v = 1 then raiseNmi n s else s

/-- A write of a KC register: the fixed routes and a route to core 7 keep what they hold (R249, R267).
[DEDUCED, unsafe: notes/assumptions/19] -/
def kcWrite (init a : Nat) (v : Word) (s : State) : State :=
  if KC_IRTs 0 ≤ a then
    let src := (a - KC_IRTs 0) / 8
    if src < 4 ∨ 30 ≤ src ∨ (KC_IRTs_CORE src).of v = 7 then s else s.typed a v
  else
    let n := (a - 0x100E0000) / 0x1000
    if a = KCn_CTRL n then kcCtrl init n v s
    else if a = KCn_DBSET n then s.wr (KCn_DBELL_BITS n) (s.rd (KCn_DBELL_BITS n) ||| (KCn_DBSET_BITS n).of v)
    else s.typed a v

/-! ### Trace registers (R567) -/

/-- The debug port at D1 or above. -/
def mayTrace (s : State) (init : Nat) : Bool := init == 14 && decide (1 ≤ s.rd SVU_DBG_LEVEL)

/-- A write of DBG_CTRL; setting TREN begins a trace. [DEDUCED, unsafe: notes/assumptions/53] -/
def traceCtrl (v : Word) (s : State) : State :=
  let was := s.flag DBG_CTRL_TREN
  let s := s.typed DBG_CTRL v
  if !was && s.flag DBG_CTRL_TREN then { (s.wr DBG_TRWP_WP 0).wr DBG_TRWP_LOST 0 with dbgStart := s.ticks } else s

/-- A write of a DBG register. -/
def dbgRegWrite (init a : Nat) (v : Word) (s : State) : State :=
  guardW (mayTrace s init) init a OWNER (fun s => if a = DBG_CTRL then traceCtrl v s else s.typed a v) s

/-! ### Meanings -/

/-- WDOG_KICK (R511): a write of KICK = 1 to SAF_WDKICKn. -/
def execWdogKick (init : Init) (core : CoreId) (s : State) : Host.Outcome State Fault Refusal :=
  done (asAccess init (SAF_WDKICKn core) true (safWrite init (SAF_WDKICKn core) 1) s)

/-- SUPPLY_SAMPLE (R514): VDD_CORE, VDD_SDS, VDDH_SDS, VDD_PLL, VDD_IO18 and VDD_IO33 in mV. -/
def execSupplySample (mv : Vector (BitVec 16) 6) (s : State) : Host.Outcome State Fault Refusal :=
  done (sampleSupplies (mv.toList.map (·.toNat)) s)

/-- TEMP_SAMPLE (R515): the four readings, signed, in 1/16 °C. -/
def execTempSample (t : Vector (BitVec 12) 4) (s : State) : Host.Outcome State Fault Refusal :=
  done (sampleTemps (t.toList.map (·.toNat)) s)

/-- SWLOG_WRITE (R522). -/
def execSwlogWrite (init : Init) (value : Word) (s : State) : Host.Outcome State Fault Refusal := done (asAccess init SAF_SWLOG true (swLog init value) s)

/-- PIN_CLAIM (R524). -/
def execPinClaim (init : Init) (pin : Fin 48) (s : State) : Host.Outcome State Fault Refusal :=
  done (asAccess init (PMX_PINn pin) true (ownerWrite init (pinUnit pin) false false true) s)

/-- PIN_RELEASE (R524). -/
def execPinRelease (init : Init) (pin : Fin 48) (s : State) : Host.Outcome State Fault Refusal :=
  done (asAccess init (PMX_PINn pin) true (ownerWrite init (pinUnit pin) false true false) s)

/-- PIN_FORCE_RELEASE (R524). -/
def execPinForceRelease (init : Init) (pin : Fin 48) (s : State) : Host.Outcome State Fault Refusal :=
  done (asAccess init (PMX_PINn pin) true (ownerWrite init (pinUnit pin) true false false) s)

/-- KC_START (R250). -/
def execKcStart (core : CoreId) (s : State) : Host.Outcome State Fault Refusal := done (whenOn (KCn_CTRL core) (startCore core) s)

/-- KC_RESET (R252). -/
def execKcReset (core : CoreId) (s : State) : Host.Outcome State Fault Refusal := done (whenOn (KCn_CTRL core) (resetCore core) s)

/-- KC_NMI (R241). -/
def execKcNmi (core : CoreId) (s : State) : Host.Outcome State Fault Refusal := done (whenOn (KCn_CTRL core) (raiseNmi core) s)

/-- DBG_TRACE_ENABLE (R567): a write of DBG_CTRL that sets TREN. -/
def execDbgTraceEnable (init : Init) (wrap : Bool) (s : State) : Host.Outcome State Fault Refusal :=
  done (asAccess init DBG_CTRL true (dbgRegWrite init DBG_CTRL (if wrap then 3 else 1)) s)

end Sys2Proof.Machine
end

