-- ==== Sys2Proof/Machine/Ic.lean ====
section
/-!
DEFINITION. The registers of the interconnect: the firewall's own (R469, R470) and the error log as it is read (R472).
-/

namespace Sys2Proof.Machine

/-! ### Firewall registers -/

/-- Whether an address is a firewall register. -/
def isFwReg (a : Nat) : Bool :=
  a == IC_FWDEF || a == IC_FWCTRL || (decide (IC_FWn_BASE 0 ≤ a) && decide (a < IC_FWn_BASE 32))

/-- SV, and the debug port at D3, may write the firewall. -/
def mayFirewall (s : State) (init : Nat) : Bool := init == 6 || fwExempt s init

/-- A write of a firewall register. -/
def fwWrite (init a : Nat) (v : Word) (s : State) : State :=
  guardW (mayFirewall s init) init a OWNER (guardW (!s.flag IC_FWCTRL_LOCK) init a FIREWALL (fun s => s.typed a v)) s

/-- A write of an IC register. -/
def icWrite (init a : Nat) (v : Word) (s : State) : State := if isFwReg a then fwWrite init a v s else s.typed a v

/-! ### The error log -/

/-- The address that IC_ERRLOG shows. -/
def errLogValue (s : State) : Nat := match s.bus.errors with | e :: _ => e.addr | [] => 0

/-- IC_ERRINFO of an entry. -/
def errWord (e : ErrEntry) : Nat :=
  2 ^ 15 + (if e.ovfBefore then 2 ^ 14 else 0) + (if e.write then 2 ^ 13 else 0) + e.init % 16 * 2 ^ 8 + e.cause % 32

/-- The entry that an initiator has latched. [DEDUCED, unsafe: notes/assumptions/20] -/
def latchedError (s : State) (init : Nat) : Option ErrEntry := (s.bus.infoLatch.find? fun p => p.1 == init).map (·.2)

/-- What IC_ERRINFO shows an initiator. -/
def errInfoValue (s : State) (init : Nat) : Nat := match latchedError s init with | some e => errWord e | none => 0

/-- A read of IC_ERRLOG latches the oldest entry's information for the initiator. -/
def errLogRead (init : Nat) (s : State) : State :=
  let keep := s.bus.infoLatch.filter fun p => p.1 != init
  { s with bus := { s.bus with infoLatch := match s.bus.errors with | e :: _ => (init, e) :: keep | [] => keep } }

/-- A read of IC_ERRINFO removes the entry that was latched. [DEDUCED, unsafe: notes/assumptions/20] -/
def errInfoRead (init : Nat) (s : State) : State :=
  match latchedError s init with
  | none => s
  | some e =>
    { s with bus := { s.bus with errors := s.bus.errors.erase e, infoLatch := s.bus.infoLatch.filter fun p => p.1 != init } }

/-- The state with what an access has returned: its cause, 0 for none, and its bytes. -/
def returned (cause : Nat) (d : List Byte) (s : State) : State := { s with hst := { s.hst with cause := cause, data := d } }

/-! ### Meanings -/

/-- A transaction of an initiator ends unanswered: its error response is logged, and where it is the oldest outstanding access of a core to
that address, that access gets it (R235, R468). [DESIGN CHOICE, safe: notes/assumptions/7] -/
def timedOut (init addr : Nat) (write : Bool) (s : State) : State :=
  let s := icError init addr write TIMEOUT s
  match (s.core init).out.find? fun x => x.addr == addr && x.dest.isNone == write with
  | none => s
  | some x =>
    let out := (s.core init).out.erase x
    let s := answer init { x with cause := TIMEOUT, errAddr := addr } (s.setCore init { s.core init with out := out })
    haltDue init (takeAsync init s)

/-- IC_TIMEOUT (R468): a transaction of an initiator has not been answered. [DESIGN CHOICE, safe: notes/assumptions/7] -/
def execIcTimeout (init : Init) (addr : BitVec 32) (write : Bool) (s : State) : Host.Outcome State Fault Refusal :=
  done (returned TIMEOUT [] (timedOut init addr.toNat write s))

/-- IC_ERRLOG_READ (R472). -/
def execIcErrlogRead (init : Init) (s : State) : Host.Outcome State Fault Refusal :=
  done (asAccess init IC_ERRLOG false (fun s => returned 0 (toLE 6 (errLogValue s)) (errLogRead init s)) s)

/-- IC_ERRINFO_READ (R472). -/
def execIcErrinfoRead (init : Init) (s : State) : Host.Outcome State Fault Refusal :=
  done (asAccess init IC_ERRINFO false (fun s => returned 0 (toLE 6 (errInfoValue s init)) (errInfoRead init s)) s)

/-- FIREWALL_LOCK (R470): a write of 1 to IC_FWCTRL.LOCK. -/
def execFirewallLock (init : Init) (s : State) : Host.Outcome State Fault Refusal := done (asAccess init IC_FWCTRL true (fwWrite init IC_FWCTRL 1) s)

end Sys2Proof.Machine
end

