-- ==== Sys2Proof/Machine/Hst.lean ====
section
/-!
DEFINITION. Host Access: the byte links and their rings (R540 to R545), the mailboxes and MSI-X (R535 to R539), the
time-of-day strings (R351, R556) and the HST registers (R557, R558).  Transfers that reach any address are in Bus.
-/

namespace Sys2Proof.Machine

/-- The initiators of the host links: PCIe, and the bridge of the byte links (R466). -/
def PCIE_INIT : Nat := 10
def BRIDGE_INIT : Nat := 11

/-! ### Rings (R540) -/

/-- Whether link `j` is enabled: 0 SPI, 1 UART0, 2 UART1, 3 I²C. -/
def linkOn (s : State) (j : Nat) : Bool := hostOn s && s.bit HST_CTRL_LINKEN j

/-- Bytes in the receive and in the transmit ring of a link. -/
def rxLevel (s : State) (j : Nat) : Nat := (s.rd (HST_Lj_RXWP_INDEX j) + 65536 - s.rd (HST_Lj_RXRP_INDEX j)) % 65536
def txLevel (s : State) (j : Nat) : Nat := (s.rd (HST_Lj_TXWP_INDEX j) + 65536 - s.rd (HST_Lj_TXRP_INDEX j)) % 65536

/-- HST_STAT.RXNE. -/
def rxneMap (s : State) : Nat := (List.range 4).foldl (fun a j => a + if rxLevel s j = 0 then 0 else 2 ^ j) 0

/-- The address of a byte of a ring. -/
def ringByte (base index : Nat) : Nat := base * 4096 + index % 4096

/-- A received byte: stored, and RXWP advanced, or discarded where the ring is full.  Whether it was taken. -/
def rxPush (j : Nat) (b : Byte) (s : State) : Bool × State :=
  if rxLevel s j = 4096 then (false, s.raise HST_STAT_RXOVF)
  else
    let a := ringByte (s.rd (HST_Lj_RXBASE_BASE j)) (s.rd (HST_Lj_RXWP_INDEX j))
    let s := (memWrite BRIDGE_INIT a [b] s).2.count (HST_Lj_RXWP_INDEX j)
    (true, { s with hst := { s.hst with rxAt := s.hst.rxAt.setIfInBounds j s.ticks } })

/-- Bytes received one after the other. -/
def rxBytes (j : Nat) (bs : List Byte) (s : State) : State := bs.foldl (fun s b => (rxPush j b s).2) s

/-- One byte leaves a transmit ring that is not empty. -/
def txPop (j : Nat) (s : State) : Byte × State :=
  let a := ringByte (s.rd (HST_Lj_TXBASE_BASE j)) (s.rd (HST_Lj_TXRP_INDEX j))
  let (_, d, s) := memRead BRIDGE_INIT a 1 s
  let s := s.count (HST_Lj_TXRP_INDEX j)
  (d.headD 0, if txLevel s j = 0 then s.raise HST_STAT_TXEMPTY else s)

/-- `n` bytes leave a transmit ring that holds them. -/
def txTake (j : Nat) : Nat → State → List Byte × State
  | 0, s => ([], s)
  | n + 1, s =>
    let (b, s) := txPop j s
    let (t, s) := txTake j n s
    (b :: t, s)

/-- A read of a transmit ring by a host that clocks `n` bytes: the count, then up to that many bytes, then `fill`; the bytes
beyond the count are not consumed (R542, R544). -/
def txRead (j n : Nat) (fill : Byte) (s : State) : List Byte × State :=
  let have_ := if linkOn s j then txLevel s j else 0
  let k := min have_ (n - 2)
  let (bs, s) := txTake j k s
  ((toLE 2 have_ ++ bs ++ List.replicate (n - 2 - k) fill).take n, s)

/-- SV queues bytes on a link, whole or not at all; whether they found room. -/
def txQueue (j : Nat) (bs : List Byte) (s : State) : Bool × State :=
  if 4096 < txLevel s j + bs.length then (false, s)
  else
    (true, bs.foldl (fun (s : State) b =>
      let a := ringByte (s.rd (HST_Lj_TXBASE_BASE j)) (s.rd (HST_Lj_TXWP_INDEX j))
      (memWrite 6 a [b] s).2.count (HST_Lj_TXWP_INDEX j)) s)

/-! ### Mailboxes and vectors (R537, R539) -/

/-- A length that a mailbox takes. -/
def mailLen (n : Nat) : Bool := decide (1 ≤ n) && decide (n ≤ 4096)

/-- The host posts a frame. -/
def mbinPost (len : Nat) (s : State) : State :=
  if s.flag HST_MBIN_FULL || !mailLen len then s.raise HST_STAT_CFGERR
  else ((s.wr HST_MBIN_LEN len).raise HST_MBIN_FULL).raise HST_STAT_MBIN

/-- SV releases the host's frame. -/
def mbinAck (s : State) : State := if s.flag HST_MBIN_FULL then raiseVector 2 (s.clear HST_MBIN_FULL) else s

/-- SV posts a frame. -/
def mboutPost (len : Nat) (s : State) : State :=
  if s.flag HST_MBOUT_FULL || !mailLen len then s.raise HST_STAT_CFGERR
  else raiseVector 0 ((s.wr HST_MBOUT_LEN len).raise HST_MBOUT_FULL)

/-- The host releases SV's frame. -/
def mboutAck (s : State) : State := if s.flag HST_MBOUT_FULL then (s.clear HST_MBOUT_FULL).raise HST_STAT_MBOUTFREE else s

/-- A write of a mailbox register writes ACK where it sets it, and LEN otherwise; one that sets ACK beside a LEN writes both (R558).
[DEDUCED, unsafe: notes/assumptions/66] -/
def mailWrite (init lenBy ackBy a : Nat) (ack : Bool) (len : Nat) (post : Nat → State → State) (take_ : State → State) (s : State) : State :=
  let wrong := (ack && init != ackBy) || ((!ack || len != 0) && init != lenBy)
  guardW (!wrong) init a OWNER (fun s => if ack then take_ s else post len s) s

/-- A write of HST_MBIN: PCIe posts, SV acknowledges (R558). -/
def mbinWrite (init : Nat) (v : Word) (s : State) : State :=
  mailWrite init PCIE_INIT 6 HST_MBIN (HST_MBIN_ACK.of v = 1) (HST_MBIN_LEN.of v) mbinPost mbinAck s

/-- A write of HST_MBOUT: SV posts, PCIe acknowledges. -/
def mboutWrite (init : Nat) (v : Word) (s : State) : State :=
  mailWrite init 6 PCIE_INIT HST_MBOUT (HST_MBOUT_ACK.of v = 1) (HST_MBOUT_LEN.of v) mboutPost mboutAck s

/-- A write of HST_MSIXTRIG. -/
def msixTrig (init v : Nat) (s : State) : State := if init < 7 ∧ 3 ≤ v then raiseVector v s else s

/-- Vectors whose message may leave now leave: those pending and not masked (R537). -/
def flushVectors (s : State) : State :=
  (List.range 64).foldl (fun (s : State) v =>
    if s.hst.pba.testBit v && vectorGoes s v then
      { s with hst := { s.hst with pba := s.hst.pba - 2 ^ v, vectors := s.hst.vectors ++ [v] } }
    else s) s

/-- The host sets Bus Master Enable, MSI-X Enable and Function Mask. -/
def pcieConfig (bme msix mask : Bool) (s : State) : State :=
  let s := { s with hst := { s.hst with mask := mask } }
  flushVectors ((s.put HST_PCISTAT_BME bme).put HST_PCISTAT_MSIXEN msix)

/-- The host writes BAR0: 32 bits, non-prefetchable, 512 MiB (R535). -/
def pcieBar (v : Nat) (s : State) : State := { s with hst := { s.hst with bar0 := v / 2 ^ 29 * 2 ^ 29 } }

/-- What a double word of the configuration space reads: the IDs, the class code with the revision, and BAR0 stand where PCI places them,
and the rest is open (R535). [PRESUMED, unsafe: notes/assumptions/54] -/
def pcieConfigRead (dword : Nat) (s : State) : Nat × State :=
  match dword with
  | 0 => (s.rd HST_PCIID_DEVICE * 2 ^ 16 + s.rd HST_PCIID_VENDOR, s)
  | 2 => (0x118000 * 2 ^ 8 + s.rd HST_PCIID_REVID, s)
  | 4 => (s.hst.bar0, s)
  | _ => s.fresh 32

/-- The mask bits of the MSI-X table at their reset value. -/
def maskVectors (s : State) : State := (List.range 64).foldl (fun (s : State) v => s.setBytes (0x10151000 + 16 * v + 12) [0]) s

/-- PERST_N or a hot reset (R538). -/
def pcieReset (s : State) : State :=
  let s := (s.clear HST_PCISTAT_BME).clear HST_PCISTAT_MSIXEN
  let s := maskVectors ((s.clear HST_MBIN_FULL).clear HST_MBOUT_FULL)
  { s with hst := { s.hst with pba := 0, mask := false, bar0 := 0 } }

/-- The link trains, or falls. -/
def pcieLink (up : Bool) (speed width : Nat) (s : State) : State :=
  if up then ((s.raise HST_STAT_LINKUP).wr HST_PCISTAT_SPEED speed).wr HST_PCISTAT_WIDTH width
  else
    let s := if s.flag HST_STAT_LINKUP then s.raise HST_STAT_PCIEDOWN else s
    ((s.clear HST_STAT_LINKUP).wr HST_PCISTAT_SPEED 0).wr HST_PCISTAT_WIDTH 0

/-! ### Time-of-day strings (R351, R556) -/

/-- A write of HST_TODu.LEN. [DEDUCED, unsafe: notes/assumptions/55] -/
def todQueue (u len : Nat) (s : State) : State :=
  if !(s.hst.tod.getD u []).isEmpty || decide (96 < len) then s
  else (s.wr (HST_TODu_LEN u) len).put (HST_TODu_QUEUED u) (len != 0)

/-- DELAY has passed at a tick since a paired edge left (R351). -/
def todDue (s : State) (tick : Nat) : Bool := s.pls.tod.any fun k => decide (k ≤ tick)

/-- The string starts where DELAY has passed since the paired edge left (R351); in KEEPTIME the pairing sends nothing and sets no
TODMISS (R498). [DEDUCED, unsafe: notes/assumptions/55] -/
def todStart (s : State) : State :=
  if !todDue s s.ticks then s
  else
    let s := { s with pls := { s.pls with tod := s.pls.tod.filter fun k => decide (s.ticks < k) } }
    let u := s.rd TPE_TODCFG_UART
    if !s.flag TPE_TODCFG_EN || !hostOn s then s
    else if s.flag (HST_TODu_QUEUED u) then
      let bs := s.bytes (0x10154000 + 0x80 * u) (s.rd (HST_TODu_LEN u))
      ({ s with hst := { s.hst with tod := s.hst.tod.setIfInBounds u bs } }.clear (HST_TODu_QUEUED u)).raise TPE_TODSTAT_TODSENT
    else s.raise TPE_TODSTAT_TODMISS

/-! ### Transfers -/

/-- The byte of SPI STATUS. -/
def spiStatusByte (s : State) : Byte :=
  let st := s.rd HST_BOOT_STATUS
  BitVec.ofNat 8 ((if s.hst.ready then 1 else 0) + (if st = BOOT_FAIL then 2 else 0) + (if st = BOOT_WAITHOST then 4 else 0)
    + (if txLevel s 0 ≠ 0 then 8 else 0) + (if s.hst.werr then 16 else 0))

/-- The balls are the SPI target: not while the boot ROM reads the flash over them (R532). -/
def spiOn (s : State) : Bool := hostOn s && !(s.rd HST_BOOT_STATUS == BOOT_RUNNING && s.rd HST_BOOT_BOOTSEL == 0)

/-- SPI STATUS (R541): the byte is returned, and WERR cleared. -/
def spiStatus (s : State) : State :=
  if !spiOn s then s else { returned 0 [spiStatusByte s] s with hst := { s.hst with cause := 0, data := [spiStatusByte s], werr := false } }

/-- SPI EMPW (R541). -/
def spiEmpw (bs : List Byte) (s : State) : State := if spiOn s && linkOn s 0 then rxBytes 0 bs s else s

/-- SPI EMPR of `n` bytes (R542). -/
def spiEmpr (n : Nat) (s : State) : State :=
  if !spiOn s then s
  else
    let (d, s) := txRead 0 n 0 s
    returned 0 d s

/-- A byte on a UART's line (R543). -/
def uartByte (u : Nat) (b : Byte) (framing brk : Bool) (s : State) : State :=
  if brk || !linkOn s (1 + u) then s
  else if framing then s.raise HST_STAT_UARTERR
  else (rxPush (1 + u) b s).2

/-- One character time of a UART in quarters of a tick: ten bits at 1.6 × 10^9 / DIVF Bd (R543). -/
def charQuarters (s : State) (u : Nat) : Nat := 15 * max 533 (s.rd (HST_UARTuCFG_DIVF u))

/-- The start instant of R351 is at most one character time away: of an edge that has left, or of the paired generator's next one
(R556). [DEDUCED, unsafe: notes/assumptions/55] -/
def startNear (s : State) (u : Nat) : Bool :=
  let g := s.rd TPE_TODCFG_TPG
  let c := charQuarters s u
  s.flag TPE_TODCFG_EN && s.rd TPE_TODCFG_UART == u &&
    (s.pls.tod.any (fun k => decide (4 * k ≤ 4 * s.ticks + c)) ||
      (leadReady s g &&
        decide (4 * firing s g (tpgNext s g) + (2400 * s.rd TPE_TODCFG_DELAY * s.rate : Nat) ≤ (4 * s.tb.now + c * s.rate : Nat))))

/-- A byte leaves a UART: of a time-of-day string that is being sent, else of the ring, which starts no byte from one character time
before a start instant (R540, R556). -/
def uartSent (u : Nat) (s : State) : State :=
  match s.hst.tod.getD u [] with
  | b :: rest => returned 0 [b] { s with hst := { s.hst with tod := s.hst.tod.setIfInBounds u rest } }
  | [] =>
    if linkOn s (1 + u) && txLevel s (1 + u) != 0 && !startNear s u then
      let (b, s) := txPop (1 + u) s
      returned 0 [b] s
    else s

/-- The code that stands for an address that I²C does not acknowledge. -/
def NACKED : Nat := 16

/-- The address wakes the device: in KEEPTIME and in DEEP, not while the domains switch off and not again while they switch on (R503,
R545); one that WAKEEN keeps from waking is not acknowledged. [DESIGN CHOICE, unsafe: notes/assumptions/50] -/
def i2cWakes (s : State) : Bool :=
  s.flag PWR_WAKEEN_I2C && s.pwr.supplied && s.pwr.switching == 0 &&
    (s.pwr.power == .keeptime || (s.pwr.power == .deep && s.pwr.coreUp.isNone))

/-- The address alone: it is acknowledged where it wakes or where the link is enabled (R545). -/
def i2cAddress (s : State) : State :=
  returned (if i2cWakes s || linkOn s 3 then 0 else NACKED) [] (if s.flag PWR_WAKEEN_I2C then wakeEvent 3 s else s)

/-- An I²C write transfer (R544, R545): what it returns is one byte for each data byte, 0 for ACK and 1 for NACK. -/
def i2cWrite (bs : List Byte) (s : State) : State :=
  if i2cWakes s then returned 0 (bs.map fun _ => 1) (wakeEvent 3 s)
  else if !linkOn s 3 then returned NACKED [] s
  else
    let (acks, s) := bs.foldl (fun (x : List Byte × State) b =>
      let (ok, s) := rxPush 3 b x.2
      (x.1 ++ [if ok then 0 else 1], s)) ([], s)
    returned 0 acks s

/-- An I²C read transfer of `n` bytes (R544, R545). -/
def i2cRead (n : Nat) (s : State) : State :=
  if i2cWakes s then returned 0 (List.replicate n 0xFF) (wakeEvent 3 s)
  else if !linkOn s 3 then returned NACKED [] s
  else
    let (d, s) := txRead 3 n 0xFF s
    returned 0 d s

/-! ### Registers (R558) -/

/-- A write of a ring base: ignored while its link is enabled. -/
def ringBase (j a : Nat) (v : Word) (s : State) : State :=
  if s.bit HST_CTRL_LINKEN j then s.raise HST_STAT_CFGERR else s.typed a v

/-- A write of an HST register, but for HST_BOOTGO. [DEDUCED, unsafe: notes/assumptions/19] -/
def hstRegWrite (init a : Nat) (v : Word) (s : State) : State :=
  let off := a - 0x10150000
  if a = HST_MBIN then mbinWrite init v s
  else if a = HST_MBOUT then mboutWrite init v s
  else if a = HST_MSIXTRIG then msixTrig init (HST_MSIXTRIG_VECTOR.of v) s
  else if a = HST_CTRL ∨ a = HST_INTEN then guardW (init == 6) init a OWNER (fun s => s.typed a v) s
  else if a = HST_TODu 0 ∨ a = HST_TODu 1 then
    let u := (a - HST_TODu 0) / 8
    guardW (init == 6) init a OWNER (todQueue u ((HST_TODu_LEN u).of v)) s
  else if 0x100 ≤ off ∧ off < 0x200 then
    let j := (off - 0x100) / 0x40
    guardW (init == 6) init a OWNER
      (fun s => if a = HST_Lj_RXBASE j ∨ a = HST_Lj_TXBASE j then ringBase j a v s else s.typed a v) s
  else s.typed a v

/-! ### Meanings -/

/-- MSIX_TRIG (R537). -/
def execMsixTrig (init : Init) (vector : Fin 64) (s : State) : Host.Outcome State Fault Refusal := done (asAccess init HST_MSIXTRIG true (msixTrig init vector) s)

/-- MBIN_POST (R539). -/
def execMbinPost (init : Init) (len : BitVec 13) (s : State) : Host.Outcome State Fault Refusal :=
  done (asAccess init HST_MBIN true (guardW (init.val == PCIE_INIT) init HST_MBIN OWNER (mbinPost len.toNat)) s)

/-- MBIN_ACK (R539). -/
def execMbinAck (init : Init) (s : State) : Host.Outcome State Fault Refusal :=
  done (asAccess init HST_MBIN true (guardW (init.val == 6) init HST_MBIN OWNER mbinAck) s)

/-- MBOUT_POST (R539). -/
def execMboutPost (init : Init) (len : BitVec 13) (s : State) : Host.Outcome State Fault Refusal :=
  done (asAccess init HST_MBOUT true (guardW (init.val == 6) init HST_MBOUT OWNER (mboutPost len.toNat)) s)

/-- MBOUT_ACK (R539). -/
def execMboutAck (init : Init) (s : State) : Host.Outcome State Fault Refusal :=
  done (asAccess init HST_MBOUT true (guardW (init.val == PCIE_INIT) init HST_MBOUT OWNER mboutAck) s)

/-- PCIE_RESET (R538). -/
def execPcieReset (s : State) : Host.Outcome State Fault Refusal := done (pcieReset s)

/-- PCIE_LINK_CHANGE (R538); in KEEPTIME and DEEP the link stays down. -/
def execPcieLinkChange (up : Bool) (speed : Fin 8) (width : Fin 4) (s : State) : Host.Outcome State Fault Refusal :=
  done (if hostOn s then pcieLink up speed width s else s)

/-- UART_BYTE_RECEIVED (R543). -/
def execUartByteReceived (uart : Fin 2) (byte : Byte) (framing brk : Bool) (s : State) : Host.Outcome State Fault Refusal :=
  done (uartByte uart byte framing brk s)

/-- UART_BYTE_SENT (R540). -/
def execUartByteSent (uart : Fin 2) (s : State) : Host.Outcome State Fault Refusal := done (uartSent uart s)

/-- I2C_ADDR_WAKE (R545). -/
def execI2cAddrWake (s : State) : Host.Outcome State Fault Refusal := done (i2cAddress s)

/-- I2C_WRITE_TRANSFER (R544). -/
def execI2cWriteTransfer (bytes : List Byte) (s : State) : Host.Outcome State Fault Refusal := done (i2cWrite bytes s)

/-- I2C_READ_TRANSFER (R544): the host clocks `n` bytes. -/
def execI2cReadTransfer (n : Nat) (s : State) : Host.Outcome State Fault Refusal := done (i2cRead n s)

/-- TOD_QUEUE (R556). -/
def execTodQueue (init : Init) (uart : Fin 2) (len : BitVec 7) (s : State) : Host.Outcome State Fault Refusal :=
  done (asAccess init (HST_TODu uart) true (guardW (init.val == 6) init (HST_TODu uart) OWNER (todQueue uart len.toNat)) s)

end Sys2Proof.Machine
end

