-- ==== Sys2Proof/Machine/SecureBoot.lean ====
section
/-!
DEFINITION. The load and the check of an image (R528 to R534, R442): the staging area, the flash, the host's GO, and the
hand-over.
-/

namespace Sys2Proof.Machine

/-- The staging area (R531). -/
def STAGE : Nat := 0x00800000
def STAGE_END : Nat := 0x01800000

/-- The failure causes of HST_BOOT (R558). -/
def BF_BOOTSEL : Nat := 1
def BF_HEADER : Nat := 2
def BF_SEGMENT : Nat := 3
def BF_SIGNATURE : Nat := 4
def BF_ROLLBACK : Nat := 5
def BF_HASH : Nat := 6
def BF_FLASH : Nat := 7
def BF_MEMORY : Nat := 8

/-- The boot ROM, as initiator 6, enables region 31 over the staging area: every initiator may read it and SV alone may
write it. -/
def stageProtect (s : State) : State :=
  let s := fwWrite 6 (IC_FWn_PERM 31) (BitVec.ofNat 48 0x55557555) s
  let s := fwWrite 6 (IC_FWn_LIMIT 31) (BitVec.ofNat 48 (STAGE_END - 4096)) s
  fwWrite 6 (IC_FWn_BASE 31) (BitVec.ofNat 48 (2 ^ 32 + STAGE)) s

/-- The boot ROM disables region 31. -/
def stageRelease (s : State) : State := fwWrite 6 (IC_FWn_BASE 31) 0 s

/-- An image awaits its check. [DEDUCED, unsafe: notes/assumptions/56] -/
def bootImage (b : BootImage) (s : State) : State := bootStatus BOOT_VERIFY 0 { s with hst := { s.hst with boot := some b } }

/-- An image ends without passing: slot B follows slot A, and any other leaves FAIL (R532, R534). -/
def bootFail (cause src : Nat) (s : State) : State :=
  let s := stageRelease { s with hst := { s.hst with boot := none, stageBad := false } }
  if src = 0 then bootStatus BOOT_RUNNING 0 { s with hst := { s.hst with slot := 1 } } else bootFailed cause s

/-! ### Loading -/

/-- PAYLEN of an image. -/
def payLen (img : List Byte) : Nat := imgLe img 12 4

/-- The boot ROM has read a flash slot, after the march test of the boot: `ok` is whether every read succeeded (R465, R532). -/
def bootFlash (image : List Byte) (ok : Bool) (s : State) : State :=
  if s.rd HST_BOOT_STATUS ≠ BOOT_RUNNING ∨ s.rd HST_BOOT_BOOTSEL ≠ 0 ∨ !s.clk.svOut ∨ s.memc.bootMarch then s
  else
    let bs := image.take (min (320 + payLen image) 0x800000)
    let s := (dmaWrite 6 STAGE bs (stageProtect s)).2
    bootImage { len := bs.length, src := s.hst.slot, bad := !ok } s

/-- Whether an image of the host may be announced now. -/
def bootWaits (s : State) : Bool := s.rd HST_BOOT_STATUS == BOOT_WAITHOST || s.rd HST_BOOT_STATUS == BOOT_FAIL

/-- An image of `len` bytes has been staged by the host (2) or over UART0 (3): the staging area is protected before a check reads it
(R531, R533). -/
def bootGo (len src : Nat) (s : State) : State :=
  if len < 328 ∨ 16777216 < len then bootFail BF_HEADER src s
  else bootImage { len := len, src := src, bad := s.hst.stageBad } (stageProtect s)

/-- A write of HST_BOOTGO: it protects the staging area, whatever GO is (R531, R558). -/
def bootGoWrite (init : Nat) (v : Word) (s : State) : State :=
  guardW ((init == PCIE_INIT || init == BRIDGE_INIT) && bootWaits s) init HST_BOOTGO OWNER
    (fun s =>
      let s := stageProtect (s.raise HST_STAT_GOREQ)
      if HST_BOOTGO_GO.of v = 1 then bootGo (HST_BOOTGO_LEN.of v) 2 s else s) s

/-- A write of an HST register. -/
def hstWrite (init a : Nat) (v : Word) (s : State) : State :=
  if a = HST_BOOTGO then bootGoWrite init v s else hstRegWrite init a v s

/-! ### The checks (R529, R530) -/

/-- The segments that the table names: DEST and LEN. -/
def segments (img : List Byte) : List (Nat × Nat) :=
  (List.range (imgLe img 6 2)).map fun k => (imgLe img (64 + 8 * k) 4, imgLe img (68 + 8 * k) 3)

/-- Check 2: MAGIC, FORMAT, NSEG, PAYLEN and the segment table. [DEDUCED, unsafe: notes/assumptions/56] -/
def headerFits (img : List Byte) : Bool :=
  let n := imgLe img 6 2
  imgLe img 0 4 == 0x4D494B4D && imgLe img 4 2 == 1 && decide (1 ≤ n) && decide (n ≤ 16) &&
    decide (8 ≤ payLen img) && decide (payLen img ≤ 16776896) &&
    (segments img).all (fun (d, l) => d % 8 == 0 && l % 8 == 0) &&
    (List.range n).all (fun k => imgLe img (71 + 8 * k) 1 == 0) &&
    zerosAt img (64 + 8 * n) (128 - 8 * n) && ((segments img).map (·.2)).sum == payLen img

/-- Check 3: a segment lies in shared memory below the staging area, or in the instruction or data area of one window. -/
def segmentFits (d l : Nat) : Bool :=
  decide (d + l ≤ STAGE) ||
    (List.range 7).any fun n =>
      let b := 0x02000000 + 0x100000 * n
      (decide (b ≤ d) && decide (d + l ≤ b + 0x40000)) || (decide (b + 0x80000 ≤ d) && decide (d + l ≤ b + 0xA0000))

/-- Check 4, under the rule of R442: the result of SVU, VALID where no signature is asked for. -/
def bootSignature (img : List Byte) (s : State) : Nat :=
  let check := fun (sel : Nat) =>
    svuCheck p256 sel ((img.drop 192).take 64) (sha256 (img.take 256)) ((img.drop 256).take 64) s
  if s.lcs = BLANK then V_VALID
  else if s.lcs = RETURNED then check 4
  else check (if otpBit s 8 then 2 else 1)

/-- Check 5. -/
def svnOk (img : List Byte) (s : State) : Bool :=
  !(s.lcs == PROVISIONED || s.lcs == DEPLOYED) || decide (rollback s ≤ imgLe img 8 4)

/-- Check 6. -/
def hashOk (img : List Byte) : Bool := sha256 ((img.drop 320).take (payLen img)) == (img.drop 16).take 32

/-- The cause of the first failing check, 0 where every check passes; `bad` is check 1's. -/
def bootCause (img : List Byte) (src : Nat) (bad : Bool) (s : State) : Nat :=
  let short := headerFits img && decide (img.length < 320 + payLen img)
  if bad ∨ (src < 2 ∧ short) then (if src < 2 then BF_FLASH else BF_MEMORY)
  else if !headerFits img || img.length != 320 + payLen img then BF_HEADER
  else if !(segments img).all (fun (d, l) => segmentFits d l) then BF_SEGMENT
  else if bootSignature img s ≠ V_VALID then BF_SIGNATURE
  else if !svnOk img s then BF_ROLLBACK
  else if !hashOk img then BF_HASH
  else 0

/-! ### The hand-over (R531) -/

/-- The segments are copied, each from where the one before ended. -/
def copySegments (img : List Byte) : List (Nat × Nat) → Nat → State → State
  | [], _, s => s
  | (d, l) :: rest, at_, s => copySegments img rest (at_ + l) (dmaWrite 6 d ((img.drop at_).take l) s).2

/-- BOOTPC0 to BOOTPC6 are written. -/
def writeBootPcs (img : List Byte) (s : State) : State :=
  (List.range 7).foldl (fun s n => s.wr (KCn_BOOTPC_PC n) (imgLe img (48 + 2 * n) 2)) s

/-- The timing directory as SV writes it before it starts a loop or solution core (R270): the entries to 0x068, the indices of
the rings at zero, and ACTIVE, ALIVE and HANDOVER. -/
def directoryImage : List Byte :=
  let w := toLE 8
  w 0x00014454_4B4D ++ ((List.range 4).flatMap fun k => w (0x00100000 + 0x80000 * k)) ++
    ((List.range 4).flatMap fun k => w (0x00300000 + 0x40000 * k)) ++ w 0x00400000 ++ w 0x00410000 ++ w 0x00420000 ++
    w 0x00430000 ++ w 0x00431000 ++ List.replicate (0x168 - 0x070) 0 ++ w 4 ++ w 0x7F ++ w 0

/-- The words of CONFIG with their defaults (R271). [DESIGN CHOICE, safe: notes/assumptions/14] -/
def configDefaults : List Nat :=
  [20, Config.cfgDefault 1, 4, 2, 3, 50, 0xFF, 0, Config.cfgDefault 8, Config.cfgDefault 9, 3, 10, 100, 1, 1, 2, 45, 4]

/-- The address of a word of CONFIG; the word as it stands there, and the one in force since the last solution epoch. -/
def cfgAddr (s : State) (word : Nat) : Nat := s.le 0x60 8 % 2 ^ 32 + 8 * word
def cfgStored (s : State) (word : Nat) : Nat := s.le (cfgAddr s word) 8
def cfgWord (s : State) (word : Nat) : Nat := s.nav.config.getD word 0

/-- The words of CONFIG come into force (R271). -/
def takeConfig (s : State) : State := { s with nav := { s.nav with config := Vector.ofFn fun (k : Fin 18) => cfgStored s k } }

/-- SV's firmware sets up the timing work before it starts a core (R268, R270 to R272). [DEDUCED, unsafe: notes/assumptions/60] -/
def firmwareSetup (s : State) : State :=
  let s := (dmaWrite 6 0x00430000 (configDefaults.flatMap (toLE 8)) (dmaWrite 6 0 directoryImage s).2).2
  takeConfig (ringSetup { s with nav := {} })

/-- The stalls of SV in its boot ROM are part of the cycles that its clock has counted there (R266).
[DESIGN CHOICE, safe: notes/assumptions/44] -/
def bootStalls (s : State) : State :=
  let (k, s) := s.fresh 48
  s.count (KCn_STALL_COUNT 6) (k % (s.rd (KCn_CYCLE_COUNT 6) + 1))

/-- SV leaves its boot ROM. -/
def bootHandOver (src : Nat) (s : State) : State :=
  let s := bootStalls (stageRelease s)
  let s := { s with hst := { s.hst with boot := none, ready := true } }.put HST_BOOT_SLOT (src == 1)
  let s := firmwareSetup (bootStatus BOOT_DONE 0 s)
  s.setCore 6 { s.core 6 with pc := BitVec.ofNat 14 (s.rd (KCn_BOOTPC_PC 6)) }

/-- The verifier counts the check of a signed image (R440). -/
def countCheck (img : List Byte) (s : State) : State :=
  let r := bootSignature img s
  let s := { s with hst := { s.hst with bootSvu := r } }
  if s.lcs = BLANK then s else svuCounted r s

/-- The image that awaits its check is checked, and copied where it passes; while the march test of the boot runs it waits (R465). -/
def secureBoot (s : State) : State :=
  match s.hst.boot with
  | none => s
  | some b =>
    if s.memc.bootMarch then s else
    let (c, img, s) := dmaRead 6 STAGE b.len s
    let cause := bootCause img b.src (b.bad || c != 0) s
    let s := if cause = 0 ∨ BF_SIGNATURE ≤ cause ∧ cause ≤ BF_HASH then countCheck img s else s
    if cause ≠ 0 then bootFail cause b.src s
    else bootHandOver b.src (writeBootPcs img (copySegments img (segments img) 320 s))

/-! ### Meanings -/

/-- BOOT_FLASH (R532): the boot ROM has read the slot that it tries. -/
def execBootFlash (image : List Byte) (ok : Bool) (s : State) : Host.Outcome State Fault Refusal := done (bootFlash image ok s)

/-- HST_BOOTGO (R533): a write of HST_BOOTGO. -/
def execHstBootgo (init : Init) (value : Word) (s : State) : Host.Outcome State Fault Refusal := done (asAccess init HST_BOOTGO true (bootGoWrite init value) s)

/-- SECURE_BOOT_CHECK (R530). -/
def execSecureBootCheck (s : State) : Host.Outcome State Fault Refusal := done (secureBoot s)

end Sys2Proof.Machine
end

