-- ==== Sys2Proof/Machine/Bus.lean ====
section
/-!
DEFINITION. Accesses of an initiator to any address: register slots by width (R13, R16, R560 to R563), what a register reads
as and what reading it does, who may reach it (R444, R466, R469), atomic accesses (R234), and the transfers of the host
links that reach any address (R536, R542).
-/

namespace Sys2Proof.Machine

/-! ### What a register reads as -/

/-- The level that a ball shows where the device drives it, or the capture unit that listens to it knows it (R523); none
where the outside world alone does. [DESIGN CHOICE, safe: notes/assumptions/46] -/
def pinLevel (s : State) (n : Nat) : Option Bool :=
  let f := s.rd (PMX_PINn_FUNC n)
  if 1 ≤ f ∧ f ≤ 16 then
    some ((s.flag (TPGn_CTRL_OUTEN (f - 1)) && s.flag (TPGn_STAT_LEVEL (f - 1))) != s.flag (TPGn_CTRL_POL (f - 1)))
  else if 17 ≤ f ∧ f ≤ 24 then some (s.evc (f - 17)).level
  else if f = 25 then some s.timeValid
  else if f = 26 then some (s.flag TB_TIMESTAT_HOLDOVER)
  else if f = 27 then some (s.flag SVU_TRUST_TIME_TRUST)
  else if f = 28 then some (s.flag SAF_STAT_CLKFAULT || (List.range 7).any fun k => s.coreState k == K_FAULT)
  else if f = 29 then some (s.flag (PMX_PINn_OUT n))
  else none

/-- The instance of a register that lies at an address. -/
def instOf (reg : Nat → Nat) (count a : Nat) : Option Nat := (List.range count).find? fun k => reg k == a

/-- The content of a slot with its write-only fields zero. -/
def plainImage (s : State) (a : Nat) : Nat :=
  match regSpec? a with
  | some r => (r.fields.foldl (fun (w : Word) f => if f.access = .wo then (Fld.insert ⟨a, f.hi, f.lo⟩ w 0) else w) (s.reg a)).toNat
  | none => 0

/-- A field of an image replaced by the value that the block shows there. -/
def withField (img : Nat) (f : Fld) (v : Nat) : Nat := (f.insert (BitVec.ofNat 48 img) v).toNat

/-- The SEC value that an initiator has latched. -/
def latchedSec (s : State) (init a : Nat) : Option Nat := (s.bus.secs.find? fun e => e.1 == init && e.2.1 == a).map (·.2.2)

/-- What an initiator reads of the registers whose value the block makes on the spot.
[DEDUCED, safe: notes/assumptions/45] [DESIGN CHOICE, safe: notes/assumptions/46] -/
def liveImage (s : State) (init a : Nat) : Option Nat :=
  match latchedSec s init a with
  | some v => some v
  | none =>
    match a / 65536 with
    | 0x1004 =>
      if a = TB_SEC then some s.sec
      else if a = TB_FRAC then some s.frac
      else if a = TB_TIMESTAT then
        some (withField (withField (plainImage s a) TB_TIMESTAT_TIME_VALID (if s.timeValid then 1 else 0)) TB_TIMESTAT_CLKFAULT
          (s.rd SAF_STAT_CLKFAULT))
      else none
    | 0x1005 =>
      match instOf EVCn_CAPFRAC 8 a, instOf EVCn_CAPSEC 8 a, instOf EVCn_CAPINFO 8 a with
      | some n, _, _ => some (evcCapFrac s n)
      | _, some n, _ => some (evcCapSec s init n)
      | _, _, some n => some (evcCapInfo s init n)
      | _, _, _ => if a = TPE_SUMMARY then some (tpeSummary s) else none
    | 0x1007 => if a = SP_LINKSTAT then some (linkMap s) else none
    | 0x1009 => (instOf BRT_READYi 4 a).map (readyMap s)
    | 0x100A => if a = FEC_RUNMAP then some (headMap s H_RUN) else if a = FEC_FAULTMAP then some (headMap s H_FAULT) else none
    | 0x100B => (instOf CSH_RSPj 8 a).map (rspValue s)
    | 0x1010 =>
      if a = IC_ERRLOG then some (errLogValue s)
      else if a = IC_ERRINFO then some (errInfoValue s init)
      else if a = IC_INFLIGHT then some (withField (plainImage s a) IC_INFLIGHT_NOW (inFlight s))
      else none
    | 0x1011 => if a = ETH_GRTSTAT then some (withField (plainImage s a) ETH_GRTSTAT_ACTIVE (grantsActive s)) else none
    | 0x1015 =>
      if a = HST_STAT then some (withField (plainImage s a) HST_STAT_RXNE (rxneMap s))
      else if a = 0x10151400 then some s.hst.pba
      else none
    | _ => none

/-- A conflict counter, which counts from its clearing on what depends on the moment of each access (R459). -/
def isConf (a : Nat) : Bool := decide (MEMb_CONFi 0 0 ≤ a) && decide (a < MEMb_CONFi 47 15 + 8)

/-- A read of a conflict counter: it has risen by what is free since the tick in which reset or CONFCLR zeroed it (R459).
[DESIGN CHOICE, safe: notes/assumptions/8] -/
def readConf (a : Nat) (s : State) : Nat × State :=
  if s.ticks = s.memc.confAt then ((s.reg a).toNat, s)
  else
    let (k, s) := s.fresh 32
    let v := BitVec.ofNat 48 ((s.reg a).toNat + k)
    (v.toNat, s.setReg a v)

/-- What an initiator reads of a slot; KCn_PC of a core that issues, the level of a ball that only the outside drives, and the
conflict counters are free. [DESIGN CHOICE, safe: notes/assumptions/8] -/
def regImage (init a : Nat) (s : State) : Nat × State :=
  match liveImage s init a with
  | some v => (v, s)
  | none =>
    match instOf KCn_PC 7 a, instOf PMX_PINn 48 a with
    | some n, _ => if issuing (s.coreState n) then s.fresh 14 else ((s.core n).pc.toNat, s)
    | _, some n =>
      match pinLevel s n with
      | some b => (withField (plainImage s a) (PMX_PINn_IN n) (if b then 1 else 0), s)
      | none =>
        let (v, s) := s.fresh 1
        (withField (plainImage s a) (PMX_PINn_IN n) v, s)
    | _, _ => if isConf a then readConf a s else (plainImage s a, s)

/-- The SEC register that a FRAC register latches (R311). -/
def secOfFrac (a : Nat) : Option Nat :=
  if a = TB_FRAC then some TB_SEC
  else if ((instOf TPGn_NEXTFRAC 16 a).isSome || (instOf TPGn_LASTFRAC 16 a).isSome || (instOf SPn_SLATEFRAC 32 a).isSome ||
      (instOf REELk_TFIRSTFRAC 8 a).isSome || (instOf REELk_TLASTFRAC 8 a).isSome) = true then some (a - 8)
  else none

/-- What a read of a register does (R562). -/
def readEffect (init a : Nat) (s : State) : State :=
  let s := { s with bus := { s.bus with secs := s.bus.secs.filter fun e => !(e.1 == init && e.2.1 == a) } }
  match secOfFrac a with
  | some sec => latchSec init sec ((liveImage s 16 sec).getD (plainImage s sec)) s
  | none =>
    match a / 65536 with
    | 0x1005 =>
      match instOf EVCn_CAPFRAC 8 a, instOf EVCn_CAPINFO 8 a with
      | some n, _ => evcCapFracRead init n s
      | _, some n => evcCapInfoRead init n s
      | _, _ => s
    | 0x100B => match instOf CSH_RSPj 8 a with | some j => rspRead j s | none => s
    | 0x1010 => if a = IC_ERRLOG then errLogRead init s else if a = IC_ERRINFO then errInfoRead init s else s
    | _ => s

/-! ### Who may reach a register -/

/-- The cause with which an access to a slot is refused before its block decides: the debug port's level, the firewall, the
power of the block, the trace registers' own rule (R444, R469, R504, R567). -/
def slotCause (s : State) (init a : Nat) (write : Bool) : Nat :=
  let c := portCause s init a write
  if c ≠ 0 then c
  else if a / 65536 = 0x1018 ∧ isReg a ∧ !mayTrace s init then OWNER
  else 0

/-- A slot of a key page is reached by the page's owner alone, whether or not a register lies there (R424). -/
def pageMay (s : State) (init a : Nat) : Bool :=
  a / 65536 != 0x1012 || match pageOf a with | some n => pageOwner s n == init | none => true

/-- The owner's rule on a read: a key page by its owner (R424), an aiding port by its initiator (R149). -/
def readOwned (s : State) (init a : Nat) : Bool :=
  match a / 65536 with
  | 0x1012 => pageMay s init a
  | 0x100B =>
    let off := a % 65536
    !isReg a || !(decide (0x400 ≤ off) && decide (off < 0x5C0)) || init == (off - 0x400) / 0x40
  | _ => true

/-- What a write of a register's 48 bits does. -/
def regWrite (init a : Nat) (v : Word) (s : State) : State :=
  if !isReg a then s
  else match a / 65536 with
    | 0x1001 => pwrWrite init a v s
    | 0x1002 => clkWrite a v s
    | 0x1003 => osyWrite a v s
    | 0x1004 => refreshQls (refreshTrust (tbWrite init a v s))
    | 0x1005 => tpeWrite init a v s
    | 0x1006 => spWrite init a v s
    | 0x1007 => spWrite init a v s
    | 0x1008 => cndWrite a v s
    | 0x1009 => brtWrite a v s
    | 0x100A => fecWrite a v s
    | 0x100B =>
      if 0x8000 ≤ a % 65536 then cgnWrite a v s
      else match instOf CSH_CMDj 8 a with
        | some j => cshWrite init j v s
        | none => caWrite init a v s
    | 0x100C => seWrite a v s
    | 0x100D => reelWrite a v s
    | 0x100E => kcWrite init a v s
    | 0x100F => memRegWrite init a v s
    | 0x1010 => icWrite init a v s
    | 0x1011 => ethWrite init a v s
    | 0x1012 => cxeWriteReg init a v s
    | 0x1013 => svuWriteReg init a v s
    | 0x1014 => nvsWrite init a v s
    | 0x1015 => hstWrite init a v s
    | 0x1016 => safWrite init a v s
    | 0x1017 => pmxWrite init a v s
    | 0x1018 => dbgRegWrite init a v s
    | _ => s.typed a v

/-- The cause of the error response that a write gets from its block, 0 where it gets none. -/
def blockCause (init a : Nat) (v : Word) (s : State) : Nat :=
  match (regWrite init a v { s with bus := { s.bus with errors := [] } }).bus.errors.find? fun e =>
    e.init == init && e.addr == a && e.write with
  | some e => e.cause
  | none => 0

/-! ### Widths (R560 to R562) -/

/-- The upper half latched for an initiator. -/
def latchedHalf (s : State) (init a : Nat) : Option Nat := (s.bus.halves.find? fun e => e.1 == init && e.2.1 == a).map (·.2.2)

/-- The latched half of a slot is released. -/
def releaseHalf (init a : Nat) (s : State) : State :=
  { s with bus := { s.bus with halves := s.bus.halves.filter fun e => !(e.1 == init && e.2.1 == a) } }

/-- An upper half is latched. -/
def latchHalf (init a v : Nat) (s : State) : State :=
  let s := releaseHalf init a s
  { s with bus := { s.bus with halves := (init, a, v) :: s.bus.halves } }

/-- A read of `n` bytes at offset `o` of a slot that is permitted. -/
def slotRead (init a o n : Nat) (s : State) : List Byte × State :=
  let (img, s) := regImage init a s
  if o = 4 ∧ n = 4 then
    match latchedHalf s init a with
    | some h => (toLE 4 h, releaseHalf init a s)
    | none => (toLE 4 (img / 2 ^ 32), s)
  else
    let d := ((toLE 8 img).drop o).take n
    if o = 0 ∧ (n = 4 ∨ n = 6 ∨ n = 8) then
      let s := readEffect init a s
      (d, if n = 4 then latchHalf init a (img / 2 ^ 32) s else s)
    else (d, s)

/-- The bits of the RW fields of a register. -/
def rwMask (a : Nat) : Nat :=
  match regSpec? a with
  | some r => (r.fields.foldl (fun (w : Word) f => if f.access = .rw then (Fld.insert ⟨a, f.hi, f.lo⟩ w (2 ^ 48 - 1)) else w) 0).toNat
  | none => 0

/-- The 48 bits that a write of bits [31:0] alone makes (R561). -/
def lowHalfWrite (s : State) (a lo : Nat) : Word := BitVec.ofNat 48 (((s.reg a).toNat &&& rwMask a) / 2 ^ 32 * 2 ^ 32 + lo % 2 ^ 32)

/-- What a write of bytes at offset `o` of a slot amounts to: a write of the slot's 48 bits, a half to be staged, or nothing. -/
inductive SlotWrite where
  | whole (v : Word)
  | stage (hi : Nat)
  | nothing
  deriving DecidableEq, Repr

/-- The reading of a write by its width. -/
def slotWriteOf (s : State) (init a o : Nat) (bs : List Byte) : SlotWrite :=
  let n := bs.length
  if o = 0 ∧ (n = 6 ∨ n = 8) then .whole (BitVec.ofNat 48 (ofLE bs))
  else if o = 0 ∧ n = 4 then
    match s.bus.staged.find? fun e => e.1 == init && e.2.1 == a with
    | some e => .whole (BitVec.ofNat 48 (ofLE bs + e.2.2 * 2 ^ 32))
    | none => .whole (lowHalfWrite s a (ofLE bs))
  else if o = 4 ∧ n = 4 then .stage (ofLE bs % 65536)
  else .nothing

/-- A permitted write of a slot; the cause is that of its block. -/
def slotWrite (init a o : Nat) (bs : List Byte) (s : State) : Nat × State :=
  let w := slotWriteOf s init a o bs
  let s := unstage init s
  match w with
  | .whole v => (blockCause init a v s, regWrite init a v s)
  | .stage hi => (0, { s with bus := { s.bus with staged := (init, a, hi) :: s.bus.staged } })
  | .nothing => (0, s)

/-! ### Pieces of an access -/

/-- Whether an address lies among the register blocks, whose accesses go slot by slot. -/
def inBlocks (a : Nat) : Bool := decide (0x10000000 ≤ a) && decide (a < 0x10190000)

/-- The bytes of an access from `a` that make its next piece. -/
def pieceLen (a n : Nat) : Nat := min n (if inBlocks a then 8 - a % 8 else 256 - a % 256)

/-- A read of bytes of one slot. -/
def regPieceRead (init a n : Nat) (s : State) : Nat × List Byte × State :=
  let slot := a / 8 * 8
  let s := unstage init (traceInit init a false s)
  let c := slotCause s init slot false
  if c ≠ 0 then (c, List.replicate n 0, icError init a false c s)
  else if !readOwned s init slot then
    (OWNER, List.replicate n 0,
      if a / 65536 = 0x1012 then pageViolation init slot false s else icError init a false OWNER s)
  else
    let (d, s) := slotRead init slot (a % 8) n s
    (0, d, s)

/-- A write of bytes of one slot. -/
def regPieceWrite (init a : Nat) (bs : List Byte) (s : State) : Nat × State :=
  let slot := a / 8 * 8
  let s := traceInit init a true s
  let c := slotCause s init slot true
  if c ≠ 0 then (c, icError init a true c (unstage init s))
  else if !pageMay s init slot then (OWNER, pageViolation init slot true (unstage init s))
  else slotWrite init slot (a % 8) bs s

/-- The mailbox buffers by their address: that of the host, and SV's (R539). -/
def inMbin (a : Nat) : Bool := decide (0x10152000 ≤ a) && decide (a < 0x10153000)
def inMbout (a : Nat) : Bool := decide (0x10153000 ≤ a) && decide (a < 0x10154000)

/-- The bytes of an access from `a` between the bus and memory, which holds the mask bits of the MSI-X table inverted (R537). -/
def tableBytes (a : Nat) (bs : List Byte) : List Byte :=
  bs.mapIdx fun i b => if 0x10151000 ≤ a + i ∧ a + i < 0x10151400 ∧ (a + i) % 16 = 12 then b ^^^ 1 else b

/-- A write of a host buffer: a mailbox by its sender alone, and not while it is FULL; the MSI-X table may let a pending
vector go (R537, R539). -/
def bufWrite (init a : Nat) (bs : List Byte) (s : State) : Nat × State :=
  let c := accessCause s init a bs.length false true
  let wrong := (inMbin a && init != PCIE_INIT) || (inMbout a && init != 6)
  let full := (inMbin a && s.flag HST_MBIN_FULL) || (inMbout a && s.flag HST_MBOUT_FULL)
  if c = 0 ∧ wrong then (OWNER, icError init a true OWNER (traceInit init a true s))
  else if c = 0 ∧ full then (0, (traceInit init a true s).raise HST_STAT_CFGERR)
  else
    let (c, s) := memWrite init a (tableBytes a bs) s
    (c, if a < 0x10151400 then flushVectors s else s)

/-- The debug port below D2 reaches no memory. -/
def debugBlocked (s : State) (init : Nat) : Bool := init == 14 && decide (s.rd SVU_DBG_LEVEL < 2)

/-- A read of a piece. -/
def pieceRead (init a n : Nat) (s : State) : Nat × List Byte × State :=
  if inBlocks a && !isHostBuffer a then regPieceRead init a n s
  else if debugBlocked s init then (OWNER, List.replicate n 0, icError init a false OWNER s)
  else
    let (c, d, s) := memRead init a n s
    (c, if c = 0 ∧ inBlocks a then tableBytes a d else d, s)

/-- A write of a piece. -/
def pieceWrite (init a : Nat) (bs : List Byte) (s : State) : Nat × State :=
  if inBlocks a && !isHostBuffer a then regPieceWrite init a bs s
  else if debugBlocked s init then (OWNER, icError init a true OWNER s)
  else if inBlocks a then bufWrite init a bs s
  else memWrite init a bs s

/-- The first cause that is not zero. -/
def firstCause (c d : Nat) : Nat := if c = 0 then d else c

/-- A read of `n` bytes from an address by an initiator, piece by piece; `fuel` bounds the pieces. -/
def busReadF (init : Nat) : Nat → Nat → Nat → State → Nat × List Byte × State
  | 0, _, _, s => (0, [], s)
  | fuel + 1, a, n, s =>
    if n = 0 then (0, [], s)
    else
      let k := pieceLen a n
      let (c, d, s) := pieceRead init a k s
      let (c', d', s) := busReadF init fuel (a + k) (n - k) s
      (firstCause c c', d ++ d', s)

/-- A write of bytes from an address by an initiator, piece by piece. -/
def busWriteF (init : Nat) : Nat → Nat → List Byte → State → Nat × State
  | 0, _, _, s => (0, s)
  | fuel + 1, a, bs, s =>
    if bs.isEmpty then (0, s)
    else
      let k := pieceLen a bs.length
      let (c, s) := pieceWrite init a (bs.take k) s
      let (c', s) := busWriteF init fuel (a + k) (bs.drop k) s
      (firstCause c c', s)

/-- A read and a write of any length. -/
def busRead (init a n : Nat) (s : State) : Nat × List Byte × State := busReadF init (n + 1) a n s
def busWrite (init a : Nat) (bs : List Byte) (s : State) : Nat × State := busWriteF init (bs.length + 1) a bs s

/-! ### Atomic accesses (R234) -/

/-- The cause with which an atomic access is refused. -/
def atomicCause (s : State) (init a : Nat) : Nat :=
  if debugBlocked s init then OWNER
  else if target a = .nowhere then DECERR
  else if !fwPermits s init a true true then FIREWALL
  else if s.isOff a then PWR_OFF
  else if target a ≠ .shared ∨ a % 4 ≠ 0 then ATOMIC
  else writeCause s a 4

/-- An atomic access: the cause, the old word, and the state with the word that `f` makes of it. -/
def busAtomic (init a : Nat) (f : Nat → Nat) (s : State) : Nat × Nat × State :=
  let s := traceInit init a false (if inBlocks a then unstage init s else s)
  let c := atomicCause s init a
  if c ≠ 0 then (c, 0, icError init a false c (refusedWrite a 4 c s))
  else
    let s := correct a 4 s
    let old := s.le a 4
    (0, old, landWrite a (toLE 4 (f old)) s)

/-- An access as a command names it: the cause, what it returns, and the state. -/
def busOp (init a : Nat) (op : BusOp) (s : State) : Nat × List Byte × State :=
  match op with
  | .read n => busRead init a n s
  | .write b =>
    let (c, s) := busWrite init a b s
    (c, [], s)
  | .atomicAdd v =>
    let (c, old, s) := busAtomic init a (fun w => w + v.toNat) s
    (c, toLE 4 old, s)
  | .atomicSwap v =>
    let (c, old, s) := busAtomic init a (fun _ => v.toNat) s
    (c, toLE 4 old, s)

/-- An access that shows the outside what it returned. -/
def busShown (init a : Nat) (op : BusOp) (s : State) : State :=
  if portLost s init then s
  else
    let (c, d, s) := busOp init a op s
    returned c d s

/-! ### Transfers of the host links -/

/-- The completions of a PCIe read that got an error response: Unsupported Request and Completer Abort (R536). -/
def UNSUPPORTED : Nat := 17
def COMPLETER_ABORT : Nat := 18

/-- An inbound PCIe request. -/
def pcieRequest (req : PcieReq) (s : State) : State :=
  if !hostOn s then s
  else match req with
    | .write a b => (busWrite PCIE_INIT a.toNat b s).2
    | .read a n =>
      let (c, d, s) := busRead PCIE_INIT a.toNat n s
      returned (if c = 0 then 0 else if c = DECERR then UNSUPPORTED else COMPLETER_ABORT) d s
    | .config bme msix mask => pcieConfig bme msix mask s
    | .configBar v => pcieBar v.toNat s
    | .configRead d =>
      let (v, s) := pcieConfigRead d.toNat s
      returned 0 (toLE 4 v) s

/-- SPI WRITE (R542). -/
def spiWrite (a : Nat) (bs : List Byte) (s : State) : State :=
  if !spiOn s then s
  else
    let (c, s) := busWrite BRIDGE_INIT a bs s
    if c = 0 then s else { s with hst := { s.hst with werr := true } }.raise HST_STAT_SPIWERR

/-- SPI READ (R542) of `n` bytes; `inTime` is whether the data have returned by the status byte. -/
def spiRead (a n : Nat) (inTime : Bool) (s : State) : State :=
  if !spiOn s then s
  else
    let k := min n (256 - a % 256)
    let (c, d, s) := busRead BRIDGE_INIT a k s
    if !inTime then returned 0 (2 :: List.replicate k 0) s
    else if c ≠ 0 then returned c (1 :: List.replicate k 0) s
    else returned 0 (0 :: d) s

/-- An SPI transaction by its opcode (R541): the bytes that the host sends behind it, and how many it clocks; any other opcode is ignored
and returns zero bytes. -/
def spiTransaction (opcode : Byte) (bs : List Byte) (n : Nat) (inTime : Bool) (s : State) : State :=
  match opcode.toNat with
  | 0x05 => spiStatus s
  | 0x02 => spiWrite (ofBE (bs.take 4)) (bs.drop 4) s
  | 0x0B => spiRead (ofBE (bs.take 4)) n inTime s
  | 0x42 => spiEmpw bs s
  | 0x4B => spiEmpr n s
  | _ => if spiOn s then returned 0 (List.replicate n 0) s else s

/-! ### Meanings -/

/-- HALF_WRITE_STAGE (R561): a 4-byte write at offset 4 of the slot. -/
def execHalfWriteStage (init : Init) (addr : BitVec 32) (value : BitVec 32) (s : State) : Host.Outcome State Fault Refusal :=
  done (busShown init (addr.toNat / 8 * 8 + 4) (.write (toLE 4 value.toNat)) s)

/-- HALF_READ_LATCH (R562): a 4-byte read at offset 0 of the slot. -/
def execHalfReadLatch (init : Init) (addr : BitVec 32) (s : State) : Host.Outcome State Fault Refusal :=
  done (busShown init (addr.toNat / 8 * 8) (.read 4) s)

/-- CORE_WINDOW_ACCESS (R214). -/
def execCoreWindowAccess (init : Init) (core : CoreId) (offset : BitVec 20) (op : BusOp) (s : State) :
    Host.Outcome State Fault Refusal :=
  done (busShown init (0x02000000 + 0x100000 * core.val + offset.toNat) op s)

/-- PCIE_REQUEST (R536). -/
def execPcieRequest (req : PcieReq) (s : State) : Host.Outcome State Fault Refusal := done (pcieRequest req s)

/-- SPI_WRITE (R542). -/
def execSpiWrite (addr : BitVec 32) (bytes : List Byte) (s : State) : Host.Outcome State Fault Refusal :=
  done (spiTransaction 0x02 (toBE 4 addr.toNat ++ bytes) 0 true s)

/-- SPI_READ (R542). -/
def execSpiRead (addr : BitVec 32) (n : Nat) (inTime : Bool) (s : State) : Host.Outcome State Fault Refusal :=
  done (spiTransaction 0x0B (toBE 4 addr.toNat) n inTime s)

/-- SPI_STATUS (R541). -/
def execSpiStatus (s : State) : Host.Outcome State Fault Refusal := done (spiTransaction 0x05 [] 1 true s)

/-- SPI_EMPW (R541). -/
def execSpiEmpw (bytes : List Byte) (s : State) : Host.Outcome State Fault Refusal := done (spiTransaction 0x42 bytes 0 true s)

/-- SPI_EMPR (R542): the host clocks `n` bytes. -/
def execSpiEmpr (n : Nat) (s : State) : Host.Outcome State Fault Refusal := done (spiTransaction 0x4B [] n true s)

end Sys2Proof.Machine
end

