-- ==== Sys2Proof/Machine/Kloko.lean ====
section
/-!
DEFINITION. How a Kloko core carries out one instruction: the checks at issue, the loads it waits for (R233, R235), hardware
loops and transfers (R238, R239), synchronous and asynchronous causes (R241 to R244), and the counters of R266.  The meanings
of the instructions are in KlokoData, KlokoMem and KlokoFlow.
-/

namespace Sys2Proof.Machine

/-- Where a core goes on after an instruction: the next address (the end of a loop's body goes back to its start), the
target of a taken transfer, or the address that RTE resumes. -/
inductive After where
  | seq
  | to (t : BitVec 14)
  | resume (t : BitVec 14)
  deriving DecidableEq, Repr

/-- What an instruction does: it stops without effect and raises a cause, or it completes.  A completed instruction has
registers and memories changed, goes on somewhere, may raise causes, takes its cycles of R238, may have written a length
(R231), and may act on the rest of the device once its own part is done. -/
inductive KRes where
  | stop (cause : Nat) (s : State)
  | ok (s : State) (next : After) (raised : List Nat) (cost : Nat) (len : Option (Nat × BitVec 15)) (post : State → State)

/-- A completed instruction of one cycle that goes on in sequence. -/
def KRes.plain (s : State) (raised : List Nat := []) : KRes := .ok s .seq raised 1 none id

/-! ### Issue -/

/-- Whether a core takes its next instruction now: its clock runs, SV has left its boot ROM, and it is in RUN, or in a WAIT
that ends without the interrupt being taken (R248, R250, R531). [DEDUCED, safe: notes/assumptions/49] -/
def mayIssue (s : State) (n : Nat) : Bool :=
  let c := s.core n
  let taken := !c.stBit ST_EXL && (c.nmi || (c.stBit ST_IE && (pendingLine s n).isSome))
  clocked s n && (n != 6 || s.hst.ready) &&
    ((s.core n).stepping || s.coreState n == K_RUN || (s.coreState n == K_WAIT && wakes s n && !taken))

/-- What an instruction uses and makes (R233, R237): whether it is of the FLOW class, the general registers that it reads or
writes, those that are the data of a local store, those that its address stage takes, the accumulators that it stores to
data memory, and what it writes. -/
structure Use where
  flow : Bool := false
  regs : List Nat := []
  data : List Nat := []
  base : List Nat := []
  accs : List Nat := []
  made : Made := {}
  deriving DecidableEq, Repr

/-- The moves that are present. -/
def movesOf (a b : Option Move) : List Move := a.toList ++ b.toList

/-- REG of a move, a load or a store where it names a general register, and where it names an accumulator. -/
def regUse (reg : Nat) : List Nat := if reg < 16 then [reg] else []
def accUse (reg : Nat) : List Nat := if reg = 16 ∨ reg = 17 then [reg] else []

/-- A load of REG from data memory, and a store of it. -/
def loadUse (reg : Nat) : Use := { regs := regUse reg, made := { loads := regUse reg } }
def storeUse (reg : Nat) : Use := { regs := regUse reg, data := regUse reg, accs := accUse reg }

/-- Two uses together. -/
def Use.beside (u v : Use) : Use :=
  { flow := u.flow || v.flow, regs := u.regs ++ v.regs, data := u.data ++ v.data, base := u.base ++ v.base, accs := u.accs ++ v.accs,
    made := { g := u.made.g ++ v.made.g, loads := u.made.loads ++ v.made.loads, accs := u.made.accs ++ v.made.accs,
              scl := u.made.scl || v.made.scl } }

/-- An instruction's own use with that of its moves. -/
def withMoveUse (ms : List Move) (u : Use) : Use :=
  ms.foldl (fun u m => u.beside (if m.store then storeUse m.reg else loadUse m.reg)) u

/-- A MAC instruction, an ALU instruction and an ACC instruction. -/
def macUse (ad x y : Nat) (mv1 mv2 : Option Move) : Use :=
  withMoveUse (movesOf mv1 mv2) { regs := [x, y], made := { accs := [16 + ad] } }
def aluUse (d s1 s2 : Nat) (mv : Option Move) : Use :=
  withMoveUse mv.toList { regs := [d, s1, s2], made := { g := [d] } }
def testUse (s1 s2 : Nat) (mv : Option Move) : Use := withMoveUse mv.toList { regs := [s1, s2] }
def toAcc (ad : Nat) : Use := { made := { accs := [16 + ad] } }
def toGen (g : Nat) : Use := { regs := [g], made := { g := [g] } }
def fromGen (ad g : Nat) : Use := { regs := [g], made := { accs := [16 + ad] } }

/-- A general register that the address stage takes. -/
def addrUse (g : Nat) : Use := { regs := [g], base := [g] }

/-- What each instruction uses and makes; a command that is no instruction of a core uses nothing. -/
def useOf (i : Instr) : Use :=
  match i with
  | .pmov _ mv1 mv2 => withMoveUse (movesOf mv1 mv2) {}
  | .mpy _ ad x y mv1 mv2 | .mac _ ad x y mv1 mv2 | .msu _ ad x y mv1 mv2 | .mpysu _ ad x y mv1 mv2
  | .macsu _ ad x y mv1 mv2 | .macuu _ ad x y mv1 mv2 => macUse ad x y mv1 mv2
  | .accx _ ad x mv1 mv2 => macUse ad x x mv1 mv2
  | .mov _ d s1 _ mv | .neg _ d s1 _ mv | .abs _ d s1 _ mv | .not _ d s1 _ mv | .cls _ d s1 _ mv => aluUse d s1 s1 mv
  | .add _ d s1 s2 mv | .adc _ d s1 s2 mv | .sub _ d s1 s2 mv | .sbc _ d s1 s2 mv | .adds _ d s1 s2 mv
  | .subs _ d s1 s2 mv | .and _ d s1 s2 mv | .or _ d s1 s2 mv | .xor _ d s1 s2 mv | .andn _ d s1 s2 mv
  | .shl _ d s1 s2 mv | .shr _ d s1 s2 mv | .sra _ d s1 s2 mv | .min _ d s1 s2 mv | .max _ d s1 s2 mv
  | .mull _ d s1 s2 mv => aluUse d s1 s2 mv
  | .cmp _ _ s1 s2 mv | .tst _ _ s1 s2 mv => testUse s1 s2 mv
  | .ldi _ d _ | .ldih _ d _ => toGen d
  | .addi _ d r _ | .andi _ d r _ | .ori _ d r _ | .xori _ d r _ | .shli _ d r _ | .shri _ d r _ | .srai _ d r _ => aluUse d r r none
  | .cmpi _ _ r _ => testUse r r none
  | .clra _ ad .. | .adda _ ad .. | .suba _ ad .. | .nega _ ad .. | .asla _ ad .. | .asra _ ad .. | .mova _ ad .. => toAcc ad
  | .mva _ _ _ g _ | .rdal _ _ _ g _ | .rdah _ _ _ g _ | .rdag _ _ _ g _ | .norma _ _ _ g _ => toGen g
  | .wral _ ad _ g _ | .wrah _ ad _ g _ | .wrag _ ad _ g _ | .lda _ ad _ g _ => fromGen ad g
  | .ldx _ reg .. | .ldd _ reg .. => loadUse reg
  | .stx _ reg .. | .std _ reg .. => storeUse reg
  | .ldg _ reg base .. | .stg _ reg base .. | .aadd _ reg base .. | .aswp _ reg base .. => { regs := base.val :: regUse reg, base := [base] }
  | .ldpg _ _ _ g _ | .ldbg _ _ _ g _ | .ldlg _ _ _ g _ | .ldmg _ _ _ g _ => addrUse g
  | .rdar _ _ _ g _ => toGen g
  | .br .. | .jmp .. | .call .. | .ret .. | .rte .. | .loop .. | .trap .. | .brk .. => { flow := true }
  | .jr _ _ g .. | .callr _ _ g .. | .loopg _ _ g .. | .dbnz _ _ g .. => { addrUse g with flow := true }
  | .mvs _ g _ _ => toGen g
  | .mvsr _ g spec _ => { regs := [g], made := { scl := spec.val == 1 } }
  | _ => {}

/-- The stall of an instruction directly after one that made `m` (R237). -/
def stallAfter (u : Use) (m : Made) : Nat :=
  if u.base.any m.g.contains then 2
  else if u.base.any m.loads.contains || u.data.any m.g.contains || u.accs.any m.accs.contains || (!u.accs.isEmpty && m.scl) then 1
  else 0

/-- The stall of an instruction: one cycle less for what the instruction before the last one made (R237). -/
def hazard (c : CoreState) (u : Use) : Nat := max (stallAfter u c.made) (stallAfter u c.madeBefore - 1)

/-- The oldest access of a list, oldest first, that holds back one of its accesses, be it through others between: that access itself where
none does (R233). -/
def heldBy (out : List GlobalAcc) (x : GlobalAcc) : GlobalAcc :=
  ((out.takeWhile (· != x)).reverse.foldl (fun l y => if l.any (sameBlock y) then y :: l else l) [x]).headD x

/-- Loads whose destination the instruction uses return first, behind the accesses that hold them back; the core stalls until
they do (R233). -/
def awaitLoads (n : Nat) (uses : List Nat) : Nat → State → State
  | 0, s => s
  | fuel + 1, s =>
    let c := s.core n
    let hit := fun (x : GlobalAcc) => match x.dest with | some g => uses.contains g | none => false
    match c.out.find? hit with
    | none => s
    | some x => awaitLoads n uses fuel (stallFree n (answerOne n (heldBy c.out x) s))

/-- `k` more transactions of a core find slots: it may have 4 in flight, and up to 16 with slots of the shared pool of 64 (R467). -/
def slotsFor (s : State) (n k : Nat) : Bool :=
  let mine := coreFlight s n + k
  let pool := ((List.range 7).map fun i => (if i = n then mine else coreFlight s i) - 4).sum
  decide (mine ≤ 4) || (decide (mine ≤ 16) && decide (pool ≤ 64))

/-- A core waits for a slot of the interconnect (R467). -/
def stallSlot (n : Nat) (s : State) : State :=
  let (k, s) := s.fresh 16
  (stallCore n k s).count IC_INFLIGHT_STALLS k

/-- The oldest accesses complete until `k` more transactions find slots (R233, R467). -/
def makeRoom (n k : Nat) : Nat → State → State
  | 0, s => s
  | fuel + 1, s => if slotsFor s n k || (s.core n).out.isEmpty then s else makeRoom n k fuel (stallSlot n (answerOldest n s))

/-- Every outstanding access completes before the core goes on. -/
def awaitAll (n : Nat) (s : State) : State := if (s.core n).out.isEmpty then s else stallFree n (answerAll n s)

/-- Whether the word of an instruction fails its parity (R216). -/
def imemBad (s : State) (n i : Nat) : Bool := s.memc.single.contains (imSlot n i) || s.memc.double.contains (imSlot n i)

/-- A parity error is counted and reported (R216, R520). -/
def countParity (n i : Nat) (s : State) : State :=
  logUnit 0x12 1 n (n + 8 + i * 65536) ((s.count (KCn_ECC_IMPAR n)).raise SAF_STAT_UE)

/-! ### Loops and transfers -/

/-- Whether an address lies in the body of a loop. -/
def inBody (l : LoopRec) (a : BitVec 14) : Bool := decide (l.first ≤ a.toNat) && decide (a.toNat ≤ l.last)

/-- Whether a loop may end by a match at END now (R239). -/
def eligible (c : CoreState) (l : LoopRec) : Bool := !c.stBit ST_EXL || l.exl

/-- Whether the instruction at the pc stands at the END of the innermost loop. -/
def atEnd (c : CoreState) : Bool := match c.loops with | l :: _ => eligible c l && l.last == c.pc.toNat | [] => false

/-- The pc after an instruction in sequence, with the loops as they then stand: a loop at its END goes back to its start, or
ends and leaves the match to the loop around it. -/
def loopEnd (c : CoreState) : List LoopRec → CoreState
  | [] => { c with pc := c.pc + 1, loops := [] }
  | l :: rest =>
    if eligible c l && l.last == c.pc.toNat then
      if 1 < l.left then { c with pc := BitVec.ofNat 14 l.first, loops := { l with left := l.left - 1 } :: rest }
      else loopEnd c rest
    else { c with pc := c.pc + 1, loops := l :: rest }

/-- The loops left after a taken transfer: one whose body it leaves ends, and every loop inside it (R239). -/
def leaveLoops (pc t : BitVec 14) : List LoopRec → List LoopRec
  | [] => []
  | l :: rest =>
    let rest' := leaveLoops pc t rest
    if rest'.length < rest.length || (inBody l pc && !inBody l t) then rest' else l :: rest'

/-- The core after an instruction, where it goes on. -/
def goOn (c : CoreState) : After → CoreState
  | .seq => loopEnd c c.loops
  | .to t => { c with pc := t, loops := leaveLoops c.pc t c.loops }
  | .resume t => { c with pc := t }

/-- The core after an instruction, with the length that governs the next one (R231). -/
def endOf (c : CoreState) (a : After) (len : Option (Nat × BitVec 15)) : CoreState := { goOn c a with oldLen := len }

/-- The trace of a transfer or of RTE (R567). -/
def traceAfter (n : Nat) (a : After) (s : State) : State :=
  match a with
  | .seq => s
  | .to t => traceCore n 0 t.toNat 0 s
  | .resume t => traceCore n 3 t.toNat 0 s

/-! ### Completion -/

/-- The cycles of an instruction: its own cost, in which it issues once, and its stall; and what it made, for the instructions
after it (R237, R238, R266). -/
def addCycles (i : Instr) (n cost : Nat) (s : State) : State :=
  let u := useOf i
  let w := hazard (s.core n) u
  let s := (s.count (KCn_CYCLE_COUNT n) (cost + w)).count (KCn_STALL_COUNT n) (cost - 1 + w)
  let c := s.core n
  s.setCore n { c with cycle := c.cycle + BitVec.ofNat 48 (cost + w), made := u.made, madeBefore := c.made }

/-- The boundary after an instruction: its causes, then those that waited for RTE, then LDERR and STERR, then HALTREQ (R243,
R253). -/
def boundary (n : Nat) (raised : List Nat) (s : State) : State :=
  if !issuing (s.coreState n) then s
  else
    let c := s.core n
    let s :=
      if !raised.isEmpty || (!c.stBit ST_EXL && !c.causes.isEmpty) then
        syncCauses n raised c.pc (if s.coreState n = K_WAIT then s.wr (KCn_STAT_STATE n) K_RUN else s)
      else s
    haltDue n (takeAsync n s)

/-- One instruction of core `n`, in RUN; where a load that it waits for has failed, LDERR is taken instead.  An instruction that
stops without effect has issued.  Under STEP its completion raises STEP beside its own causes. -/
def issueInstr (n : Nat) (i : Instr) (body : State → KRes) (s : State) : State :=
  let s := awaitLoads n (useOf i).regs 17 s
  let c := s.core n
  let stopped := fun (cause : Nat) (s : State) => boundary n [] (syncCauses n [cause] c.pc (addCycles i n 1 s))
  if (c.ldErr || c.stErr) && !c.stBit ST_EXL then haltDue n (takeAsync n s)
  else if imemBad s n c.pc.toNat then stopped X_IMEM_PERR (countParity n c.pc.toNat s)
  else if (useOf i).flow && atEnd c then stopped X_ILLOP s
  else match body s with
    | .stop cause s => stopped cause s
    | .ok s next raised cost len post =>
      let s := addCycles i n cost (s.setCore n (endOf (s.core n) next len))
      boundary n (raised ++ if c.stepping then [X_STEP] else []) (post (traceAfter n next s))

/-- An instruction of core `n`; it does nothing in a core that does not issue. -/
def runInstr (n : Nat) (i : Instr) (body : State → KRes) (s : State) : State :=
  if mayIssue s n then issueInstr n i body (if s.coreState n = K_WAIT then s.wr (KCn_STAT_STATE n) K_RUN else s)
  else s

end Sys2Proof.Machine
end

