-- ==== Sys2Proof/Machine/KlokoData.lean ====
section
/-!
DEFINITION. The meanings of the MAC, ALU, IMM and ACC classes (R222 to R229, R256 to R259).
-/

namespace Sys2Proof.Machine

/-! ### Instructions with parallel moves -/

/-- What an arithmetic part leaves: whether it overflowed an accumulator, whether a move from one saturated, and the core. -/
structure Arith where
  aov : Bool := false
  sat : Bool := false
  core : CoreState

/-- The causes that AOV and MOV_SAT raise, by the enables as they stood (R224, R226). -/
def satCauses (c : CoreState) (aov sat : Bool) : List Nat :=
  (if aov && c.stBit ST_AOVE then [X_AOV] else []) ++ (if sat && c.stBit ST_MSATE then [X_MOVSAT] else [])

/-- An arithmetic part with the moves beside it (R236, R255): `writes` is the register or accumulator (16, 17) that the
arithmetic part writes. -/
def withMoves (n : Nat) (ms : List Move) (writes : Option Nat) (f : CoreState → Arith) (s : State) : KRes :=
  let c := s.core n
  if badMoveReg ms then .stop X_ILLOP s
  else if badCombination ms writes then .stop X_ILLCOMB s
  else
    let o := doMoves n c ms s
    match o.bad with
    | some w => .stop X_DMEM_UE (readDm n w s).2
    | none =>
      let r := f c
      KRes.plain (o.s.setCore n (applyMoves ms o c r.core)) (satCauses c r.aov (r.sat || o.sat))

/-! ### MAC class (R256) -/

/-- The factor of a signed product in the mode in force (R223). -/
def doubling (c : CoreState) : Int := if c.stBit ST_FRAC then 2 else 1

/-- X × Y, X × u(Y) and u(X) × u(Y). -/
def prodSS (c : CoreState) (x y : Nat) : Int := (c.gr x).toInt * (c.gr y).toInt * doubling c
def prodSU (c : CoreState) (x y : Nat) : Int := (c.gr x).toInt * ((c.gr y).toNat : Int)
def prodUU (c : CoreState) (x y : Nat) : Int := ((c.gr x).toNat : Int) * ((c.gr y).toNat : Int)

/-- A MAC-class instruction that loads its accumulator (R225). -/
def macLoad (i : Instr) (n ad : Nat) (ms : List Move) (z : CoreState → Int) (s : State) : State :=
  runInstr n i (withMoves n ms (some (16 + ad)) fun c => { core := c.loadAcc ad (z c) }) s

/-- A MAC-class instruction that accumulates (R224). -/
def macAdd (i : Instr) (n ad : Nat) (ms : List Move) (z : CoreState → Int) (s : State) : State :=
  runInstr n i (withMoves n ms (some (16 + ad)) fun c =>
    let (aov, c') := c.accumulate ad (c.acc ad + z c)
    { aov := aov, core := c' }) s

/-- PMOV. -/
def execPmov (core : CoreId) (mv1 mv2 : Option Move) (s : State) : Host.Outcome State Fault Refusal :=
  done (runInstr core (.pmov core mv1 mv2) (withMoves core (movesOf mv1 mv2) none fun c => { core := c }) s)

/-- MPY: A ← X × Y. -/
def execMpy (core : CoreId) (ad : Fin 2) (x y : Fin 16) (mv1 mv2 : Option Move) (s : State) : Host.Outcome State Fault Refusal :=
  done (macLoad (.mpy core ad x y mv1 mv2) core ad (movesOf mv1 mv2) (fun c => prodSS c x y) s)

/-- MAC: A ← A + X × Y. -/
def execMac (core : CoreId) (ad : Fin 2) (x y : Fin 16) (mv1 mv2 : Option Move) (s : State) : Host.Outcome State Fault Refusal :=
  done (macAdd (.mac core ad x y mv1 mv2) core ad (movesOf mv1 mv2) (fun c => prodSS c x y) s)

/-- MSU: A ← A − X × Y. -/
def execMsu (core : CoreId) (ad : Fin 2) (x y : Fin 16) (mv1 mv2 : Option Move) (s : State) : Host.Outcome State Fault Refusal :=
  done (macAdd (.msu core ad x y mv1 mv2) core ad (movesOf mv1 mv2) (fun c => -prodSS c x y) s)

/-- MPYSU: A ← X × u(Y). -/
def execMpysu (core : CoreId) (ad : Fin 2) (x y : Fin 16) (mv1 mv2 : Option Move) (s : State) : Host.Outcome State Fault Refusal :=
  done (macLoad (.mpysu core ad x y mv1 mv2) core ad (movesOf mv1 mv2) (fun c => prodSU c x y) s)

/-- MACSU: A ← A + X × u(Y). -/
def execMacsu (core : CoreId) (ad : Fin 2) (x y : Fin 16) (mv1 mv2 : Option Move) (s : State) : Host.Outcome State Fault Refusal :=
  done (macAdd (.macsu core ad x y mv1 mv2) core ad (movesOf mv1 mv2) (fun c => prodSU c x y) s)

/-- MACUU: A ← A + u(X) × u(Y). -/
def execMacuu (core : CoreId) (ad : Fin 2) (x y : Fin 16) (mv1 mv2 : Option Move) (s : State) : Host.Outcome State Fault Refusal :=
  done (macAdd (.macuu core ad x y mv1 mv2) core ad (movesOf mv1 mv2) (fun c => prodUU c x y) s)

/-- ACCX: A ← A + X × 2^(48F). -/
def execAccx (core : CoreId) (ad : Fin 2) (x : Fin 16) (mv1 mv2 : Option Move) (s : State) : Host.Outcome State Fault Refusal :=
  done (macAdd (.accx core ad x mv1 mv2) core ad (movesOf mv1 mv2) (fun c => (c.gr x).toInt * (2 ^ c.frac48 : Nat)) s)

/-! ### ALU class (R257) -/

/-- An ALU instruction that writes D. -/
def aluOp (i : Instr) (n d : Nat) (mv : Option Move) (f : CoreState → AluOut) (s : State) : State :=
  runInstr n i (withMoves n mv.toList (some d) fun c => { core := c.result d (f c) }) s

/-- An ALU instruction that writes only flags. -/
def aluTest (i : Instr) (n : Nat) (mv : Option Move) (f : CoreState → AluOut) (s : State) : State :=
  runInstr n i (withMoves n mv.toList none fun c => { core := { c with st := setFlags c.st (f c) } }) s

/-- The shift count in S2[6:0]. -/
def countOf (c : CoreState) (s2 : Nat) : Nat := (c.gr s2).toNat % 128

/-- C as the carry in. -/
def carry (c : CoreState) : Bool := c.stBit ST_C

/-- MOV. -/
def execMov (core : CoreId) (d s1 s2 : Fin 16) (mv : Option Move) (s : State) : Host.Outcome State Fault Refusal :=
  done (aluOp (.mov core d s1 s2 mv) core d mv (fun c => bitOut (c.gr s1)) s)

/-- ADD. -/
def execAdd (core : CoreId) (d s1 s2 : Fin 16) (mv : Option Move) (s : State) : Host.Outcome State Fault Refusal :=
  done (aluOp (.add core d s1 s2 mv) core d mv (fun c => addOut (c.gr s1) (c.gr s2) false) s)

/-- ADC. -/
def execAdc (core : CoreId) (d s1 s2 : Fin 16) (mv : Option Move) (s : State) : Host.Outcome State Fault Refusal :=
  done (aluOp (.adc core d s1 s2 mv) core d mv (fun c => addOut (c.gr s1) (c.gr s2) (carry c)) s)

/-- SUB. -/
def execSub (core : CoreId) (d s1 s2 : Fin 16) (mv : Option Move) (s : State) : Host.Outcome State Fault Refusal :=
  done (aluOp (.sub core d s1 s2 mv) core d mv (fun c => subOut (c.gr s1) (c.gr s2) false) s)

/-- SBC. -/
def execSbc (core : CoreId) (d s1 s2 : Fin 16) (mv : Option Move) (s : State) : Host.Outcome State Fault Refusal :=
  done (aluOp (.sbc core d s1 s2 mv) core d mv (fun c => subOut (c.gr s1) (c.gr s2) (!carry c)) s)

/-- ADDS. -/
def execAdds (core : CoreId) (d s1 s2 : Fin 16) (mv : Option Move) (s : State) : Host.Outcome State Fault Refusal :=
  done (aluOp (.adds core d s1 s2 mv) core d mv (fun c => satOut ((c.gr s1).toInt + (c.gr s2).toInt)) s)

/-- SUBS. -/
def execSubs (core : CoreId) (d s1 s2 : Fin 16) (mv : Option Move) (s : State) : Host.Outcome State Fault Refusal :=
  done (aluOp (.subs core d s1 s2 mv) core d mv (fun c => satOut ((c.gr s1).toInt - (c.gr s2).toInt)) s)

/-- NEG. -/
def execNeg (core : CoreId) (d s1 s2 : Fin 16) (mv : Option Move) (s : State) : Host.Outcome State Fault Refusal :=
  done (aluOp (.neg core d s1 s2 mv) core d mv (fun c => negOut (c.gr s1)) s)

/-- ABS. -/
def execAbs (core : CoreId) (d s1 s2 : Fin 16) (mv : Option Move) (s : State) : Host.Outcome State Fault Refusal :=
  done (aluOp (.abs core d s1 s2 mv) core d mv (fun c => satOut ((c.gr s1).toInt.natAbs : Int)) s)

/-- AND. -/
def execAnd (core : CoreId) (d s1 s2 : Fin 16) (mv : Option Move) (s : State) : Host.Outcome State Fault Refusal :=
  done (aluOp (.and core d s1 s2 mv) core d mv (fun c => bitOut (c.gr s1 &&& c.gr s2)) s)

/-- OR. -/
def execOr (core : CoreId) (d s1 s2 : Fin 16) (mv : Option Move) (s : State) : Host.Outcome State Fault Refusal :=
  done (aluOp (.or core d s1 s2 mv) core d mv (fun c => bitOut (c.gr s1 ||| c.gr s2)) s)

/-- XOR. -/
def execXor (core : CoreId) (d s1 s2 : Fin 16) (mv : Option Move) (s : State) : Host.Outcome State Fault Refusal :=
  done (aluOp (.xor core d s1 s2 mv) core d mv (fun c => bitOut (c.gr s1 ^^^ c.gr s2)) s)

/-- ANDN. -/
def execAndn (core : CoreId) (d s1 s2 : Fin 16) (mv : Option Move) (s : State) : Host.Outcome State Fault Refusal :=
  done (aluOp (.andn core d s1 s2 mv) core d mv (fun c => bitOut (c.gr s1 &&& ~~~c.gr s2)) s)

/-- NOT. -/
def execNot (core : CoreId) (d s1 s2 : Fin 16) (mv : Option Move) (s : State) : Host.Outcome State Fault Refusal :=
  done (aluOp (.not core d s1 s2 mv) core d mv (fun c => bitOut (~~~c.gr s1)) s)

/-- SHL. -/
def execShl (core : CoreId) (d s1 s2 : Fin 16) (mv : Option Move) (s : State) : Host.Outcome State Fault Refusal :=
  done (aluOp (.shl core d s1 s2 mv) core d mv (fun c => shlOut (c.gr s1) (countOf c s2)) s)

/-- SHR. -/
def execShr (core : CoreId) (d s1 s2 : Fin 16) (mv : Option Move) (s : State) : Host.Outcome State Fault Refusal :=
  done (aluOp (.shr core d s1 s2 mv) core d mv (fun c => shrOut (c.gr s1) (countOf c s2)) s)

/-- SRA. -/
def execSra (core : CoreId) (d s1 s2 : Fin 16) (mv : Option Move) (s : State) : Host.Outcome State Fault Refusal :=
  done (aluOp (.sra core d s1 s2 mv) core d mv (fun c => sraOut (c.gr s1) (countOf c s2)) s)

/-- MIN. -/
def execMin (core : CoreId) (d s1 s2 : Fin 16) (mv : Option Move) (s : State) : Host.Outcome State Fault Refusal :=
  done (aluOp (.min core d s1 s2 mv) core d mv (fun c => plainOut (if (c.gr s1).toInt ≤ (c.gr s2).toInt then c.gr s1 else c.gr s2)) s)

/-- MAX. -/
def execMax (core : CoreId) (d s1 s2 : Fin 16) (mv : Option Move) (s : State) : Host.Outcome State Fault Refusal :=
  done (aluOp (.max core d s1 s2 mv) core d mv (fun c => plainOut (if (c.gr s1).toInt ≤ (c.gr s2).toInt then c.gr s2 else c.gr s1)) s)

/-- CMP. -/
def execCmp (core : CoreId) (d s1 s2 : Fin 16) (mv : Option Move) (s : State) : Host.Outcome State Fault Refusal :=
  done (aluTest (.cmp core d s1 s2 mv) core mv (fun c => subOut (c.gr s1) (c.gr s2) false) s)

/-- TST. -/
def execTst (core : CoreId) (d s1 s2 : Fin 16) (mv : Option Move) (s : State) : Host.Outcome State Fault Refusal :=
  done (aluTest (.tst core d s1 s2 mv) core mv (fun c => bitOut (c.gr s1 &&& c.gr s2)) s)

/-- CLS. -/
def execCls (core : CoreId) (d s1 s2 : Fin 16) (mv : Option Move) (s : State) : Host.Outcome State Fault Refusal :=
  done (aluOp (.cls core d s1 s2 mv) core d mv (fun c => plainOut (BitVec.ofNat 48 (clsOf (c.gr s1)))) s)

/-- MULL. -/
def execMull (core : CoreId) (d s1 s2 : Fin 16) (mv : Option Move) (s : State) : Host.Outcome State Fault Refusal :=
  done (aluOp (.mull core d s1 s2 mv) core d mv (fun c => mullOut (c.gr s1) (c.gr s2)) s)

/-! ### IMM class (R258) -/

/-- sx(IMM). -/
def immOf (imm : BitVec 32) : Word := imm.signExtend 48

/-- LDI. -/
def execLdi (core : CoreId) (d : Fin 16) (imm : BitVec 32) (s : State) : Host.Outcome State Fault Refusal :=
  done (aluOp (.ldi core d imm) core d none (fun _ => plainOut (immOf imm)) s)

/-- LDIH: bits [47:32] alone, and no flag. -/
def execLdih (core : CoreId) (d : Fin 16) (imm : BitVec 16) (s : State) : Host.Outcome State Fault Refusal :=
  done (runInstr core (.ldih core d imm) (withMoves core [] (some d.val) fun c =>
    { core := c.setG d (BitVec.ofNat 48 ((c.gr d).toNat % 2 ^ 32 + imm.toNat * 2 ^ 32)) }) s)

/-- ADDI. -/
def execAddi (core : CoreId) (d src : Fin 16) (imm : BitVec 32) (s : State) : Host.Outcome State Fault Refusal :=
  done (aluOp (.addi core d src imm) core d none (fun c => addOut (c.gr src) (immOf imm) false) s)

/-- ANDI. -/
def execAndi (core : CoreId) (d src : Fin 16) (imm : BitVec 32) (s : State) : Host.Outcome State Fault Refusal :=
  done (aluOp (.andi core d src imm) core d none (fun c => bitOut (c.gr src &&& immOf imm)) s)

/-- ORI. -/
def execOri (core : CoreId) (d src : Fin 16) (imm : BitVec 32) (s : State) : Host.Outcome State Fault Refusal :=
  done (aluOp (.ori core d src imm) core d none (fun c => bitOut (c.gr src ||| immOf imm)) s)

/-- XORI. -/
def execXori (core : CoreId) (d src : Fin 16) (imm : BitVec 32) (s : State) : Host.Outcome State Fault Refusal :=
  done (aluOp (.xori core d src imm) core d none (fun c => bitOut (c.gr src ^^^ immOf imm)) s)

/-- CMPI. -/
def execCmpi (core : CoreId) (d src : Fin 16) (imm : BitVec 32) (s : State) : Host.Outcome State Fault Refusal :=
  done (aluTest (.cmpi core d src imm) core none (fun c => subOut (c.gr src) (immOf imm) false) s)

/-- SHLI. -/
def execShli (core : CoreId) (d src : Fin 16) (n : Fin 128) (s : State) : Host.Outcome State Fault Refusal :=
  done (aluOp (.shli core d src n) core d none (fun c => shlOut (c.gr src) n) s)

/-- SHRI. -/
def execShri (core : CoreId) (d src : Fin 16) (n : Fin 128) (s : State) : Host.Outcome State Fault Refusal :=
  done (aluOp (.shri core d src n) core d none (fun c => shrOut (c.gr src) n) s)

/-- SRAI. -/
def execSrai (core : CoreId) (d src : Fin 16) (n : Fin 128) (s : State) : Host.Outcome State Fault Refusal :=
  done (aluOp (.srai core d src n) core d none (fun c => sraOut (c.gr src) n) s)

/-! ### ACC class (R259) -/

/-- An ACC instruction: it has no moves. -/
def accOp (i : Instr) (n : Nat) (f : CoreState → Arith) (s : State) : State :=
  runInstr n i (withMoves n [] none f) s

/-- One that accumulates. -/
def accAdd (i : Instr) (n ad : Nat) (z : CoreState → Int) (s : State) : State :=
  accOp i n (fun c =>
    let (aov, c') := c.accumulate ad (z c)
    { aov := aov, core := c' }) s

/-- One that writes some bits of an accumulator, from bit `lo`, and leaves the latch (R225). -/
def accBits (i : Instr) (n ad g lo w : Nat) (s : State) : State :=
  accOp i n (fun c =>
    let a := (c.a.getD ad 0).toNat
    let old := a >>> lo % 2 ^ w
    { core := c.putAcc ad ((a - old <<< lo + ((c.gr g).toNat % 2 ^ w) <<< lo : Nat) : Int) }) s

/-- One that puts a value into a general register. -/
def accRead (i : Instr) (n g : Nat) (v : CoreState → Word) (s : State) : State := accOp i n (fun c => { core := c.setG g (v c) }) s

/-- The redundant sign bits of an accumulator. -/
def normOf (a : BitVec 112) : Nat := ((List.range 112).takeWhile fun i => a.getLsbD (111 - i) == a.msb).length - 1

/-- CLRA. -/
def execClra (core : CoreId) (ad asel : Fin 2) (g : Fin 16) (n : Fin 64) (s : State) : Host.Outcome State Fault Refusal :=
  done (accOp (.clra core ad asel g n) core (fun c => { core := c.loadAcc ad 0 }) s)

/-- MVA. -/
def execMva (core : CoreId) (ad asel : Fin 2) (g : Fin 16) (n : Fin 64) (s : State) : Host.Outcome State Fault Refusal :=
  done (accOp (.mva core ad asel g n) core (fun c =>
    let (v, sat) := c.moveOut ad
    { sat := sat, core := (c.setG g v).moveSat sat }) s)

/-- RDAL. -/
def execRdal (core : CoreId) (ad asel : Fin 2) (g : Fin 16) (n : Fin 64) (s : State) : Host.Outcome State Fault Refusal :=
  done (accRead (.rdal core ad asel g n) core g (fun c => (c.a.getD ad 0).extractLsb' 0 48) s)

/-- RDAH. -/
def execRdah (core : CoreId) (ad asel : Fin 2) (g : Fin 16) (n : Fin 64) (s : State) : Host.Outcome State Fault Refusal :=
  done (accRead (.rdah core ad asel g n) core g (fun c => (c.a.getD ad 0).extractLsb' 48 48) s)

/-- RDAG. -/
def execRdag (core : CoreId) (ad asel : Fin 2) (g : Fin 16) (n : Fin 64) (s : State) : Host.Outcome State Fault Refusal :=
  done (accRead (.rdag core ad asel g n) core g (fun c => ((c.a.getD ad 0).extractLsb' 96 16).signExtend 48) s)

/-- WRAL. -/
def execWral (core : CoreId) (ad asel : Fin 2) (g : Fin 16) (n : Fin 64) (s : State) : Host.Outcome State Fault Refusal :=
  done (accBits (.wral core ad asel g n) core ad g 0 48 s)

/-- WRAH. -/
def execWrah (core : CoreId) (ad asel : Fin 2) (g : Fin 16) (n : Fin 64) (s : State) : Host.Outcome State Fault Refusal :=
  done (accBits (.wrah core ad asel g n) core ad g 48 48 s)

/-- WRAG. -/
def execWrag (core : CoreId) (ad asel : Fin 2) (g : Fin 16) (n : Fin 64) (s : State) : Host.Outcome State Fault Refusal :=
  done (accBits (.wrag core ad asel g n) core ad g 96 16 s)

/-- LDA. -/
def execLda (core : CoreId) (ad asel : Fin 2) (g : Fin 16) (n : Fin 64) (s : State) : Host.Outcome State Fault Refusal :=
  done (accOp (.lda core ad asel g n) core (fun c => { core := c.loadAcc ad ((c.gr g).toInt * (2 ^ c.frac48 : Nat)) }) s)

/-- ADDA. -/
def execAdda (core : CoreId) (ad asel : Fin 2) (g : Fin 16) (n : Fin 64) (s : State) : Host.Outcome State Fault Refusal :=
  done (accAdd (.adda core ad asel g n) core ad (fun c => c.acc ad + c.acc asel) s)

/-- SUBA. -/
def execSuba (core : CoreId) (ad asel : Fin 2) (g : Fin 16) (n : Fin 64) (s : State) : Host.Outcome State Fault Refusal :=
  done (accAdd (.suba core ad asel g n) core ad (fun c => c.acc ad - c.acc asel) s)

/-- NEGA. -/
def execNega (core : CoreId) (ad asel : Fin 2) (g : Fin 16) (n : Fin 64) (s : State) : Host.Outcome State Fault Refusal :=
  done (accAdd (.nega core ad asel g n) core ad (fun c => -c.acc ad) s)

/-- ASLA. -/
def execAsla (core : CoreId) (ad asel : Fin 2) (g : Fin 16) (n : Fin 64) (s : State) : Host.Outcome State Fault Refusal :=
  done (accAdd (.asla core ad asel g n) core ad (fun c => c.acc ad * (2 ^ n.val : Nat)) s)

/-- ASRA: a latched accumulator stays (R225). -/
def execAsra (core : CoreId) (ad asel : Fin 2) (g : Fin 16) (n : Fin 64) (s : State) : Host.Outcome State Fault Refusal :=
  done (accAdd (.asra core ad asel g n) core ad (fun c => c.acc ad / (2 ^ n.val : Nat)) s)

/-- NORMA. -/
def execNorma (core : CoreId) (ad asel : Fin 2) (g : Fin 16) (n : Fin 64) (s : State) : Host.Outcome State Fault Refusal :=
  done (accRead (.norma core ad asel g n) core g (fun c => BitVec.ofNat 48 (normOf (c.a.getD ad 0))) s)

/-- MOVA: the other accumulator with its latch. -/
def execMova (core : CoreId) (ad asel : Fin 2) (g : Fin 16) (n : Fin 64) (s : State) : Host.Outcome State Fault Refusal :=
  done (accOp (.mova core ad asel g n) core (fun c => { core := (c.putAcc ad (c.acc asel)).setSt (ST_A0SAT + ad) (c.latched asel) }) s)

/-- TSTA: Z and N alone. -/
def execTsta (core : CoreId) (ad asel : Fin 2) (g : Fin 16) (n : Fin 64) (s : State) : Host.Outcome State Fault Refusal :=
  done (accOp (.tsta core ad asel g n) core (fun c => { core := (c.setSt ST_Z (c.acc ad == 0)).setSt ST_N (decide (c.acc ad < 0)) }) s)

end Sys2Proof.Machine
end

