-- ==== Sys2Proof/Machine/KlokoMem.lean ====
section
/-!
DEFINITION. The meanings of the LDST and ADDR classes (R230 to R235, R260, R261).
-/

namespace Sys2Proof.Machine

/-! ### Local loads and stores (R260) -/

/-- A load of a data word into REG. -/
def localLoad (i : Instr) (n reg : Nat) (at_ : CoreState → Nat) (s : State) : State :=
  runInstr n i (fun s =>
    let c := s.core n
    if 18 ≤ reg then .stop X_ILLOP s
    else match readDm n (at_ c) s with
      | (none, s) => .stop X_DMEM_UE s
      | (some v, s) => KRes.plain (s.setCore n (c.loadReg reg v))) s

/-- A store of REG to a data word. -/
def localStore (i : Instr) (n reg : Nat) (at_ : CoreState → Nat) (s : State) : State :=
  runInstr n i (fun s =>
    let c := s.core n
    if 18 ≤ reg then .stop X_ILLOP s
    else
      let (v, sat) := c.storeReg reg
      KRes.plain ((writeDm n (at_ c) v s).setCore n (c.moveSat sat)) (satCauses c false sat)) s

/-- (P + OFF) mod 32,768. -/
def indexed (ptr : Nat) (ofs : BitVec 15) (c : CoreState) : Nat := (c.ptr ptr + ofs.toNat) % 32768

/-- LDX. -/
def execLdx (core : CoreId) (reg : Fin 32) (ptr : Fin 8) (ofs : BitVec 15) (s : State) : Host.Outcome State Fault Refusal :=
  done (localLoad (.ldx core reg ptr ofs) core reg (indexed ptr ofs) s)

/-- STX. -/
def execStx (core : CoreId) (reg : Fin 32) (ptr : Fin 8) (ofs : BitVec 15) (s : State) : Host.Outcome State Fault Refusal :=
  done (localStore (.stx core reg ptr ofs) core reg (indexed ptr ofs) s)

/-- LDD. -/
def execLdd (core : CoreId) (reg : Fin 32) (addr : BitVec 15) (s : State) : Host.Outcome State Fault Refusal :=
  done (localLoad (.ldd core reg addr) core reg (fun _ => addr.toNat) s)

/-- STD. -/
def execStd (core : CoreId) (reg : Fin 32) (addr : BitVec 15) (s : State) : Host.Outcome State Fault Refusal :=
  done (localStore (.std core reg addr) core reg (fun _ => addr.toNat) s)

/-! ### Global accesses (R232 to R235) -/

/-- The bytes of a SIZE code; none where it is not one. -/
def sizeOf? (code : Nat) : Option Nat := [1, 2, 3, 4, 6][code]?

/-- G + OFF, modulo 2^32. -/
def globalAddr (c : CoreState) (base : Nat) (ofs : BitVec 24) : Nat := ((c.gr base).toNat + (ofs.signExtend 32).toNat) % 2 ^ 32

/-- What a load of `k` bytes puts into its register. -/
def extend (sx : Bool) (k : Nat) (d : List Byte) : Word :=
  if sx then BitVec.ofInt 48 (signed (8 * k) (ofLE d)) else BitVec.ofNat 48 (ofLE d)

/-- An access is outstanding from now on; IC_INFLIGHT keeps the peak (R467). -/
def outstanding (n : Nat) (x : GlobalAcc) (s : State) : State :=
  keepPeak 0 (s.setCore n { s.core n with out := (s.core n).out ++ [x] })

/-- The bytes of an access of `k` bytes that its first interconnect transaction carries (R232). -/
def firstPart (addr k : Nat) : Nat := min k (16 - addr % 16)

/-- The access with what one of its transactions answered: of two error responses the last one stays. -/
def GlobalAcc.answeredWith (x : GlobalAcc) (addr cause : Nat) : GlobalAcc :=
  if cause = 0 then x else { x with cause := cause, errAddr := addr }

/-- A load: its value is that of the memory at issue, and its register takes it when both transactions have returned (R232).
[DEDUCED, unsafe: notes/assumptions/48] -/
def issueLoad (n reg addr code k : Nat) (sx : Bool) (s : State) : State :=
  let x : GlobalAcc := { dest := some reg, addr := addr, size := code }
  let s := makeRoom n (transactions x) 17 s
  let j := firstPart addr k
  let (c1, d1, s) := busRead n addr j s
  let (c2, d2, s) := if j = k then (0, [], s) else busRead n (addr + j) (k - j) s
  outstanding n { (x.answeredWith addr c1).answeredWith (addr + j) c2 with value := extend sx k (d1 ++ d2) } s

/-- A store, posted: one that gets an error response stays outstanding until the response arrives. -/
def issueStore (n addr code : Nat) (bs : List Byte) (s : State) : State :=
  let x : GlobalAcc := { dest := none, addr := addr, size := code }
  let s := makeRoom n (transactions x) 17 s
  let j := firstPart addr bs.length
  let (c1, s) := busWrite n addr (bs.take j) s
  let (c2, s) := if j = bs.length then (0, s) else busWrite n (addr + j) (bs.drop j) s
  if c1 = 0 ∧ c2 = 0 then s else outstanding n ((x.answeredWith addr c1).answeredWith (addr + j) c2) s

/-- An atomic access: G takes the old word when it returns. -/
def issueAtomic (n reg addr : Nat) (f : Nat → Nat) (s : State) : State :=
  let x : GlobalAcc := { dest := some reg, addr := addr, size := 3 }
  let s := makeRoom n 1 17 s
  let (cause, old, s) := busAtomic n addr f s
  outstanding n { x.answeredWith addr cause with value := BitVec.ofNat 48 old } s

/-- LDG. -/
def execLdg (core : CoreId) (reg : Fin 32) (base : Fin 16) (size : Fin 8) (sx : Bool) (ofs : BitVec 24) (s : State) :
    Host.Outcome State Fault Refusal :=
  done (runInstr core (.ldg core reg base size sx ofs) (fun s =>
    match sizeOf? size, decide (reg.val < 16) with
    | some k, true => .ok s .seq [] 1 none (issueLoad core reg (globalAddr (s.core core) base ofs) size k sx)
    | _, _ => .stop X_ILLOP s) s)

/-- STG. -/
def execStg (core : CoreId) (reg : Fin 32) (base : Fin 16) (size : Fin 8) (sx : Bool) (ofs : BitVec 24) (s : State) :
    Host.Outcome State Fault Refusal :=
  done (runInstr core (.stg core reg base size sx ofs) (fun s =>
    match sizeOf? size, decide (reg.val < 16) with
    | some k, true =>
      .ok s .seq [] 1 none (issueStore core (globalAddr (s.core core) base ofs) size (toLE k ((s.core core).gr reg).toNat))
    | _, _ => .stop X_ILLOP s) s)

/-- An atomic instruction: `f` makes the new word of the old one and of G[31:0]. -/
def atomicInstr (i : Instr) (n reg base size : Nat) (ofs : BitVec 24) (f : Nat → Nat → Nat) (s : State) : State :=
  runInstr n i (fun s =>
    let addr := globalAddr (s.core n) base ofs
    if size ≠ 3 ∨ 16 ≤ reg then .stop X_ILLOP s
    else if addr % 4 ≠ 0 then .stop X_ALIGN s
    else .ok s .seq [] 1 none (issueAtomic n reg addr (fun old => f old (((s.core n).gr reg).toNat % 2 ^ 32)))) s

/-- AADD. -/
def execAadd (core : CoreId) (reg : Fin 32) (base : Fin 16) (size : Fin 8) (sx : Bool) (ofs : BitVec 24) (s : State) :
    Host.Outcome State Fault Refusal := done (atomicInstr (.aadd core reg base size sx ofs) core reg base size ofs (fun old v => old + v) s)

/-- ASWP. -/
def execAswp (core : CoreId) (reg : Fin 32) (base : Fin 16) (size : Fin 8) (sx : Bool) (ofs : BitVec 24) (s : State) :
    Host.Outcome State Fault Refusal := done (atomicInstr (.aswp core reg base size sx ofs) core reg base size ofs (fun _ v => v) s)

/-- An access that `p` picks is answered from outside, among those that no earlier access to their block holds back (R233); a core
that no longer issues discards what it gets (R251, R252). -/
def answered (n : Nat) (p : GlobalAcc → Bool) (s : State) : State :=
  match (unblocked [] (s.core n).out).find? p with
  | some x => haltDue n (takeAsync n (answerOne n x s))
  | none => s

/-- GLOBAL_LOAD_RETURN (R233): the oldest outstanding load that has no error and may complete returns. -/
def execGlobalLoadReturn (core : CoreId) (s : State) : Host.Outcome State Fault Refusal :=
  done (answered core (fun x => x.dest.isSome && x.cause == 0) s)

/-- BUS_ERROR_RESPONSE (R235): the error response of the oldest access that gets one arrives. -/
def execBusErrorResponse (core : CoreId) (s : State) : Host.Outcome State Fault Refusal :=
  done (answered core (fun x => x.cause != 0) s)

/-! ### ADDR class (R261) -/

/-- An ADDR instruction: what it makes of the core, and the length it wrote. -/
def addrOp (i : Instr) (n : Nat) (f : CoreState → CoreState × Option (Nat × BitVec 15)) (s : State) : State :=
  runInstr n i (fun s =>
    let (c, len) := f (s.core n)
    .ok (s.setCore n c) .seq [] 1 len id) s

/-- G[14:0]. -/
def low15 (c : CoreState) (g : Nat) : BitVec 15 := (c.gr g).setWidth 15

/-- Bn, Mn and Ln written; the length that was in the register still governs the next instruction (R231). -/
def CoreState.setB (c : CoreState) (k : Nat) (v : BitVec 15) : CoreState := { c with b := c.b.setIfInBounds k v }
def CoreState.setM (c : CoreState) (k : Nat) (v : BitVec 15) : CoreState := { c with m := c.m.setIfInBounds k v }
def writeLen (k : Nat) (v : CoreState → BitVec 15) (c : CoreState) : CoreState × Option (Nat × BitVec 15) :=
  (c.setLen k (v c), some (k, c.l.getD k 0))

/-- LDPI. -/
def execLdpi (core : CoreId) (ptr : Fin 8) (kind : Fin 4) (g : Fin 16) (imm : BitVec 15) (s : State) :
    Host.Outcome State Fault Refusal := done (addrOp (.ldpi core ptr kind g imm) core (fun c => (c.setPtr ptr imm.toNat, none)) s)

/-- LDBI. -/
def execLdbi (core : CoreId) (ptr : Fin 8) (kind : Fin 4) (g : Fin 16) (imm : BitVec 15) (s : State) :
    Host.Outcome State Fault Refusal := done (addrOp (.ldbi core ptr kind g imm) core (fun c => (c.setB ptr imm, none)) s)

/-- LDLI. -/
def execLdli (core : CoreId) (ptr : Fin 8) (kind : Fin 4) (g : Fin 16) (imm : BitVec 15) (s : State) :
    Host.Outcome State Fault Refusal := done (addrOp (.ldli core ptr kind g imm) core (writeLen ptr fun _ => imm) s)

/-- LDMI. -/
def execLdmi (core : CoreId) (ptr : Fin 8) (kind : Fin 4) (g : Fin 16) (imm : BitVec 15) (s : State) :
    Host.Outcome State Fault Refusal := done (addrOp (.ldmi core ptr kind g imm) core (fun c => (c.setM ptr imm, none)) s)

/-- LDPG. -/
def execLdpg (core : CoreId) (ptr : Fin 8) (kind : Fin 4) (g : Fin 16) (imm : BitVec 15) (s : State) :
    Host.Outcome State Fault Refusal := done (addrOp (.ldpg core ptr kind g imm) core (fun c => (c.setPtr ptr (low15 c g).toNat, none)) s)

/-- LDBG. -/
def execLdbg (core : CoreId) (ptr : Fin 8) (kind : Fin 4) (g : Fin 16) (imm : BitVec 15) (s : State) :
    Host.Outcome State Fault Refusal := done (addrOp (.ldbg core ptr kind g imm) core (fun c => (c.setB ptr (low15 c g), none)) s)

/-- LDLG. -/
def execLdlg (core : CoreId) (ptr : Fin 8) (kind : Fin 4) (g : Fin 16) (imm : BitVec 15) (s : State) :
    Host.Outcome State Fault Refusal := done (addrOp (.ldlg core ptr kind g imm) core (writeLen ptr fun c => low15 c g) s)

/-- LDMG. -/
def execLdmg (core : CoreId) (ptr : Fin 8) (kind : Fin 4) (g : Fin 16) (imm : BitVec 15) (s : State) :
    Host.Outcome State Fault Refusal := done (addrOp (.ldmg core ptr kind g imm) core (fun c => (c.setM ptr (low15 c g), none)) s)

/-- The address register that RDAR reads. -/
def addrReg (c : CoreState) (ptr kind : Nat) : Word :=
  match kind with
  | 0 => (c.p.getD ptr 0).setWidth 48
  | 1 => (c.b.getD ptr 0).setWidth 48
  | 2 => (c.l.getD ptr 0).setWidth 48
  | _ => (c.m.getD ptr 0).signExtend 48

/-- RDAR. -/
def execRdar (core : CoreId) (ptr : Fin 8) (kind : Fin 4) (g : Fin 16) (imm : BitVec 15) (s : State) :
    Host.Outcome State Fault Refusal := done (addrOp (.rdar core ptr kind g imm) core (fun c => (c.setG g (addrReg c ptr kind), none)) s)

/-- MODP. -/
def execModp (core : CoreId) (ptr : Fin 8) (kind : Fin 4) (g : Fin 16) (imm : BitVec 15) (s : State) :
    Host.Outcome State Fault Refusal := done (addrOp (.modp core ptr kind g imm) core (fun c => (c.modify ptr imm.toInt, none)) s)

/-- MODPM. -/
def execModpm (core : CoreId) (ptr : Fin 8) (kind : Fin 4) (g : Fin 16) (imm : BitVec 15) (s : State) :
    Host.Outcome State Fault Refusal := done (addrOp (.modpm core ptr kind g imm) core (fun c => (c.modify ptr (c.stepM ptr), none)) s)

end Sys2Proof.Machine
end

