-- ==== Sys2Proof/Machine/KlokoFlow.lean ====
section
/-!
DEFINITION. The meanings of the FLOW and SYS classes (R221, R238, R239, R242, R248, R249, R262, R263), and the entries to an
interrupt and to NMI (R241, R243).
-/

namespace Sys2Proof.Machine

/-! ### FLOW class (R262) -/

/-- A FLOW instruction. -/
def flowOp (i : Instr) (n : Nat) (f : CoreState → State → KRes) (s : State) : State :=
  runInstr n i (fun s => f (s.core n) s) s

/-- A transfer that is taken, at a cost. -/
def go (t : BitVec 14) (cost : Nat) (s : State) : KRes := .ok s (.to t) [] cost none id

/-- A conditional transfer: 1 cycle where it is not taken, 5 where it is (R238). -/
def goIf (b : Bool) (t : BitVec 14) (s : State) : KRes := if b then go t 5 s else .ok s .seq [] 1 none id

/-- G[13:0]. -/
def low14 (c : CoreState) (g : Nat) : BitVec 14 := (c.gr g).setWidth 14

/-- The next address is pushed on the return stack, which holds 16. -/
def callTo (n : Nat) (t : CoreState → BitVec 14) (cost : Nat) (c : CoreState) (s : State) : KRes :=
  if 16 ≤ c.rets.length then .stop X_RSOVF s
  else go (t c) cost (s.setCore n { c with rets := (c.pc + 1) :: c.rets })

/-- The loop around an address. -/
def enclosing (c : CoreState) : Option LoopRec := c.loops.find? fun l => inBody l c.pc

/-- Whether an END lies outside the loop around the LOOP instruction. [DEDUCED, unsafe: notes/assumptions/43] -/
def outsideLoop (c : CoreState) (stop : BitVec 14) : Bool := (enclosing c).any fun l => decide (l.last < stop.toNat)

/-- LOOP and LOOPG (R239). [DEDUCED, unsafe: notes/assumptions/43] -/
def startLoop (n count : Nat) (stop : BitVec 14) (c : CoreState) (s : State) : KRes :=
  if stop.toNat ≤ c.pc.toNat ∨ outsideLoop c stop then .stop X_ILLOP s
  else if 4 ≤ c.loops.length then .stop X_LOOPOVF s
  else if count = 0 then go (stop + 1) 5 s
  else
    let l : LoopRec := ⟨c.pc.toNat + 1, stop.toNat, count, c.stBit ST_EXL⟩
    KRes.plain (s.setCore n { c with loops := l :: c.loops })

/-- BR. -/
def execBr (core : CoreId) (cond g : Fin 16) (count : BitVec 16) (target : BitVec 14) (s : State) :
    Host.Outcome State Fault Refusal := done (flowOp (.br core cond g count target) core (fun c s => goIf (condHolds c.st cond) (c.pc + target) s) s)

/-- JMP. -/
def execJmp (core : CoreId) (cond g : Fin 16) (count : BitVec 16) (target : BitVec 14) (s : State) :
    Host.Outcome State Fault Refusal := done (flowOp (.jmp core cond g count target) core (fun _ s => go target 2 s) s)

/-- JR. -/
def execJr (core : CoreId) (cond g : Fin 16) (count : BitVec 16) (target : BitVec 14) (s : State) :
    Host.Outcome State Fault Refusal := done (flowOp (.jr core cond g count target) core (fun c s => go (low14 c g) 3 s) s)

/-- CALL. -/
def execCall (core : CoreId) (cond g : Fin 16) (count : BitVec 16) (target : BitVec 14) (s : State) :
    Host.Outcome State Fault Refusal := done (flowOp (.call core cond g count target) core (callTo core (fun _ => target) 2) s)

/-- CALLR. -/
def execCallr (core : CoreId) (cond g : Fin 16) (count : BitVec 16) (target : BitVec 14) (s : State) :
    Host.Outcome State Fault Refusal := done (flowOp (.callr core cond g count target) core (callTo core (fun c => low14 c g) 3) s)

/-- RET. -/
def execRet (core : CoreId) (cond g : Fin 16) (count : BitVec 16) (target : BitVec 14) (s : State) :
    Host.Outcome State Fault Refusal :=
  done (flowOp (.ret core cond g count target) core (fun c s =>
    match c.rets with
    | [] => .stop X_RSUNF s
    | t :: rest => go t 3 (s.setCore core { c with rets := rest })) s)

/-- RTE (R242): ST from EST, and on at EPC. -/
def execRte (core : CoreId) (cond g : Fin 16) (count : BitVec 16) (target : BitVec 14) (s : State) :
    Host.Outcome State Fault Refusal :=
  done (flowOp (.rte core cond g count target) core (fun c s => .ok (s.setCore core { c with st := c.est }) (.resume c.epc) [] 5 none id) s)

/-- LOOP. -/
def execLoop (core : CoreId) (cond g : Fin 16) (count : BitVec 16) (target : BitVec 14) (s : State) :
    Host.Outcome State Fault Refusal := done (flowOp (.loop core cond g count target) core (startLoop core count.toNat target) s)

/-- LOOPG. -/
def execLoopg (core : CoreId) (cond g : Fin 16) (count : BitVec 16) (target : BitVec 14) (s : State) :
    Host.Outcome State Fault Refusal :=
  done (flowOp (.loopg core cond g count target) core (fun c s => startLoop core ((c.gr g).toNat % 65536) target c s) s)

/-- DBNZ. -/
def execDbnz (core : CoreId) (cond g : Fin 16) (count : BitVec 16) (target : BitVec 14) (s : State) :
    Host.Outcome State Fault Refusal :=
  done (flowOp (.dbnz core cond g count target) core (fun c s =>
    goIf (c.gr g - 1 != 0) (c.pc + target) (s.setCore core (c.setG g (c.gr g - 1)))) s)

/-- TRAP: its number is COUNT[7:0]. -/
def execTrap (core : CoreId) (cond g : Fin 16) (count : BitVec 16) (target : BitVec 14) (s : State) :
    Host.Outcome State Fault Refusal :=
  done (flowOp (.trap core cond g count target) core (fun c s => KRes.plain (s.setCore core { c with trapNo := count.toNat % 256 }) [X_TRAP]) s)

/-- BRK. -/
def execBrk (core : CoreId) (cond g : Fin 16) (count : BitVec 16) (target : BitVec 14) (s : State) :
    Host.Outcome State Fault Refusal := done (flowOp (.brk core cond g count target) core (fun _ s => .stop X_BRK s) s)

/-! ### SYS class (R263) -/

/-- A SYS instruction. -/
def sysOp (i : Instr) (n : Nat) (f : CoreState → State → KRes) (s : State) : State :=
  runInstr n i (fun s => f (s.core n) s) s

/-- A completed instruction that then acts on the device. -/
def thenDo (post : State → State) (s : State) : KRes := .ok s .seq [] 1 none post

/-- NOP. -/
def execNop (core : CoreId) (g : Fin 16) (spec : Fin 32) (arg : BitVec 16) (s : State) : Host.Outcome State Fault Refusal :=
  done (sysOp (.nop core g spec arg) core (fun _ s => KRes.plain s) s)

/-- MVS. -/
def execMvs (core : CoreId) (g : Fin 16) (spec : Fin 32) (arg : BitVec 16) (s : State) : Host.Outcome State Fault Refusal :=
  done (sysOp (.mvs core g spec arg) core (fun c s =>
    match readSpecial s core spec with
    | some v => KRes.plain (s.setCore core (c.setG g v))
    | none => .stop X_ILLOP s) s)

/-- MVSR. -/
def execMvsr (core : CoreId) (g : Fin 16) (spec : Fin 32) (arg : BitVec 16) (s : State) : Host.Outcome State Fault Refusal :=
  done (sysOp (.mvsr core g spec arg) core (fun c s =>
    match writeSpecial c spec (c.gr g) with
    | some c => KRes.plain (s.setCore core c)
    | none => .stop X_ILLOP s) s)

/-- The bit of ST that bit `k` of a SETM mask stands for. -/
def modeBit (k : Nat) : Nat := match k with | 0 => ST_FRAC | 1 => ST_IE | 2 => ST_AOVE | _ => ST_MSATE

/-- The mode bits cleared and then set. -/
def setModes (arg : BitVec 16) (c : CoreState) : CoreState :=
  (List.range 4).foldl (fun (c : CoreState) k =>
    if arg.getLsbD (8 + k) then c.setSt (modeBit k) true
    else if arg.getLsbD k then c.setSt (modeBit k) false else c) c

/-- SETM. -/
def execSetm (core : CoreId) (g : Fin 16) (spec : Fin 32) (arg : BitVec 16) (s : State) : Host.Outcome State Fault Refusal :=
  done (sysOp (.setm core g spec arg) core (fun c s => KRes.plain (s.setCore core (setModes arg c))) s)

/-- The sticky bits MOV_SAT, BSCALE and AOV cleared where ARG[2:0] holds 1. -/
def clearSticky (arg : BitVec 16) (c : CoreState) : CoreState :=
  (List.range 3).foldl (fun (c : CoreState) k => if arg.getLsbD k then c.setSt (ST_MOVSAT + k) false else c) c

/-- CLRST. -/
def execClrst (core : CoreId) (g : Fin 16) (spec : Fin 32) (arg : BitVec 16) (s : State) : Host.Outcome State Fault Refusal :=
  done (sysOp (.clrst core g spec arg) core (fun c s => KRes.plain (s.setCore core (clearSticky arg c))) s)

/-- FENCE: every outstanding transaction completes. -/
def execFence (core : CoreId) (g : Fin 16) (spec : Fin 32) (arg : BitVec 16) (s : State) : Host.Outcome State Fault Refusal :=
  done (sysOp (.fence core g spec arg) core (fun _ s => thenDo (awaitAll core) s) s)

/-- WAIT: it ends at once while NMI or an enabled line is pending (R248). -/
def execWait (core : CoreId) (g : Fin 16) (spec : Fin 32) (arg : BitVec 16) (s : State) : Host.Outcome State Fault Refusal :=
  done (sysOp (.wait core g spec arg) core (fun _ s => thenDo (fun s => if wakes s core then s else enterRun core K_WAIT s) s) s)

/-- HALT: the core is STOPPED after earlier instructions complete. -/
def execHalt (core : CoreId) (g : Fin 16) (spec : Fin 32) (arg : BitVec 16) (s : State) : Host.Outcome State Fault Refusal :=
  done (sysOp (.halt core g spec arg) core (fun _ s => thenDo (fun s => enterRun core K_STOPPED (awaitAll core s)) s) s)

/-- SIGNAL: bit `core` of the doorbell of core ARG[2:0] (R249). -/
def execSignal (core : CoreId) (g : Fin 16) (spec : Fin 32) (arg : BitVec 16) (s : State) : Host.Outcome State Fault Refusal :=
  done (sysOp (.signal core g spec arg) core (fun _ s =>
    let k := arg.toNat % 8
    if k = 7 then .stop X_ILLOP s else thenDo (fun s => s.raiseBit (KCn_DBELL_BITS k) core) s) s)

/-! ### Interrupts and NMI (R241, R243) -/

/-- At a boundary of a core whose EXL is 0: LDERR, then STERR, then NMI, then the lowest pending line while IE is 1. -/
def entry (n : Nat) (s : State) : State :=
  let c := s.core n
  let s := if s.coreState n = K_WAIT then s.wr (KCn_STAT_STATE n) K_RUN else s
  if c.ldErr || c.stErr then takeAsync n s
  else if c.nmi then enterExc n X_NMI c.pc (s.setCore n { c with nmi := false })
  else match pendingLine s n, c.stBit ST_IE with
    | some k, true => enterExc n (16 + k) c.pc s
    | _, _ => s

/-- Whether core `n` stands at a boundary at which an interrupt or NMI can be taken. -/
def mayEnter (s : State) (n : Nat) : Bool :=
  clocked s n && (n != 6 || s.hst.ready) && issuing (s.coreState n) && !(s.core n).stBit ST_EXL

/-- IRQ_ENTRY (R243): where a line is pending that IMASK and IE enable. -/
def execIrqEntry (core : CoreId) (s : State) : Host.Outcome State Fault Refusal :=
  done (if mayEnter s core && (s.core core).stBit ST_IE && (pendingLine s core).isSome then haltDue core (entry core s) else s)

/-- NMI_ENTRY (R241): where NMI is pending. -/
def execNmiEntry (core : CoreId) (s : State) : Host.Outcome State Fault Refusal :=
  done (if mayEnter s core && (s.core core).nmi then haltDue core (entry core s) else s)

end Sys2Proof.Machine
end

