-- ==== Sys2Proof/Machine/KlokoStep.lean ====
section
/-!
DEFINITION. KCn_CTRL.STEP (R250, R253): the debug port has a HALTED core carry out the instruction that its memory holds at
the pc.  Writes of a register by the debug port carry STEP out, so the meanings of the plain accesses are here.
-/

namespace Sys2Proof.Machine

/-- The state that an outcome carries. -/
def stateOf (o : Host.Outcome State Fault Refusal) (s : State) : State := match o with | .next t => t | _ => s

/-- A Kloko instruction as a core carries it out; any other command does nothing here. -/
def klokoExec (i : Instr) (s : State) : State :=
  match i with
  | .pmov core mv1 mv2 => stateOf (execPmov core mv1 mv2 s) s
  | .mpy core ad x y mv1 mv2 => stateOf (execMpy core ad x y mv1 mv2 s) s
  | .mac core ad x y mv1 mv2 => stateOf (execMac core ad x y mv1 mv2 s) s
  | .msu core ad x y mv1 mv2 => stateOf (execMsu core ad x y mv1 mv2 s) s
  | .mpysu core ad x y mv1 mv2 => stateOf (execMpysu core ad x y mv1 mv2 s) s
  | .macsu core ad x y mv1 mv2 => stateOf (execMacsu core ad x y mv1 mv2 s) s
  | .macuu core ad x y mv1 mv2 => stateOf (execMacuu core ad x y mv1 mv2 s) s
  | .accx core ad x mv1 mv2 => stateOf (execAccx core ad x mv1 mv2 s) s
  | .mov core d s1 s2 mv => stateOf (execMov core d s1 s2 mv s) s
  | .add core d s1 s2 mv => stateOf (execAdd core d s1 s2 mv s) s
  | .adc core d s1 s2 mv => stateOf (execAdc core d s1 s2 mv s) s
  | .sub core d s1 s2 mv => stateOf (execSub core d s1 s2 mv s) s
  | .sbc core d s1 s2 mv => stateOf (execSbc core d s1 s2 mv s) s
  | .adds core d s1 s2 mv => stateOf (execAdds core d s1 s2 mv s) s
  | .subs core d s1 s2 mv => stateOf (execSubs core d s1 s2 mv s) s
  | .neg core d s1 s2 mv => stateOf (execNeg core d s1 s2 mv s) s
  | .abs core d s1 s2 mv => stateOf (execAbs core d s1 s2 mv s) s
  | .and core d s1 s2 mv => stateOf (execAnd core d s1 s2 mv s) s
  | .or core d s1 s2 mv => stateOf (execOr core d s1 s2 mv s) s
  | .xor core d s1 s2 mv => stateOf (execXor core d s1 s2 mv s) s
  | .andn core d s1 s2 mv => stateOf (execAndn core d s1 s2 mv s) s
  | .not core d s1 s2 mv => stateOf (execNot core d s1 s2 mv s) s
  | .shl core d s1 s2 mv => stateOf (execShl core d s1 s2 mv s) s
  | .shr core d s1 s2 mv => stateOf (execShr core d s1 s2 mv s) s
  | .sra core d s1 s2 mv => stateOf (execSra core d s1 s2 mv s) s
  | .min core d s1 s2 mv => stateOf (execMin core d s1 s2 mv s) s
  | .max core d s1 s2 mv => stateOf (execMax core d s1 s2 mv s) s
  | .cmp core d s1 s2 mv => stateOf (execCmp core d s1 s2 mv s) s
  | .tst core d s1 s2 mv => stateOf (execTst core d s1 s2 mv s) s
  | .cls core d s1 s2 mv => stateOf (execCls core d s1 s2 mv s) s
  | .mull core d s1 s2 mv => stateOf (execMull core d s1 s2 mv s) s
  | .ldi core d imm => stateOf (execLdi core d imm s) s
  | .ldih core d imm => stateOf (execLdih core d imm s) s
  | .addi core d src imm => stateOf (execAddi core d src imm s) s
  | .andi core d src imm => stateOf (execAndi core d src imm s) s
  | .ori core d src imm => stateOf (execOri core d src imm s) s
  | .xori core d src imm => stateOf (execXori core d src imm s) s
  | .cmpi core d src imm => stateOf (execCmpi core d src imm s) s
  | .shli core d src n => stateOf (execShli core d src n s) s
  | .shri core d src n => stateOf (execShri core d src n s) s
  | .srai core d src n => stateOf (execSrai core d src n s) s
  | .clra core ad asel g n => stateOf (execClra core ad asel g n s) s
  | .mva core ad asel g n => stateOf (execMva core ad asel g n s) s
  | .rdal core ad asel g n => stateOf (execRdal core ad asel g n s) s
  | .rdah core ad asel g n => stateOf (execRdah core ad asel g n s) s
  | .rdag core ad asel g n => stateOf (execRdag core ad asel g n s) s
  | .wral core ad asel g n => stateOf (execWral core ad asel g n s) s
  | .wrah core ad asel g n => stateOf (execWrah core ad asel g n s) s
  | .wrag core ad asel g n => stateOf (execWrag core ad asel g n s) s
  | .lda core ad asel g n => stateOf (execLda core ad asel g n s) s
  | .adda core ad asel g n => stateOf (execAdda core ad asel g n s) s
  | .suba core ad asel g n => stateOf (execSuba core ad asel g n s) s
  | .nega core ad asel g n => stateOf (execNega core ad asel g n s) s
  | .asla core ad asel g n => stateOf (execAsla core ad asel g n s) s
  | .asra core ad asel g n => stateOf (execAsra core ad asel g n s) s
  | .norma core ad asel g n => stateOf (execNorma core ad asel g n s) s
  | .mova core ad asel g n => stateOf (execMova core ad asel g n s) s
  | .tsta core ad asel g n => stateOf (execTsta core ad asel g n s) s
  | .ldx core reg ptr ofs => stateOf (execLdx core reg ptr ofs s) s
  | .stx core reg ptr ofs => stateOf (execStx core reg ptr ofs s) s
  | .ldd core reg addr => stateOf (execLdd core reg addr s) s
  | .std core reg addr => stateOf (execStd core reg addr s) s
  | .ldg core reg base size sx ofs => stateOf (execLdg core reg base size sx ofs s) s
  | .stg core reg base size sx ofs => stateOf (execStg core reg base size sx ofs s) s
  | .aadd core reg base size sx ofs => stateOf (execAadd core reg base size sx ofs s) s
  | .aswp core reg base size sx ofs => stateOf (execAswp core reg base size sx ofs s) s
  | .ldpi core ptr kind g imm => stateOf (execLdpi core ptr kind g imm s) s
  | .ldbi core ptr kind g imm => stateOf (execLdbi core ptr kind g imm s) s
  | .ldli core ptr kind g imm => stateOf (execLdli core ptr kind g imm s) s
  | .ldmi core ptr kind g imm => stateOf (execLdmi core ptr kind g imm s) s
  | .ldpg core ptr kind g imm => stateOf (execLdpg core ptr kind g imm s) s
  | .ldbg core ptr kind g imm => stateOf (execLdbg core ptr kind g imm s) s
  | .ldlg core ptr kind g imm => stateOf (execLdlg core ptr kind g imm s) s
  | .ldmg core ptr kind g imm => stateOf (execLdmg core ptr kind g imm s) s
  | .rdar core ptr kind g imm => stateOf (execRdar core ptr kind g imm s) s
  | .modp core ptr kind g imm => stateOf (execModp core ptr kind g imm s) s
  | .modpm core ptr kind g imm => stateOf (execModpm core ptr kind g imm s) s
  | .br core cond g count target => stateOf (execBr core cond g count target s) s
  | .jmp core cond g count target => stateOf (execJmp core cond g count target s) s
  | .jr core cond g count target => stateOf (execJr core cond g count target s) s
  | .call core cond g count target => stateOf (execCall core cond g count target s) s
  | .callr core cond g count target => stateOf (execCallr core cond g count target s) s
  | .ret core cond g count target => stateOf (execRet core cond g count target s) s
  | .rte core cond g count target => stateOf (execRte core cond g count target s) s
  | .loop core cond g count target => stateOf (execLoop core cond g count target s) s
  | .loopg core cond g count target => stateOf (execLoopg core cond g count target s) s
  | .dbnz core cond g count target => stateOf (execDbnz core cond g count target s) s
  | .trap core cond g count target => stateOf (execTrap core cond g count target s) s
  | .brk core cond g count target => stateOf (execBrk core cond g count target s) s
  | .nop core g spec arg => stateOf (execNop core g spec arg s) s
  | .mvs core g spec arg => stateOf (execMvs core g spec arg s) s
  | .mvsr core g spec arg => stateOf (execMvsr core g spec arg s) s
  | .setm core g spec arg => stateOf (execSetm core g spec arg s) s
  | .clrst core g spec arg => stateOf (execClrst core g spec arg s) s
  | .fence core g spec arg => stateOf (execFence core g spec arg s) s
  | .wait core g spec arg => stateOf (execWait core g spec arg s) s
  | .halt core g spec arg => stateOf (execHalt core g spec arg s) s
  | .signal core g spec arg => stateOf (execSignal core g spec arg s) s
  | _ => s

/-- The instruction at the pc of core `n`. -/
def fetched (s : State) (n : CoreId) : Option Instr :=
  decodeKloko n (BitVec.ofNat 48 (s.le (imSlot n (s.core n).pc.toNat) 6))

/-- The core is held again after its instruction: loads that the boundary awaits return first. -/
def holdAgain (n : Nat) (s : State) : State :=
  let s := s.setCore n { s.core n with stepping := false }
  if issuing (s.coreState n) then haltCore n (takeAsync n (answerAll n s))
  else if s.coreState n = K_STOPPED then haltCore n s
  else s

/-- STEP of a HALTED core. -/
def kcStep (n : CoreId) (s : State) : State :=
  if s.coreState n = K_HALTED ∧ clocked s n then
    let i := fetched s n
    let s := (s.setCore n { s.core n with stepping := true }).wr (KCn_STAT_STATE n) K_RUN
    holdAgain n (match i with
      | some i => klokoExec i s
      | none => runInstr n (.nop n 0 0 0) (fun s => .stop X_ILLOP s) s)
  else s

/-- The bytes of a write from `a` that reach a slot at its offset 0 (R560). -/
def slotPart (a : Nat) (bs : List Byte) (slot : Nat) : List Byte := if a ≤ slot then (bs.drop (slot - a)).take 8 else []

/-- A write by the debug port at D2 or above sets STEP of a core: its part for KCn_CTRL is one that R560 takes. -/
def setsStep (init a : Nat) (bs : List Byte) (s : State) (n : Nat) : Bool :=
  let p := slotPart a bs (KCn_CTRL n)
  init == 14 && decide (2 ≤ s.rd SVU_DBG_LEVEL) && slotCause s init (KCn_CTRL n) true == 0 &&
    (p.length == 4 || p.length == 6 || p.length == 8) && (ofLE p).testBit 3

/-- An access that a command names, with STEP carried out where the debug port asks for it. -/
def accessBy (init a : Nat) (op : BusOp) (s : State) : State :=
  match op with
  | .write b =>
    if portLost s init then s else
    let (c, s) := busWrite init a b s
    (List.range 7).foldl (fun (s : State) n => if setsStep init a b s n then kcStep (Fin.ofNat 7 n) s else s) (returned c [] s)
  | op => busShown init a op s

/-! ### Meanings -/

/-- What the debug port writes to KCn_CTRL, where it may: at D2 or D3, through the firewall, with the core's registers powered (R253,
R452, R469, R504). -/
def debugCore (core : CoreId) (f : State → State) (s : State) : State :=
  asAccess 14 (KCn_CTRL core) true f s

/-- KC_HALTREQ (R253): the debug port writes HALTREQ. -/
def execKcHaltreq (core : CoreId) (on : Bool) (s : State) : Host.Outcome State Fault Refusal :=
  done (debugCore core (haltReq core on) s)

/-- KC_STEP (R253): the debug port writes STEP. -/
def execKcStep (core : CoreId) (s : State) : Host.Outcome State Fault Refusal := done (debugCore core (kcStep core) s)

/-- REGISTER_WRITE (R14): an initiator writes the 48 bits of the slot at the address. -/
def execRegisterWrite (init : Init) (addr : BitVec 32) (value : Word) (s : State) : Host.Outcome State Fault Refusal :=
  done (accessBy init (addr.toNat / 8 * 8) (.write (toLE 6 value.toNat)) s)

/-- IC_TRANSACTION (R469): an access of an initiator. -/
def execIcTransaction (init : Init) (addr : BitVec 32) (op : BusOp) (s : State) : Host.Outcome State Fault Refusal :=
  done (accessBy init addr.toNat op s)

end Sys2Proof.Machine
end

