-- ==== Sys2Proof/Machine/Emp.lean ====
section
/-!
DEFINITION. EMP: the frames that a host sends over a link and the commands they carry (R546 to R552), the load of an image
over UART0 (R533), and NMEA output (R553 to R555).  SV carries a command out as initiator 6.
-/

namespace Sys2Proof.Machine

/-! ### Sending -/

/-- A frame (R546). -/
def empBytes (cls id : Nat) (payload : List Byte) : List Byte :=
  let body := [BitVec.ofNat 8 cls, BitVec.ofNat 8 id] ++ toLE 2 payload.length ++ payload
  [0xE7#8, 0x4B#8] ++ body ++ toLE 4 (crc32c body)

/-- A message that found no room on a link (R549). -/
def countLost (link : Nat) (s : State) : State :=
  { s with hst := { s.hst with lost := s.hst.lost.setIfInBounds link (s.hst.lost.getD link 0 + 1) } }

/-- A frame that SV discards (R547). -/
def countFrame (link : Nat) (s : State) : State :=
  { s with hst := { s.hst with frames := s.hst.frames.setIfInBounds link (s.hst.frames.getD link 0 + 1) } }

/-- SV sends bytes on a link, 0 PCIe and 1 to 4 the byte links: whole, or not at all where they find no room. -/
def sendOn (link : Nat) (bs : List Byte) (s : State) : State :=
  if link = 0 then
    if s.flag HST_MBOUT_FULL then countLost 0 s
    else mboutPost bs.length (busWrite 6 0x10153000 bs s).2
  else
    let (ok, s) := txQueue (link - 1) bs s
    if ok then s else countLost link s

/-- A frame of SV on a link; a payload never exceeds 4,086 bytes. -/
def sendFrame (link cls id : Nat) (payload : List Byte) (s : State) : State :=
  sendOn link (empBytes cls id (payload.take 4086)) s

/-! ### Statuses (R548) -/

def E_OK : Nat := 0
def E_PENDING : Nat := 1
def E_UNKNOWN : Nat := 2
def E_BADLEN : Nat := 3
def E_BADARG : Nat := 4
def E_BUSY : Nat := 5
def E_REFUSED : Nat := 6
def E_DENIED : Nat := 7
def E_FAILED : Nat := 8

/-- What a command answers: its status, its detail, and the bytes beside them. -/
structure EmpAnswer where
  status : Nat
  detail : Nat := 0
  rest : List Byte := []
  deriving DecidableEq, Repr

/-- A response. [DESIGN CHOICE, safe: notes/assumptions/58] -/
def respond (link cls num : Nat) (a : EmpAnswer) (s : State) : State :=
  sendFrame link cls (0x80 + num) (BitVec.ofNat 8 a.status :: BitVec.ofNat 8 a.detail :: a.rest) s

def okay (s : State) : EmpAnswer × State := (⟨E_OK, 0, []⟩, s)

/-- A status whose detail is not laid down for the case: the byte is free. [DESIGN CHOICE, safe: notes/assumptions/58] -/
def unstated (status : Nat) (s : State) : EmpAnswer × State :=
  let (d, s) := s.fresh 8
  (⟨status, d, []⟩, s)

/-- BADARG: the byte offset of the field in the payload (R548). [DEDUCED, unsafe: notes/assumptions/58] -/
def badArg (off : Nat) (s : State) : EmpAnswer × State := (⟨E_BADARG, off, []⟩, s)

/-- The answer to a write that met an error response. -/
def unlessError (c : Nat) (s : State) : EmpAnswer × State := if c = 0 then okay s else unstated E_FAILED s

/-- SV writes a register as initiator 6. -/
def svWrite (a v : Nat) (s : State) : Nat × State := busWrite 6 a (toLE 8 v) s

/-- The first error of several register writes. -/
def svWrites : List (Nat × Nat) → State → Nat × State
  | [], s => (0, s)
  | (a, v) :: rest, s =>
    let (c, s) := svWrite a v s
    let (c', s) := svWrites rest s
    (firstCause c c', s)

/-! ### Time of day (R337, R554) -/

/-- Days from 1970-01-01 to a date, and the date of a day. -/
def daysOf (y m d : Nat) : Nat :=
  let y' := if m ≤ 2 then y - 1 else y
  let mp := if 2 < m then m - 3 else m + 9
  y' / 400 * 146097 + (y' % 400 * 365 + y' % 400 / 4 - y' % 400 / 100 + ((153 * mp + 2) / 5 + d - 1)) - 719468
def dateOf (days : Nat) : Nat × Nat × Nat :=
  let z := days + 719468
  let doe := z % 146097
  let yoe := (doe - doe / 1460 + doe / 36524 - doe / 146096) / 365
  let doy := doe - (365 * yoe + yoe / 4 - yoe / 100)
  let mp := (5 * doy + 2) / 153
  let m := if mp < 10 then mp + 3 else mp - 9
  (yoe + z / 146097 * 400 + (if m ≤ 2 then 1 else 0), m, doy - (153 * mp + 2) / 5 + 1)

/-- Whether the UTC offset changes at a later second than `t`, or at it. -/
def leapBefore (s : State) (t : Nat) : Bool := s.flag TB_UTCOFS_PEND && decide (t < s.rd TB_LEAPSEC_SEC)

/-- TAI − UTC for a target (R554). -/
def utcOffset (s : State) (t : Nat) : Int :=
  if s.flag TB_UTCOFS_PEND && !decide (t < s.rd TB_LEAPSEC_SEC) then s.rdS TB_UTCOFS_NEW else s.rdS TB_UTCOFS_CUR

/-- A UTC date and time: year, month, day, hour, minute, second. -/
structure Utc where
  year : Nat
  month : Nat
  day : Nat
  hour : Nat
  minute : Nat
  second : Nat
  deriving DecidableEq, Repr

/-- UTC of a TAI second (R337, R338, R554). -/
def utcOf (s : State) (t : Nat) : Utc :=
  let u := ((t : Int) - utcOffset s t).toNat
  let leap := leapBefore s t && t + 1 == s.rd TB_LEAPSEC_SEC && decide (s.rdS TB_UTCOFS_CUR < s.rdS TB_UTCOFS_NEW)
  let u := if leap then u - 1 else u
  let (y, m, d) := dateOf (u / 86400)
  ⟨y, m, d, u / 3600 % 24, u / 60 % 60, if leap then 60 else u % 60⟩

/-- The first field of a date and time that lies outside its range, by its place in EXT TOD; the second 60 is that of a leap second. -/
def Utc.wrong (u : Utc) : Option Nat :=
  if u.year < 1970 then some 1
  else if !within 1 12 u.month then some 3
  else if u.day = 0 || dateOf (daysOf u.year u.month u.day) != (u.year, u.month, u.day) then some 4
  else if 24 ≤ u.hour then some 5
  else if 60 ≤ u.minute then some 6
  else if 60 < u.second then some 7
  else none

/-- Whether a date and time exists. -/
def Utc.ok (u : Utc) : Bool := u.wrong.isNone

/-- The TAI second that a UTC time names, carried by TB_UTCOFS. -/
def taiOf (s : State) (u : Utc) : Nat :=
  let n := daysOf u.year u.month u.day * 86400 + u.hour * 3600 + u.minute * 60 + u.second
  let later := ((n : Int) + s.rdS TB_UTCOFS_NEW).toNat
  if s.flag TB_UTCOFS_PEND && u.second != 60 && decide (s.rd TB_LEAPSEC_SEC ≤ later) then later
  else ((n : Int) + s.rdS TB_UTCOFS_CUR).toNat

/-- The time of day of an EVC unit's last pulse reaches SV (R357, R551); without a known offset there is none. -/
def todArrives (n : Nat) (u : Utc) (s : State) : State :=
  let v := if s.flag TB_UTCOFS_VALID then some (taiOf s u, s.now48) else none
  { s with hst := { s.hst with evcTod := s.hst.evcTod.setIfInBounds n v } }

/-! ### The site (R271, R286, R478) -/

/-- The value of a word whose encoding R271 leaves open, TOL in 2^-32 cycle, VCN0 and SCN0 in 0.01 dB-Hz: that of R271 for the word of
its default. [DESIGN CHOICE, safe: notes/assumptions/14] -/
def cfgNumber (word raw : Nat) : Nat :=
  if raw = Config.cfgDefault word then (if word = 1 then 2 ^ 32 / 10 else if word = 8 then 3200 else 3800)
  else Config.cfgValue word raw

/-- A vector. -/
abbrev Vec3 := Int × Int × Int

/-- The antenna record of a port in an image is VALID. -/
def recordValid (img : List Byte) (a : Nat) : Bool := (imgLe img (64 + 64 * a + 42) 2).testBit 0

/-- r_a in mm. -/
def refPosition (img : List Byte) (a : Nat) : Vec3 :=
  let f := fun k => signed 64 (imgLe img (64 + 64 * a + 8 * k) 8)
  (f 0, f 1, f 2)

/-- The antenna's port is not in delay fault and has its link up (R286). -/
def portGood (s : State) (a : Nat) : Bool := !s.flag (SPn_STAT_DELAY_FAULT a) && s.flag (SPn_STAT_LINK_UP a)

/-- An antenna is usable: Chain knows it and its port is good. -/
def antUsable (s : State) (img : List Byte) (a : Nat) : Bool := recordValid img a && portGood s a

/-- The reference antenna: REFANT, or the lowest-numbered usable one (R271). -/
def refAntenna (s : State) (img : List Byte) : Option Nat :=
  let r := cfgWord s 6
  if r = 0xFF then (List.range 32).find? (antUsable s img) else if antUsable s img r then some r else none

/-! ### Sentences -/

/-- The bytes of a text. -/
def ascii (t : String) : List Byte := t.toList.map fun c => BitVec.ofNat 8 c.toNat

/-- A number in `w` decimal digits, with zeros before it. -/
def digits : Nat → Nat → List Byte
  | 0, _ => []
  | w + 1, n => digits w (n / 10) ++ [BitVec.ofNat 8 (48 + n % 10)]

/-- A number in decimal without zeros before it. -/
def decimalF : Nat → Nat → List Byte
  | 0, _ => []
  | fuel + 1, n => (if n < 10 then [] else decimalF fuel (n / 10)) ++ [BitVec.ofNat 8 (48 + n % 10)]
def decimal (z : Int) : List Byte := (if z < 0 then ascii "-" else []) ++ decimalF 40 z.natAbs

/-- Fields joined by commas. -/
def commas : List (List Byte) → List Byte
  | [] => []
  | [f] => f
  | f :: t => f ++ ascii "," ++ commas t

/-- A hexadecimal digit. -/
def hexDigit (n : Nat) : Byte := BitVec.ofNat 8 (if n < 10 then 48 + n else 55 + n)

/-- A sentence: $, its fields, the checksum over them, and the line end. -/
def sentence (fields : List (List Byte)) : List Byte :=
  let b := commas fields
  let c := (b.foldl (fun a x => a ^^^ x) 0#8).toNat
  ascii "$" ++ b ++ ascii "*" ++ [hexDigit (c / 16), hexDigit (c % 16)] ++ [0x0D#8, 0x0A#8]

/-- Whether the time is known to be rendered (R554). -/
def timeKnown (s : State) : Bool := s.flag TB_STAT_TIMESET && s.flag TB_UTCOFS_VALID

/-- hhmmss.00. -/
def hms (u : Utc) : List Byte := digits 2 u.hour ++ digits 2 u.minute ++ digits 2 u.second ++ ascii ".00"

/-- A time or date field, empty while the time is not known (R554). -/
def ifKnown (s : State) (f : List Byte) : List Byte := if timeKnown s then f else []

/-- The address of a sentence: the talker GN in 4.11 and 3.01, GP in 2.3 (R553). -/
def talker (s : State) (name : String) : List Byte := ascii (if s.hst.nmea.version = 2 then "GP" else "GN") ++ ascii name

/-- ZDA (R553, R554). -/
def zda (s : State) (t : Nat) : List Byte :=
  let u := utcOf s t
  let f := ifKnown s
  sentence [talker s "ZDA", f (hms u), f (digits 2 u.day), f (digits 2 u.month), f (digits 4 u.year), ascii "00", ascii "00"]

/-- The surveyed position of the reference antenna in mm, of Chain: that of REFANT whether its port is good or not (R478, R553). -/
def sitePosition (s : State) : Option Vec3 :=
  match imageInForce s with
  | none => none
  | some img => (if cfgWord s 6 < 32 then some (cfgWord s 6) else refAntenna s img).map (refPosition img)

/-- The latitude and longitude fields. [DESIGN CHOICE, safe: notes/assumptions/58] -/
def positionFields (s : State) : List (List Byte) :=
  match sitePosition s with
  | some (x, y, z) => Config.nmeaPosition x y z
  | none => [[], [], [], []]

/-- What the fields that NMEA 0183 lays down report: the position, TIME_VALID, and for the latest record of each channel its antenna,
system, satellite, signal and C/N0 (R282). [DESIGN CHOICE, safe: notes/assumptions/58] -/
def nmeaNumbers (s : State) : List Int :=
  (match sitePosition s with | some (x, y, z) => [x, y, z] | none => []) ++ [if s.timeValid then 1 else 0] ++
    s.nav.latest.flatMap fun p => ([imgLe p.2 2 1, imgLe p.2 3 1, imgLe p.2 4 1, imgLe p.2 5 1, imgLe p.2 38 2] : List Nat).map Int.ofNat

/-- The fields that the version of NMEA CFG defines (R553). -/
def ofVersion (s : State) (fs : List (Nat × List Byte)) : List (List Byte) :=
  (fs.filter fun f => f.1.testBit s.hst.nmea.version).map (·.2)

/-- RMC: its status is V while TIME_VALID is 0 (R553, R554). [PRESUMED, unsafe: notes/assumptions/58] -/
def rmc (s : State) (t : Nat) : List Byte :=
  let u := utcOf s t
  sentence ([talker s "RMC", ifKnown s (hms u), ascii (if s.timeValid then "A" else "V")] ++ positionFields s ++
    [ascii "0.0", [], ifKnown s (digits 2 u.day ++ digits 2 u.month ++ digits 2 (u.year % 100))] ++
    ofVersion s (Config.nmeaRest 1 (nmeaNumbers s)))

/-- GGA and GNS begin with the time and the position (R553, R554). [PRESUMED, unsafe: notes/assumptions/58] -/
def fixSentence (name : String) (k : Nat) (s : State) (t : Nat) : List Byte :=
  sentence ([talker s name, ifKnown s (hms (utcOf s t))] ++ positionFields s ++
    ofVersion s (Config.nmeaRest k (nmeaNumbers s)))

/-- The GSA or GSV sentences; the system ID and the signal ID appear in 4.11 only (R553). [DESIGN CHOICE, safe: notes/assumptions/58] -/
def listSentences (name : String) (k : Nat) (s : State) : List (List Byte) :=
  (Config.nmeaLists k (nmeaNumbers s)).map fun (fs, ident) =>
    sentence (talker s name :: (ofVersion s fs ++ if s.hst.nmea.version = 0 then [ident] else []))

/-- $PSHAT (R555), with the 1σ uncertainty in whole ns. -/
def pshat (s : State) (t : Nat) : List Byte :=
  let u := utcOf s t
  let f := ifKnown s
  let bit := fun (b : Bool) => ascii (if b then "1" else "0")
  let d := s.rdS TB_UTCOFS_NEW - s.rdS TB_UTCOFS_CUR
  let leap := if leapBefore s t && decide (0 < d) then "+1" else if leapBefore s t && decide (d < 0) then "-1" else "0"
  sentence [ascii "PSHAT", f (hms u), f (digits 2 u.day ++ digits 2 u.month ++ digits 4 u.year), decimal (utcOffset s t),
    ascii leap, decimal (if 13 < s.rd TB_TIMESTAT_SOURCE then 0 else s.rd TB_TIMESTAT_SOURCE),
    ascii (if s.timeValid then "A" else "V"), bit (s.flag TB_TIMESTAT_HOLDOVER), bit (s.flag SVU_TRUST_TIME_TRUST),
    decimal (s.nav.sigma / 1000 : Nat), bit (s.flag SAF_STAT_CLKFAULT)]

/-- $PSHAS (R555). -/
def pshas (s : State) (t : Nat) : List Byte :=
  let bit := fun (b : Bool) => ascii (if b then "1" else "0")
  sentence [ascii "PSHAS", ifKnown s (hms (utcOf s t)), bit s.nav.spoofSite, decimal s.nav.pairs1, decimal s.nav.pairsN,
    decimal (s.nav.sats.countP (·.spoof)), bit s.nav.osnmaMet]

/-- The second that the last edge of the paired generator named (R553, R554); before its first edge that of the time base.
[DESIGN CHOICE, unsafe: notes/assumptions/58] -/
def edgeSecond (s : State) : Nat :=
  match (s.tpg (s.rd TPE_TODCFG_TPG)).last with | some t => t / 2 ^ 48 | none => s.sec

/-- The sentences of bit `k` of the mask. -/
def sentencesOf (s : State) (t k : Nat) : List (List Byte) :=
  match k with
  | 0 => [zda s t]
  | 1 => [rmc s t]
  | 2 => [fixSentence "GGA" 2 s t]
  | 3 => [fixSentence "GNS" 3 s t]
  | 4 => listSentences "GSA" 4 s
  | 5 => listSentences "GSV" 5 s
  | 6 => [pshat s t]
  | _ => [pshas s t]

/-- The selected sentences of this second (R553 to R555). -/
def nmeaText (s : State) : List (List Byte) :=
  ((List.range 8).filter s.hst.nmea.sentences.testBit).flatMap (sentencesOf s (edgeSecond s))

/-- The time-of-day string of this second is still to come: its edge has not left, its DELAY has not passed, or it is being sent (R553,
R556). -/
def todAhead (s : State) : Bool :=
  let g := s.rd TPE_TODCFG_TPG
  s.flag TPE_TODCFG_EN &&
    (!s.pls.tod.isEmpty || !(s.hst.tod.getD (s.rd TPE_TODCFG_UART) []).isEmpty ||
      (s.rd (TPGn_STAT_STATE g) == T_ARMED && (s.tpg g).trail.isNone && decide (tpgNext s g / 2 ^ 48 ≤ s.sec)))

/-- The sentences of this second have not been sent, and its time-of-day string has (R553). -/
def nmeaDue (s : State) : Bool := s.hst.nmeaAt != some s.sec && !todAhead s

/-- NMEA output, once per second (R553). -/
def nmeaOutput (s : State) : State :=
  if !svRuns s || !nmeaDue s then s
  else
    let out := nmeaText s
    let s := { s with hst := { s.hst with nmeaAt := some s.sec } }
    [0, 1].foldl (fun (s : State) u =>
      if s.hst.nmea.uarts.testBit u then out.foldl (fun (s : State) b => sendOn (u + 2) b s) s else s) s

/-- The payload of an output message that R550 does not lay out. [DESIGN CHOICE, safe: notes/assumptions/58] -/
def outputBody (cls num : Nat) (numbers : List Nat) : List Byte :=
  (List.range (min (Config.outputLength cls num) 4086)).map fun k => BitVec.ofNat 8 (Config.outputByte cls num numbers k)

/-- SYS BOOTSTAT is due at a tick: once per second (R534). [DESIGN CHOICE, unsafe: notes/assumptions/5] -/
def bootstatDue (s : State) (t : Nat) : Bool := s.rd HST_BOOT_STATUS == BOOT_FAIL && t % 600000000 == 0

/-- SYS BOOTSTAT over every host link while no image has passed (R534). -/
def bootstat (s : State) : State :=
  let body := outputBody 1 0x40 [s.rd HST_BOOT_CAUSE]
  (List.range 5).foldl (fun (s : State) l => sendFrame l 1 0x40 body s) s

/-! ### ZDA input (R551) -/

/-- Fields separated by a byte. -/
def splitAt_ (sep : Byte) : List Byte → List (List Byte)
  | [] => [[]]
  | b :: t =>
    if b = sep then [] :: splitAt_ sep t
    else match splitAt_ sep t with
      | [] => [[b]]
      | f :: r => (b :: f) :: r

/-- A decimal number, where every byte is a digit and there is one. -/
def number (l : List Byte) : Option Nat :=
  if l.isEmpty || !l.all (fun b => within 48 57 b.toNat) then none
  else some (l.foldl (fun a b => a * 10 + (b.toNat - 48)) 0)

/-- The time that a line carries as a ZDA sentence whose checksum is right. -/
def zdaTime (line : List Byte) : Option Utc :=
  match line with
  | d :: rest =>
    let body := rest.takeWhile (· != 0x2A#8)
    let check := (rest.drop (body.length + 1)).take 2
    let c := (body.foldl (fun a x => a ^^^ x) 0#8).toNat
    if d ≠ 0x24#8 ∨ check ≠ [hexDigit (c / 16), hexDigit (c % 16)] then none
    else match splitAt_ 0x2C#8 body with
      | name :: time :: dd :: mm :: yy :: _ =>
        if name.drop 2 ≠ ascii "ZDA" ∨ name.length ≠ 5 then none
        else match number (time.take 2), number ((time.drop 2).take 2), number ((time.drop 4).take 2), number dd, number mm, number yy with
          | some h, some mi, some sec, some d, some m, some y =>
            let u : Utc := ⟨y, m, d, h, mi, sec⟩
            if u.ok then some u else none
          | _, _, _, _, _, _ => none
      | _ => none
  | [] => none

/-- Bytes of a UART that belong to no frame: a ZDA sentence among them gives the time of day of the unit that EXT ZDAIN
names. -/
def zdaInput (j : Nat) (junk : List Byte) (s : State) : State :=
  match s.hst.zdaIn with
  | none => s
  | some (u, n) =>
    if j ≠ u + 1 then s
    else (splitAt_ 0x0A#8 junk).foldl (fun (s : State) l =>
      match zdaTime l with
      | none => s
      | some t => todArrives n t s) s

/-! ### The commands (R550, R551) -/

/-- Class and number. -/
def empKey : EmpCmd → Nat × Nat
  | .sysVersion => (1, 0)
  | .sysCaps => (1, 1)
  | .sysReset => (1, 2)
  | .sysRestartcore _ _ => (1, 3)
  | .sysStats => (1, 4)
  | .sysOutcfg _ _ _ _ => (1, 5)
  | .cfgGet _ => (2, 0)
  | .cfgSet _ _ => (2, 1)
  | .cfgPtprx _ _ => (2, 2)
  | .timeStatus => (3, 0)
  | .timeLoad _ _ => (3, 1)
  | .timeStep _ => (3, 2)
  | .timeSlew _ _ => (3, 3)
  | .timeUtc _ _ _ _ => (3, 4)
  | .measSubscribe _ => (4, 0)
  | .chanRequest _ _ _ _ _ _ => (5, 0)
  | .chanRelease _ _ => (5, 1)
  | .pwrState _ => (6, 0)
  | .pwrLevel _ => (6, 1)
  | .chainRead => (7, 0)
  | .chainCommit _ _ => (7, 1)
  | .chainLock => (7, 2)
  | .chainSigned _ _ => (7, 3)
  | .logRead _ => (8, 0)
  | .logWrite _ => (8, 1)
  | .ptpPortcfg _ _ => (9, 0)
  | .ptpGrants _ _ => (9, 1)
  | .extTod _ _ _ _ _ _ _ => (10, 0)
  | .extTemp _ => (10, 1)
  | .extZdain _ _ => (10, 2)
  | .nmeaCfg _ _ _ _ => (11, 0)
  | .bootData _ _ => (0x7F, 0)
  | .bootGo _ => (0x7F, 1)

/-- The commands that each class defines. -/
def empDefined (cls num : Nat) : Bool :=
  match cls with
  | 1 => decide (num ≤ 5)
  | 2 => decide (num ≤ 2)
  | 3 => decide (num ≤ 4)
  | 4 => num == 0
  | 5 => decide (num ≤ 1)
  | 6 => decide (num ≤ 1)
  | 7 => decide (num ≤ 3)
  | 8 => decide (num ≤ 1)
  | 9 => decide (num ≤ 1)
  | 10 => decide (num ≤ 2)
  | 11 => num == 0
  | 0x7F => decide (num ≤ 1)
  | _ => false

/-- The output messages that each class defines. -/
def outputDefined (cls num : Nat) : Bool :=
  (num == 0x40 && [1, 3, 4, 6, 8, 9].contains cls) || (num == 0x41 && [3, 4].contains cls)

/-- SYS RESTARTCORE (R513): the map names the core in HANDOVER. -/
def inHandover (map : List Byte) (k : Nat) : Bool :=
  (List.range 4096).any fun c =>
    imgLe map (16 * c + 3) 1 == 2 && (imgLe map (16 * c + 2) 1 == k || imgLe map (16 * c + 9) 1 == k)

/-- The segments of an image that lie in the instruction memory of a core are copied there.
[DEDUCED, unsafe: notes/assumptions/59] -/
def copyImem (k : Nat) (img : List Byte) : List (Nat × Nat) → Nat → State → State
  | [], _, s => s
  | (d, l) :: rest, at_, s =>
    let here := decide (0x02080000 + 0x100000 * k ≤ d) && decide (d < 0x02100000 + 0x100000 * k)
    copyImem k img rest (at_ + l) (if here then (dmaWrite 6 d ((img.drop at_).take l) s).2 else s)

/-- A restarted core signals the active solution core, which sets its bit of ALIVE (R513). [DEDUCED, unsafe: notes/assumptions/59] -/
def revive (k : Nat) (s : State) : State :=
  let a := s.le 0x168 8 % 256
  if (a ≠ 4 ∧ a ≠ 5) ∨ a = k then s
  else
    let s := s.raiseBit (KCn_DBELL_BITS a) k
    if issuing (s.coreState a) && clocked s a then (busWrite a 0x170 (toLE 8 (s.le 0x170 8 ||| 2 ^ k)) s).2 else s

/-- SYS RESTARTCORE (R513). [DEDUCED, unsafe: notes/assumptions/59] -/
def restartCore (k : Nat) (image : List Byte) (s : State) : EmpAnswer × State :=
  let (c, map, s) := dmaRead 6 (s.le 0x48 8 % 2 ^ 32) 65536 s
  if k = 6 ∨ s.coreState k ≠ K_FAULT then (⟨E_DENIED, 0, []⟩, s)
  else if c ≠ 0 then unstated E_FAILED s
  else if inHandover map k then (⟨E_DENIED, 0, []⟩, s)
  else if !image.isEmpty && bootCause image 2 false s == BF_SIGNATURE then (⟨E_FAILED, bootSignature image s, []⟩, s)
  else if !image.isEmpty && bootCause image 2 false s != 0 then unstated E_FAILED s
  else
    let s := if image.isEmpty then s else copyImem k image (segments image) 320 s
    let v := ((KCn_CTRL_RESET k).insert ((KCn_CTRL_START k).insert 0 1) 1).toNat
    let (c, s) := svWrites [(KCn_CTRL k, v), (SAF_WDSTAT, 2 ^ k + 2 ^ (8 + k))] s
    if c = 0 then okay (revive k s) else unstated E_FAILED s

/-- The range of a word of CONFIG (R271): a count, a time, a length or a share in the unit that its row names; the encodings of TOL,
VCN0 and SCN0 are free. [DESIGN CHOICE, unsafe: notes/assumptions/14] -/
def cfgFits (s : State) (word v : Nat) : Bool :=
  match word with
  | 0 => [10, 20, 50, 100].contains v
  | 1 => within (2 ^ 32 / 50) (2 ^ 32 / 5) (cfgNumber 1 v)
  | 2 => within 3 16 v
  | 3 => within 1 50 v
  | 4 => within 1 50 v
  | 5 => within 1 1000 v
  | 6 => decide (v ≤ 31) || v == 0xFF
  | 7 => decide (v ≤ 1)
  | 8 => within 2000 4500 (cfgNumber 8 v)
  | 9 => within (cfgNumber 8 (cfgStored s 8)) 5000 (cfgNumber 9 v)
  | 10 => within 2 10 v
  | 11 => within 1 100 v
  | 12 => within 10 1000 v
  | 13 => within 1 60 v
  | 14 => decide (v ≤ 2)
  | 15 => within 1 16 v
  | 16 => within 20 50 v
  | 17 => within 1 32 v
  | _ => false

/-- A change of the time base that SV asks for: refused where TB counts a refusal (R551). -/
def timeCommand (writes : List (Nat × Nat)) (s : State) : EmpAnswer × State :=
  let n := s.rd TB_COUNT_REFUSED
  let (c, s) := svWrites writes s
  if c ≠ 0 then unstated E_FAILED s
  else if s.rd TB_COUNT_REFUSED ≠ n then (⟨E_REFUSED, s.rd TB_REFINFO_CAUSE, []⟩, s)
  else okay s

/-- A command whose end comes later awaits it. -/
def awaits (link cls num : Nat) (s : State) : State := { s with hst := { s.hst with await := s.hst.await ++ [(link, cls, num)] } }

/-- A core passes a request to the active solution core: an entry of the request queue and its doorbell (R269). -/
def postRequest (core at_ : Nat) (entry : List Byte) (r : ChanReq) (s : State) : Nat × State :=
  let q := s.le 0x68 8 % 2 ^ 32
  let (c, s) := busWrite core (q + at_) (entry.take (4096 - at_)) s
  let active := s.le 0x168 8 % 8
  if c ≠ 0 then (c, s)
  else
    let s := { s with nav := { s.nav with requests := s.nav.requests ++ [r] } }
    (0, if active < 7 then s.raiseBit (KCn_DBELL_BITS active) core else s)

/-- SV passes a channel request of the host on (R269, R551). -/
def chanPass (at_ : Nat) (entry : List Byte) (r : ChanReq) (s : State) : EmpAnswer × State :=
  let (c, s) := postRequest 6 at_ entry r s
  if c ≠ 0 then unstated E_FAILED s else okay s

/-- The payload of SYS STATS: frames discarded per link, messages discarded per link, and records discarded per loop core (R275, R547,
R549). [DESIGN CHOICE, safe: notes/assumptions/58] -/
def statsBody (s : State) : List Byte :=
  let counts := s.hst.frames.toList ++ s.hst.lost.toList ++ s.nav.discards.toList
  (List.range (min Config.statsLength 4084)).map fun k => BitVec.ofNat 8 (Config.statsByte counts k)

/-- The signal codes of R552. -/
def sigDefined (sig : Nat) : Bool :=
  decide (sig ≤ 5) || within 8 16 sig || within 20 25 sig || within 28 32 sig || within 36 38 sig

/-- PWR STATE and PWR LEVEL: an answer, or `none` where the end comes later. -/
def pwrAnswer (s : State) : EmpAnswer :=
  if s.rd PWR_STAT_RESULT = P_OK then ⟨E_OK, 0, []⟩ else ⟨E_REFUSED, s.rd PWR_STAT_RESULT, []⟩
def pwrStateCmd (link target : Nat) (s : State) : Option EmpAnswer × State :=
  let (c, s) := svWrite PWR_CMD target s
  if c ≠ 0 then
    let (a, s) := unstated E_FAILED s
    (some a, s)
  else match s.pwr.power with
    | .entering 1 _ => (none, awaits link 6 0 s)
    | .entering _ _ => (some ⟨E_OK, 0, []⟩, s)
    | _ => (some (pwrAnswer s), s)
def pwrLevelCmd (link target : Nat) (s : State) : Option EmpAnswer × State :=
  let ran := s.pwr.change.isSome
  let (c, s) := svWrite PWR_PERF target s
  if c ≠ 0 then
    let (a, s) := unstated E_FAILED s
    (some a, s)
  else if s.pwr.deferred = some target then (some ⟨E_PENDING, 0, []⟩, awaits link 6 1 s)
  else if !ran && s.pwr.change.isSome then (none, awaits link 6 1 s)
  else (some (pwrAnswer s), s)

/-- CHAIN COMMIT, LOCK and SIGNED: SV places what the host sends at ADDR and writes NVS_CHCMD (R481). -/
def chainSend (link op addr num : Nat) (image : List Byte) (s : State) : EmpAnswer × State :=
  let (c, s) := if image.isEmpty then (0, s) else busWrite 6 (64 * addr) image s
  if c ≠ 0 then unstated E_FAILED s
  else
    let ran := s.nvs.chain.isSome
    let (c, s) := svWrite NVS_CHCMD (op * 2 ^ 32 + addr * 2 ^ 6) s
    if c ≠ 0 then unstated E_FAILED s
    else if !ran && s.nvs.chain.isSome then (⟨E_PENDING, 0, []⟩, awaits link 7 num s)
    else (⟨E_REFUSED, s.rd NVS_CHRES_RESULT, []⟩, s)

/-- LOG READ: the entries of the log in AON RAM from a SEQ to the newest; an entry that has left it is not returned. -/
def logEntries (s : State) (seq : Nat) : List Byte :=
  let wp := s.rd SAF_LOGWP_WP
  let n := min ((wp + 65536 - seq) % 65536) 64
  (List.range n).flatMap fun i => s.bytes (0x0800D800 + 32 * ((wp + 65536 - n + i) % 65536 % 64)) 32

/-- An output message on the links that SYS OUTCFG sets for it (R549). [DESIGN CHOICE, unsafe: notes/assumptions/65] -/
def outputMessage (cls num : Nat) (payload : List Byte) (s : State) : State :=
  if !svRuns s then s
  else match s.hst.outCfg.find? fun o => o.cls == cls && o.num == num with
    | none => s
    | some o => (List.range 5).foldl (fun (s : State) l => if o.links.testBit l then sendFrame l cls num payload s else s) s

/-- An output message at an occasion that SYS OUTCFG paces: at most one in its period (R550). [DESIGN CHOICE, unsafe: notes/assumptions/65] -/
def pacedMessage (cls num : Nat) (payload : List Byte) (s : State) : State :=
  match s.hst.outCfg.find? fun o => o.cls == cls && o.num == num with
  | none => s
  | some o =>
    if o.period ≠ 0 ∧ s.ticks < o.sent + Config.outputPeriod o.period then s
    else
      let cfg := s.hst.outCfg.map fun p => if p == o then { p with sent := s.ticks } else p
      outputMessage cls num payload { s with hst := { s.hst with outCfg := cfg } }

/-- TIMESTAT on a change of TB_TIMESTAT: the register as 8 bytes (R550). [DESIGN CHOICE, unsafe: notes/assumptions/65] -/
def timestatOutput (s : State) : State :=
  let v := (liveImage s 6 TB_TIMESTAT).getD 0
  if v = s.hst.timestat then s
  else outputMessage 3 0x41 (toLE 8 v) { s with hst := { s.hst with timestat := v } }

/-- LOG ENTRY for each SEVERE entry written since the last look, oldest first: the 32 bytes of the entry (R519, R550).
[DESIGN CHOICE, unsafe: notes/assumptions/65] -/
def entryOutput (s : State) : State :=
  let wp := s.rd SAF_LOGWP_WP
  if wp = s.hst.logSeen then s
  else
    let es := logEntries s s.hst.logSeen
    (List.range (es.length / 32)).foldl (fun (s : State) i =>
      let e := (es.drop (32 * i)).take 32
      if imgLe e 18 1 = 2 then outputMessage 8 0x40 e s else s) { s with hst := { s.hst with logSeen := wp } }

/-- What an output message that is sent by its period reports: the satellites with their flags, PWR_STAT, or ETHn_STAT of each port
(R549, R550). [DESIGN CHOICE, safe: notes/assumptions/58] -/
def periodicNumbers (s : State) (cls : Nat) : List Nat :=
  match cls with
  | 4 => s.nav.sats.flatMap fun x => [x.sat, x.spoof.toNat, x.tags.toNat, x.failed.toNat]
  | 6 => [plainImage s PWR_STAT]
  | _ => (List.range 4).map fun p => plainImage s (ETHn_STAT p)

/-- A message that SYS OUTCFG asks for by its period: SATTAB, PWRSTAT and PORTSTAT (R550). -/
def periodDue (s : State) (o : OutCfg) : Bool :=
  ((o.cls == 4 && o.num == 0x41) || o.cls == 6 || o.cls == 9) && o.period != 0 &&
    decide (o.sent + Config.outputPeriod o.period ≤ s.ticks)

/-- The messages whose period has passed. [DESIGN CHOICE, unsafe: notes/assumptions/65] -/
def periodOutput (s : State) : State :=
  s.hst.outCfg.foldl (fun (s : State) o =>
    if periodDue s o then
      let cfg := s.hst.outCfg.map fun p => if p == o then { p with sent := s.ticks } else p
      outputMessage o.cls o.num (outputBody o.cls o.num (periodicNumbers s o.cls)) { s with hst := { s.hst with outCfg := cfg } }
    else s) s

/-- The output messages that follow a change (R549, R550). -/
def changeOutput (s : State) : State := entryOutput (timestatOutput s)

/-- What VERSION, CAPS and TIME STATUS answer beside the status: their layout is SV's own, and they report what the device holds (R550).
[DESIGN CHOICE, safe: notes/assumptions/58] -/
def answerBody (cls num : Nat) (numbers : List Nat) : List Byte := (outputBody cls num numbers).take 4084
def timeNumbers (s : State) : List Nat :=
  [(liveImage s 6 TB_TIMESTAT).getD 0, plainImage s TB_STAT, s.now48 / 2 ^ 48, s.now48 % 2 ^ 48, plainImage s TB_UTCOFS, plainImage s TB_LEAPSEC]

/-- SYS RESET: the answer leaves, unless its link has no room for it, and the cold reset follows; what has left is what the command shows,
since the reset empties the link (R548 to R550). [DEDUCED, unsafe: notes/assumptions/57] -/
def sysReset (link : Nat) (s : State) : State :=
  let s' := respond link 1 2 ⟨E_OK, 0, []⟩ s
  returned 0 (if s'.hst.lost = s.hst.lost then empBytes 1 0x82 [0, 0] else []) (coldReset false s')

/-- What SV does for a command: its answer, or none yet. [DEDUCED, unsafe: notes/assumptions/57] -/
def empDo (link : Nat) (c : EmpCmd) (s : State) : Option EmpAnswer × State :=
  let now := fun (r : EmpAnswer × State) => ((some r.1, r.2) : Option EmpAnswer × State)
  match c with
  | .sysVersion => (some ⟨E_OK, 0, answerBody 1 0 [s.rd HST_PCIID_DEVICE, s.rd HST_PCIID_REVID]⟩, s)
  | .sysCaps => (some ⟨E_OK, 0, answerBody 1 1 []⟩, s)
  | .sysReset => (none, sysReset link s)
  | .sysRestartcore k image => now (restartCore k image s)
  | .sysStats => (some ⟨E_OK, 0, statsBody s⟩, s)
  | .sysOutcfg cls num links period =>
    if !outputDefined cls.toNat num.toNat then now (badArg (if outputDefined cls.toNat 0x40 then 1 else 0) s)
    else
      let s := changeOutput s
      let others := s.hst.outCfg.filter fun o => !(o.cls == cls.toNat && o.num == num.toNat)
      now (okay { s with hst := { s.hst with outCfg := others ++ [⟨cls.toNat, num.toNat, links.toNat, period.toNat, s.ticks⟩] } })
  | .cfgGet word =>
    if 17 < word.toNat then now (badArg 0 s)
    else
      let (c, b, s) := busRead 6 (cfgAddr s word.toNat) 8 s
      if c ≠ 0 then now (unstated E_FAILED s) else (some ⟨E_OK, 0, b⟩, s)
  | .cfgSet word value =>
    if 17 < word.toNat then now (badArg 0 s)
    else if !cfgFits s word.toNat value.toNat then now (badArg 1 s)
    else
      let (c, s) := busWrite 6 (cfgAddr s word.toNat) (toLE 8 value.toNat) s
      now (unlessError c s)
  | .cfgPtprx minex acc => now (okay { s with hst := { s.hst with ptpRx := some (minex.toNat, acc.toNat) } })
  | .timeStatus => (some ⟨E_OK, 0, answerBody 3 0 (timeNumbers s)⟩, s)
  | .timeLoad sec frac =>
    now (timeCommand [(TB_LOADSEC, sec.toNat), (TB_LOADFRAC, frac.toNat), (TB_CMD, (TB_CMD_LOAD.insert 0 1).toNat)] s)
  | .timeStep ps => now (timeCommand [(TB_STEP, ps.toNat), (TB_CMD, (TB_CMD_STEP.insert 0 1).toNat)] s)
  | .timeSlew ps rate =>
    now (timeCommand [(TB_SLEW, ps.toNat), (TB_SLEWRATE, rate.toNat), (TB_CMD, (TB_CMD_SLEW.insert 0 1).toNat)] s)
  | .timeUtc cur new pend leapsec =>
    let w := TB_UTCOFS_PEND.insert (TB_UTCOFS_NEW.insert (TB_UTCOFS_CUR.insert (s.reg TB_UTCOFS) cur.toNat) new.toNat)
      (if pend then 1 else 0)
    let (c, s) := svWrites [(TB_LEAPSEC, leapsec.toNat), (TB_UTCOFS, w.toNat)] s
    now (unlessError c s)
  | .measSubscribe m => now (okay { s with hst := { s.hst with antennas := m.toNat } })
  | .chanRequest ant sys svid sig at_ entry =>
    if 31 < ant.toNat then now (badArg 0 s)
    else if 6 < sys.toNat then now (badArg 1 s)
    else if !sigDefined sig.toNat then now (badArg 3 s)
    else now (chanPass at_.toNat entry (.start ant sys svid sig) s)
  | .chanRelease at_ entry => now (chanPass at_.toNat entry .stop s)
  | .pwrState t => if 3 < t.val then now (badArg 0 s) else pwrStateCmd link t s
  | .pwrLevel t => pwrLevelCmd link t s
  | .chainRead =>
    match imageInForce s with
    | some img => (some ⟨E_OK, 0, img⟩, s)
    | none => now (unstated E_FAILED s)
  | .chainCommit addr image => now (chainSend link 1 addr.toNat 1 image s)
  | .chainLock => now (chainSend link 2 0 2 [] s)
  | .chainSigned addr image => now (chainSend link 3 addr.toNat 3 image s)
  | .logRead seq => (some ⟨E_OK, 0, logEntries s seq.toNat⟩, s)
  | .logWrite v =>
    let (c, s) := svWrite SAF_SWLOG v.toNat s
    now (unlessError c s)
  | .ptpPortcfg port writes =>
    let (c, s) := svWrites (writes.map fun p => (ETHn_CTRL port + 8 * p.1.toNat, p.2.toNat)) s
    now (unlessError c s)
  | .ptpGrants index entry =>
    if entry.length ≠ 64 then (some ⟨E_BADLEN, 0, []⟩, s)
    else
      let (c, s) := busWrite 6 (grantAddr s index.toNat) entry s
      now (unlessError c s)
  | .extTod unit year month day hour minute second =>
    let u : Utc := ⟨year.toNat, month.toNat, day.toNat, hour.toNat, minute.toNat, second.toNat⟩
    match u.wrong with
    | some off => now (badArg off s)
    | none => now (okay (todArrives unit u s))
  | .extTemp t => now (okay { s with hst := { s.hst with boardTemp := t.toInt } })
  | .extZdain uart unit => now (okay { s with hst := { s.hst with zdaIn := some (uart.val, unit.val) } })
  | .nmeaCfg version sentences uarts p =>
    if 2 < version.toNat then now (badArg 0 s)
    else now (okay { s with hst := { s.hst with nmea := ⟨version.toNat, sentences.toNat, uarts.toNat, p⟩ } })
  | .bootData _ _ => (some ⟨E_UNKNOWN, 0, []⟩, s)
  | .bootGo _ => (some ⟨E_UNKNOWN, 0, []⟩, s)

/-- The firmware carries a command out and answers it (R548). [DEDUCED, unsafe: notes/assumptions/57] -/
def svCommand (link : Nat) (c : EmpCmd) (s : State) : State :=
  let k := empKey c
  if s.hst.await.any fun a => a.2.1 == k.1 then respond link k.1 k.2 ⟨E_BUSY, 0, []⟩ s
  else
    let (a, s) := empDo link c s
    match a with
    | some a => respond link k.1 k.2 a s
    | none => s

/-! ### The boot ROM (R533, R534) -/

/-- Whether the boot ROM takes an image over UART0: not while the march test of the boot runs (R465). -/
def bootListens (s : State) : Bool :=
  hostOn s && bootWaits s && !s.memc.bootMarch && (s.rd HST_BOOT_BOOTSEL == 3 || s.rd HST_BOOT_STATUS == BOOT_FAIL)

/-- FAILED after a boot: of a signature the code is that of SVU, and otherwise none is laid down (R548). -/
def bootRefused (s : State) : EmpAnswer × State :=
  if s.rd HST_BOOT_CAUSE = BF_SIGNATURE then (⟨E_FAILED, s.hst.bootSvu, []⟩, s) else unstated E_FAILED s

/-- What the boot ROM does for a command. -/
def bootDo (c : EmpCmd) (s : State) : EmpAnswer × State :=
  match c with
  | .bootData offset bytes =>
    if 4082 < bytes.length then (⟨E_BADLEN, 0, []⟩, s)
    else if 0x1000000 < offset.toNat + bytes.length then badArg 0 s
    else
      let (c, s) := dmaWrite 6 (STAGE + offset.toNat) bytes (stageProtect s)
      if c = 0 then okay s else unstated E_FAILED { s with hst := { s.hst with stageBad := true } }
  | .bootGo len =>
    let s := bootGo len.toNat 3 s
    if s.hst.boot.isSome then (⟨E_PENDING, 0, []⟩, awaits 2 0x7F 1 s) else bootRefused s
  | _ => (⟨E_UNKNOWN, 0, []⟩, s)

/-- The boot ROM answers a command of UART0. -/
def bootCommand (c : EmpCmd) (s : State) : State :=
  let k := empKey c
  let (a, s) := bootDo c s
  respond 2 k.1 k.2 a s

/-- A command arrives whole on a link. -/
def runEmp (link : Nat) (c : EmpCmd) (s : State) : State :=
  if svRuns s then svCommand link c s
  else if bootListens s ∧ link = 2 then bootCommand c s
  else s

/-! ### Final responses (R548) -/

/-- The final answer of a command that awaits its end, once the end has come. -/
def finalAnswer (cls : Nat) (s : State) : Option (EmpAnswer × State) :=
  if cls = 6 then
    if s.pwr.change.isSome || s.pwr.deferred.isSome || s.pwr.power == .entering 1 false then none else some (pwrAnswer s, s)
  else if cls = 7 then
    if s.nvs.chain.isSome then none
    else some (if s.rd NVS_CHRES_RESULT = CH_OK then okay s else (⟨E_REFUSED, s.rd NVS_CHRES_RESULT, []⟩, s))
  else if s.hst.boot.isSome then none
  else some (if s.rd HST_BOOT_STATUS = BOOT_DONE then okay s else bootRefused s)

/-- Before each edge of the paired generator SV writes the string that names its target, and its length (R556): once the string before it
has gone. [DEDUCED, unsafe: notes/assumptions/55] -/
def todWrite (s : State) : State :=
  let g := s.rd TPE_TODCFG_TPG
  let u := s.rd TPE_TODCFG_UART
  let t := tpgNext s g
  if !s.flag TPE_TODCFG_EN || s.rd (TPGn_STAT_STATE g) != T_ARMED || !s.pls.tod.isEmpty || !(s.hst.tod.getD u []).isEmpty ||
      s.hst.todFor == some t then s
  else
    let text := if s.hst.nmea.pshat then pshat s (t / 2 ^ 48) else zda s (t / 2 ^ 48)
    let s := (busWrite 6 (0x10154000 + 0x80 * u) text { s with hst := { s.hst with todFor := some t } }).2
    (svWrite (HST_TODu u) text.length s).2

/-- Final responses that are due are sent, and where the firmware runs the output messages that follow a change or the time and the
time-of-day string; the boot ROM answers BOOT GO (R533, R548). -/
def empPoll (s : State) : State :=
  let s := if svRuns s then todWrite (periodOutput (changeOutput s)) else s
  s.hst.await.foldl (fun (s : State) (a : Nat × Nat × Nat) =>
    match if svRuns s || a.2.1 == 0x7F then finalAnswer a.2.1 s else none with
    | none => s
    | some (r, s) => respond a.1 a.2.1 a.2.2 r { s with hst := { s.hst with await := s.hst.await.filter (· != a) } }) s

/-! ### Frames (R546, R547) -/

/-- The bytes before the first 0xE7 0x4B; a last byte 0xE7 may begin a frame. -/
def huntLen : List Byte → Nat
  | [] => 0
  | [b] => if b = 0xE7#8 then 0 else 1
  | a :: b :: t => if a = 0xE7#8 ∧ b = 0x4B#8 then 0 else 1 + huntLen (b :: t)

/-- A frame at the head of some bytes: too long or with a wrong CRC (none), or whole with its class, ID and length. -/
inductive Parsed where
  | partly
  | bad
  | whole (cls id len : Nat)
  deriving DecidableEq, Repr

/-- What stands at the head of bytes that begin with 0xE7. -/
def parseFrame (l : List Byte) : Parsed :=
  if l.length < 6 then .partly
  else
    let n := imgLe l 4 2
    if 4086 < n then .bad
    else if l.length < n + 10 then .partly
    else if imgLe l (6 + n) 4 = crc32c ((l.drop 2).take (4 + n)) then .whole (imgLe l 2 1) (imgLe l 3 1) n
    else .bad

/-- A frame whose CRC is right. -/
def frameRuns (link cls id : Nat) (r : EmpReading) (s : State) : State :=
  let num := id % 64
  if 64 ≤ id then s
  else if !empDefined cls num then respond link cls num ⟨E_UNKNOWN, 0, []⟩ s
  else match r with
    | .badLen => respond link cls num ⟨E_BADLEN, 0, []⟩ s
    | .badArg off => respond link cls num ⟨E_BADARG, off.toNat, []⟩ s
    | .cmd c => if empKey c = (cls, num) then runEmp link c s else s

/-- SV reads the bytes that stand in a receive ring. -/
def ringBytes (j : Nat) : Nat → Nat → State → List Byte × State
  | 0, _, s => ([], s)
  | n + 1, i, s =>
    let (_, d, s) := memRead 6 (ringByte (s.rd (HST_Lj_RXBASE_BASE j)) (s.rd (HST_Lj_RXRP_INDEX j) + i)) 1 s
    let (t, s) := ringBytes j n (i + 1) s
    (d.headD 0 :: t, s)

/-- The bytes before a frame leave a receive ring; on a UART that carries ZDA sentences, an unfinished line stays. -/
def skipJunk (j : Nat) (bs : List Byte) (s : State) : List Byte × State :=
  let k := huntLen bs
  let line := (bs.reverse.takeWhile (· != 0x0A#8)).length
  let waits := (match s.hst.zdaIn with | some (u, _) => u + 1 == j | none => false) && k + 1 ≥ bs.length
  let k := if waits then min k (bs.length - line) else k
  (bs.drop k, (zdaInput j (bs.take k) s).count (HST_Lj_RXRP_INDEX j) k)

/-- Whether some software serves a link. -/
def served (s : State) (link : Nat) : Bool := svRuns s || (bootListens s && link == 2)

/-- The first whole frame of a mailbox by its class and ID, and how many were discarded before it: the hunt goes on at the byte after the
SYNC1 of each; a frame that the mailbox ends has no CRC that is right (R547). -/
def mailFrame : Nat → List Byte → Nat × Option (Nat × Nat)
  | 0, _ => (0, none)
  | fuel + 1, bs =>
    let bs := bs.drop (huntLen bs)
    if bs.take 2 ≠ [0xE7#8, 0x4B#8] then (0, none)
    else match parseFrame bs with
      | .whole cls id _ => (0, some (cls, id))
      | _ =>
        let (n, r) := mailFrame fuel (bs.drop 1)
        (n + 1, r)

/-- The next frame of a link is checked and its command carried out (R547, R549). -/
def empFrame (link : Nat) (r : EmpReading) (s : State) : State :=
  if !served s link then s
  else if link = 0 then
    if !s.flag HST_MBIN_FULL then s
    else
      let (_, bs, s) := busRead 6 0x10152000 (s.rd HST_MBIN_LEN) s
      let (bad, found) := mailFrame bs.length bs
      let s := (List.range bad).foldl (fun s _ => countFrame 0 s) (mbinAck s)
      match found with
      | some (cls, id) => frameRuns 0 cls id r s
      | none => s
  else
    let j := link - 1
    let (bs, s) := ringBytes j (rxLevel s j) 0 s
    let (bs, s) := skipJunk j bs s
    if bs.take 2 ≠ [0xE7#8, 0x4B#8] then s
    else match parseFrame bs with
      | .partly => s
      | .bad => countFrame link (s.count (HST_Lj_RXRP_INDEX j))
      | .whole cls id n => frameRuns link cls id r (s.count (HST_Lj_RXRP_INDEX j) (n + 10))

/-- No byte has come for 10 ms at tick `t` on a byte link that holds some (R547). -/
def frameDue (s : State) (link t : Nat) : Bool :=
  within 1 4 link && rxLevel s (link - 1) != 0 && decide (s.hst.rxAt.getD (link - 1) 0 + 10 * msTicks ≤ t)

/-- No byte of a frame has come for 10 ms on a byte link (R547). -/
def frameTimeout (link : Nat) (s : State) : State :=
  if !served s link ∨ link = 0 then s
  else
    let j := link - 1
    let (bs, s) := ringBytes j (rxLevel s j) 0 s
    let (bs, s) := skipJunk j bs s
    if bs.head? = some 0xE7#8 ∧ parseFrame bs = .partly then countFrame link (s.count (HST_Lj_RXRP_INDEX j)) else s

/-! ### Meanings -/

/-- EMP_FRAME (R547). -/
def execEmpFrame (link : Fin 5) (reading : EmpReading) (s : State) : Host.Outcome State Fault Refusal :=
  done (empFrame link reading s)

/-- NMEA_OUTPUT (R553). -/
def execNmeaOutput (s : State) : Host.Outcome State Fault Refusal := done (nmeaOutput s)

/-- EMP_SYS_VERSION (R550). -/
def execEmpSysVersion (link : Fin 5) (s : State) : Host.Outcome State Fault Refusal :=
  done (runEmp link .sysVersion s)

/-- EMP_SYS_CAPS (R550). -/
def execEmpSysCaps (link : Fin 5) (s : State) : Host.Outcome State Fault Refusal :=
  done (runEmp link .sysCaps s)

/-- EMP_SYS_RESET (R550). -/
def execEmpSysReset (link : Fin 5) (s : State) : Host.Outcome State Fault Refusal :=
  done (runEmp link .sysReset s)

/-- EMP_SYS_RESTARTCORE (R513). -/
def execEmpSysRestartcore (link : Fin 5) (core : CoreId) (image : List Byte) (s : State) : Host.Outcome State Fault Refusal :=
  done (runEmp link (.sysRestartcore core image) s)

/-- EMP_SYS_STATS (R550). -/
def execEmpSysStats (link : Fin 5) (s : State) : Host.Outcome State Fault Refusal :=
  done (runEmp link .sysStats s)

/-- EMP_SYS_OUTCFG (R550). -/
def execEmpSysOutcfg (link : Fin 5) (cls num : Byte) (links : BitVec 5) (period : BitVec 16) (s : State) : Host.Outcome State Fault Refusal :=
  done (runEmp link (.sysOutcfg cls num links period) s)

/-- EMP_CFG_GET (R550). -/
def execEmpCfgGet (link : Fin 5) (word : Byte) (s : State) : Host.Outcome State Fault Refusal :=
  done (runEmp link (.cfgGet word) s)

/-- EMP_CFG_SET (R271). -/
def execEmpCfgSet (link : Fin 5) (word : Byte) (value : BitVec 64) (s : State) : Host.Outcome State Fault Refusal :=
  done (runEmp link (.cfgSet word value) s)

/-- EMP_CFG_PTPRX (R550). -/
def execEmpCfgPtprx (link : Fin 5) (minex accclass : Byte) (s : State) : Host.Outcome State Fault Refusal :=
  done (runEmp link (.cfgPtprx minex accclass) s)

/-- EMP_TIME_STATUS (R550). -/
def execEmpTimeStatus (link : Fin 5) (s : State) : Host.Outcome State Fault Refusal :=
  done (runEmp link .timeStatus s)

/-- EMP_TIME_LOAD (R551). -/
def execEmpTimeLoad (link : Fin 5) (sec frac : Word) (s : State) : Host.Outcome State Fault Refusal :=
  done (runEmp link (.timeLoad sec frac) s)

/-- EMP_TIME_STEP (R551). -/
def execEmpTimeStep (link : Fin 5) (ps : Word) (s : State) : Host.Outcome State Fault Refusal :=
  done (runEmp link (.timeStep ps) s)

/-- EMP_TIME_SLEW (R551). -/
def execEmpTimeSlew (link : Fin 5) (ps rate : Word) (s : State) : Host.Outcome State Fault Refusal :=
  done (runEmp link (.timeSlew ps rate) s)

/-- EMP_TIME_UTC (R550). -/
def execEmpTimeUtc (link : Fin 5) (cur new : BitVec 16) (pend : Bool) (leapsec : Word) (s : State) : Host.Outcome State Fault Refusal :=
  done (runEmp link (.timeUtc cur new pend leapsec) s)

/-- EMP_MEAS_SUBSCRIBE (R551). -/
def execEmpMeasSubscribe (link : Fin 5) (antennas : BitVec 32) (s : State) : Host.Outcome State Fault Refusal :=
  done (runEmp link (.measSubscribe antennas) s)

/-- EMP_CHAN_REQUEST (R551). -/
def execEmpChanRequest (link : Fin 5) (antenna sys svid sig : Byte) (at_ : BitVec 12) (entry : List Byte) (s : State) : Host.Outcome State Fault Refusal :=
  done (runEmp link (.chanRequest antenna sys svid sig at_ entry) s)

/-- EMP_CHAN_RELEASE (R551). -/
def execEmpChanRelease (link : Fin 5) (at_ : BitVec 12) (entry : List Byte) (s : State) : Host.Outcome State Fault Refusal :=
  done (runEmp link (.chanRelease at_ entry) s)

/-- EMP_PWR_STATE (R550). -/
def execEmpPwrState (link : Fin 5) (target : Fin 8) (s : State) : Host.Outcome State Fault Refusal :=
  done (runEmp link (.pwrState target) s)

/-- EMP_PWR_LEVEL (R550). -/
def execEmpPwrLevel (link : Fin 5) (target : Fin 4) (s : State) : Host.Outcome State Fault Refusal :=
  done (runEmp link (.pwrLevel target) s)

/-- EMP_CHAIN_READ (R550). -/
def execEmpChainRead (link : Fin 5) (s : State) : Host.Outcome State Fault Refusal :=
  done (runEmp link .chainRead s)

/-- EMP_CHAIN_COMMIT (R550). -/
def execEmpChainCommit (link : Fin 5) (addr : BitVec 26) (image : List Byte) (s : State) : Host.Outcome State Fault Refusal :=
  done (runEmp link (.chainCommit addr image) s)

/-- EMP_CHAIN_LOCK (R550). -/
def execEmpChainLock (link : Fin 5) (s : State) : Host.Outcome State Fault Refusal :=
  done (runEmp link .chainLock s)

/-- EMP_CHAIN_SIGNED (R550). -/
def execEmpChainSigned (link : Fin 5) (addr : BitVec 26) (image : List Byte) (s : State) : Host.Outcome State Fault Refusal :=
  done (runEmp link (.chainSigned addr image) s)

/-- EMP_LOG_READ (R550). -/
def execEmpLogRead (link : Fin 5) (seq : BitVec 16) (s : State) : Host.Outcome State Fault Refusal :=
  done (runEmp link (.logRead seq) s)

/-- EMP_LOG_WRITE (R550). -/
def execEmpLogWrite (link : Fin 5) (value : Word) (s : State) : Host.Outcome State Fault Refusal :=
  done (runEmp link (.logWrite value) s)

/-- EMP_PTP_PORTCFG (R550). -/
def execEmpPtpPortcfg (link : Fin 5) (port : Fin 4) (writes : List (Byte × Word)) (s : State) : Host.Outcome State Fault Refusal :=
  done (runEmp link (.ptpPortcfg port writes) s)

/-- EMP_PTP_GRANTS (R550). -/
def execEmpPtpGrants (link : Fin 5) (index : Byte) (entry : List Byte) (s : State) : Host.Outcome State Fault Refusal :=
  done (runEmp link (.ptpGrants index entry) s)

/-- EMP_EXT_TOD (R551). -/
def execEmpExtTod (link : Fin 5) (unit : Fin 8) (year : BitVec 16) (month day hour minute second : Byte) (s : State) : Host.Outcome State Fault Refusal :=
  done (runEmp link (.extTod unit year month day hour minute second) s)

/-- EMP_EXT_TEMP (R550). -/
def execEmpExtTemp (link : Fin 5) (temp : BitVec 16) (s : State) : Host.Outcome State Fault Refusal :=
  done (runEmp link (.extTemp temp) s)

/-- EMP_EXT_ZDAIN (R550). -/
def execEmpExtZdain (link : Fin 5) (uart : Fin 2) (unit : Fin 8) (s : State) : Host.Outcome State Fault Refusal :=
  done (runEmp link (.extZdain uart unit) s)

/-- EMP_NMEA_CFG (R553). -/
def execEmpNmeaCfg (link : Fin 5) (version : Byte) (sentences : Byte) (uarts : BitVec 2) (pshat : Bool) (s : State) : Host.Outcome State Fault Refusal :=
  done (runEmp link (.nmeaCfg version sentences uarts pshat) s)

/-- EMP_BOOT_DATA (R533). -/
def execEmpBootData (link : Fin 5) (offset : BitVec 32) (bytes : List Byte) (s : State) : Host.Outcome State Fault Refusal :=
  done (runEmp link (.bootData offset bytes) s)

/-- EMP_BOOT_GO (R533). -/
def execEmpBootGo (link : Fin 5) (len : BitVec 32) (s : State) : Host.Outcome State Fault Refusal :=
  done (runEmp link (.bootGo len) s)

end Sys2Proof.Machine
end

