-- ==== Sys2Proof/Machine/PtpSv.lean ====
section
/-!
DEFINITION. What SV does of PTP beside the hardware (R398, R402): the frames that it puts into a transmit ring, its Announce messages and
the unicast grants.
-/

namespace Sys2Proof.Machine

/-- SV puts a frame into the transmit ring of a port, where it runs and the ring has room (R414). -/
def svFrame (n flags : Nat) (frame : List Byte) (s : State) : State :=
  let wp := s.rd (ETHn_TXWP_INDEX n)
  if !svRuns s || decide (64 ≤ (wp + 65536 - s.rd (ETHn_TXRP_INDEX n)) % 65536) then s
  else
    let (c, s) := busWrite 6 (s.rd (ETHn_TXRING_BASE n) * 2048 + 2048 * (wp % 64)) (slotBytes flags 0 frame) s
    if c ≠ 0 then s else (busWrite 6 (ETHn_TXWP n) (toLE 8 ((wp + 1) % 65536)) s).2

/-- The AUTH flag of a slot: PTP messages take the TLV where the port has one (R404, R414). -/
def AUTH_FLAG : Nat := 8

/-! ### Announce (R402) -/

/-- What an Announce of a port is formed from: the instance, the transport, and the row of R402 that applies. -/
def announceFields (s : State) (n : Nat) : List Int :=
  let h := ethHead s n .frame
  [(h.clock : Int), h.portNumber, h.domain, h.minor, transportOf s n] ++
    match announce s n with
    | some a => [(a.cls : Int), a.timeSource, match a.traceable with | some true => 1 | some false => 0 | none => 2]
    | none => []

/-- SV sends Announce on a port: it runs, the link is up, the port is a time transmitter and its ring has been set up.
[DESIGN CHOICE, safe: notes/assumptions/39] -/
def announces (s : State) (n : Nat) : Bool :=
  svRuns s && ethUp s n && !s.flag (ETHn_PTPCFG_ROLE n) && s.rd (ETHn_TXRING_BASE n) != 0

/-- SV's Announce messages over a tick interval: one at each instant of the port's announce interval. -/
def announceTick (w : Span) (s : State) : State :=
  (List.range 4).foldl (fun s n =>
    if announces s n && !w.loaded && decide (0 < (syncInstants (Config.announceLog n) w.t0 w.now 0).1) then
      svFrame n AUTH_FLAG (Config.announceFrame (announceFields s n)) s
    else s) s

/-! ### Unicast negotiation (R398, R399) -/

/-- The entry for a time receiver on a port: the one that it holds, else the first that is free or lapsed. -/
def grantSlot (s : State) (n : Nat) (r : GrantReq) : Option Nat :=
  let entry := fun i => s.bytes (grantAddr s i) 64
  match (List.range 256).find? fun i =>
      grantValid (entry i) && ((entry i).getD 1 0).toNat == n && ((entry i).drop 4).take 10 == r.rxpid with
  | some i => some i
  | none => (List.range 256).find? fun i => !grantValid (entry i) || grantLapsed (entry i) s.sec

/-- The entry that grants a request: what the receiver already holds stays granted, with its sequenceId. -/
def grantEntry (s : State) (n : Nat) (r : GrantReq) (old : List Byte) : List Byte :=
  let same := grantValid old && (old.getD 1 0).toNat == n && (old.drop 4).take 10 == r.rxpid
  let had := fun k => same && (old.getD 0 0).toNat.testBit k
  let bit := fun (b : Bool) (k : Nat) => if b then 2 ^ k else 0
  let flags := 1 + bit (r.sync || had 1) 1 + bit (!r.sync || had 2) 2 + bit (r.transport == 2) 3 + bit (r.transport == 0) 4
  toLE 1 flags ++ toLE 1 n ++ [if r.sync then r.log else if same then old.getD 2 0 else 0] ++ [0] ++ r.rxpid ++ toBE 6 r.mac.toNat ++
    (r.ip ++ List.replicate (16 - r.ip.length) 0) ++ toLE 6 (s.sec + r.duration.toNat) ++
    (if same then (old.drop 42).take 2 else [0, 0]) ++ List.replicate 20 0

/-- SV changes an entry: it clears VALID, writes the entry and then sets VALID (R399). -/
def writeGrant (i : Nat) (e : List Byte) (s : State) : Nat × State :=
  let a := grantAddr s i
  let (c, s) := busWrite 6 a [0] s
  let (c', s) := busWrite 6 (a + 1) (e.drop 1) s
  let (c'', s) := busWrite 6 a (e.take 1) s
  (firstCause c (firstCause c' c''), s)

/-- SV's answer to a request, with the durationField that it grants: zero refuses. -/
def grantAnswer (n duration : Nat) (r : GrantReq) (s : State) : State :=
  let h := ethHead s n .frame
  svFrame n AUTH_FLAG (Config.grantFrame [(h.clock : Int), h.portNumber, h.domain, h.minor, r.transport.val, r.mac.toNat, ofBE r.ip, ofBE r.rxpid,
    if r.sync then 1 else 0, signed 8 r.log.toNat, duration]) s

/-- SV takes a request for unicast transmission that has come to it: an entry for each granted receiver, and a durationField of zero where
256 are granted (R398). [DESIGN CHOICE, unsafe: notes/assumptions/39] -/
def negotiate (n : Nat) (r : GrantReq) (s : State) : State :=
  if !svRuns s || s.flag (ETHn_PTPCFG_ROLE n) then s
  else
    let inRange := !r.sync || (decide (-7 ≤ signed 8 r.log.toNat) && decide (signed 8 r.log.toNat ≤ 4))
    match if inRange then grantSlot s n r else none with
    | none => grantAnswer n 0 r s
    | some i =>
      let (c, s) := writeGrant i (grantEntry s n r (s.bytes (grantAddr s i) 64)) s
      grantAnswer n (if c = 0 then r.duration.toNat else 0) r s

/-- A frame arrives; SV answers a request that the receive ring has brought it. -/
def frameArrives (n : Nat) (kind : FrameKind) (tlv : Tlv) (fine : Nat) (frame : List Byte) (s : State) : State :=
  let s' := ethFrame n kind tlv fine frame s
  match kind with
  | .grantRequest r => if s'.rd (ETHn_RXWP_INDEX n) = s.rd (ETHn_RXWP_INDEX n) then s' else negotiate n r s'
  | _ => s'

/-- ETH_FRAME_RECEIVED (R414). -/
def execEthFrameReceived (port : Fin 4) (kind : FrameKind) (tlv : Tlv) (fine : Fin 256) (frame : List Byte) (s : State) :
    Host.Outcome State Fault Refusal := done (frameArrives port kind tlv fine frame s)

end Sys2Proof.Machine
end

