-- ==== Sys2Proof/Machine/Tick.lean ====
section
/-!
DEFINITION. The tick of CLK_TB (R309) with everything that counts on it, and the commands that name what a tick does: each
of those is the tick itself where the event it names is due at the next tick, and changes nothing otherwise.
-/

namespace Sys2Proof.Machine

/-! ### The parts of a tick -/

/-- A core timer counts down, sets TEXP on the tick at which it reaches zero, and reloads where it is periodic (R266).
[DEDUCED, unsafe: notes/assumptions/52] -/
def coreTimer (s : State) (n : Nat) : State :=
  let k := s.rd (KCn_TIMER_COUNT n)
  if k = 0 then s
  else if k = 1 then
    let r := s.rd (KCn_TRELOAD_RELOAD n)
    (s.wr (KCn_TIMER_COUNT n) (if s.flag (KCn_TRELOAD_PERIODIC n) then r else 0)).raise (KCn_STAT_TEXP n)
  else s.wr (KCn_TIMER_COUNT n) (k - 1)

/-- A watchdog that counts; at PERIOD µs it expires (R511, R512), which `dogDue` says of the next tick. -/
def dogDue (s : State) (n : Nat) : Bool :=
  let w := s.saf.dogs.getD n {}
  w.counting && clocked s n && decide (w.period * 600 ≤ w.count + 1)
def dogTick (s : State) (n : Nat) : State :=
  let w := s.saf.dogs.getD n {}
  if !w.counting || !clocked s n then s
  else
    let s := s.setDog n { w with count := w.count + 1 }
    if w.period * 600 ≤ w.count + 1 then dogExpires n s else s

/-- The always-on counter: 32,768 of its cycles pass in 600,000,000 ticks. [DEDUCED, unsafe: notes/assumptions/52] -/
def rtcTick (s : State) : State :=
  let p := s.pwr.rtcPhase + 32768
  if p < 600000000 then { s with pwr := { s.pwr with rtcPhase := p } }
  else switchCycle (rtcAlarm ({ s with pwr := { s.pwr with rtcPhase := p - 600000000 } }.count PWR_RTC_COUNT))

/-- Whether the blocks of CLK_PER that KEEPTIME leaves without power have it. -/
def blocksOn (s : State) : Bool := hostOn s

/-- The time base with the root's part of a switch tick and the predicted FREQALT (R309 to R328, R372); at a switch tick FREQALT
is the former FREQNOW, whatever REFCMP says (R315, R369). [DEDUCED, unsafe: notes/assumptions/62] -/
def timeTick (s : State) : State :=
  let s' := tbTick s
  if s.tb.refSwitch then clkSwitchTick s'
  else if s'.rd TB_FREQNOW_FREQ = s.rd TB_FREQNOW_FREQ then s'
  else recomputeAlt s'

/-- A CLK_SYS cycle of a core that does not run: the cycles since its RESET go on (R221); SV in its boot ROM counts as running.
[DEDUCED, unsafe: notes/assumptions/44] -/
def coreCycle (s : State) (n : Nat) : State :=
  let st := s.coreState n
  if st = K_RESET || !clocked s n then s
  else
    let one := fun (s : State) => s.setCore n { s.core n with cycle := (s.core n).cycle + 1 }
    if st != K_RUN then one s
    else if n = 6 && !s.hst.ready then one (s.count (KCn_CYCLE_COUNT 6))
    else s

/-- A CLK_SYS cycle: the scrubber, the march test and the cores that do not run (R221, R461, R462). -/
def sysCycle (s : State) : State := (List.range 7).foldl coreCycle (marchCycle (scrubCycle s))

/-- Sixths of a CLK_SYS cycle in a tick, at 400, 300 or 200 MHz (R367, R490). -/
def sysSixths (s : State) : Nat := 4 - s.level

/-- A CLK_SYS cycle ends at the next tick. -/
def sysDue (s : State) : Bool := decide (6 ≤ s.clk.sysPhase + sysSixths s)

/-- CLK_SYS over a tick. -/
def sysTick (s : State) : State :=
  let s' := { s with clk := { s.clk with sysPhase := (s.clk.sysPhase + sysSixths s) % 6 } }
  if sysDue s then sysCycle s' else s'

/-- The sample links over a tick that takes the time base on from `before`: markers, the Clapper and mask changes without
an echo (R29, R45, R68). -/
def linkTick (before : Nat) (s : State) : State :=
  let s := if entering s then s else (List.range 32).foldl (fun s n => if markerDue s n before s.tb.now then bcFrame n s else s) s
  let s := if clapDue s s.tb.now then clapFire s else s
  (List.range 32).foldl (fun s n => if maskDue s n s.ticks then maskTimeout n s else s) s

/-- The power levels, the programming of OTP, the check of the code RAM, the blocks of the cipher engine, the Chain command and the word
writes of the store (R174, R434, R474, R476, R483, R491, R492). -/
def waitTick (s : State) : State :=
  let s := if levelDue s s.ticks then levelEnd s else s
  let s := if vidDue s s.ticks then vidFail s else s
  let s := if otpDue s s.ticks then otpProgDone s else s
  nvsTick (chainVerify (cxeTick (crcTick s)))

/-- The Ethernet ports and the host links over a tick interval (R391, R400, R412, R413, R534, R547). -/
def portTick (w : Span) (s : State) : State :=
  let s := if infoDue s.ticks || (List.range 4).any (fun n => eventDue s n s.ticks) then ethSilent s else s
  let s := (List.range 4).foldl esmcTick (announceTick w (syncTick w (tapTick (keepSource s))))
  let s := if bootstatDue s s.ticks then bootstat s else s
  (List.range 5).foldl (fun s l => if frameDue s l s.ticks then frameTimeout l s else s) s

/-- What stands still in KEEPTIME. -/
def blockTick (w : Span) (s : State) : State :=
  let s := seTick ((List.range 32).foldl fecTick (linkTick w.t0 s))
  let s := sysTick (waitTick s)
  portTick w ((List.range 7).foldl dogTick ((List.range 7).foldl coreTimer s))

/-- One tick of CLK_TB. [DEDUCED, unsafe: notes/assumptions/62] -/
def tick (s : State) : State :=
  let s' := timeTick s
  let w := spanOf s s'
  let s' := todStart ((List.range 8).foldl (evcTick w) (pulsesTick w s'))
  let s' := faultTick (clkTick ((List.range 4).foldl (osyTick s) s'))
  let s' := if blocksOn s' then blockTick w s' else s'
  refreshTrust (refreshQls s')

/-- A tick of the device: the time base stands still in DEEP and without supply (R489, R500).
[DESIGN CHOICE, safe: notes/assumptions/5] -/
def deviceTick (s : State) : State :=
  if !s.pwr.supplied then s
  else
    let s := if s.pwr.power = .deep then deepTick s else tick s
    let s := powerTick (rtcTick s)
    if svRuns s || !s.hst.await.isEmpty then empPoll s else s

/-- A tick at which an event is due. [DESIGN CHOICE, safe: notes/assumptions/5] -/
def tickIf (due : Bool) (s : State) : State := if due then deviceTick s else s

/-! ### When an event is due -/

/-- The time base runs. -/
def tbRuns (s : State) : Bool := s.pwr.supplied && s.pwr.power != .deep

/-- The tick in which an event of a powered block falls, where it is due at the next one. -/
def tickAt (due : State → Nat → Bool) (s : State) : State := tickIf (tbRuns s && blocksOn s && due s (s.ticks + 1)) s

/-- The accepted load takes effect at the next tick (R325). -/
def loadDue (s : State) : Bool := tbRuns s && s.tb.load.isSome && (tbTick s).tb.load.isNone

/-- The next tick is the step tick of an accepted step (R318). -/
def stepDue (s : State) : Bool := tbRuns s && s.tb.steps.any fun p => decide (p.due ≤ s.ticks + 1)

/-- The slew in force ends at the next tick (R323). -/
def slewDue (s : State) : Bool :=
  tbRuns s &&
    match (slewInForce s).tb.slew with
    | none => false
    | some w => decide (w.rem.natAbs < (nomShare (if w.rem < 0 then -(slewS w.rate : Int) else slewS w.rate)).natAbs)

/-- FREQNOW moves at the next tick (R314). -/
def rampDue (s : State) : Bool := tbRuns s && s.rd TB_FREQNOW_FREQ != (rampTick s).rd TB_FREQNOW_FREQ

/-- The UTC offset changes at the next tick (R338). -/
def leapDue (s : State) : Bool := tbRuns s && s.flag TB_UTCOFS_PEND && !(tbTick s).flag TB_UTCOFS_PEND

/-- A reference switch awaits its switch tick (R372). -/
def switchDue (s : State) : Bool := tbRuns s && rootState s == C_SWITCH && !s.clk.ticked

/-- The next tick brings the time base over an instant of the finest grid of Syncs (R400). -/
def syncDue (s : State) : Bool := tbRuns s && blocksOn s && syncGrid s.tb.now (tbTick s).tb.now

/-! ### Meanings -/

/-- TICK (R309). -/
def execTick (s : State) : Host.Outcome State Fault Refusal := done (deviceTick s)

/-- LOAD_TAKE_EFFECT (R325). -/
def execLoadTakeEffect (s : State) : Host.Outcome State Fault Refusal := done (tickIf (loadDue s) s)

/-- STEP_TICK (R318). -/
def execStepTick (s : State) : Host.Outcome State Fault Refusal := done (tickIf (stepDue s) s)

/-- SLEW_END (R323). -/
def execSlewEnd (s : State) : Host.Outcome State Fault Refusal := done (tickIf (slewDue s) s)

/-- FREQ_RAMP_MOVE (R314). -/
def execFreqRampMove (s : State) : Host.Outcome State Fault Refusal := done (tickIf (rampDue s) s)

/-- LEAP_APPLY (R338). -/
def execLeapApply (s : State) : Host.Outcome State Fault Refusal := done (tickIf (leapDue s) s)

/-- REF_SWITCH_TICK: the tick that follows the first edge of the new reference; that edge comes from outside, so the command says
at which tick the switch takes place (R372). [DESIGN CHOICE, safe: notes/assumptions/5] -/
def execRefSwitchTick (s : State) : Host.Outcome State Fault Refusal :=
  done (if switchDue s then deviceTick { s with tb := { s.tb with refSwitch := true } } else s)

/-- TPG_LEADING_EDGE (R342). -/
def execTpgLeadingEdge (gen : Fin 16) (s : State) : Host.Outcome State Fault Refusal :=
  done (tickIf (tbRuns s && leadingDue s gen) s)

/-- TPG_TRAILING_EDGE (R343). -/
def execTpgTrailingEdge (gen : Fin 16) (s : State) : Host.Outcome State Fault Refusal :=
  done (tickIf (tbRuns s && trailingDue s gen) s)

/-- TOD_STRING_START (R351). -/
def execTodStringStart (s : State) : Host.Outcome State Fault Refusal := done (tickAt todDue s)

/-- EVC_CAPTURE (R352). -/
def execEvcCapture (unit : Fin 8) (s : State) : Host.Outcome State Fault Refusal :=
  done (tickIf (tbRuns s && captureDue s unit) s)

/-- EVC_WINDOW_MISS (R355). -/
def execEvcWindowMiss (unit : Fin 8) (s : State) : Host.Outcome State Fault Refusal :=
  done (tickIf (tbRuns s && missDue s unit) s)

/-- RAMP_SEGMENT_END (R383). -/
def execRampSegmentEnd (unit : Fin 4) (s : State) : Host.Outcome State Fault Refusal :=
  done (tickIf (tbRuns s && segmentDue s unit) s)

/-- OSY_PHASE_CAPTURE (R385): the tick interval in which the edge leaves the pad. -/
def execOsyPhaseCapture (unit : Fin 4) (s : State) : Host.Outcome State Fault Refusal :=
  done (tickIf (tbRuns s && (phEdge s unit).isSome) s)

/-- KC_TIMER_EXPIRY (R266). -/
def execKcTimerExpiry (core : CoreId) (s : State) : Host.Outcome State Fault Refusal :=
  done (tickAt (fun s _ => s.rd (KCn_TIMER_COUNT core) == 1) s)

/-- WATCHDOG_EXPIRY (R512). -/
def execWatchdogExpiry (core : CoreId) (s : State) : Host.Outcome State Fault Refusal :=
  done (tickAt (fun s _ => dogDue s core) s)

/-- BACKCHANNEL_FRAME (R29). -/
def execBackchannelFrame (port : Port) (s : State) : Host.Outcome State Fault Refusal :=
  done (tickAt (fun s _ => !entering s && markerDue s port s.tb.now (tbTick s).tb.now) s)

/-- MASK_TIMEOUT (R45). -/
def execMaskTimeout (port : Port) (s : State) : Host.Outcome State Fault Refusal := done (tickAt (maskDue · port ·) s)

/-- CLAPPER_FIRE (R68). -/
def execClapperFire (s : State) : Host.Outcome State Fault Refusal :=
  done (tickAt (fun s _ => clapDue s (tbTick s).tb.now) s)

/-- CMD_TIMEOUT (R103). -/
def execCmdTimeout (port : Port) (s : State) : Host.Outcome State Fault Refusal := done (tickAt (cmdDue · port ·) s)

/-- CALLIM_EXPIRY (R106). -/
def execCallimExpiry (port : Port) (s : State) : Host.Outcome State Fault Refusal := done (tickAt (calDue · port ·) s)

/-- SETTLE_EXPIRY (R106). -/
def execSettleExpiry (port : Port) (s : State) : Host.Outcome State Fault Refusal := done (tickAt (settleDue · port ·) s)

/-- HELD_CMD_TIMEOUT (R111). -/
def execHeldCmdTimeout (port : Port) (s : State) : Host.Outcome State Fault Refusal := done (tickAt (heldDue · port ·) s)

/-- RING_DB_TIMEOUT: the doorbell of a ring comes to request by its time-out (R148). -/
def execRingDbTimeout (ring : Fin 4) (s : State) : Host.Outcome State Fault Refusal :=
  done (tickAt (fun s t => !ringWaited s ring s.ticks && ringWaited s ring t) s)

/-- SE_BLOCK_COMPLETE (R189). -/
def execSeBlockComplete (slot : Fin 4) (s : State) : Host.Outcome State Fault Refusal :=
  done (tickAt (fun s _ => seBlockDue s slot) s)

/-- CGN_CRC_DONE (R174). -/
def execCgnCrcDone (s : State) : Host.Outcome State Fault Refusal := done (tickAt (fun s _ => crcDue s) s)

/-- SE_RPT_DB_TIMEOUT (R194). -/
def execSeRptDbTimeout (s : State) : Host.Outcome State Fault Refusal :=
  done (tickAt (fun s t => !rptWaited s s.ticks && rptWaited s t) s)

/-- RELOCK_TIMEOUT (R372, R373). -/
def execRelockTimeout (s : State) : Host.Outcome State Fault Refusal :=
  done (tickIf (tbRuns s && relockDue s (s.ticks + 1)) s)

/-- ROOT_BOOT_TIMEOUT: 1 ms (false) and 2 ms (true) after a cold reset (R374). -/
def execRootBootTimeout (late : Bool) (s : State) : Host.Outcome State Fault Refusal :=
  done (tickIf (tbRuns s && bootDue s late (s.ticks + 1)) s)

/-- CLOCK_FAULT_END (R510). -/
def execClockFaultEnd (s : State) : Host.Outcome State Fault Refusal := done (tickIf (tbRuns s && faultEndDue s) s)

/-- SYNC_INSTANT: the tick that brings an instant of the grid of Syncs, where one is due, and the departure of the first queued Syncs
of a port, so many fine steps after it as `waits` says (R400). [DESIGN CHOICE, safe: notes/assumptions/5] -/
def execSyncInstant (port : Fin 4) (waits : List (Fin 256)) (s : State) : Host.Outcome State Fault Refusal :=
  done (sendSyncs port waits (tickIf (syncDue s) s))

/-- ETH_REF_FALLBACK (R391). -/
def execEthRefFallback (port : Fin 4) (s : State) : Host.Outcome State Fault Refusal :=
  done (tickAt (fun s t => fallbackDue s t && s.flag (ETHn_CTRL_REFSRC port)) s)

/-- ESMC_INFO_PDU (R412). -/
def execEsmcInfoPdu (port : Fin 4) (s : State) : Host.Outcome State Fault Refusal :=
  done (tickAt (fun s t => infoDue t && esmcSends s port) s)

/-- ESMC_TIMEOUT (R413). -/
def execEsmcTimeout (port : Fin 4) (s : State) : Host.Outcome State Fault Refusal := done (tickAt (esmcDue · port ·) s)

/-- SCRUB_READ (R461). -/
def execScrubRead (s : State) : Host.Outcome State Fault Refusal :=
  done (tickAt (fun s _ => sysDue s && scrubDue s) s)

/-- NVS_WORD_WRITE (R474). -/
def execNvsWordWrite (s : State) : Host.Outcome State Fault Refusal := done (tickAt (fun s _ => wordDue s) s)

/-- OTP_PROG_DONE (R476). -/
def execOtpProgDone (s : State) : Host.Outcome State Fault Refusal := done (tickAt otpDue s)

/-- LEVEL_SETTLE_END: VPG is high where a level change awaits it, and the tick that ends its settling otherwise (R491). -/
def execLevelSettleEnd (s : State) : Host.Outcome State Fault Refusal :=
  done (if (s.pwr.change.map (·.awaitVpg)).getD false then vpgHigh s else tickAt levelDue s)

/-- VIDFAIL_TIMEOUT (R492). -/
def execVidfailTimeout (s : State) : Host.Outcome State Fault Refusal := done (tickAt vidDue s)

/-- BOOTSTAT_OUTPUT (R534). -/
def execBootstatOutput (s : State) : Host.Outcome State Fault Refusal := done (tickAt bootstatDue s)

/-- EMP_FRAME_TIMEOUT (R547). -/
def execEmpFrameTimeout (link : Fin 5) (s : State) : Host.Outcome State Fault Refusal := done (tickAt (frameDue · link ·) s)

end Sys2Proof.Machine
end

