-- ==== Sys2Proof/Machine/Loops.lean ====
section
/-!
DEFINITION. The timing directory, the channel map and the work of the loop cores (R268 to R284), handovers of channels
(R278) and the failure of a core (R302 to R307).  What discriminators, loop filters and estimators give comes with the
command; what the firmware reads, writes, posts and signals is carried out as the initiator of its core.
-/

namespace Sys2Proof.Machine

/-! ### The timing directory (R270) -/

/-- An entry of the directory, and the base that it holds. -/
def dirWord (s : State) (off : Nat) : Nat := s.le off 8
def dirBase (s : State) (off : Nat) : Nat := dirWord s off % 2 ^ 32

/-- A core stores bytes, or writes a register. -/
def coreStore (n a : Nat) (bs : List Byte) (s : State) : State := (busWrite n a bs s).2
def coreWrite (n a v : Nat) (s : State) : State := coreStore n a (toLE 8 v) s

/-- A core whose firmware runs. -/
def coreRuns (s : State) (n : Nat) : Bool := issuing (s.coreState n) && clocked s n

/-- The active solution core: SC0 or SC1, and whether it runs. -/
def activeCore (s : State) : Nat := dirWord s 0x168 % 256
def activeRuns (s : State) : Bool := (activeCore s == 4 || activeCore s == 5) && coreRuns s (activeCore s)

/-- ALIVE of a core. -/
def alive (s : State) (n : Nat) : Bool := (dirWord s 0x170).testBit n

/-- HANDOVER: the failed core, the adopter, and RP and WP of the ring to be drained (R302). -/
structure Handover where
  failed : Nat
  adopter : Nat
  rp : Nat
  wp : Nat
  deriving DecidableEq, Repr

/-- The adoption in progress, where there is one. -/
def handover (s : State) : Option Handover :=
  let h := dirWord s 0x178
  let x : Handover := ⟨h % 256, h / 2 ^ 8 % 256, h / 2 ^ 16 % 65536, h / 2 ^ 32 % 65536⟩
  if x.failed = x.adopter ∨ 4 ≤ x.failed ∨ 4 ≤ x.adopter then none else some x

/-- SIGNAL (R249). -/
def signalCore (src dst : Nat) (s : State) : State := s.raiseBit (KCn_DBELL_BITS dst) src

/-- A loop core kicks its watchdog, and notes when. -/
def kickSelf (n : Nat) (s : State) : State :=
  let s := coreWrite n (SAF_WDKICKn n) 1 s
  { s with nav := { s.nav with kicked := s.nav.kicked.setIfInBounds n s.ticks } }

/-! ### Parameters (R271) -/

/-- TSOL in ms. -/
def tsol (s : State) : Nat := cfgWord s 0

/-- VCN0 in 0.01 dB-Hz. -/
def vcn0 (s : State) : Nat := cfgNumber 8 (cfgWord s 8)

/-! ### Signals (R167, R168, R552) -/

/-- The frequency number of a GLONASS slot, from −7 to +6 (R168). [DESIGN CHOICE, safe: notes/assumptions/67] -/
def frequencyNumber (svid : Nat) : Int := (Config.glonassNumber svid % 14 : Nat) - 7

/-- The nominal carrier of a signal in Hz, that of GLONASS by its frequency number. [PRESUMED, unsafe: notes/assumptions/67] -/
def carrierHz (svid sig : Nat) : Int :=
  match sig with
  | 3 => 1227600000
  | 4 | 5 | 10 | 11 | 23 | 24 | 32 | 37 | 38 => 1176450000
  | 12 | 13 => 1207140000
  | 14 => 1191795000
  | 15 | 16 => 1278750000
  | 20 => 1561098000
  | 25 => 1268520000
  | 28 => 1602000000 + 562500 * frequencyNumber svid
  | 29 => 1246000000 + 437500 * frequencyNumber svid
  | 30 | 31 => 1202025000
  | _ => 1575420000

/-- The nominal chip rate of its replica in Hz. [PRESUMED, unsafe: notes/assumptions/67] -/
def chipHz (sig : Nat) : Int :=
  match sig with
  | 4 | 5 | 10 | 11 | 12 | 13 | 14 | 23 | 24 | 25 | 30 | 31 | 37 | 38 => 10230000
  | 15 | 16 => 5115000
  | 20 => 2046000
  | 28 | 29 => 511000
  | _ => 1023000

/-- f_carrier − f_LO in mHz, f_LO being that of the channel's stream. -/
def offsetMilli (s : State) (chan svid sig : Nat) : Int :=
  let n := (s.cfg chan).stream
  1000 * carrierHz svid sig - s.rd (FECn_LOk_FREQ (n / 4) (n % 4))

/-- f_s of a channel's stream. -/
def chanFs (s : State) (chan : Nat) : Nat := sampleRate (streamRate s (s.cfg chan).stream)

/-- The integer offset that carries the time of a system onto the TAI scale, in s (R284). -/
def systemOffset (s : State) (sys : Nat) : Int :=
  match sys with
  | 1 => s.rdS TB_UTCOFS_CUR - 10800
  | 3 => 33
  | _ => 19

/-- The velocity of light in m/s (R284). -/
def lightSpeed : Nat := 299792458

/-! ### The channel map (R276) -/

def mapAddr (s : State) (c : Nat) : Nat := dirBase s 0x48 + 16 * c
def mapByte (s : State) (c k : Nat) : Nat := (s.byte (mapAddr s c + k)).toNat
def mapGen (s : State) (c : Nat) : Nat := s.le (mapAddr s c) 2

/-- STATE of an entry. -/
def M_FREE : Nat := 0
def M_OWNED : Nat := 1
def M_HANDOVER : Nat := 2
def M_RELEASED : Nat := 3

/-- A core changes bytes of an entry, and its GEN increases by one. -/
def mapSet (n c : Nat) (edits : List (Nat × Nat)) (s : State) : State :=
  let gen := (mapGen s c + 1) % 65536
  edits.foldl (fun (s : State) (k, v) => coreStore n (mapAddr s c + k) (toLE 1 v) s)
    (coreStore n (mapAddr s c) (toLE 2 gen) s)

/-- The satellite of a channel, as the index 64 SYS + SVID of the satellite table. -/
def mapSat (s : State) (c : Nat) : Nat := 64 * mapByte s c 5 + mapByte s c 6

/-! ### OSNMA states (R295) -/

/-- What is held of a satellite. -/
def satOf (s : State) (sat : Nat) : SatRun := (s.nav.sats.find? fun x => x.sat == sat).getD { sat := sat }

/-- The OSNMA state of a satellite: 0 NONE, 1 WAIT, 2 OK, 3 FAIL, 4 NOKEY, 5 STALE. [DEDUCED, unsafe: notes/assumptions/68] -/
def osnmaOf (s : State) (sat : Nat) : Nat :=
  let x := satOf s sat
  if sat / 64 ≠ 2 then 0
  else if x.failed then 3
  else match x.okAt with
    | some w => if s.ticks ≤ w + 300 * 600000000 then 2 else 5
    | none => if !x.tags then 0 else if s.nav.osnma.chain.isNone then 4 else 1

/-! ### Aiding (R149, R279 to R281) -/

/-- A core posts an aiding record on its port, aimed at the close after the epoch that it has last seen (R280): NCOH there is the
one in force, and `ncoh` the one that SETNCOH sets. -/
def postAiding (n chan epoch : Nat) (flags : Nat) (carr code cadj kadj : Nat) (ncoh : BitVec 7) (s : State) : State :=
  let tgt := (epoch + (s.cfg chan).ncoh) % 65536
  let s := coreWrite n (CA_AIDi_CARR n) carr s
  let s := coreWrite n (CA_AIDi_CODE n) code s
  let s := coreWrite n (CA_AIDi_CADJ n) cadj s
  let s := coreWrite n (CA_AIDi_KADJ n) kadj s
  coreWrite n (CA_AIDi_HDR n) (chan + flags * 2 ^ 15 + ncoh.toNat * 2 ^ 24 + 2 ^ 31 + tgt * 2 ^ 32) s

/-- The items that the loop core posts under a MODE (R279): bit 0 SETCR, 1 SETKR, 2 ADDCP, 3 ADDKP, 4 SETNCOH. -/
def loopItems (mode : Nat) : Nat :=
  match mode with
  | 0 => 0b11111
  | 1 => 0b11101
  | _ => 0b11100

/-- The items that the standby solution core posts. -/
def vectorItems (mode : Nat) : Nat :=
  match mode with
  | 0 => 0
  | 1 => 0b00010
  | _ => 0b00011

/-- The slip correction of a record: n × rate for SLIPNET = n, unless RESYNC is set (R154, R281). -/
def slipAdjust (rec : List Byte) (rate : Int) : Nat :=
  if (imgLe rec 2 2).testBit 2 then 0 else unsigned 48 (signed 8 (imgLe rec 7 1) * rate)

/-! ### A dump record (R272 to R275, R282 to R284) -/

/-- Epoch time T of a dump record, in 2^-48 s. -/
def dumpTime (rec : List Byte) : Nat := imgLe rec 14 6 * 2 ^ 48 + imgLe rec 8 6

/-- What a loop core derives of a record: CPH, DOPP, PR, LOCKT, and the memory that it keeps (R284). -/
structure Tracked where
  cph : Int
  dopp : Int
  pr : Nat
  lockt : Nat
  mem : LoopMem
  deriving DecidableEq, Repr

/-- What the firmware knows of the interval of a record, the rates in force in it and its samples (R154, R282); of a record that the
array has not written so, the rates of the channel's context and a whole interval. [DEDUCED, unsafe: notes/assumptions/60] -/
def intervalOf (s : State) (rec : List Byte) : Close :=
  let chan := imgLe rec 0 2 % 4096
  let code := s.ctx chan 3 % 2 ^ 48
  let c := s.cfg chan
  ((s.ca.closes.map (·.2)).find? fun x => x.chan == chan && x.time == dumpTime rec).getD
    ⟨chan, dumpTime rec, signed 48 (s.ctx chan 2), code, c.ncoh * c.codeLen * 2 ^ 32 / code⟩

/-- The representative of `x` modulo 2^48 that lies nearest to `want`. -/
def unwrap48 (x want : Int) : Int := want + signed 48 (unsigned 48 (x - want))

/-- The cycles of a channel's NCO, in 2^-32, from its last record to this one: those of CARRPH that agree with its rate. -/
def ncoCycles (m : LoopMem) (carr : Int) (fs phase time : Nat) : Int :=
  unwrap48 ((phase : Int) - m.phase) (carr * fs * ((time : Int) - m.time) / (2 ^ 64 : Nat))

/-- PR in 2^-8 m (R284). [DEDUCED, unsafe: notes/assumptions/60] -/
def pseudorange (s : State) (sys time : Nat) (ttx : BitVec 96) : Nat :=
  unsigned 48 (lightSpeed * 256 * ((time : Int) - (ttx.toNat + systemOffset s sys * (2 ^ 48 : Nat))) / (2 ^ 48 : Nat))

/-- The loop core's view of a record (R274, R284): the phase starts at zero at a record with DISC or GAP, at the first record of a
channel, and where nothing is held of it. -/
def track (s : State) (chan : Nat) (rec : List Byte) (o : LoopOut) : Tracked :=
  let flags := imgLe rec 2 2
  let time := dumpTime rec
  let phase := imgLe rec 20 6
  let fs := chanFs s chan
  let fresh := flags.testBit 15 || flags.testBit 12 || flags.testBit 13
  let carr := (intervalOf s rec).carr
  let disc := o.disc.toInt
  let held := if fresh then none else keyGet s.nav.loops chan
  let nco := match held with | some m => m.nco + ncoCycles m carr fs phase time | none => 0
  let disc0 := match held with | some m => m.disc0 | none => disc
  let arc := match held with | some m => if o.phValid then m.arc else time | none => time
  { cph := nco / (2 ^ 16 : Nat) + disc - disc0,
    dopp := (carr * fs * 1000 - offsetMilli s chan (mapByte s chan 6) (mapByte s chan 7) * (2 ^ 48 : Nat)) * 256 /
      (1000 * 2 ^ 48 : Nat),
    pr := if o.prValid then pseudorange s (mapByte s chan 5) time o.ttx else 0,
    lockt := min ((time - arc) * 1000 / 2 ^ 48) 65535,
    mem := ⟨phase, nco, disc0, time, arc⟩ }

/-- MUTEF: the muted share of the interval in 1/256 (R282). -/
def mutedShare (s : State) (rec : List Byte) : Nat := min (imgLe rec 4 3 * 256 / (intervalOf s rec).len) 255

/-- The flags of a measurement record (R283). -/
def mflags (s : State) (dump : Nat) (mode : Nat) (migrated : Bool) (o : LoopOut) : Nat :=
  let f := fun (b : Bool) (k : Nat) => if b then 2 ^ k else 0
  f (decide (o.cn0.toNat < vcn0 s)) 13 + f (dump.testBit 14) 12 + f (dump.testBit 9) 11 + f (!dump.testBit 5) 10 +
    f (dump.testBit 10) 9 + f (dump.testBit 11) 8 + f (dump.testBit 12) 7 + f (dump.testBit 8) 6 + f migrated 5 +
    f (mode != 0) 4 + f (dump.testBit 15 || dump.testBit 12) 3 + f o.halfCyc 2 + f o.phValid 1 + f o.prValid 0

/-- A measurement record (R282). -/
def measRecord (s : State) (rec : List Byte) (chan mode seq : Nat) (migrated : Bool) (o : LoopOut) (t : Tracked) : List Byte :=
  toLE 2 chan ++ s.bytes (mapAddr s chan + 4) 4 ++ toLE 2 (mflags s (imgLe rec 2 2) mode migrated o) ++
    (rec.drop 8).take 12 ++ toLE 6 t.pr ++ toLE 8 (unsigned 64 t.cph) ++ toLE 4 (unsigned 32 (clampS 32 t.dopp)) ++
    toLE 2 o.cn0.toNat ++ toLE 2 t.lockt ++ toLE 2 o.prsig.toNat ++ [o.phsig] ++ toLE 1 (mutedShare s rec) ++
    (rec.drop 26).take 2 ++ (rec.drop 7).take 1 ++ toLE 1 (osnmaOf s (mapSat s chan)) ++ toLE 2 (mapGen s chan) ++
    toLE 4 seq ++ List.replicate 8 0

/-- A measurement ring is full for a solution core that serves (R275). -/
def measFull (s : State) (k : Nat) : Bool :=
  let wp := dirBase s (0x100 + 8 * k)
  let full := fun (n off : Nat) => alive s n && (wp + 2 ^ 32 - dirBase s (off + 8 * k)) % 2 ^ 32 == 4096
  full 4 0x120 || full 5 0x140

/-- The core's measurement record, where its ring has room; one that has none is counted (R275). -/
def writeMeas (k : Nat) (rec : List Byte) (chan mode : Nat) (migrated : Bool) (o : LoopOut) (t : Tracked) (s : State) : State :=
  if measFull s k then
    { s with nav := { s.nav with discards := s.nav.discards.setIfInBounds k (s.nav.discards.getD k 0 + 1) } }
  else
    let wp := dirBase s (0x100 + 8 * k)
    let s := coreStore k (dirBase s (0x28 + 8 * k) + 64 * (wp % 4096)) (measRecord s rec chan mode wp migrated o t) s
    coreStore k (0x100 + 8 * k) (toLE 4 (wp + 1)) s

/-- The last vector aiding of a channel: EPOCHCNT and tick. -/
def vectorAid (s : State) (chan : Nat) : Option (Nat × Nat) := keyGet s.nav.vec chan

/-- A channel has had no vector aiding for VAGE solution epochs (R288). -/
def vectorStale (s : State) (chan : Nat) : Bool :=
  match vectorAid s chan with
  | some (_, w) => decide (w + cfgWord s 10 * tsol s * msTicks ≤ s.ticks)
  | none => true

/-- The checkpoint of a channel (R277). -/
def writeCheckpoint (k chan epoch mode : Nat) (o : LoopOut) (t : Tracked) (s : State) : State :=
  let put := fun (w v : Nat) (s : State) => coreStore k (ctxAddr chan w) (toLE 8 v) s
  let s := put 16 (mapGen s chan + epoch * 2 ^ 16 + mode * 2 ^ 32 + k * 2 ^ 40) s
  let s := (List.range 8).foldl (fun s i => put (17 + i) (o.filter.getD i 0).toNat s) s
  let s := put 25 (unsigned 64 t.cph) s
  put 26 (o.cn0.toNat + t.lockt * 2 ^ 16 + ((vectorAid s chan).map (·.1)).getD 0 * 2 ^ 32) s

/-- The cycles of a loop update (R277, R305). -/
def updateCycles : Nat := 140

/-- A core counts the cycles of an update. -/
def countUpdate (k : Nat) (s : State) : State :=
  let s := s.count (KCn_CYCLE_COUNT k) updateCycles
  s.setCore k { s.core k with cycle := (s.core k).cycle + BitVec.ofNat 48 updateCycles }

/-- A record was processed before (R272, R274). -/
def processedBefore (s : State) (rec : List Byte) : Bool :=
  let last := bits (s.ctx (imgLe rec 0 2 % 4096) 16) 31 16
  !within 1 32767 ((imgLe rec 26 2 + 65536 - last) % 65536) && !(imgLe rec 2 2).testBit 13

/-- Loop core `k` processes a dump record, unless it was processed before (R272, R274, R278). -/
def oneRecord (k : Nat) (migrated : Bool) (rec : List Byte) (o : LoopOut) (s : State) : State :=
  let chan := imgLe rec 0 2 % 4096
  let epoch := imgLe rec 26 2
  if processedBefore s rec then s
  else
    let st := mapByte s chan 3
    let leaving := mapByte s chan 2 == k && (st == M_HANDOVER || st == M_RELEASED)
    let mode := if vectorStale s chan then 0 else mapByte s chan 8
    let known := intervalOf s rec
    let t := track s chan rec o
    let s := if leaving then s
      else postAiding k chan epoch (loopItems mode) o.carrRate.toNat o.codeRate.toNat (slipAdjust rec known.carr) (slipAdjust rec known.code)
        o.ncoh s
    let s := writeCheckpoint k chan epoch mode o t (writeMeas k rec chan mode migrated o t s)
    let s := countUpdate k { s with nav := { s.nav with loops := keyPut s.nav.loops chan t.mem } }
    if leaving && st == M_HANDOVER then mapSet k chan [(3, M_RELEASED)] s else s

/-- Core `k` holds the records of a channel: it moves to `k` and is not released yet (R278), or `k` adopts the ring of its owner
and has not drained it yet (R303). -/
def holdsChannel (s : State) (k c : Nat) : Bool :=
  let moves := mapByte s c 3 == M_HANDOVER && mapByte s c 9 == k && mapByte s c 2 != k
  let adopts := match handover s with | some h => h.adopter == k && mapByte s c 2 == h.failed | none => false
  moves || adopts

/-- An output that the command does not give: every quantity of it is free. [DESIGN CHOICE, safe: notes/assumptions/60] -/
def freshOut (s : State) : LoopOut × State :=
  let f := fun (i w : Nat) => Config.freeValue (s.freeCount + i) % 2 ^ w
  ({ carrRate := BitVec.ofNat 48 (f 0 48), codeRate := BitVec.ofNat 48 (f 1 48), ncoh := BitVec.ofNat 7 (1 + f 2 64),
     filter := Vector.ofFn fun i => BitVec.ofNat 48 (f (3 + i) 48), ttx := BitVec.ofNat 96 (f 11 96),
     disc := BitVec.ofNat 32 (f 12 32), cn0 := BitVec.ofNat 16 (f 13 16), prsig := BitVec.ofNat 16 (f 14 16),
     phsig := BitVec.ofNat 8 (f 15 8), prValid := f 16 1 == 1, phValid := f 17 1 == 1, halfCyc := f 18 1 == 1 },
    { s with freeCount := s.freeCount + 19 })

/-- Core `k` processes a record with the first of the outputs that are left. -/
def takeRecord (k : Nat) (migrated : Bool) (rec : List Byte) (x : List LoopOut × State) : List LoopOut × State :=
  match x with
  | (o :: os, s) => (os, oneRecord k migrated rec o s)
  | ([], s) => let (o, s) := freshOut s; ([], oneRecord k migrated rec o s)

/-- The records that core `k` holds back whose channel is released now are processed in their order (R278, R303). -/
def releaseRecords (k : Nat) (x : List LoopOut × State) : List LoopOut × State :=
  let s := x.2
  let mine := s.nav.held.getD k []
  if mine.isEmpty then x
  else
    let ready := fun (r : List Byte) => !holdsChannel s k (imgLe r 0 2 % 4096)
    let s' := { s with nav := { s.nav with held := s.nav.held.setIfInBounds k (mine.filter fun r => !ready r) } }
    (mine.filter ready).foldl (fun x r => takeRecord k false r x) (x.1, s')

/-- The core that a record of core `k`'s ring is kept for, where it waits (R278, R303): `k` itself while it holds the channel, and the
owner of a channel that has passed to a core that survives while its records came to `k`; in an adopted ring the records of a channel that was to
move to the failed core belong to its owner. [DEDUCED, unsafe: notes/assumptions/60] -/
def keptFor (s : State) (k ring : Nat) (migrated : Bool) (c : Nat) : Option Nat :=
  let p := mapByte s c 2
  let other := decide (p < 4) && p != k && alive s p
  if migrated then
    if other && p != ring && mapByte s c 9 == ring && (mapByte s c 3 == M_HANDOVER || mapByte s c 3 == M_RELEASED) then some p else none
  else if holdsChannel s k c then some k
  else if other && mapByte s c 3 == M_OWNED && (s.cfg c).ring != k then some p
  else none

/-- A record is kept for a core. -/
def keepRecord (k : Nat) (rec : List Byte) (s : State) : State :=
  { s with nav := { s.nav with held := s.nav.held.setIfInBounds k (s.nav.held.getD k [] ++ [rec]) } }

/-- Core `k` consumes the records of a ring in order, those that wait kept for later; it writes RP at each multiple of 16 (R272). -/
def drainRing (k ring : Nat) (migrated : Bool) : Nat → Nat → List LoopOut × State → List LoopOut × State
  | 0, _, x => x
  | n + 1, rp, (os, s) =>
    let (_, rec, s) := busRead k (dirBase s (8 + 8 * ring) + 128 * (rp % 4096)) 128 s
    let (os, s) := match keptFor s k ring migrated (imgLe rec 0 2 % 4096) with
      | some p => (os, keepRecord p rec s)
      | none => takeRecord k migrated rec (os, s)
    let rp := (rp + 1) % 65536
    drainRing k ring migrated n rp (os, if rp % 16 = 0 then coreWrite k (CA_RINGk_RP ring) rp s else s)

/-- A batch of loop core `k` (R272). [DEDUCED, unsafe: notes/assumptions/60] -/
def lcBatch (k : Nat) (outs : List LoopOut) (s : State) : State :=
  if !coreRuns s k then s
  else
    let rp := s.rd (CA_RINGk_RP_RP k)
    let wp := s.rd (CA_RINGk_WP_WP k)
    let (_, s) := drainRing k k false ((wp + 65536 - rp) % 65536) rp (releaseRecords k (outs, s))
    kickSelf k (signalCore k 5 (signalCore k 4 (coreWrite k (CA_RINGk_RP k) wp s)))

/-- 50 µs have passed since a loop core's last kick (R273). -/
def kickDue (s : State) (k : Nat) : Bool := decide (s.nav.kicked.getD k 0 + 50 * usTicks ≤ s.ticks)

/-! ### Handovers, migration and failover (R278, R302 to R307) -/

/-- A core reads the responses of its command port; the last of them is returned. -/
def readRsps (n : Nat) : Nat → Nat → State → Nat × State
  | 0, last, s => (last, s)
  | fuel + 1, last, s =>
    if (s.ca.rsps.getD n []).isEmpty then (last, s) else readRsps n fuel (rspValue s n) (rspRead n s)

/-- The active solution core orders a command at its port, where it first reads what waits there, and reads the response: whether it is
OK (R137). -/
def cshOrder (a : Nat) (w : Word) (s : State) : Bool × State :=
  let (r, s) := readRsps a 33 0 (cshWrite a a w (readRsps a 33 0 s).2)
  (r == rspWord w.toNat R_OK, s)

/-- A planned handover of a channel to core `q`: it begins on an owned channel, and ends on a released one (R278). -/
def plannedHandover (c q tag : Nat) (s : State) : State :=
  let a := activeCore s
  if !activeRuns s then s
  else
    let p := mapByte s c 2
    if mapByte s c 3 = M_OWNED ∧ p < 4 ∧ p ≠ q then
      let (ok, s) := cshOrder a (cshWord 3 tag c q 0) (mapSet a c [(3, M_HANDOVER), (9, q)] s)
      if ok then signalCore a q (signalCore a p s) else mapSet a c [(3, M_OWNED)] s
    else if mapByte s c 3 = M_RELEASED then mapSet a c [(2, mapByte s c 9), (3, M_OWNED)] s
    else s

/-- The first loop core after `k` that is alive. -/
def adopter (s : State) (k : Nat) : Option Nat := ([1, 2, 3].map fun i => (k + i) % 4).find? (alive s)

/-- ALIVE of a core is cleared by core `a`. -/
def clearAlive (a n : Nat) (s : State) : State :=
  if alive s n then coreWrite a 0x170 (dirWord s 0x170 - 2 ^ n) s else s

/-- The active solution core migrates the ring of a failed loop core (R302). -/
def lcMigration (k tag : Nat) (s : State) : State :=
  let a := activeCore s
  if !activeRuns s ∨ s.coreState k ≠ K_FAULT then s
  else
    let s := clearAlive a k s
    match adopter s k with
    | none => s
    | some j =>
      let (ok, s) := cshOrder a (cshWord 4 tag 0 j k) s
      if !ok then s
      else
        let h := k + j * 2 ^ 8 + s.rd (CA_RINGk_RP_RP k) * 2 ^ 16 + s.rd (CA_RINGk_WP_WP k) * 2 ^ 32
        signalCore a j (coreWrite a 0x178 h s)

/-- The records that the failed core `k` has held of a channel go to the core that keeps it (R303). -/
def passHeld (k p c : Nat) (s : State) : State :=
  let ofC := fun (r : List Byte) => imgLe r 0 2 % 4096 == c
  let l := s.nav.held.getD k []
  let held := s.nav.held.setIfInBounds k (l.filter fun r => !ofC r)
  { s with nav := { s.nav with held := held.setIfInBounds p (l.filter ofC ++ held.getD p []) } }

/-- The map entry of a channel that the failed core `k` owned or was to own (R303): one in HANDOVER to it stays with its owner, whose
ring its records reach again by a REMAP, and the records that the failed core has held pass to the owner too.
[DEDUCED, unsafe: notes/assumptions/60] -/
def adoptEntry (a k j tag : Nat) (s : State) (c : Nat) : State :=
  let st := mapByte s c 3
  let p := mapByte s c 2
  if p = k then
    if st = M_HANDOVER ∨ st = M_RELEASED then mapSet a c [(2, mapByte s c 9), (3, M_OWNED)] s
    else if st = M_OWNED then mapSet a c [(2, j)] (passHeld k j c s)
    else s
  else if (st = M_HANDOVER ∨ st = M_RELEASED) ∧ mapByte s c 9 = k then
    passHeld k p c (cshOrder a (cshWord 3 tag c p 0) (mapSet a c [(3, M_OWNED)] s)).2
  else s

/-- The handovers that spread adopted channels over the loop cores that are alive, the adopter keeping its share (R305). -/
def spread (s : State) (j : Nat) (chans : List Nat) : List (Nat × Nat) :=
  let cores := ((List.range 4).map fun i => (j + i) % 4).filter (alive s)
  (chans.zip (List.range chans.length)).filterMap fun (c, i) =>
    match cores[i % cores.length]? with
    | some q => if q = j then none else some (c, q)
    | none => none

/-- The adopter drains the failed core's ring and processes the records that it has held, and the active solution core rewrites the
map and plans the handovers that follow (R303, R305). -/
def ringAdoption (outs : List LoopOut) (s : State) : State :=
  match handover s with
  | none => s
  | some h =>
    let j := h.adopter
    if !coreRuns s j then s
    else
      let (outs, s) := drainRing j h.failed true ((h.wp + 65536 - h.rp) % 65536) h.rp (outs, s)
      let s := coreWrite j (CA_RINGk_RP h.failed) h.wp s
      let (_, s) := releaseRecords j (outs, coreWrite j 0x178 0 s)
      if !activeRuns s then s
      else
        let moved := (List.range 4096).filter fun c => mapByte s c 2 == h.failed && mapByte s c 3 == M_OWNED
        let s := (List.range 4096).foldl (adoptEntry (activeCore s) h.failed j 0) s
        { s with nav := { s.nav with migrated := some s.ticks, moves := s.nav.moves ++ spread s j moved } }

/-- The handovers that are planned go on: each begins, and ends once its channel is released; what is done leaves the list (R305). -/
def runMoves (tag : Nat) (s : State) : State :=
  let s := s.nav.moves.foldl (fun (s : State) (c, q) => plannedHandover c q tag s) s
  let open_ := s.nav.moves.filter fun (c, q) => mapByte s c 3 != M_FREE && !(mapByte s c 2 == q && mapByte s c 3 == M_OWNED)
  { s with nav := { s.nav with moves := open_ } }

/-- The survivor of a solution-core failure becomes active where the failed core was, and takes the time filter from its shadow; what each
role has solved for stays with the role, so that the survivor steers at an epoch that only the standby has seen (R307, R308). -/
def scFailover (failed : Nat) (s : State) : State :=
  let o := 9 - failed
  if s.coreState failed ≠ K_FAULT ∨ !coreRuns s o then s
  else
    let s :=
      if activeCore s = failed then
        let s := coreWrite o 0x168 o s
        { s with nav := { s.nav with
            filter := s.nav.filter.setIfInBounds 0 (s.nav.filter.getD 1 0),
            epoch := #v[s.nav.epoch.getD 1 0, s.nav.epoch.getD 0 0] } }
      else s
    clearAlive o failed s

/-! ### Meanings -/

/-- LC_BATCH (R272). -/
def execLcBatch (core : Fin 4) (outs : List LoopOut) (s : State) : Host.Outcome State Fault Refusal := done (lcBatch core outs s)

/-- LC_WATCHDOG_KICK_TIMER (R273). -/
def execLcWatchdogKickTimer (core : Fin 4) (s : State) : Host.Outcome State Fault Refusal :=
  done (if coreRuns s core && kickDue s core then kickSelf core s else s)

/-- PLANNED_HANDOVER (R278). -/
def execPlannedHandover (chan : Chan) (target : Fin 4) (tag : Byte) (s : State) : Host.Outcome State Fault Refusal :=
  done (plannedHandover chan target tag.toNat s)

/-- LC_MIGRATION (R302). -/
def execLcMigration (core : Fin 4) (tag : Byte) (s : State) : Host.Outcome State Fault Refusal :=
  done (lcMigration core tag.toNat s)

/-- RING_ADOPTION (R303). -/
def execRingAdoption (outs : List LoopOut) (s : State) : Host.Outcome State Fault Refusal := done (ringAdoption outs s)

/-- SC_FAILOVER (R307). -/
def execScFailover (second : Bool) (s : State) : Host.Outcome State Fault Refusal :=
  done (scFailover (if second then 5 else 4) s)

end Sys2Proof.Machine
end

