-- ==== Sys2Proof/Machine/Fusion.lean ====
section
/-!
DEFINITION. The fusion of the antennas' measurements (R285, R286): phase centres, geometry, the measurements that are used, and the
estimates.  Orbits, delays of the atmosphere and the time filter are the firmware's models, which the manual names and leaves open.
-/

namespace Sys2Proof.Machine

/-! ### Numbers -/

/-- The square root of `n` below `r + 2 ^ k`, rounded down, from a root `r` that is not above it. -/
def rootFrom (n : Nat) : Nat → Nat → Nat
  | 0, r => r
  | k + 1, r => rootFrom n k (if (r + 2 ^ k) * (r + 2 ^ k) ≤ n then r + 2 ^ k else r)

/-- The square root, rounded down, of a number below 2^128. -/
def sqrtFloor (n : Nat) : Nat := rootFrom n 64 0

/-- The operations of vectors. -/
def vsub (a b : Vec3) : Vec3 := (a.1 - b.1, a.2.1 - b.2.1, a.2.2 - b.2.2)
def vdot (a b : Vec3) : Int := a.1 * b.1 + a.2.1 * b.2.1 + a.2.2 * b.2.2
def vlen (a : Vec3) : Nat := sqrtFloor (vdot a a).toNat

/-! ### Antennas (R285, R478) -/

/-- The band of a signal in Chain's phase-centre offsets: 0 around L1, 1 around L5, 2 between. [DEDUCED, unsafe: notes/assumptions/67] -/
def bandOf (sig : Nat) : Nat :=
  match sig with
  | 0 | 1 | 2 | 8 | 9 | 20 | 21 | 22 | 28 | 36 => 0
  | 4 | 5 | 10 | 11 | 12 | 13 | 14 | 23 | 24 | 30 | 31 | 32 | 37 | 38 => 1
  | _ => 2

/-- o_a in 0.1 mm for a band. -/
def phaseOffset (img : List Byte) (a band : Nat) : Vec3 :=
  let f := fun k => signed 16 (imgLe img (64 + 64 * a + 24 + 6 * band + 2 * k) 2)
  (f 0, f 1, f 2)

/-- The rows of R_a in 2^-30. -/
def axes (img : List Byte) (a : Nat) (k : Nat) : Vec3 :=
  let (x, y, z) := refPosition img a
  let f := fun j => Config.localAxes x y z (3 * k + j)
  (f 0, f 1, f 2)

/-- p_a = r_a + R_a × o_a in 0.1 mm. -/
def phaseCentre (img : List Byte) (a band : Nat) : Vec3 :=
  let (x, y, z) := refPosition img a
  let o := phaseOffset img a band
  let f := fun k => vdot (axes img a k) o / (2 ^ 30 : Nat)
  (10 * x + f 0, 10 * y + f 1, 10 * z + f 2)

/-- The local up direction of an antenna in 2^-30: the third column of R_a. -/
def upOf (img : List Byte) (a : Nat) : Vec3 := ((axes img a 0).2.2, (axes img a 1).2.2, (axes img a 2).2.2)

/-! ### Satellites -/

/-- Position in 0.1 mm and velocity in 0.1 mm/s at an instant of 2^-48 s. -/
def satPosition (sat t : Nat) : Vec3 := (Config.satellite sat t 0, Config.satellite sat t 1, Config.satellite sat t 2)
def satVelocity (sat t : Nat) : Vec3 := (Config.satellite sat t 3, Config.satellite sat t 4, Config.satellite sat t 5)

/-- A satellite stands below 10° at an antenna: the sine of its elevation is below 186,453,311 × 2^-30 (R286). -/
def belowMask (img : List Byte) (a sat t : Nat) : Bool :=
  let d := vsub (satPosition sat t) (phaseCentre img a 0)
  decide (vdot (upOf img a) d < 186453311 * (vlen d : Int))

/-- The OSNMA policy refuses a satellite (R296). -/
def policyRefuses (s : State) (sat : Nat) : Bool :=
  match cfgWord s 14 with
  | 0 => false
  | 1 => osnmaOf s sat == 3
  | _ => sat / 64 == 2 && osnmaOf s sat != 2

/-- A satellite is excluded at an instant (R286). -/
def excluded (s : State) (img : List Byte) (sat t : Nat) : Bool :=
  Config.satellite sat t 8 != 0 || ((List.range 32).filter (recordValid img)).all (fun a => belowMask img a sat t) ||
    (satOf s sat).spoof || policyRefuses s sat

/-! ### Measurement records (R282) -/

/-- The fields of a measurement record. -/
structure Meas where
  chan : Nat
  ant : Nat
  sat : Nat
  sig : Nat
  flags : Nat
  time : Nat
  pr : Nat
  cph : Int
  dopp : Int
  cn0 : Nat
  prsig : Nat
  epoch : Nat
  deriving DecidableEq, Repr

def measOf (r : List Byte) : Meas :=
  { chan := imgLe r 0 2 % 4096, ant := imgLe r 2 1, sat := 64 * imgLe r 3 1 + imgLe r 4 1, sig := imgLe r 5 1, flags := imgLe r 6 2,
    time := dumpTime r, pr := imgLe r 20 6, cph := signed 64 (imgLe r 26 8), dopp := signed 32 (imgLe r 34 4), cn0 := imgLe r 38 2,
    prsig := imgLe r 42 2, epoch := imgLe r 46 2 }

def Meas.sys (m : Meas) : Nat := m.sat / 64

/-- The distance of two instants. -/
def apart (a b : Nat) : Nat := ((a : Int) - b).natAbs

/-- A measurement may be used: it has PRVALID, its antenna's port is good, it carries no DISC with GAP, OVR or SAT, and its satellite
is not excluded (R285, R286). -/
def usable (s : State) (img : List Byte) (te : Nat) (m : Meas) : Bool :=
  let f := m.flags
  f.testBit 0 && portGood s m.ant && recordValid img m.ant && !(f.testBit 3 && (f.testBit 7 || f.testBit 12 || f.testBit 11)) &&
    !excluded s img m.sat te

/-- ρ in 0.1 mm, with the Earth-rotation correction, for the satellite at the transmit time. -/
def range_ (img : List Byte) (m : Meas) (ttx : Nat) : Int :=
  (vlen (vsub (satPosition m.sat ttx) (phaseCentre img m.ant (bandOf m.sig))) : Int) + Config.earthRotation m.sat m.ant m.time

/-- The transmit time of a measurement, in 2^-48 s. -/
def transmitTime (m : Meas) : Nat := m.time - m.pr * 2 ^ 48 / (256 * lightSpeed)

/-- b + d_sys + e of a measurement in 2^-48 s: (PR − ρ − I − Tr) / c + dt_s (R285). -/
def observed (img : List Byte) (m : Meas) : Int :=
  let t := transmitTime m
  let pr : Int := m.pr * 10000 / 256
  (pr - range_ img m t - Config.atmosphere m.sat m.ant m.sig m.time) * (2 ^ 48 : Nat) / (lightSpeed * 10000 : Nat) + Config.satellite m.sat t 6

/-- The 1σ of a measurement in 2^-48 s. -/
def sigmaOf (m : Meas) : Nat := m.prsig * 2 ^ 48 / (100 * lightSpeed)

/-- The number of satellites among measurements. -/
def satCount (l : List Meas) : Nat := (l.map (·.sat)).eraseDups.length

/-- The reference system: the first of GPS, Galileo, BeiDou, GLONASS that has NSATMIN satellites in use (R285). -/
def refSystem (nsatmin : Nat) (l : List Meas) : Option Nat :=
  [0, 2, 3, 1].find? fun y => decide (nsatmin ≤ satCount (l.filter fun m => m.sys == y))

/-! ### The estimates (R285, R286) -/

/-- A measurement as the time filter takes it: its system, or −1 for the reference system, its antenna and satellite, its time,
its observation and 1σ. -/
def observation (img : List Byte) (ref : Option Nat) (m : Meas) : List Int :=
  [if some m.sys = ref then -1 else (m.sys : Int), m.ant, m.sat, m.time, observed img m, sigmaOf m]

/-- The estimate of the filter for a quantity. -/
def estimate (img : List Byte) (filter : Nat) (ref : Option Nat) (l : List Meas) (quantity : Nat) : Int :=
  Config.timeFilter filter (l.map (observation img ref)) quantity

/-- The residual of a measurement in 2^-48 s against estimates. -/
def residual (img : List Byte) (est : Nat → Int) (ref : Option Nat) (m : Meas) : Int :=
  observed img m - est 1 - (if some m.sys = ref then 0 else est (8 + m.sys))

/-- The measurement with the largest normalised residual above 5, where there is one. -/
def worst (img : List Byte) (est : Nat → Int) (ref : Option Nat) (l : List Meas) : Option Meas :=
  (l.filter fun m => decide (5 * sigmaOf m < (residual img est ref m).natAbs)).foldl (fun w m =>
    match w with
    | none => some m
    | some x =>
      let a := fun (y : Meas) => (residual img est ref y).natAbs
      if a x * sigmaOf m < a m * sigmaOf x then some m else some x) none

/-- The measurements left once those with the largest residuals are removed one at a time, at most `k` of them (R286). -/
def settle (img : List Byte) (filter nsatmin : Nat) : Nat → List Meas → List Meas
  | 0, l => l
  | k + 1, l =>
    let ref := refSystem nsatmin l
    match worst img (estimate img filter ref l) ref l with
    | none => l
    | some m => settle img filter nsatmin k (l.filter (· != m))

/-- The outcome of an epoch's estimation. -/
structure Fix where
  used : List Meas
  ref : Option Nat
  filter : Nat
  bias : Int
  rate : Int
  unc : Nat
  runc : Nat
  solved : Bool
  resrms : Nat
  deriving DecidableEq, Repr

/-- The root-mean-square residual in cm. -/
def rmsCm (img : List Byte) (est : Nat → Int) (ref : Option Nat) (l : List Meas) : Nat :=
  let cm := fun (m : Meas) => (residual img est ref m).natAbs * lightSpeed * 100 / 2 ^ 48
  sqrtFloor ((l.map fun m => cm m * cm m).sum / l.length)

/-- The measurements within TSOL/2 of an epoch instant that may be used, and the estimates from them (R285, R286). -/
def fuse (s : State) (filter te : Nat) (recs : List (List Byte)) : Fix :=
  let img := (imageInForce s).getD []
  let near := (recs.map measOf).filter fun m => decide (2000 * apart m.time te ≤ tsol s * 2 ^ 48) && usable s img te m
  let l := settle img filter (cfgWord s 17) (near.length / 3) near
  let ref := refSystem (cfgWord s 17) l
  let est := estimate img filter ref l
  { used := l, ref := ref, filter := (est 0).toNat, bias := est 1, rate := est 2, unc := (est 3).toNat, runc := (est 4).toNat,
    solved := est 5 != 0, resrms := rmsCm img est ref l }

/-! ### The epoch and its records -/

/-- Half of the span of an epoch's measurements in 2^-48 s: TSOL/2, and 10 ms for the consistency test (R285, R289). -/
def halfSpan (s : State) : Nat := max (tsol s) 20 * 2 ^ 48 / 2000

/-- The latest epoch instant whose measurements have come: a multiple of TSOL of the time base. [DEDUCED, unsafe: notes/assumptions/60] -/
def epochInstant (s : State) : Nat :=
  let k := (s.now48 - halfSpan s) * 1000 / (tsol s * 2 ^ 48)
  k * tsol s * 2 ^ 48 / 1000

/-- The index of a solution core's own data. -/
def scIndex (n : Nat) : Nat := n - 4

/-- An instant that a solution core has not solved for yet. -/
def epochDue (s : State) (n : Nat) : Bool := tsol s != 0 && epochInstant s != s.nav.epoch.getD (scIndex n) 0

/-- The offset of a solution core's read index in the directory. -/
def readIndex (n k : Nat) : Nat := (if n = 4 then 0x120 else 0x140) + 8 * k

/-- A solution core reads records of a measurement ring. -/
def readMeas (n k : Nat) : Nat → Nat → List (List Byte) × State → List (List Byte) × State
  | 0, _, x => x
  | fuel + 1, rp, (l, s) =>
    let (_, rec, s) := busRead n (dirBase s (0x28 + 8 * k) + 64 * (rp % 4096)) 64 s
    readMeas n k fuel (rp + 1) (l ++ [rec], s)

/-- A solution core takes what a measurement ring holds. -/
def takeRing (n : Nat) (x : List (List Byte) × State) (k : Nat) : List (List Byte) × State :=
  let (l, s) := x
  let wp := dirBase s (0x100 + 8 * k)
  let rp := dirBase s (readIndex n k)
  let (l, s) := readMeas n k (min ((wp + 2 ^ 32 - rp) % 2 ^ 32) 4096) rp (l, s)
  (l, coreStore n (readIndex n k) (toLE 4 wp) s)

/-- The latest record of a channel: a later epoch of it replaces an earlier one, whichever ring it came in (R280). -/
def putLatest (l : List (Nat × List Byte)) (r : List Byte) : List (Nat × List Byte) :=
  let c := imgLe r 0 2 % 4096
  match keyGet l c with
  | some r0 => if within 1 32767 ((imgLe r0 46 2 + 65536 - imgLe r 46 2) % 65536) then l else keyPut l c r
  | none => keyPut l c r

/-- A solution core takes the measurement rings; it keeps the records that this epoch or the next may use, and the latest of each
channel. -/
def takeRings (n te : Nat) (s : State) : State :=
  let i := scIndex n
  let (new, s) := (List.range 4).foldl (takeRing n) ([], s)
  let kept := (s.nav.recs.getD i [] ++ new).filter fun r => decide (te ≤ dumpTime r + halfSpan s)
  let latest := new.foldl putLatest s.nav.latest
  { s with nav := { s.nav with
      epoch := s.nav.epoch.setIfInBounds i te, recs := s.nav.recs.setIfInBounds i kept, latest := latest } }

/-- The records that an epoch of a core has. -/
def epochRecs (s : State) (n : Nat) : List (List Byte) := s.nav.recs.getD (scIndex n) []

end Sys2Proof.Machine
end

