-- ==== Sys2Proof/Machine/Osnma.lean ====
section
/-!
DEFINITION. OSNMA as the standby solution core carries it out (R294, R295): root keys and public keys, the chain of TESLA keys,
and the tags that they verify.  What a block of messages spells comes with the command.
-/

namespace Sys2Proof.Machine

/-- A change of what is held of a satellite. -/
def satSet (sat : Nat) (f : SatRun → SatRun) (s : State) : State :=
  let l := if s.nav.sats.any fun x => x.sat == sat then s.nav.sats else s.nav.sats ++ [{ sat := sat }]
  { s with nav := { s.nav with sats := l.map fun x => if x.sat = sat then f x else x } }

/-- The satellite of a Galileo SVID in the satellite table. -/
def galileo (svid : Nat) : Nat := 128 + svid

/-- What is held for OSNMA, replaced. -/
def osnmaSet (o : OsnmaState) (s : State) : State := { s with nav := { s.nav with osnma := o } }

/-- One key back in a chain from key `n`: SHA-256 by CXE, or SHA3-256. [DESIGN CHOICE, safe: notes/assumptions/68] -/
def teslaStep (sha3 : Bool) (n : Nat) (key : List Byte) : List Byte :=
  let m := Config.teslaInput n key
  (if sha3 then toBE 32 (Config.sha3 m).toNat else sha256 m).take key.length

/-- `k` keys back from key `n`. -/
def teslaBack (sha3 : Bool) : Nat → Nat → List Byte → List Byte
  | 0, _, key => key
  | k + 1, n, key => teslaBack sha3 k (n - 1) (teslaStep sha3 n key)

/-- The digest of a signed message under a public key of P-521 or P-256. [PRESUMED, unsafe: notes/assumptions/68] -/
def osnmaDigest (p521_ : Bool) (message : List Byte) : List Byte := if p521_ then sha sha512Kind message else sha256 message

/-- A root key is given to the verifier under the public key in force; a full queue takes it not (R294, R440). -/
def takeRoot (p521_ sha3 : Bool) (n : Nat) (key message signature : List Byte) (s : State) : State :=
  match s.nav.osnma.pub with
  | none => s
  | some (curve, pub) =>
    if curve = p521_ then svuPush (.root p521_ pub (osnmaDigest p521_ message) signature sha3 n key) s else s

/-- A root key that the verifier has found valid begins a chain, unless it is one of the chain in force (R294). -/
def rootVerified (sha3 : Bool) (n : Nat) (key : List Byte) (s : State) : State :=
  let known := match s.nav.osnma.chain with
    | some (h, last, k) => h == sha3 && decide (n ≤ last) && teslaBack sha3 (last - n) last k == key
    | none => false
  if known then s else osnmaSet { s.nav.osnma with chain := some (sha3, n, key), tags := [] } s

/-- The oldest job of the verifier ends, with what follows from its result (R294, R440, R482). -/
def svuJobEnd (s : State) : State :=
  match s.svu.jobs.head?, svuJobDone s with
  | some (.root _ _ _ _ sha3 n key), (r, s) => if r = V_VALID then rootVerified sha3 n key s else s
  | some (.chain _ _ _), (r, s) => if r = 0 then s else chainVerdict r s
  | _, (_, s) => s

/-- The root of a Merkle tree from a leaf and its path. -/
def merklePath (leaf : List Byte) (path : List (Bool × List Byte)) : List Byte :=
  path.foldl (fun h (left, node) => if left then sha256 (node ++ h) else sha256 (h ++ node)) (sha256 leaf)

/-- A public key is checked, by the leaf that holds it, against the Merkle tree root of the Chain image in force. -/
def takePublic (p521_ : Bool) (leaf : List Byte) (path : List (Bool × List Byte)) (s : State) : State :=
  match imageInForce s with
  | none => s
  | some img =>
    if merklePath leaf path = merkleRoot img ∧ merkleRoot img ≠ List.replicate 32 0 then
      osnmaSet { s.nav.osnma with pub := some (p521_, Config.leafKey leaf) } s
    else s

/-- A tag is right under its key. -/
def tagRight (key : List Byte) (t : OsnmaTag) : Bool :=
  ((if t.cmac then cmac key t.data else hmac sha256Kind key t.data).take t.mac.length) == t.mac

/-- The outcome of a tag (R295). -/
def tagOutcome (ok : Bool) (sat : Nat) (s : State) : State :=
  satSet sat (fun x => if ok then { x with okAt := some s.ticks, failed := false } else { x with okAt := none, failed := true }) s

/-- A TESLA key of the chain is disclosed: it must hash back to the latest one, and it and those between verify the tags that wait
for them. -/
def takeKey (n : Nat) (key : List Byte) (s : State) : State :=
  match s.nav.osnma.chain with
  | none => s
  | some (sha3, last, root) =>
    if n ≤ last ∨ teslaBack sha3 (n - last) n key ≠ root then s
    else
      let tags := s.nav.osnma.tags
      let s := osnmaSet { s.nav.osnma with chain := some (sha3, n, key), tags := tags.filter fun t => decide (n < t.number) } s
      (tags.filter fun t => decide (t.number ≤ n)).foldl (fun s t =>
        tagOutcome (tagRight (teslaBack sha3 (n - t.number) n key) t) (galileo t.svid) s) s

/-- A tag arrives: it waits for its key, unless that is disclosed already. -/
def takeTag (t : OsnmaTag) (s : State) : State :=
  let s := satSet (galileo t.svid) (fun x => { x with tags := true }) s
  let late := match s.nav.osnma.chain with | some (_, last, _) => decide (t.number ≤ last) | none => false
  if late || s.nav.osnma.tags.contains t then s else osnmaSet { s.nav.osnma with tags := s.nav.osnma.tags ++ [t] } s

/-- An item of OSNMA is carried out (R294, R295). [DEDUCED, unsafe: notes/assumptions/68] -/
def osnmaItem (s : State) (i : OsnmaItem) : State :=
  match i with
  | .kroot p sha3 n key message signature => takeRoot p sha3 n key message signature s
  | .pkr p leaf path => takePublic p leaf path s
  | .key n bytes => takeKey n bytes s
  | .tag svid cm n data mac => takeTag ⟨svid, cm, n, data, mac⟩ s
  | .differs svid => satSet (galileo svid) (fun x => { x with okAt := none, failed := true }) s
  | .revoke => osnmaSet { s.nav.osnma with chain := none, tags := [] } s
  | .alert =>
    let s := osnmaSet { seen := s.nav.osnma.seen } s
    { s with nav := { s.nav with sats := s.nav.sats.map fun x => { x with okAt := none } } }

/-- The newest second of Galileo time among the blocks accepted. -/
def newestBlock (s : State) : Nat := (s.nav.osnma.seen.map (·.1)).foldl max 0

/-- A block as an antenna delivers it: it counts once, from the first antenna whose CRC is right (R294).  One that is an hour older than
the newest is not looked at. [DESIGN CHOICE, unsafe: notes/assumptions/68] -/
def osnmaBlock (s : State) (b : OsnmaBlock) : State :=
  let x := (b.second.toNat, b.item)
  if !b.crc || s.nav.osnma.seen.contains x || decide (x.1 + 3600 < newestBlock s) then s
  else
    let seen := (x :: s.nav.osnma.seen).filter fun y => decide (max x.1 (newestBlock s) ≤ y.1 + 3600)
    osnmaItem (osnmaSet { s.nav.osnma with seen := seen } s) b.item

/-- Blocks in the order in which the antennas deliver them. -/
def osnmaBlocks (l : List OsnmaBlock) (s : State) : State := l.foldl osnmaBlock s

/-- SVU_JOB_COMPLETE (R440). -/
def execSvuJobComplete (s : State) : Host.Outcome State Fault Refusal := done (svuJobEnd s)

end Sys2Proof.Machine
end

