-- ==== Sys2Proof/Machine/Standby.lean ====
section
/-!
DEFINITION. The work of the standby solution core: vector aiding (R287), the consistency test (R289 to R291), OSNMA (R294), the
satellite table, and its shadow of the time filter.
-/

namespace Sys2Proof.Machine

/-! ### Vector tracking (R287) -/

/-- The Earth's rate of rotation in 10^-15 rad/s. [PRESUMED, unsafe: notes/assumptions/67] -/
def earthRate : Int := 72921150000

/-- The Doppler of a satellite at an antenna in mHz, from the rate of the time base in 2^-16 ppb. -/
def doppler (img : List Byte) (ant sat sig te : Nat) (rate : Int) : Int :=
  let fc := carrierHz (sat % 64) sig
  let p := phaseCentre img ant (bandOf sig)
  let d := vsub (satPosition sat te) p
  let va : Vec3 := (-(p.2.1 * earthRate / (10 ^ 15 : Nat)), p.1 * earthRate / (10 ^ 15 : Nat), 0)
  let along := vdot (vsub (satVelocity sat te) va) d / (vlen d : Int)
  fc * rate / (65536 * 10 ^ 6 : Nat) - 1000 * fc * Config.satellite sat te 7 / (2 ^ 48 : Nat) - along * fc / (lightSpeed * 10 : Nat)

/-- CARR_RATE and CODE_RATE of R167 for a Doppler in mHz. -/
def carrRate (s : State) (chan svid sig : Nat) (dop : Int) : Nat :=
  unsigned 48 ((offsetMilli s chan svid sig + dop) * (2 ^ 48 : Nat) / (1000 * chanFs s chan : Nat))
def codeRate (s : State) (chan svid sig : Nat) (dop : Int) : Nat :=
  let fc := 1000 * carrierHz svid sig
  unsigned 48 (chipHz sig * (fc + dop) * (2 ^ 32 : Nat) / (fc * chanFs s chan))

/-- The standby solution core posts vector aiding for a VCODE or VFULL channel of which it has a record (R279, R280, R287). -/
def aidChannel (n te : Nat) (rate : Int) (s : State) (m : Meas) : State :=
  let items := vectorItems (mapByte s m.chan 8)
  if items = 0 ∨ mapByte s m.chan 3 = M_FREE then s
  else
    let img := (imageInForce s).getD []
    let d := doppler img m.ant m.sat m.sig te rate
    let s := postAiding n m.chan m.epoch items (carrRate s m.chan (m.sat % 64) m.sig d) (codeRate s m.chan (m.sat % 64) m.sig d) 0 0 0 s
    { s with nav := { s.nav with vec := keyPut s.nav.vec m.chan (m.epoch, s.ticks) } }

/-- Vector aiding of every such channel. -/
def aidAll (n te : Nat) (rate : Int) (s : State) : State :=
  (s.nav.latest.map fun p => measOf p.2).foldl (aidChannel n te rate) s

/-! ### The pairs of the consistency test (R289) -/

/-- The pilot components of a test band (R289, R552). -/
def pilots (band : Nat) : List Nat := if band = 0 then [9, 2, 22] else [11, 5, 24]

/-- A record may enter the test at an epoch: a pilot of the band in lock, without DISC, HMUTE, HALFCYC and LOWCN0, within 10 ms. -/
def testRecord (band te : Nat) (m : Meas) : Bool :=
  let f := m.flags
  (pilots band).contains m.sig && f.testBit 1 && !f.testBit 3 && !f.testBit 8 && !f.testBit 2 && !f.testBit 13 &&
    decide (100 * apart m.time te ≤ 2 ^ 48)

/-- The record of a satellite at an antenna that lies nearest to the epoch. -/
def nearest (l : List Meas) (te sat a : Nat) : Option Meas :=
  (l.filter fun m => m.sat == sat && m.ant == a).foldl (fun w m =>
    match w with
    | none => some m
    | some x => if apart m.time te < apart x.time te then some m else some x) none

/-- φ at the epoch, the fraction of CPH + f_NCO × (t_e − T), in 2^-32 cycle. -/
def phaseAt (s : State) (te : Nat) (m : Meas) : Int :=
  let f256 := m.dopp + offsetMilli s m.chan (m.sat % 64) m.sig * 256 / 1000
  (m.cph * (2 ^ 16 : Nat) + f256 * ((te : Int) - m.time) / (2 ^ 24 : Nat)) % (2 ^ 32 : Nat)

/-- π_s in 2^-32 cycle: the difference of the distances to the two antennas over λ. -/
def predicted (img : List Byte) (ref a te : Nat) (m : Meas) : Int :=
  let x := satPosition m.sat te
  let dist := fun (b : Nat) => (vlen (vsub x (phaseCentre img b (bandOf m.sig))) : Int)
  (dist ref - dist a) * carrierHz (m.sat % 64) m.sig * (2 ^ 32 : Nat) / (lightSpeed * 10000 : Nat)

/-- The satellites of a pair of antennas. -/
def pairOf (s : State) (img : List Byte) (te ref a : Nat) (l : List Meas) : List SatPhase :=
  ((l.map (·.sat)).eraseDups).filterMap fun sat =>
    match nearest l te sat ref, nearest l te sat a with
    | some x, some y =>
      some { sat := sat, pi := predicted img ref a te x, phA := phaseAt s te y, phRef := phaseAt s te x }
    | _, _ => none

/-- The pairs of the reference antenna with every other usable antenna. -/
def pairsAt (s : State) (te : Nat) (recs : List (List Byte)) : List (List SatPhase) :=
  let img := (imageInForce s).getD []
  let l := (recs.map measOf).filter (testRecord (cfgWord s 7) te)
  match refAntenna s img with
  | none => []
  | some ref => ((List.range 32).filter fun a => a != ref && antUsable s img a).map fun a => pairOf s img te ref a l

/-! ### The test (R290, R291) -/

/-- wrap(x), in 2^-32 cycle: in (−½, ½]. -/
def wrapCycle (x : Int) : Int :=
  let r := x % (2 ^ 32 : Nat)
  if 2 * r ≤ (2 ^ 32 : Nat) then r else r - (2 ^ 32 : Nat)

/-- The residuals of a satellite against the candidate `q`: sky-consistent and one-source. -/
def skyResidual (x q : SatPhase) : Int :=
  wrapCycle (wrapCycle ((x.phA - x.phRef) - x.pi) - wrapCycle ((q.phA - q.phRef) - q.pi))
def oneResidual (x q : SatPhase) : Int := wrapCycle ((x.phA - x.phRef) - (q.phA - q.phRef))

/-- The satellites that a candidate counts. -/
def counted (tol : Nat) (l : List SatPhase) (q : SatPhase) : List SatPhase :=
  l.filter fun x => x.sat != q.sat && decide (2 * tol ≤ (wrapCycle (x.pi - q.pi)).natAbs)

def sSky (tol : Nat) (l : List SatPhase) (q : SatPhase) : Nat :=
  (counted tol l q).countP fun x => decide ((skyResidual x q).natAbs ≤ tol)
def sOne (tol : Nat) (l : List SatPhase) (q : SatPhase) : Nat :=
  (counted tol l q).countP fun x => decide ((oneResidual x q).natAbs ≤ tol)

/-- The candidate with the largest S_sky; among equals, the first in system and SVID order. -/
def bestCandidate (tol nmin : Nat) (l : List SatPhase) : Option SatPhase :=
  (l.filter fun q => decide (nmin ≤ (counted tol l q).length)).foldl (fun best q =>
    match best with
    | none => some q
    | some b =>
      let better := decide (sSky tol l b < sSky tol l q) || (sSky tol l b == sSky tol l q && decide (q.sat < b.sat))
      if better then some q else some b) none

/-- The verdict of a pair. -/
inductive Verdict where
  | none | sky | one | mixed
  deriving DecidableEq, Repr

/-- A pair's test: its verdict, and the satellites counted, each with whether it takes a strike (R290, R291). -/
def pairTest (tol nmin : Nat) (l : List SatPhase) : Verdict × List (Nat × Bool) :=
  match bestCandidate tol nmin l with
  | none => (.none, [])
  | some q =>
    let cs := counted tol l q
    let n := cs.length
    let marks := cs.map fun x => (x.sat, decide (tol < (skyResidual x q).natAbs))
    if n ≤ sSky tol l q + 1 then (.sky, marks)
    else if n ≤ sOne tol l q + 1 ∧ 2 * sSky tol l q < n then (.one, [])
    else (.mixed, marks)

/-- A satellite's run at an epoch: `hit` is whether it has strikes in at least half of its pairs. -/
def satEpoch (satRun clearN : Nat) (hit : Bool) (x : SatRun) : SatRun :=
  if hit then { x with run := x.run + 1, clean := 0, spoof := x.spoof || decide (satRun ≤ x.run + 1) }
  else { x with run := 0, clean := x.clean + 1, spoof := x.spoof && decide (x.clean + 1 < clearN) }

/-- Whether a satellite has strikes in at least half of the pairs that count it. -/
def satHit (marks : List (Nat × Bool)) (n : Nat) : Bool :=
  let mine := marks.filter (·.1 == n)
  !mine.isEmpty && decide (mine.length ≤ 2 * mine.countP (·.2))

/-- The test of every pair at an epoch under TOL and NMIN, and the flags that follow (R291). -/
def consistency (pairs : List (List SatPhase)) (s : State) : State :=
  let rs := pairs.map (pairTest (cfgNumber 1 (cfgWord s 1)) (cfgWord s 2))
  let ones := rs.countP (·.1 == .one)
  let given := rs.countP (·.1 != .none)
  let marks := rs.flatMap (·.2)
  let known := s.nav.sats.map (·.sat)
  let fresh := (marks.map (·.1)).eraseDups.filter fun n => !known.contains n
  let all : List SatRun := s.nav.sats ++ fresh.map fun n => { sat := n }
  let sats := all.map fun x => satEpoch (cfgWord s 4) (cfgWord s 5) (satHit marks x.sat) x
  let site := decide (0 < given) && decide (given ≤ 2 * ones)
  let run := if site then s.nav.oneRun + 1 else 0
  let clean := if ones = 0 then s.nav.clean + 1 else 0
  let spoof := (s.nav.spoofSite || decide (cfgWord s 3 ≤ run) && site) && decide (clean < cfgWord s 5)
  { s with nav := { s.nav with pairs1 := ones, pairsN := given, oneRun := run, clean := clean, spoofSite := spoof, sats := sats } }

/-! ### The satellite table (R270, R291, R295) -/

/-- The entry of a satellite. [DESIGN CHOICE, safe: notes/assumptions/67] -/
def satEntry (s : State) (te : Nat) (x : SatRun) : List Byte :=
  let health := (Config.satellite x.sat te 8).toNat
  let bit := fun (b : Bool) => if b then 1 else 0
  (List.range 16).map fun k => BitVec.ofNat 8 (Config.satByte x.sat health (osnmaOf s x.sat) (bit x.spoof) (bit s.nav.spoofSite) k)

/-- The entries that have changed are written. -/
def writeSats (n te : Nat) (s : State) : State :=
  s.nav.sats.foldl (fun (s : State) x =>
    let a := dirBase s 0x50 + 16 * x.sat
    let e := satEntry s te x
    if 448 ≤ x.sat ∨ s.bytes a 16 = e then s else coreStore n a e s) s

/-! ### The epoch -/

/-- The core that runs the standby's work: the standby, or the survivor (R307). -/
def standbyCore (s : State) : Nat :=
  let other := 9 - activeCore s
  if alive s other && coreRuns s other then other else activeCore s

/-- Requests of the standby solution core to the active one (R269). -/
def postRequests (n : Nat) (l : List ChanPost) (s : State) : State :=
  l.foldl (fun (s : State) r => (postRequest n r.at_.toNat r.entry r.ask s).2) s

/-- The consistency test and what it writes; a survivor runs it at every fourth epoch (R289, R307). -/
def testEpoch (n te : Nat) (survivor : Bool) (s : State) : State :=
  let k := s.nav.tests
  let s := { s with nav := { s.nav with tests := k + 1 } }
  if survivor && k % 4 != 0 then s else consistency (pairsAt s te (epochRecs s n)) s

/-- An epoch of the standby solution core, or of the survivor in its place, which posts no aiding (R287, R289, R294, R307).
[DEDUCED, unsafe: notes/assumptions/60] -/
def standbyEpoch (osnma : List OsnmaBlock) (requests : List ChanPost) (s : State) : State :=
  let a := activeCore s
  let n := standbyCore s
  if !(a == 4 || a == 5) || !coreRuns s n then s
  else
    let te := epochInstant s
    let due := epochDue s (9 - a)
    let s := osnmaBlocks osnma s
    if !due then s
    else if n = a then
      let s := takeConfig { s with nav := { s.nav with epoch := s.nav.epoch.setIfInBounds (scIndex (9 - a)) te } }
      writeSats n te (testEpoch n te true s)
    else
      let s := takeRings n te (takeConfig s)
      let f := fuse s (s.nav.filter.getD 1 0) te (epochRecs s n)
      let s := { s with nav := { s.nav with filter := s.nav.filter.setIfInBounds 1 f.filter } }
      let s := aidAll n te f.rate s
      postRequests n requests (writeSats n te (testEpoch n te false s))

/-! ### Meanings -/

/-- STANDBY_SC_EPOCH (R287). -/
def execStandbyScEpoch (osnma : List OsnmaBlock) (requests : List ChanPost) (s : State) :
    Host.Outcome State Fault Refusal := done (standbyEpoch osnma requests s)

end Sys2Proof.Machine
end

