-- ==== Sys2Proof/Machine/Firmware.lean ====
section
/-!
DEFINITION. The work of the active solution core: the solution epoch (R285 to R301), the time sources (R329 to R334, R357), the
requests for channels (R269), the load of the loop cores (R305, R306) and the holdover model (R335, R336).
-/

namespace Sys2Proof.Machine

/-! ### The solution (R285, R296 to R298) -/

/-- The estimates of an epoch are kept. -/
def takeFix (f : Fix) (s : State) : State :=
  { s with nav := { s.nav with
      filter := s.nav.filter.setIfInBounds 0 f.filter, bias := f.bias, rate := f.rate, unc := f.unc, runc := f.runc,
      solved := f.solved } }

/-- The satellites in OSNMA state OK among those used (R297). -/
def okCount (s : State) (f : Fix) : Nat := ((f.used.map (·.sat)).eraseDups).countP fun x => osnmaOf s x == 2

/-- The OSNMA policy is met (R296). -/
def policyMet (s : State) (f : Fix) : Bool := cfgWord s 14 != 2 || decide (cfgWord s 15 ≤ okCount s f)

/-- SOLSTATE (R297). -/
def solState (s : State) (f : Fix) : Nat :=
  if s.nav.spoofSite then 3
  else if satCount f.used < cfgWord s 17 then 4
  else if !f.solved then 0
  else if 100000 < f.unc then 1
  else 2

/-- GNSS_VALID and TRUST_OK (R298). -/
def gnssValid (s : State) (f : Fix) : Bool := solState s f == 1 || solState s f == 2
def trustOk (s : State) (f : Fix) : Bool :=
  solState s f == 2 && !s.nav.spoofSite && policyMet s f && s.flag NVS_STAT_LOCKED

/-! ### MODE (R288) -/

/-- The MODE for a mean C/N0 in 0.01 dB-Hz. -/
def modeOf (s : State) (cn0 : Nat) : Nat :=
  if cn0 < vcn0 s then 2 else if cfgNumber 9 (cfgWord s 9) ≤ cn0 then 0 else 1

/-- The MODE of every channel with records in the epoch, from their mean C/N0; a change is written to the channel map. -/
def setTracking (a te : Nat) (s : State) : State :=
  let l := ((epochRecs s a).map measOf).filter fun m => decide (2000 * apart m.time te ≤ tsol s * 2 ^ 48)
  ((l.map (·.chan)).eraseDups).foldl (fun (s : State) c =>
    let mine := (l.filter (·.chan == c)).map (·.cn0)
    let m := modeOf s (mine.sum / mine.length)
    if mapByte s c 3 = M_FREE ∨ mapByte s c 8 = m then s else mapSet a c [(8, m)] s) s

/-! ### Sources (R329 to R331) -/

/-- 2^-48 s in ps. -/
def toPs48 (x : Int) : Int := (x * 10 ^ 12).tdiv (2 ^ 48 : Nat)

/-- What steps and slews have added to the time base in all, in ps. -/
def correctedPs (s : State) : Int := toPs s.tb.corrected

/-- A source of TB_SRCCFG.EN order, and the state with it replaced. -/
def srcAt (s : State) (k : Nat) : SrcRun := s.nav.srcs.getD k {}
def srcSet (k : Nat) (r : SrcRun) (s : State) : State := { s with nav := { s.nav with srcs := s.nav.srcs.setIfInBounds k r } }

/-- A valid offset in ps: one that differs by more than XTOL from the one before, the corrections between them removed,
disqualifies the source and begins its run anew; QUALT seconds of them qualify it; QUALT 0 is treated as 1 (R330, R340). -/
def srcOffset (s : State) (r : SrcRun) (o : Int) : SrcRun :=
  let c := correctedPs s
  let jumps := match r.last with
    | some (o0, c0) => decide (1000 * s.rd TB_SRCCFG_XTOL < ((o - c) - (o0 - c0)).natAbs)
    | none => false
  if jumps then { r with since := some s.ticks, last := some (o, c), missed := 0, qualified := false }
  else
    let w := r.since.getD s.ticks
    let full := decide (w + max (s.rd TB_SRCCFG_QUALT) 1 * 600000000 ≤ s.ticks)
    { r with since := some w, last := some (o, c), missed := 0, qualified := r.qualified || full }

/-- A missed offset: it breaks a run that has not qualified, and the LOSSE-th in a row disqualifies; LOSSE 0 is treated as 1. -/
def srcMissed (s : State) (r : SrcRun) : SrcRun :=
  if max (s.rd TB_SRCCFG_LOSSE) 1 ≤ r.missed + 1 then { seq := r.seq, at_ := r.at_, missed := r.missed + 1 }
  else { r with since := if r.qualified then r.since else none, missed := r.missed + 1 }

/-- The validity of a source ends. -/
def srcEnds (r : SrcRun) : SrcRun := { seq := r.seq, at_ := r.at_ }

/-- GNSS delivers BIAS at each epoch, and ends where it is not valid or the OSNMA policy is unmet (R329, R330). -/
def gnssSource (f : Fix) (s : State) : State :=
  let r := srcAt s 0
  srcSet 0 (if gnssValid s f && policyMet s f then srcOffset s r (toPs48 f.bias) else srcEnds r) s

/-- A PTP source delivers an offset with each new SEQ, and ends with VALID (R410).  One is expected each second: it is missed where
none has come for a second and a half since the last one, or for a second since the last one missed (R330, R409).
[DEDUCED, unsafe: notes/assumptions/60] -/
def ptpSource (s : State) (p : Nat) : State :=
  let r := srcAt s (p + 1)
  let seq := s.rd (ETHn_SRCINFO_SEQ p)
  if !s.flag (ETHn_SRCINFO_VALID p) then srcSet (p + 1) (srcEnds r) s
  else if seq ≠ r.seq then srcSet (p + 1) { srcOffset s r (s.rdS (ETHn_SRCOFS_OFS p)) with seq := seq, at_ := s.ticks } s
  else if r.at_ + 900000000 ≤ s.ticks then srcSet (p + 1) { srcMissed s r with at_ := r.at_ + 600000000 } s
  else s

/-- The qualified source of the highest priority that TB_SRCCFG.EN allows; zero where there is none (R329, R331). -/
def selectSource (s : State) : Nat :=
  match (List.range 13).find? fun k => (srcAt s k).qualified && s.bit TB_SRCCFG_EN k with
  | some k => k + 1
  | none => 0

/-- The offset of a source now: its last one, with the corrections applied since. [DEDUCED, unsafe: notes/assumptions/60] -/
def offsetNow (s : State) (src : Nat) : Int :=
  match (srcAt s (src - 1)).last with
  | some (o, c) => o + (correctedPs s - c)
  | none => 0

/-- The 1σ uncertainty of a source in ps (R334). -/
def sourceUnc (s : State) (src : Nat) : Nat :=
  if src = 1 then s.nav.unc else if src < 6 then s.rd (ETHn_SRCINFO_UNC (src - 2)) else Config.pulseSigma (src - 6)

/-- The correction C = −o in ps (R299, R331). -/
def correction (s : State) (src : Nat) : Int := -offsetNow s src

/-! ### The holdover model (R334 to R336) -/

/-- y(t) × 2^48 of a record, truncated, at `tau` seconds after T0 and `dt` sixteenths of a degree from TREF. -/
def modelY (rec : List Byte) (tau dt : Int) : Int :=
  let den : Nat := 86400 * 2 ^ 16 * 10 ^ 9
  let y0 := signed 64 (imgLe rec 8 8)
  let aging := signed 64 (imgLe rec 16 8)
  let tcoef := signed 32 (imgLe rec 24 4)
  (y0 * den + aging * tau * (10 ^ 9 : Nat) + tcoef * dt * (2 ^ 28 * 86400 * 2 ^ 16 : Nat)).tdiv den

/-- E(τ) in ps, from U0 in ps and τ in ticks. -/
def modelE (rec : List Byte) (u0 tau : Nat) : Nat :=
  let f := fun (a n : Nat) => imgLe rec a n
  let day := 172800 * 600000000
  u0 + 1000 * tau * (f 32 4 * day * 16 + f 36 4 * tau * 16 + f 40 4 * f 44 2 * day) / (65536 * 16 * day * 600000000)

/-- A core reads the model of the selected reference: none where its CRC fails. -/
def holdRecord (a : Nat) (s : State) : Option (List Byte) × State :=
  let (c, rec, s) := busRead a (0x06380000 + 64 * selected s) 64 s
  (if c ≠ 0 ∨ imgLe rec 60 4 ≠ crc32c (rec.take 60) then none else some rec, s)

/-- HO_LIMIT in ns and HO_MAXDUR in s, of Chain (R334, R478). -/
def holdLimits (s : State) : Nat × Nat :=
  match imageInForce s with
  | some img => (imgLe img 2128 4, imgLe img 2132 4)
  | none => (0, 0)

/-- The time in holdover in ticks. -/
def holdTime (s : State) : Nat := s.ticks - s.nav.holdAt.getD s.ticks

/-- VALIDREQ for a source with a remainder to be slewed, in ps, and for holdover under a model (R334). -/
def validReq (s : State) (src : Nat) (model : Option (List Byte)) (rem : Nat) : Bool :=
  let (lim, dur) := holdLimits s
  if src ≠ 0 then decide (sourceUnc s src + rem ≤ 1000 * lim)
  else match model with
    | none => false
    | some rec => decide (modelE rec s.nav.lastUnc (holdTime s) < 1000 * lim) && decide (holdTime s < dur * 600000000)

/-- Holdover begins and ends with the selection; at its beginning a model that fails its CRC leaves TB_FREQ at FREQNOW (R333, R336). -/
def holdSet (a src : Nat) (model : Option (List Byte)) (s : State) : State :=
  if src ≠ 0 then { s with nav := { s.nav with holdAt := none, updated := none, lastUnc := sourceUnc s src } }
  else if s.nav.holdAt.isSome then s
  else
    let s := { s with nav := { s.nav with holdAt := some s.ticks } }
    if model.isNone then coreWrite a TB_FREQ (s.rd TB_FREQNOW_FREQ) s else s

/-- The 1σ uncertainty of the time base: that of the source in use, or E(τ) of the model in holdover (R334, R336, R555).
[DEDUCED, unsafe: notes/assumptions/60] -/
def noteSigma (src : Nat) (model : Option (List Byte)) (s : State) : State :=
  let e := match model with
    | some rec => if src = 0 then modelE rec s.nav.lastUnc (holdTime s) else s.nav.lastUnc
    | none => s.nav.lastUnc
  { s with nav := { s.nav with sigma := e } }

/-- A model that the firmware has learned (R335). [DESIGN CHOICE, safe: notes/assumptions/67] -/
def learntRecord (s : State) (n : Nat) : List Byte :=
  let ref := selected s
  let body := toLE 6 (s.sec % 2 ^ 48) ++ toLE 1 ref ++
    ((List.range 39).map fun k => BitVec.ofNat 8 (if k = 0 then Config.learnt ref n 7 % 2 else Config.learnt ref n (k + 7))) ++
    List.replicate 14 0
  body ++ toLE 4 (crc32c body)

/-- While a source is selected the firmware writes its model once per hour (R335). [DEDUCED, unsafe: notes/assumptions/60] -/
def learn (a src : Nat) (s : State) : State :=
  if src = 0 ∨ s.ticks < s.nav.learnAt + 3600 * 600000000 then s
  else
    let rec_ := learntRecord s s.freeCount
    let s := { s with freeCount := s.freeCount + 1, nav := { s.nav with learnAt := s.ticks } }
    coreStore a (0x06380000 + 64 * selected s) rec_ s

/-- A second has passed since the last update in holdover. -/
def updateDue (s : State) : Bool :=
  match s.nav.updated with | some w => decide (w + 600000000 ≤ s.ticks) | none => true

/-- The active solution core writes TB_FREQ from the model of the selected reference once per second of holdover (R336); the die sensor of
TEMPSRC 0 is sensor 0 (R515). -/
def holdoverUpdate (s : State) : State :=
  let a := activeCore s
  if !activeRuns s || !s.flag TB_TIMESTAT_HOLDOVER || !updateDue s then s
  else
    let (model, s) := holdRecord a s
    match model with
    | none => s
    | some rec =>
      let s := { s with nav := { s.nav with updated := some s.ticks } }
      let temp := if imgLe rec 7 1 = 1 then s.hst.boardTemp else signed 12 (s.rd SAF_TEMP_T % 4096)
      let y := modelY rec ((s.sec : Int) - imgLe rec 0 6) (temp - signed 16 (imgLe rec 28 2))
      coreWrite a TB_FREQ (unsigned 48 (-y)) s

/-! ### Steering (R299 to R301, R331 to R334) -/

/-- The four cases of R299. -/
inductive Steer where
  | continue | proportional | step | slew
  deriving DecidableEq, Repr

/-- STEPGAP has passed since the last step request. -/
def gapOver (s : State) : Bool :=
  match s.nav.stepAt with | some w => decide (w + cfgWord s 13 * 600000000 ≤ s.ticks) | none => true

/-- The first case of R299 that applies. -/
def steerCase (s : State) (c : Int) : Steer :=
  let thr := 1000 * cfgWord s 11
  if s.flag TB_STAT_SLEWING ∧ (s.rdS TB_SLEWREM_REM - c).natAbs < thr then .continue
  else if c.natAbs < thr then .proportional
  else if 0 < c ∧ c.toNat ≤ s.stepLimit ∧ gapOver s then .step
  else .slew

/-- The decision of an epoch: a step that was refused becomes a slew of the same C, whatever the offset is now (R300). -/
def decision (s : State) (src : Nat) : Steer × Int :=
  match s.nav.slewNext with
  | some c => (.slew, c)
  | none => let c := correction s src; (steerCase s c, c)

/-- A core ends a slew in progress (R300, R324). -/
def stopSlew (n : Nat) (s : State) : State :=
  if s.flag TB_STAT_SLEWING then coreWrite n TB_CMD (TB_CMD_SLEWSTOP.insert 0 1).toNat s else s

/-- A core orders a slew of an amount in ps at a rate in 1/256 ppb, in place of the one in progress; where there is nothing to slew it
ends that one (R300). -/
def orderSlew (n : Nat) (ps : Int) (rate : Nat) (s : State) : State :=
  if ps = 0 ∨ rate = 0 then stopSlew n s
  else
    coreWrite n TB_CMD (TB_CMD_SLEW.insert 0 1).toNat
      (coreWrite n TB_SLEWRATE rate (coreWrite n TB_SLEW (unsigned 48 ps) s))

/-- A core requests a step in place of the slew in progress, and keeps what becomes of it: a refused one becomes a slew at the next epoch
(R300). -/
def orderStep (n : Nat) (c : Int) (s : State) : State :=
  let s := coreWrite n TB_STAT (TB_STAT_STEP_REFUSED.insert 0 1).toNat (stopSlew n s)
  let s := coreWrite n TB_CMD (TB_CMD_STEP.insert 0 1).toNat (coreWrite n TB_STEP (unsigned 48 c) s)
  let no := s.flag TB_STAT_STEP_REFUSED
  { s with nav := { s.nav with stepAt := some s.ticks, stepRefused := no, slewNext := if no then some c else none } }

/-- The amount and the rate of the proportional case: C × TSOL / STEERTC at |C| / STEERTC (R299). -/
def proportional (s : State) (c : Int) : Int × Nat :=
  let tc := 1000 * cfgWord s 12
  ((c * tsol s).tdiv tc, min s.slewLimit (c.natAbs * 256 / tc))

/-- What TB_SLEWREM comes to by a decision, in ps: the amount of the slew that it orders, or the remainder as it stands (R299, R324). -/
def remAfter (s : State) (d : Steer × Int) : Nat :=
  let old := (s.rdS TB_SLEWREM_REM).natAbs
  match d.1 with
  | .slew => if d.2 = 0 ∨ s.slewLimit = 0 then old else d.2.natAbs
  | .proportional => let (a, r) := proportional s d.2; if a = 0 ∨ r = 0 then old else a.natAbs
  | _ => old

/-- The decision is carried out. -/
def steer (n : Nat) (d : Steer × Int) (s : State) : State :=
  let c := d.2
  match d.1 with
  | .continue => s
  | .proportional => let (a, r) := proportional s c; orderSlew n a r s
  | .step => orderStep n c s
  | .slew => orderSlew n c s.slewLimit { s with nav := { s.nav with slewNext := none } }

/-- TB_FREQ while a source is selected (R332). -/
def steerFreq (n : Nat) (s : State) : State :=
  coreWrite n TB_FREQ (unsigned 48 (s.rdS TB_FREQNOW_FREQ - (s.nav.rate * (2 ^ 48 : Nat)).tdiv (65536 * 10 ^ 9 : Nat))) s

/-- TB_TIMESTAT as the active solution core writes it (R331, R333, R334). -/
def timestatWrite (n src : Nat) (valid : Bool) (s : State) : State :=
  let w := TB_TIMESTAT_SOURCE.insert (s.reg TB_TIMESTAT) src
  let w := TB_TIMESTAT_HOLDOVER.insert w (if src = 0 then 1 else 0)
  coreWrite n TB_TIMESTAT (TB_TIMESTAT_VALIDREQ.insert w (if valid then 1 else 0)).toNat s

/-! ### The solution record (R297, R298) -/

/-- SFLAGS (R298). -/
def sflags (s : State) (f : Fix) (stepped : Bool) : Nat :=
  let b := fun (b : Bool) (k : Nat) => if b then 2 ^ k else 0
  let migrating := match s.nav.migrated with | some w => decide (s.ticks ≤ w + 600000000) | none => false
  b migrating 9 + b (!(alive s 4 && alive s 5)) 8 + b s.nav.stepRefused 7 + b (s.flag TB_STAT_SLEWING) 6 + b stepped 5 +
    b (policyMet s f) 4 + b s.nav.spoofSite 3 + b (s.nav.sats.any (·.spoof)) 2 + b (trustOk s f) 1 + b (gnssValid s f) 0

/-- The time-solution record (R297); SYSREF is free where no system has NSATMIN satellites. [DESIGN CHOICE, safe: notes/assumptions/60] -/
def solRecord (s : State) (f : Fix) (te src seq : Nat) (corr : Int) (stepped : Bool) : List Byte :=
  let byte := fun (n : Nat) => toLE 1 (min n 255)
  toLE 6 (te % 2 ^ 48) ++ toLE 6 (te / 2 ^ 48) ++ toLE 8 (unsigned 64 f.bias) ++ toLE 4 (unsigned 32 (clampS 32 f.rate)) ++
    toLE 4 (min f.unc (2 ^ 32 - 1)) ++ toLE 2 (min f.runc 65535) ++ toLE 1 src ++ toLE 1 (solState s f) ++
    toLE 2 (sflags s f stepped) ++ byte (satCount f.used) ++ byte ((f.used.map (·.ant)).eraseDups.length) ++
    toLE 2 (min f.used.length 65535) ++ toLE 2 (min f.resrms 65535) ++ toLE 4 (unsigned 32 (clampS 32 corr)) ++
    toLE 4 (unsigned 32 (clampS 32 (s.rdS TB_SLEWREM_REM))) ++ byte s.nav.pairs1 ++ byte s.nav.pairsN ++
    byte (okCount s f) ++ toLE 1 (f.ref.getD (Config.freeValue s.freeCount % 256)) ++ toLE 4 seq ++ List.replicate 8 0

/-- The measurement output of an epoch: the latest record of each channel on a subscribed antenna, at most 63 a message (R550, R551). -/
def measOutput (s : State) : State :=
  let ours := (s.nav.latest.map (·.2)).filter fun r => s.hst.antennas.testBit (imgLe r 2 1)
  (List.range ((ours.length + 62) / 63)).foldl (fun (s : State) i =>
    let part := (ours.drop (63 * i)).take 63
    outputMessage 4 0x40 (toLE 4 part.length ++ part.flatten) s) s

/-- The record is written, SV is signalled, and the messages go out (R297, R550). -/
def writeSolution (a te src : Nat) (f : Fix) (corr : Int) (stepped : Bool) (s : State) : State :=
  let wp := dirBase s 0x160
  let rec_ := solRecord s f te src wp corr stepped
  let s := { s with freeCount := s.freeCount + 1, nav := { s.nav with osnmaMet := policyMet s f } }
  let s := coreStore a (dirBase s 0x58 + 64 * (wp % 1024)) rec_ s
  let s := signalCore a 6 (coreStore a 0x160 (toLE 4 (wp + 1)) s)
  measOutput (pacedMessage 3 0x40 rec_ s)

/-! ### Channels (R269, R306) -/

/-- A channel is started on a loop core: its context, its map entry and the START. -/
def startChannel (a tag chan core : Nat) (ant sys svid sig : Byte) (ctx : Vector (BitVec 64) 8) (s : State) : State :=
  let w0 := setBits (ctx.getD 0 0).toNat 9 8 core
  let s := (List.range 8).foldl (fun (s : State) w =>
    coreStore a (ctxAddr chan w) (toLE 8 (if w = 0 then w0 else (ctx.getD w 0).toNat)) s) s
  let s := { s with nav := { s.nav with
    loops := s.nav.loops.filter fun p => p.1 != chan, vec := s.nav.vec.filter fun p => p.1 != chan,
    latest := s.nav.latest.filter fun p => p.1 != chan } }
  let s := mapSet a chan [(2, core), (3, M_OWNED), (4, ant.toNat), (5, sys.toNat), (6, svid.toNat), (7, sig.toNat), (8, 0),
    (9, 0)] s
  (cshOrder a (cshWord 1 tag chan 0 0) s).2

/-- A channel is stopped. -/
def stopTracking (a tag : Nat) (s : State) (chan : Nat) : State :=
  let s := { s with nav := { s.nav with latest := s.nav.latest.filter fun p => p.1 != chan } }
  (cshOrder a (cshWord 2 tag chan 0 0) (mapSet a chan [(2, 0xFF), (3, M_FREE)] s)).2

/-- The decision on a request: a channel is started on a free one, stopped, or planned to move, or nothing is done. -/
def grant (a tag : Nat) (s : State) (x : ChanReq × ChanGrant) : State :=
  match x with
  | (.start ant sys svid sig, .start chan core ctx) =>
    if mapByte s chan 3 = M_FREE then startChannel a tag chan core ant sys svid sig ctx s else s
  | (.stop, .stop chan) => if mapByte s chan 3 = M_OWNED then stopTracking a tag s chan else s
  | (.move, .move chan core) =>
    if mapByte s chan 3 = M_OWNED ∧ mapByte s chan 2 ≠ core then
      { s with nav := { s.nav with moves := s.nav.moves ++ [(chan.val, core.val)] } }
    else s
  | _ => s

/-- The requests that wait are served in their order (R269). -/
def serveRequests (a tag : Nat) (grants : List ChanGrant) (s : State) : State :=
  let s' := { s with nav := { s.nav with requests := s.nav.requests.drop grants.length } }
  (s.nav.requests.zip grants).foldl (grant a tag) s'

/-- The loads of the loop cores since the last epoch, in 0.01 % of their CLK_SYS cycles: the cycles in RUN that issue (R305).
[DEDUCED, unsafe: notes/assumptions/60] -/
def measureLoads (s : State) : State :=
  let total := (s.ticks - s.nav.cyclesAt) * sysSixths s / 6
  let now := Vector.ofFn fun (k : Fin 4) => (s.rd (KCn_CYCLE_COUNT k), s.rd (KCn_STALL_COUNT k))
  let since := fun (k : Nat) (f : Nat × Nat → Nat) => unsigned 48 ((f (now.getD k (0, 0)) : Int) - f (s.nav.cycles.getD k (0, 0)))
  let load := Vector.ofFn fun (k : Fin 4) => (since k (·.1) - since k (·.2)) * 10000 / total
  { s with nav := { s.nav with cycles := now, cyclesAt := s.ticks, loads := load } }

/-- Of so many channels, those that the loop cores that are alive must give up to hold at most 90 % load together (R306). -/
def surplus (s : State) (chans : Nat) : Nat :=
  let cores := (List.range 4).filter (alive s)
  let l := (cores.map fun k => s.nav.loads.getD k 0).sum
  let room := 9000 * cores.length
  if l ≤ room then 0 else (chans * (l - room) + l - 1) / l

/-- The antenna with the most channels among records. -/
def busiest (l : List Meas) : Nat :=
  let n := fun a => l.countP (·.ant == a)
  (List.range 32).foldl (fun w a => if n w < n a then a else w) 0

/-- The channel that is stopped next: the one of the lowest C/N0 on the antenna with the most channels, the last channel of a
satellite that is used spared; an antenna that has none left to stop is passed over (R306). -/
def victim (used : List Nat) (l : List Meas) : Option Meas :=
  let free := l.filter fun m => !(used.contains m.sat && l.countP (·.sat == m.sat) ≤ 1)
  (free.filter fun m => m.ant == busiest free).foldl (fun w m =>
    match w with
    | none => some m
    | some x => if m.cn0 < x.cn0 then some m else some x) none

/-- Channels are stopped one after the other. -/
def shedF (a tag : Nat) (used : List Nat) : Nat → List Meas → State → State
  | 0, _, s => s
  | n + 1, l, s =>
    match victim used l with
    | none => s
    | some m => shedF a tag used n (l.filter (·.chan != m.chan)) (stopTracking a tag s m.chan)

/-- Where a loop core has failed and the others together cannot hold every channel within 90 % load, channels are stopped until they can
(R306). [DEDUCED, unsafe: notes/assumptions/60] -/
def shed (a tag : Nat) (used : List Nat) (s : State) : State :=
  if (List.range 4).all (alive s) then s
  else
    let l := (s.nav.latest.map fun p => measOf p.2).filter fun m => mapByte s m.chan 3 == M_OWNED
    shedF a tag used (surplus s l.length) l s

/-! ### The epoch -/

/-- UTC parameters are taken over (R337). -/
def takeUtc (a : Nat) (u : Option UtcParams) (s : State) : State :=
  match u with
  | none => s
  | some u =>
    let v := u.cur.toNat + u.new.toNat * 2 ^ 16 + (if u.pend then 2 ^ 32 else 0) + 2 ^ 33
    coreWrite a TB_UTCOFS v (coreWrite a TB_LEAPSEC u.leapsec.toNat s)

/-- The active solution core writes TRUSTREQ: TRUST_OK of its solution (R298, R449). [DEDUCED, unsafe: notes/assumptions/60] -/
def trustReq (a : Nat) (f : Fix) (s : State) : State :=
  coreWrite a SVU_TRUST (SVU_TRUST_TRUSTREQ.insert 0 (if trustOk s f then 1 else 0)).toNat s

/-- The source is selected and the time base steered, and VALIDREQ follows what is then to be slewed: SOURCE, the decision, and whether
it is carried out (R299, R331 to R334). -/
def steerEpoch (a : Nat) (s : State) : Nat × Steer × Int × State :=
  let src := selectSource s
  let (model, s) := if src = 0 then holdRecord a s else (none, s)
  let s := noteSigma src model (holdSet a src model s)
  if src = 0 then (src, .continue, 0, timestatWrite a src (validReq s src model 0) s)
  else
    let d := decision s src
    let s := timestatWrite a src (validReq s src model (remAfter s d)) (steer a d s)
    (src, d.1, if d.1 = .continue then 0 else d.2, steerFreq a s)

/-- A solution epoch of the active solution core (R285 to R301, R329 to R337). [DEDUCED, unsafe: notes/assumptions/60] -/
def solutionEpoch (o : SolOut) (s : State) : State :=
  let a := activeCore s
  if !activeRuns s || !epochDue s a then s
  else
    let te := epochInstant s
    let tag := o.tag.toNat
    let s := takeRings a te (takeConfig s)
    let f := fuse s (s.nav.filter.getD 0 0) te (epochRecs s a)
    let s := setTracking a te (takeFix f s)
    let s := (List.range 4).foldl ptpSource (gnssSource f s)
    let (src, act, corr, s) := steerEpoch a (takeUtc a o.utc s)
    let s := writeSolution a te src f corr (act == .step) (trustReq a f s)
    let s := learn a src (shed a tag (f.used.map (·.sat)) (measureLoads s))
    serveRequests a tag o.grants (runMoves tag s)

/-! ### External pulses (R357) -/

/-- The active solution core reads every capture of a unit. -/
def readCaptures (a n : Nat) : Nat → State → List Capture × State
  | 0, s => ([], s)
  | fuel + 1, s =>
    if (s.evc n).queue.isEmpty then ([], s)
    else
      let s := evcCapFracRead a n s
      let c := latchedCapture (s.evc n) a
      let (t, s) := readCaptures a n fuel (evcCapInfoRead a n s)
      (c.toList ++ t, s)

/-- The capture of a second: the only one without OUTWIN and CLKFLT within half a second of it. -/
def captureOf (cs : List Capture) (sec : Nat) : Option Nat :=
  match cs.filter fun c => !c.info.testBit 5 && !c.info.testBit 4 && decide (((c.time : Int) - (sec * 2 ^ 48 : Nat)).natAbs < 2 ^ 47) with
  | [c] => some c.time
  | _ => none

/-- Whether a capture and the time of day of its second give a valid offset: the time of day comes within 900 ms, and the
second follows the last valid one. -/
def pulseFits (last : Option (Nat × Nat)) (t sec arrived : Nat) : Bool :=
  decide (t ≤ arrived) && decide ((arrived - t) * 10 ≤ 9 * 2 ^ 48) &&
    match last with
    | none => true
    | some (s0, t0) => sec == s0 + (t + 2 ^ 47 - t0) / 2 ^ 48

/-- What a second's captures and its time of day give for an external pulse. -/
def pulseOffset (cs : List Capture) (x : ExtSource) (tod : Option (Nat × Nat)) : ExtSource :=
  match tod with
  | none => { x with offset := none }
  | some (sec, arrived) =>
    match captureOf cs sec with
    | none => { x with offset := none }
    | some t =>
      if pulseFits x.last t sec arrived then ⟨some (sec, t), some ((t : Int) - (sec * 2 ^ 48 : Nat))⟩ else { x with offset := none }

/-- The source offset of an external pulse for the present second; a second without one is a missed offset (R330, R357). -/
def extPulse (n : Nat) (s : State) : State :=
  let a := activeCore s
  if !activeRuns s then s
  else
    let (cs, s) := readCaptures a n (s.evc n).queue.length s
    let x := pulseOffset cs (s.nav.ext.getD n {}) (s.hst.evcTod.getD n none)
    let s := { s with nav := { s.nav with ext := s.nav.ext.setIfInBounds n x },
                      hst := { s.hst with evcTod := s.hst.evcTod.setIfInBounds n none } }
    let r := srcAt s (n + 5)
    srcSet (n + 5) (match x.offset with | some o => srcOffset s r (toPs48 o) | none => srcMissed s r) s

/-! ### Meanings -/

/-- SOLUTION_EPOCH (R285). -/
def execSolutionEpoch (out : SolOut) (s : State) : Host.Outcome State Fault Refusal := done (solutionEpoch out s)

/-- HOLDOVER_FREQ_UPDATE (R336). -/
def execHoldoverFreqUpdate (s : State) : Host.Outcome State Fault Refusal := done (holdoverUpdate s)

/-- EXT_PULSE_OFFSET (R357). -/
def execExtPulseOffset (unit : Fin 8) (s : State) : Host.Outcome State Fault Refusal := done (extPulse unit s)

end Sys2Proof.Machine
end

