-- ==== Sys2Proof/Machine/Dispatch.lean ====
section
/-!
DEFINITION. The dispatch of a command to its meaning: one arm for each constructor of `Instr`.
-/

namespace Sys2Proof.Machine

def exec (i : Instr) (s : State) : Host.Outcome State Fault Refusal :=
  match i with
  | .registerWrite init addr value => Sys2Proof.Machine.execRegisterWrite init addr value s
  | .halfWriteStage init addr value => Sys2Proof.Machine.execHalfWriteStage init addr value s
  | .halfReadLatch init addr => Sys2Proof.Machine.execHalfReadLatch init addr s
  | .icTransaction init addr op => Sys2Proof.Machine.execIcTransaction init addr op s
  | .icTimeout init addr write => Sys2Proof.Machine.execIcTimeout init addr write s
  | .icErrlogRead init => Sys2Proof.Machine.execIcErrlogRead init s
  | .icErrinfoRead init => Sys2Proof.Machine.execIcErrinfoRead init s
  | .firewallLock init => Sys2Proof.Machine.execFirewallLock init s
  | .spEnable port => Sys2Proof.Machine.execSpEnable port s
  | .spDisable port => Sys2Proof.Machine.execSpDisable port s
  | .bcenEnable port => Sys2Proof.Machine.execBcenEnable port s
  | .bcenDisable port => Sys2Proof.Machine.execBcenDisable port s
  | .spConfigWrite port value => Sys2Proof.Machine.execSpConfigWrite port value s
  | .maskWrite port mask => Sys2Proof.Machine.execMaskWrite port mask s
  | .maskTimeout port => Sys2Proof.Machine.execMaskTimeout port s
  | .backchannelFrame port => Sys2Proof.Machine.execBackchannelFrame port s
  | .receiveFrame port frame => Sys2Proof.Machine.execReceiveFrame port frame s
  | .frameMissing port => Sys2Proof.Machine.execFrameMissing port s
  | .linkdownMutedFrame port => Sys2Proof.Machine.execLinkdownMutedFrame port s
  | .spSlatefracRead init port => Sys2Proof.Machine.execSpSlatefracRead init port s
  | .clapperArm => Sys2Proof.Machine.execClapperArm s
  | .clapperDisarm => Sys2Proof.Machine.execClapperDisarm s
  | .clapperFire => Sys2Proof.Machine.execClapperFire s
  | .conditionFrame stream => Sys2Proof.Machine.execConditionFrame stream s
  | .blankerBlock stream => Sys2Proof.Machine.execBlankerBlock stream s
  | .notchBlock stream => Sys2Proof.Machine.execNotchBlock stream s
  | .agcBlock stream => Sys2Proof.Machine.execAgcBlock stream s
  | .statIntervalEnd stream => Sys2Proof.Machine.execStatIntervalEnd stream s
  | .condSoftrst stream => Sys2Proof.Machine.execCondSoftrst stream s
  | .fecStart port => Sys2Proof.Machine.execFecStart port s
  | .fecBandchg port => Sys2Proof.Machine.execFecBandchg port s
  | .fecReformat port => Sys2Proof.Machine.execFecReformat port s
  | .fecGain port => Sys2Proof.Machine.execFecGain port s
  | .fecStop port => Sys2Proof.Machine.execFecStop port s
  | .fecRestart port => Sys2Proof.Machine.execFecRestart port s
  | .fecTlmpage port page => Sys2Proof.Machine.execFecTlmpage port page s
  | .fecHeadreset port => Sys2Proof.Machine.execFecHeadreset port s
  | .cmdTimeout port => Sys2Proof.Machine.execCmdTimeout port s
  | .callimExpiry port => Sys2Proof.Machine.execCallimExpiry port s
  | .settleExpiry port => Sys2Proof.Machine.execSettleExpiry port s
  | .heldCmdTimeout port => Sys2Proof.Machine.execHeldCmdTimeout port s
  | .brtRouteWrite input value => Sys2Proof.Machine.execBrtRouteWrite input value s
  | .engineBlock chan => Sys2Proof.Machine.execEngineBlock chan s
  | .ringDbTimeout ring => Sys2Proof.Machine.execRingDbTimeout ring s
  | .ringRpWrite ring value => Sys2Proof.Machine.execRingRpWrite ring value s
  | .ringBaseWrite ring value => Sys2Proof.Machine.execRingBaseWrite ring value s
  | .contextWrite init chan word value => Sys2Proof.Machine.execContextWrite init chan word value s
  | .cshStart init port tag chan => Sys2Proof.Machine.execCshStart init port tag chan s
  | .cshStop init port tag chan => Sys2Proof.Machine.execCshStop init port tag chan s
  | .cshRemap init port tag chan ringNew => Sys2Proof.Machine.execCshRemap init port tag chan ringNew s
  | .cshRingmove init port tag ringFrom ringNew => Sys2Proof.Machine.execCshRingmove init port tag ringFrom ringNew s
  | .cshRspRead port => Sys2Proof.Machine.execCshRspRead port s
  | .aidingCommit init port value => Sys2Proof.Machine.execAidingCommit init port value s
  | .aidingTransfer port => Sys2Proof.Machine.execAidingTransfer port s
  | .codeRamWrite init word value => Sys2Proof.Machine.execCodeRamWrite init word value s
  | .cgnCrcCheck first count => Sys2Proof.Machine.execCgnCrcCheck first count s
  | .cgnCrcDone => Sys2Proof.Machine.execCgnCrcDone s
  | .seStart slot => Sys2Proof.Machine.execSeStart slot s
  | .seAbort slot => Sys2Proof.Machine.execSeAbort slot s
  | .seGridOrigin slot => Sys2Proof.Machine.execSeGridOrigin slot s
  | .seBlock slot => Sys2Proof.Machine.execSeBlock slot s
  | .seBlockComplete slot => Sys2Proof.Machine.execSeBlockComplete slot s
  | .seRptDbTimeout => Sys2Proof.Machine.execSeRptDbTimeout s
  | .reelArm input => Sys2Proof.Machine.execReelArm input s
  | .reelStop input => Sys2Proof.Machine.execReelStop input s
  | .reelTrigger input => Sys2Proof.Machine.execReelTrigger input s
  | .reelFracRead init input last => Sys2Proof.Machine.execReelFracRead init input last s
  | .pmov core mv1 mv2 => Sys2Proof.Machine.execPmov core mv1 mv2 s
  | .mpy core ad x y mv1 mv2 => Sys2Proof.Machine.execMpy core ad x y mv1 mv2 s
  | .mac core ad x y mv1 mv2 => Sys2Proof.Machine.execMac core ad x y mv1 mv2 s
  | .msu core ad x y mv1 mv2 => Sys2Proof.Machine.execMsu core ad x y mv1 mv2 s
  | .mpysu core ad x y mv1 mv2 => Sys2Proof.Machine.execMpysu core ad x y mv1 mv2 s
  | .macsu core ad x y mv1 mv2 => Sys2Proof.Machine.execMacsu core ad x y mv1 mv2 s
  | .macuu core ad x y mv1 mv2 => Sys2Proof.Machine.execMacuu core ad x y mv1 mv2 s
  | .accx core ad x mv1 mv2 => Sys2Proof.Machine.execAccx core ad x mv1 mv2 s
  | .mov core d s1 s2 mv => Sys2Proof.Machine.execMov core d s1 s2 mv s
  | .add core d s1 s2 mv => Sys2Proof.Machine.execAdd core d s1 s2 mv s
  | .adc core d s1 s2 mv => Sys2Proof.Machine.execAdc core d s1 s2 mv s
  | .sub core d s1 s2 mv => Sys2Proof.Machine.execSub core d s1 s2 mv s
  | .sbc core d s1 s2 mv => Sys2Proof.Machine.execSbc core d s1 s2 mv s
  | .adds core d s1 s2 mv => Sys2Proof.Machine.execAdds core d s1 s2 mv s
  | .subs core d s1 s2 mv => Sys2Proof.Machine.execSubs core d s1 s2 mv s
  | .neg core d s1 s2 mv => Sys2Proof.Machine.execNeg core d s1 s2 mv s
  | .abs core d s1 s2 mv => Sys2Proof.Machine.execAbs core d s1 s2 mv s
  | .and core d s1 s2 mv => Sys2Proof.Machine.execAnd core d s1 s2 mv s
  | .or core d s1 s2 mv => Sys2Proof.Machine.execOr core d s1 s2 mv s
  | .xor core d s1 s2 mv => Sys2Proof.Machine.execXor core d s1 s2 mv s
  | .andn core d s1 s2 mv => Sys2Proof.Machine.execAndn core d s1 s2 mv s
  | .not core d s1 s2 mv => Sys2Proof.Machine.execNot core d s1 s2 mv s
  | .shl core d s1 s2 mv => Sys2Proof.Machine.execShl core d s1 s2 mv s
  | .shr core d s1 s2 mv => Sys2Proof.Machine.execShr core d s1 s2 mv s
  | .sra core d s1 s2 mv => Sys2Proof.Machine.execSra core d s1 s2 mv s
  | .min core d s1 s2 mv => Sys2Proof.Machine.execMin core d s1 s2 mv s
  | .max core d s1 s2 mv => Sys2Proof.Machine.execMax core d s1 s2 mv s
  | .cmp core d s1 s2 mv => Sys2Proof.Machine.execCmp core d s1 s2 mv s
  | .tst core d s1 s2 mv => Sys2Proof.Machine.execTst core d s1 s2 mv s
  | .cls core d s1 s2 mv => Sys2Proof.Machine.execCls core d s1 s2 mv s
  | .mull core d s1 s2 mv => Sys2Proof.Machine.execMull core d s1 s2 mv s
  | .ldi core d imm => Sys2Proof.Machine.execLdi core d imm s
  | .ldih core d imm => Sys2Proof.Machine.execLdih core d imm s
  | .addi core d src imm => Sys2Proof.Machine.execAddi core d src imm s
  | .andi core d src imm => Sys2Proof.Machine.execAndi core d src imm s
  | .ori core d src imm => Sys2Proof.Machine.execOri core d src imm s
  | .xori core d src imm => Sys2Proof.Machine.execXori core d src imm s
  | .cmpi core d src imm => Sys2Proof.Machine.execCmpi core d src imm s
  | .shli core d src n => Sys2Proof.Machine.execShli core d src n s
  | .shri core d src n => Sys2Proof.Machine.execShri core d src n s
  | .srai core d src n => Sys2Proof.Machine.execSrai core d src n s
  | .clra core ad asel g n => Sys2Proof.Machine.execClra core ad asel g n s
  | .mva core ad asel g n => Sys2Proof.Machine.execMva core ad asel g n s
  | .rdal core ad asel g n => Sys2Proof.Machine.execRdal core ad asel g n s
  | .rdah core ad asel g n => Sys2Proof.Machine.execRdah core ad asel g n s
  | .rdag core ad asel g n => Sys2Proof.Machine.execRdag core ad asel g n s
  | .wral core ad asel g n => Sys2Proof.Machine.execWral core ad asel g n s
  | .wrah core ad asel g n => Sys2Proof.Machine.execWrah core ad asel g n s
  | .wrag core ad asel g n => Sys2Proof.Machine.execWrag core ad asel g n s
  | .lda core ad asel g n => Sys2Proof.Machine.execLda core ad asel g n s
  | .adda core ad asel g n => Sys2Proof.Machine.execAdda core ad asel g n s
  | .suba core ad asel g n => Sys2Proof.Machine.execSuba core ad asel g n s
  | .nega core ad asel g n => Sys2Proof.Machine.execNega core ad asel g n s
  | .asla core ad asel g n => Sys2Proof.Machine.execAsla core ad asel g n s
  | .asra core ad asel g n => Sys2Proof.Machine.execAsra core ad asel g n s
  | .norma core ad asel g n => Sys2Proof.Machine.execNorma core ad asel g n s
  | .mova core ad asel g n => Sys2Proof.Machine.execMova core ad asel g n s
  | .tsta core ad asel g n => Sys2Proof.Machine.execTsta core ad asel g n s
  | .ldx core reg ptr ofs => Sys2Proof.Machine.execLdx core reg ptr ofs s
  | .stx core reg ptr ofs => Sys2Proof.Machine.execStx core reg ptr ofs s
  | .ldd core reg addr => Sys2Proof.Machine.execLdd core reg addr s
  | .std core reg addr => Sys2Proof.Machine.execStd core reg addr s
  | .ldg core reg base size sx ofs => Sys2Proof.Machine.execLdg core reg base size sx ofs s
  | .stg core reg base size sx ofs => Sys2Proof.Machine.execStg core reg base size sx ofs s
  | .aadd core reg base size sx ofs => Sys2Proof.Machine.execAadd core reg base size sx ofs s
  | .aswp core reg base size sx ofs => Sys2Proof.Machine.execAswp core reg base size sx ofs s
  | .ldpi core ptr kind g imm => Sys2Proof.Machine.execLdpi core ptr kind g imm s
  | .ldbi core ptr kind g imm => Sys2Proof.Machine.execLdbi core ptr kind g imm s
  | .ldli core ptr kind g imm => Sys2Proof.Machine.execLdli core ptr kind g imm s
  | .ldmi core ptr kind g imm => Sys2Proof.Machine.execLdmi core ptr kind g imm s
  | .ldpg core ptr kind g imm => Sys2Proof.Machine.execLdpg core ptr kind g imm s
  | .ldbg core ptr kind g imm => Sys2Proof.Machine.execLdbg core ptr kind g imm s
  | .ldlg core ptr kind g imm => Sys2Proof.Machine.execLdlg core ptr kind g imm s
  | .ldmg core ptr kind g imm => Sys2Proof.Machine.execLdmg core ptr kind g imm s
  | .rdar core ptr kind g imm => Sys2Proof.Machine.execRdar core ptr kind g imm s
  | .modp core ptr kind g imm => Sys2Proof.Machine.execModp core ptr kind g imm s
  | .modpm core ptr kind g imm => Sys2Proof.Machine.execModpm core ptr kind g imm s
  | .br core cond g count target => Sys2Proof.Machine.execBr core cond g count target s
  | .jmp core cond g count target => Sys2Proof.Machine.execJmp core cond g count target s
  | .jr core cond g count target => Sys2Proof.Machine.execJr core cond g count target s
  | .call core cond g count target => Sys2Proof.Machine.execCall core cond g count target s
  | .callr core cond g count target => Sys2Proof.Machine.execCallr core cond g count target s
  | .ret core cond g count target => Sys2Proof.Machine.execRet core cond g count target s
  | .rte core cond g count target => Sys2Proof.Machine.execRte core cond g count target s
  | .loop core cond g count target => Sys2Proof.Machine.execLoop core cond g count target s
  | .loopg core cond g count target => Sys2Proof.Machine.execLoopg core cond g count target s
  | .dbnz core cond g count target => Sys2Proof.Machine.execDbnz core cond g count target s
  | .trap core cond g count target => Sys2Proof.Machine.execTrap core cond g count target s
  | .brk core cond g count target => Sys2Proof.Machine.execBrk core cond g count target s
  | .nop core g spec arg => Sys2Proof.Machine.execNop core g spec arg s
  | .mvs core g spec arg => Sys2Proof.Machine.execMvs core g spec arg s
  | .mvsr core g spec arg => Sys2Proof.Machine.execMvsr core g spec arg s
  | .setm core g spec arg => Sys2Proof.Machine.execSetm core g spec arg s
  | .clrst core g spec arg => Sys2Proof.Machine.execClrst core g spec arg s
  | .fence core g spec arg => Sys2Proof.Machine.execFence core g spec arg s
  | .wait core g spec arg => Sys2Proof.Machine.execWait core g spec arg s
  | .halt core g spec arg => Sys2Proof.Machine.execHalt core g spec arg s
  | .signal core g spec arg => Sys2Proof.Machine.execSignal core g spec arg s
  | .irqEntry core => Sys2Proof.Machine.execIrqEntry core s
  | .nmiEntry core => Sys2Proof.Machine.execNmiEntry core s
  | .globalLoadReturn core => Sys2Proof.Machine.execGlobalLoadReturn core s
  | .busErrorResponse core => Sys2Proof.Machine.execBusErrorResponse core s
  | .kcStart core => Sys2Proof.Machine.execKcStart core s
  | .kcReset core => Sys2Proof.Machine.execKcReset core s
  | .kcNmi core => Sys2Proof.Machine.execKcNmi core s
  | .kcHaltreq core on => Sys2Proof.Machine.execKcHaltreq core on s
  | .kcStep core => Sys2Proof.Machine.execKcStep core s
  | .kcTimerExpiry core => Sys2Proof.Machine.execKcTimerExpiry core s
  | .coreWindowAccess init core offset op => Sys2Proof.Machine.execCoreWindowAccess init core offset op s
  | .lcBatch core outs => Sys2Proof.Machine.execLcBatch core outs s
  | .lcWatchdogKickTimer core => Sys2Proof.Machine.execLcWatchdogKickTimer core s
  | .solutionEpoch out => Sys2Proof.Machine.execSolutionEpoch out s
  | .standbyScEpoch osnma requests => Sys2Proof.Machine.execStandbyScEpoch osnma requests s
  | .plannedHandover chan target tag => Sys2Proof.Machine.execPlannedHandover chan target tag s
  | .lcMigration core tag => Sys2Proof.Machine.execLcMigration core tag s
  | .ringAdoption outs => Sys2Proof.Machine.execRingAdoption outs s
  | .scFailover second => Sys2Proof.Machine.execScFailover second s
  | .holdoverFreqUpdate => Sys2Proof.Machine.execHoldoverFreqUpdate s
  | .tbLoad init => Sys2Proof.Machine.execTbLoad init s
  | .loadTakeEffect => Sys2Proof.Machine.execLoadTakeEffect s
  | .tbStep init => Sys2Proof.Machine.execTbStep init s
  | .stepTick => Sys2Proof.Machine.execStepTick s
  | .tbSlew init => Sys2Proof.Machine.execTbSlew init s
  | .slewEnd => Sys2Proof.Machine.execSlewEnd s
  | .tbSlewstop init => Sys2Proof.Machine.execTbSlewstop init s
  | .tbFreqWrite init value => Sys2Proof.Machine.execTbFreqWrite init value s
  | .freqRampMove => Sys2Proof.Machine.execFreqRampMove s
  | .leapApply => Sys2Proof.Machine.execLeapApply s
  | .tbFracRead init => Sys2Proof.Machine.execTbFracRead init s
  | .tpgArm init gen => Sys2Proof.Machine.execTpgArm init gen s
  | .tpgDisarm init gen => Sys2Proof.Machine.execTpgDisarm init gen s
  | .tpgLeadingEdge gen => Sys2Proof.Machine.execTpgLeadingEdge gen s
  | .tpgTrailingEdge gen => Sys2Proof.Machine.execTpgTrailingEdge gen s
  | .tpgNextlastFracRead init gen last => Sys2Proof.Machine.execTpgNextlastFracRead init gen last s
  | .todStringStart => Sys2Proof.Machine.execTodStringStart s
  | .unitClaim init unit => Sys2Proof.Machine.execUnitClaim init unit s
  | .unitRelease init unit => Sys2Proof.Machine.execUnitRelease init unit s
  | .unitForceRelease init unit => Sys2Proof.Machine.execUnitForceRelease init unit s
  | .evcInputEdge unit fine => Sys2Proof.Machine.execEvcInputEdge unit fine s
  | .evcCapture unit => Sys2Proof.Machine.execEvcCapture unit s
  | .evcWindowMiss unit => Sys2Proof.Machine.execEvcWindowMiss unit s
  | .evcFlush init unit => Sys2Proof.Machine.execEvcFlush init unit s
  | .evcCapfracRead init unit => Sys2Proof.Machine.execEvcCapfracRead init unit s
  | .evcCapinfoRead init unit => Sys2Proof.Machine.execEvcCapinfoRead init unit s
  | .extPulseOffset unit => Sys2Proof.Machine.execExtPulseOffset unit s
  | .clkRelock => Sys2Proof.Machine.execClkRelock s
  | .clkSwitch => Sys2Proof.Machine.execClkSwitch s
  | .refLos => Sys2Proof.Machine.execRefLos s
  | .refAbsent => Sys2Proof.Machine.execRefAbsent s
  | .refPresent ref => Sys2Proof.Machine.execRefPresent ref s
  | .refQualified ref => Sys2Proof.Machine.execRefQualified ref s
  | .refcmpWindow y => Sys2Proof.Machine.execRefcmpWindow y s
  | .refSwitchTick => Sys2Proof.Machine.execRefSwitchTick s
  | .pllLocked => Sys2Proof.Machine.execPllLocked s
  | .pllLol => Sys2Proof.Machine.execPllLol s
  | .relockTimeout => Sys2Proof.Machine.execRelockTimeout s
  | .rootBootTimeout late => Sys2Proof.Machine.execRootBootTimeout late s
  | .osyEnable unit => Sys2Proof.Machine.execOsyEnable unit s
  | .osyDisable unit => Sys2Proof.Machine.execOsyDisable unit s
  | .osyLocked unit => Sys2Proof.Machine.execOsyLocked unit s
  | .osyLol unit => Sys2Proof.Machine.execOsyLol unit s
  | .osyRelock unit => Sys2Proof.Machine.execOsyRelock unit s
  | .osyOutputEnable unit out => Sys2Proof.Machine.execOsyOutputEnable unit out s
  | .osyOutputDisable unit out => Sys2Proof.Machine.execOsyOutputDisable unit out s
  | .rampgo unit => Sys2Proof.Machine.execRampgo unit s
  | .rampSegmentEnd unit => Sys2Proof.Machine.execRampSegmentEnd unit s
  | .rampstop unit => Sys2Proof.Machine.execRampstop unit s
  | .phmeas unit out => Sys2Proof.Machine.execPhmeas unit out s
  | .osyPhaseCapture unit => Sys2Proof.Machine.execOsyPhaseCapture unit s
  | .bandmeas unit band => Sys2Proof.Machine.execBandmeas unit band s
  | .bandmeasDone unit flo fhi => Sys2Proof.Machine.execBandmeasDone unit flo fhi s
  | .ethEnable port => Sys2Proof.Machine.execEthEnable port s
  | .ethLinkChange port up => Sys2Proof.Machine.execEthLinkChange port up s
  | .syncInstant port waits => Sys2Proof.Machine.execSyncInstant port waits s
  | .delayReqReceived port req => Sys2Proof.Machine.execDelayReqReceived port req s
  | .ethFrameReceived port kind tlv fine frame => Sys2Proof.Machine.execEthFrameReceived port kind tlv fine frame s
  | .ethTxSlot port fine => Sys2Proof.Machine.execEthTxSlot port fine s
  | .ethRefFallback port => Sys2Proof.Machine.execEthRefFallback port s
  | .esmcInfoPdu port => Sys2Proof.Machine.execEsmcInfoPdu port s
  | .esmcEventPdu port => Sys2Proof.Machine.execEsmcEventPdu port s
  | .esmcReceived port ql => Sys2Proof.Machine.execEsmcReceived port ql s
  | .esmcTimeout port => Sys2Proof.Machine.execEsmcTimeout port s
  | .rxfreqWindow port freq => Sys2Proof.Machine.execRxfreqWindow port freq s
  | .ptpSourceOffset port exchanges parent unc => Sys2Proof.Machine.execPtpSourceOffset port exchanges parent unc s
  | .pageGive init page newOwner => Sys2Proof.Machine.execPageGive init page newOwner s
  | .pageZero init page mask => Sys2Proof.Machine.execPageZero init page mask s
  | .pageReclaim init pages => Sys2Proof.Machine.execPageReclaim init pages s
  | .ctrEnc => Sys2Proof.Machine.execCtrEnc s
  | .ctrDec => Sys2Proof.Machine.execCtrDec s
  | .gcmEnc => Sys2Proof.Machine.execGcmEnc s
  | .gcmDec => Sys2Proof.Machine.execGcmDec s
  | .cmacGen => Sys2Proof.Machine.execCmacGen s
  | .cmacVer => Sys2Proof.Machine.execCmacVer s
  | .hmacGen => Sys2Proof.Machine.execHmacGen s
  | .hmacVer => Sys2Proof.Machine.execHmacVer s
  | .hmac384Gen => Sys2Proof.Machine.execHmac384Gen s
  | .hmac384Ver => Sys2Proof.Machine.execHmac384Ver s
  | .sha256 => Sys2Proof.Machine.execSha256 s
  | .sha384 => Sys2Proof.Machine.execSha384 s
  | .unwrap => Sys2Proof.Machine.execUnwrap s
  | .cxeOpComplete => Sys2Proof.Machine.execCxeOpComplete s
  | .svuSubmit init desc => Sys2Proof.Machine.execSvuSubmit init desc s
  | .svuJobComplete => Sys2Proof.Machine.execSvuJobComplete s
  | .lifecycleRequest init target req => Sys2Proof.Machine.execLifecycleRequest init target req s
  | .dbgCertSubmit init => Sys2Proof.Machine.execDbgCertSubmit init s
  | .dbgLevelReq init level => Sys2Proof.Machine.execDbgLevelReq init level s
  | .dbgDrop init => Sys2Proof.Machine.execDbgDrop init s
  | .trustreqWrite init req => Sys2Proof.Machine.execTrustreqWrite init req s
  | .secureBootCheck => Sys2Proof.Machine.execSecureBootCheck s
  | .confclr => Sys2Proof.Machine.execConfclr s
  | .scrubRead => Sys2Proof.Machine.execScrubRead s
  | .marchGo init first last preserving => Sys2Proof.Machine.execMarchGo init first last preserving s
  | .marchComplete fails still => Sys2Proof.Machine.execMarchComplete fails still s
  | .repairRecord init bank row => Sys2Proof.Machine.execRepairRecord init bank row s
  | .nvsWordWrite => Sys2Proof.Machine.execNvsWordWrite s
  | .chainCommit init addr => Sys2Proof.Machine.execChainCommit init addr s
  | .chainLock init => Sys2Proof.Machine.execChainLock init s
  | .chainSigned init addr => Sys2Proof.Machine.execChainSigned init addr s
  | .chainReload init => Sys2Proof.Machine.execChainReload init s
  | .chainCommandDone ok => Sys2Proof.Machine.execChainCommandDone ok s
  | .otpRead init row => Sys2Proof.Machine.execOtpRead init row s
  | .otpProg init row => Sys2Proof.Machine.execOtpProg init row s
  | .otpProgDone => Sys2Proof.Machine.execOtpProgDone s
  | .levelChange init target => Sys2Proof.Machine.execLevelChange init target s
  | .levelSettleEnd => Sys2Proof.Machine.execLevelSettleEnd s
  | .vidfailTimeout => Sys2Proof.Machine.execVidfailTimeout s
  | .standbyEntry init => Sys2Proof.Machine.execStandbyEntry init s
  | .standbyExit init => Sys2Proof.Machine.execStandbyExit init s
  | .keeptimeEntry init => Sys2Proof.Machine.execKeeptimeEntry init s
  | .deepEntry init => Sys2Proof.Machine.execDeepEntry init s
  | .cutover => Sys2Proof.Machine.execCutover s
  | .wakePin level => Sys2Proof.Machine.execWakePin level s
  | .rtcAlarm => Sys2Proof.Machine.execRtcAlarm s
  | .i2cAddrWake => Sys2Proof.Machine.execI2cAddrWake s
  | .ev0WakeEdge falling => Sys2Proof.Machine.execEv0WakeEdge falling s
  | .dbgreqWake => Sys2Proof.Machine.execDbgreqWake s
  | .powerUp => Sys2Proof.Machine.execPowerUp s
  | .coldReset => Sys2Proof.Machine.execColdReset s
  | .resetPin => Sys2Proof.Machine.execResetPin s
  | .brownout => Sys2Proof.Machine.execBrownout s
  | .freqCheck deviation => Sys2Proof.Machine.execFreqCheck deviation s
  | .grossCheck tb corr sys per => Sys2Proof.Machine.execGrossCheck tb corr sys per s
  | .clockFaultEnd => Sys2Proof.Machine.execClockFaultEnd s
  | .wdogKick init core => Sys2Proof.Machine.execWdogKick init core s
  | .watchdogExpiry core => Sys2Proof.Machine.execWatchdogExpiry core s
  | .supplySample mv => Sys2Proof.Machine.execSupplySample mv s
  | .tempSample t => Sys2Proof.Machine.execTempSample t s
  | .swlogWrite init value => Sys2Proof.Machine.execSwlogWrite init value s
  | .pinClaim init pin => Sys2Proof.Machine.execPinClaim init pin s
  | .pinRelease init pin => Sys2Proof.Machine.execPinRelease init pin s
  | .pinForceRelease init pin => Sys2Proof.Machine.execPinForceRelease init pin s
  | .bootFlash image ok => Sys2Proof.Machine.execBootFlash image ok s
  | .hstBootgo init value => Sys2Proof.Machine.execHstBootgo init value s
  | .bootstatOutput => Sys2Proof.Machine.execBootstatOutput s
  | .pcieRequest req => Sys2Proof.Machine.execPcieRequest req s
  | .pcieReset => Sys2Proof.Machine.execPcieReset s
  | .msixTrig init vector => Sys2Proof.Machine.execMsixTrig init vector s
  | .mbinPost init len => Sys2Proof.Machine.execMbinPost init len s
  | .mbinAck init => Sys2Proof.Machine.execMbinAck init s
  | .mboutPost init len => Sys2Proof.Machine.execMboutPost init len s
  | .mboutAck init => Sys2Proof.Machine.execMboutAck init s
  | .spiStatus => Sys2Proof.Machine.execSpiStatus s
  | .spiWrite addr bytes => Sys2Proof.Machine.execSpiWrite addr bytes s
  | .spiRead addr n inTime => Sys2Proof.Machine.execSpiRead addr n inTime s
  | .spiEmpw bytes => Sys2Proof.Machine.execSpiEmpw bytes s
  | .spiEmpr n => Sys2Proof.Machine.execSpiEmpr n s
  | .uartByteReceived uart byte framing brk => Sys2Proof.Machine.execUartByteReceived uart byte framing brk s
  | .uartByteSent uart => Sys2Proof.Machine.execUartByteSent uart s
  | .i2cWriteTransfer bytes => Sys2Proof.Machine.execI2cWriteTransfer bytes s
  | .i2cReadTransfer n => Sys2Proof.Machine.execI2cReadTransfer n s
  | .empFrame link reading => Sys2Proof.Machine.execEmpFrame link reading s
  | .empFrameTimeout link => Sys2Proof.Machine.execEmpFrameTimeout link s
  | .empSysVersion link => Sys2Proof.Machine.execEmpSysVersion link s
  | .empSysCaps link => Sys2Proof.Machine.execEmpSysCaps link s
  | .empSysReset link => Sys2Proof.Machine.execEmpSysReset link s
  | .empSysRestartcore link core image => Sys2Proof.Machine.execEmpSysRestartcore link core image s
  | .empSysStats link => Sys2Proof.Machine.execEmpSysStats link s
  | .empSysOutcfg link cls num links period => Sys2Proof.Machine.execEmpSysOutcfg link cls num links period s
  | .empCfgGet link word => Sys2Proof.Machine.execEmpCfgGet link word s
  | .empCfgSet link word value => Sys2Proof.Machine.execEmpCfgSet link word value s
  | .empCfgPtprx link minex accclass => Sys2Proof.Machine.execEmpCfgPtprx link minex accclass s
  | .empTimeStatus link => Sys2Proof.Machine.execEmpTimeStatus link s
  | .empTimeLoad link sec frac => Sys2Proof.Machine.execEmpTimeLoad link sec frac s
  | .empTimeStep link ps => Sys2Proof.Machine.execEmpTimeStep link ps s
  | .empTimeSlew link ps rate => Sys2Proof.Machine.execEmpTimeSlew link ps rate s
  | .empTimeUtc link cur new pend leapsec => Sys2Proof.Machine.execEmpTimeUtc link cur new pend leapsec s
  | .empMeasSubscribe link antennas => Sys2Proof.Machine.execEmpMeasSubscribe link antennas s
  | .empChanRequest link antenna sys svid sig at_ entry => Sys2Proof.Machine.execEmpChanRequest link antenna sys svid sig at_ entry s
  | .empChanRelease link at_ entry => Sys2Proof.Machine.execEmpChanRelease link at_ entry s
  | .empPwrState link target => Sys2Proof.Machine.execEmpPwrState link target s
  | .empPwrLevel link target => Sys2Proof.Machine.execEmpPwrLevel link target s
  | .empChainRead link => Sys2Proof.Machine.execEmpChainRead link s
  | .empChainCommit link addr image => Sys2Proof.Machine.execEmpChainCommit link addr image s
  | .empChainLock link => Sys2Proof.Machine.execEmpChainLock link s
  | .empChainSigned link addr image => Sys2Proof.Machine.execEmpChainSigned link addr image s
  | .empLogRead link seq => Sys2Proof.Machine.execEmpLogRead link seq s
  | .empLogWrite link value => Sys2Proof.Machine.execEmpLogWrite link value s
  | .empPtpPortcfg link port writes => Sys2Proof.Machine.execEmpPtpPortcfg link port writes s
  | .empPtpGrants link index entry => Sys2Proof.Machine.execEmpPtpGrants link index entry s
  | .empExtTod link unit year month day hour minute second => Sys2Proof.Machine.execEmpExtTod link unit year month day hour minute second s
  | .empExtTemp link temp => Sys2Proof.Machine.execEmpExtTemp link temp s
  | .empExtZdain link uart unit => Sys2Proof.Machine.execEmpExtZdain link uart unit s
  | .empNmeaCfg link version sentences uarts pshat => Sys2Proof.Machine.execEmpNmeaCfg link version sentences uarts pshat s
  | .empBootData link offset bytes => Sys2Proof.Machine.execEmpBootData link offset bytes s
  | .empBootGo link len => Sys2Proof.Machine.execEmpBootGo link len s
  | .nmeaOutput => Sys2Proof.Machine.execNmeaOutput s
  | .todQueue init uart len => Sys2Proof.Machine.execTodQueue init uart len s
  | .dbgTraceEnable init wrap => Sys2Proof.Machine.execDbgTraceEnable init wrap s
  | .tick => Sys2Proof.Machine.execTick s
  | .baudSynthLossOfLock => Sys2Proof.Machine.execBaudSynthLossOfLock s
  | .pcieLinkChange up speed width => Sys2Proof.Machine.execPcieLinkChange up speed width s
  | .certificateVerified key => Sys2Proof.Machine.execCertificateVerified key s
  | .lifecycleRequestVerified key => Sys2Proof.Machine.execLifecycleRequestVerified key s
  | .crystalSwitchover => Sys2Proof.Machine.execCrystalSwitchover s
  | .vddAonInLoss => Sys2Proof.Machine.execVddAonInLoss s

end Sys2Proof.Machine
end

