-- ==== Sys2Proof/Safety.lean ====
section
/-!
DEFINITION. What the claims call safe (no step stops, and registers and memory stay in their canonical form), and the states
and ends of an instruction that the claims about the Kloko cores speak of.
-/

namespace Sys2Proof.Machine

/-- The registers and the memory are in their canonical form. -/
def State.wf (s : State) : Bool := Regs.wf s.regs && Memory.wf s.mem

/-- The next step answers a state. -/
def State.steps (s : State) : Bool :=
  match step s with
  | .next _ => true
  | _ => false

/-- A core that takes its next instruction in RUN: no access is outstanding, no response waits, its word passes its parity,
and no STEP is in progress (R215, R233, R250). -/
structure Ready (n : Nat) (s : State) : Prop where
  issue : mayIssue s n = true
  run : s.coreState n = K_RUN
  out : (s.core n).out = []
  noErr : (s.core n).ldErr = false ∧ (s.core n).stErr = false
  parity : imemBad s n (s.core n).pc.toNat = false
  noStep : (s.core n).stepping = false

/-- The moves of an instruction break no rule of R255, and every data word that they read is good. -/
structure MovesOk (n : Nat) (ms : List Move) (writes : Option Nat) (s : State) : Prop where
  regs : badMoveReg ms = false
  combination : badCombination ms writes = false
  data : (doMoves n (s.core n) ms s).bad = none

/-- The end of an instruction: the core goes on, its cycles and stalls are counted (R237, R238, R266), the transfer is traced (R567),
and causes are taken at the boundary (R243). -/
def finish (i : Instr) (n cost : Nat) (next : After) (len : Option (Nat × BitVec 15)) (raised : List Nat) (s : State) :
    Host.Outcome State Fault Refusal :=
  .next (boundary n raised (traceAfter n next (addCycles i n cost (s.setCore n (endOf (s.core n) next len)))))

/-- An instruction that stops without effect and raises a cause; its cycles are counted. -/
def stops (i : Instr) (n cause : Nat) (s : State) : Host.Outcome State Fault Refusal :=
  .next (boundary n [] (syncCauses n [cause] (s.core n).pc (addCycles i n 1 s)))

/-- The stacks of a core hold what R239 and R241 give them: four loops and sixteen return addresses. -/
def CoreState.stacksOk (c : CoreState) : Bool := decide (c.loops.length ≤ 4) && decide (c.rets.length ≤ 16)

/-- An instruction that accesses the address space beyond its core (R232). -/
def globalInstr (i : Instr) : Bool :=
  match i with
  | .ldg .. | .stg .. | .aadd .. | .aswp .. => true
  | _ => false

end Sys2Proof.Machine
end

