-- ==== Sys2Proof/WellFormed.lean ====
section
/-!
DEFINITION. The well-formed commands: those whose operands have a shape that the outside can give.  The types of the operands
say most of it; what is left are lengths that the spec lays down.
-/

namespace Sys2Proof

/-- A transaction carries at least one byte (R458). -/
def BusOp.wf : BusOp → Bool
  | .read n => decide (0 < n)
  | .write b => !b.isEmpty
  | .atomicAdd _ => true
  | .atomicSwap _ => true

/-- A memory request carries at least one byte (R536). -/
def PcieReq.wf : PcieReq → Bool
  | .read _ n => decide (0 < n)
  | .write _ b => !b.isEmpty
  | .config _ _ _ => true
  | .configBar _ => true
  | .configRead _ => true

/-- The bytes of an IP address of a transport (R399). -/
def ipLength (transport : Fin 3) : Nat := match transport with | 0 => 0 | 1 => 4 | _ => 16

/-- An EMP command as a frame can carry it: a grant entry has 64 bytes (R399). -/
def EmpCmd.wf : EmpCmd → Bool
  | .ptpGrants _ e => e.length == 64
  | _ => true

/-- What a frame is read as. -/
def EmpReading.wf : EmpReading → Bool
  | .cmd c => c.wf
  | .badLen => true
  | .badArg _ => true

/-- A solution epoch decides on no more requests than its command port can queue (R137). -/
def SolOut.wf (o : SolOut) : Bool := decide (o.grants.length ≤ 16)

/-- A well-formed command; the types of all other operands say what the outside can give. -/
def Instr.wf : Instr → Bool
  | .icTransaction _ _ op => op.wf
  | .receiveFrame _ f => f.groups.length == 3840 || f.groups.length == 1920
  | .coreWindowAccess _ _ _ op => op.wf
  | .lcBatch _ o => decide (o.length ≤ 4096)
  | .solutionEpoch o => o.wf
  | .standbyScEpoch _ r => r.all fun x => !x.entry.isEmpty
  | .ringAdoption o => decide (o.length ≤ 4096)
  | .delayReqReceived _ r => r.source.length == 10 && r.sip.length == ipLength r.transport && r.dip.length == ipLength r.transport
  | .ethFrameReceived _ (.grantRequest r) _ _ _ => r.rxpid.length == 10 && r.ip.length == ipLength r.transport
  | .ptpSourceOffset _ _ p _ => p.identity.length == 10
  | .pcieRequest r => r.wf
  | .spiWrite _ b => !b.isEmpty
  | .empFrame _ r => r.wf
  | .empPtpGrants _ _ e => e.length == 64
  | .certificateVerified k => k.length == 64
  | .lifecycleRequestVerified k => k.length == 64
  | _ => true

end Sys2Proof
end

