-- ==== Sys2Proof/Certificates/Slice0/Obligations.lean ====
section
/-!
DEFINITION. The statements for the provers.  A command's statement gives the whole next state, so it says its effect and its
frame at once: what the right-hand side does not name is unchanged.
-/

open Sys2Proof Sys2Proof.Machine

/-- Every ALU instruction (R257) of a core that is ready, with a move beside it or none, completes: D takes the result of R229,
the flags those that the row names, the move is carried out with the registers as they stood before, one cycle passes, and
the core goes on in sequence; CMP and TST write the flags alone.  Nothing else changes but what `finish` names. -/
def Obligations.KlokoAluResults : Prop :=
  ∀ (n : CoreId) (s : State), Ready n s → ∀ (d s1 s2 : Fin 16) (mv : Option Move),
    let c := s.core n
    let o := doMoves n c mv.toList s
    (MovesOk n mv.toList (some d.val) s →
      exec (.mov n d s1 s2 mv) s = finish (.mov n d s1 s2 mv) n 1 .seq none (satCauses c false o.sat) (o.s.setCore n (applyMoves mv.toList o c (c.result d (bitOut (c.gr s1))))) ∧
      exec (.add n d s1 s2 mv) s = finish (.add n d s1 s2 mv) n 1 .seq none (satCauses c false o.sat) (o.s.setCore n (applyMoves mv.toList o c (c.result d (addOut (c.gr s1) (c.gr s2) false)))) ∧
      exec (.adc n d s1 s2 mv) s = finish (.adc n d s1 s2 mv) n 1 .seq none (satCauses c false o.sat) (o.s.setCore n (applyMoves mv.toList o c (c.result d (addOut (c.gr s1) (c.gr s2) (c.stBit ST_C))))) ∧
      exec (.sub n d s1 s2 mv) s = finish (.sub n d s1 s2 mv) n 1 .seq none (satCauses c false o.sat) (o.s.setCore n (applyMoves mv.toList o c (c.result d (subOut (c.gr s1) (c.gr s2) false)))) ∧
      exec (.sbc n d s1 s2 mv) s = finish (.sbc n d s1 s2 mv) n 1 .seq none (satCauses c false o.sat) (o.s.setCore n (applyMoves mv.toList o c (c.result d (subOut (c.gr s1) (c.gr s2) (!c.stBit ST_C))))) ∧
      exec (.adds n d s1 s2 mv) s = finish (.adds n d s1 s2 mv) n 1 .seq none (satCauses c false o.sat) (o.s.setCore n (applyMoves mv.toList o c (c.result d (satOut ((c.gr s1).toInt + (c.gr s2).toInt))))) ∧
      exec (.subs n d s1 s2 mv) s = finish (.subs n d s1 s2 mv) n 1 .seq none (satCauses c false o.sat) (o.s.setCore n (applyMoves mv.toList o c (c.result d (satOut ((c.gr s1).toInt - (c.gr s2).toInt))))) ∧
      exec (.neg n d s1 s2 mv) s = finish (.neg n d s1 s2 mv) n 1 .seq none (satCauses c false o.sat) (o.s.setCore n (applyMoves mv.toList o c (c.result d (negOut (c.gr s1))))) ∧
      exec (.abs n d s1 s2 mv) s = finish (.abs n d s1 s2 mv) n 1 .seq none (satCauses c false o.sat) (o.s.setCore n (applyMoves mv.toList o c (c.result d (satOut ((c.gr s1).toInt.natAbs : Int))))) ∧
      exec (.and n d s1 s2 mv) s = finish (.and n d s1 s2 mv) n 1 .seq none (satCauses c false o.sat) (o.s.setCore n (applyMoves mv.toList o c (c.result d (bitOut (c.gr s1 &&& c.gr s2))))) ∧
      exec (.or n d s1 s2 mv) s = finish (.or n d s1 s2 mv) n 1 .seq none (satCauses c false o.sat) (o.s.setCore n (applyMoves mv.toList o c (c.result d (bitOut (c.gr s1 ||| c.gr s2))))) ∧
      exec (.xor n d s1 s2 mv) s = finish (.xor n d s1 s2 mv) n 1 .seq none (satCauses c false o.sat) (o.s.setCore n (applyMoves mv.toList o c (c.result d (bitOut (c.gr s1 ^^^ c.gr s2))))) ∧
      exec (.andn n d s1 s2 mv) s = finish (.andn n d s1 s2 mv) n 1 .seq none (satCauses c false o.sat) (o.s.setCore n (applyMoves mv.toList o c (c.result d (bitOut (c.gr s1 &&& ~~~c.gr s2))))) ∧
      exec (.not n d s1 s2 mv) s = finish (.not n d s1 s2 mv) n 1 .seq none (satCauses c false o.sat) (o.s.setCore n (applyMoves mv.toList o c (c.result d (bitOut (~~~c.gr s1))))) ∧
      exec (.shl n d s1 s2 mv) s = finish (.shl n d s1 s2 mv) n 1 .seq none (satCauses c false o.sat) (o.s.setCore n (applyMoves mv.toList o c (c.result d (shlOut (c.gr s1) ((c.gr s2).toNat % 128))))) ∧
      exec (.shr n d s1 s2 mv) s = finish (.shr n d s1 s2 mv) n 1 .seq none (satCauses c false o.sat) (o.s.setCore n (applyMoves mv.toList o c (c.result d (shrOut (c.gr s1) ((c.gr s2).toNat % 128))))) ∧
      exec (.sra n d s1 s2 mv) s = finish (.sra n d s1 s2 mv) n 1 .seq none (satCauses c false o.sat) (o.s.setCore n (applyMoves mv.toList o c (c.result d (sraOut (c.gr s1) ((c.gr s2).toNat % 128))))) ∧
      exec (.min n d s1 s2 mv) s = finish (.min n d s1 s2 mv) n 1 .seq none (satCauses c false o.sat) (o.s.setCore n (applyMoves mv.toList o c (c.result d (plainOut (if (c.gr s1).toInt ≤ (c.gr s2).toInt then c.gr s1 else c.gr s2))))) ∧
      exec (.max n d s1 s2 mv) s = finish (.max n d s1 s2 mv) n 1 .seq none (satCauses c false o.sat) (o.s.setCore n (applyMoves mv.toList o c (c.result d (plainOut (if (c.gr s1).toInt ≤ (c.gr s2).toInt then c.gr s2 else c.gr s1))))) ∧
      exec (.cls n d s1 s2 mv) s = finish (.cls n d s1 s2 mv) n 1 .seq none (satCauses c false o.sat) (o.s.setCore n (applyMoves mv.toList o c (c.result d (plainOut (BitVec.ofNat 48 (clsOf (c.gr s1))))))) ∧
      exec (.mull n d s1 s2 mv) s = finish (.mull n d s1 s2 mv) n 1 .seq none (satCauses c false o.sat) (o.s.setCore n (applyMoves mv.toList o c (c.result d (mullOut (c.gr s1) (c.gr s2)))))) ∧
    (MovesOk n mv.toList none s →
      exec (.cmp n d s1 s2 mv) s = finish (.cmp n d s1 s2 mv) n 1 .seq none (satCauses c false o.sat) (o.s.setCore n (applyMoves mv.toList o c { c with st := setFlags c.st (subOut (c.gr s1) (c.gr s2) false) })) ∧
      exec (.tst n d s1 s2 mv) s = finish (.tst n d s1 s2 mv) n 1 .seq none (satCauses c false o.sat) (o.s.setCore n (applyMoves mv.toList o c { c with st := setFlags c.st (bitOut (c.gr s1 &&& c.gr s2)) })))

/-- Every IMM instruction (R258) of a core that is ready completes in one cycle: D takes the result with the immediate sign
extended, with the flags of its row; CMPI writes flags alone, LDIH bits [47:32] of D alone and no flag. -/
def Obligations.KlokoImmResults : Prop :=
  ∀ (n : CoreId) (s : State), Ready n s → ∀ (d r : Fin 16) (v : BitVec 32) (k : Fin 128) (h : BitVec 16),
    let c := s.core n
    exec (.ldi n d v) s = finish (.ldi n d v) n 1 .seq none [] (s.setCore n (c.result d (plainOut (v.signExtend 48)))) ∧
    exec (.addi n d r v) s = finish (.addi n d r v) n 1 .seq none [] (s.setCore n (c.result d (addOut (c.gr r) (v.signExtend 48) false))) ∧
    exec (.andi n d r v) s = finish (.andi n d r v) n 1 .seq none [] (s.setCore n (c.result d (bitOut (c.gr r &&& v.signExtend 48)))) ∧
    exec (.ori n d r v) s = finish (.ori n d r v) n 1 .seq none [] (s.setCore n (c.result d (bitOut (c.gr r ||| v.signExtend 48)))) ∧
    exec (.xori n d r v) s = finish (.xori n d r v) n 1 .seq none [] (s.setCore n (c.result d (bitOut (c.gr r ^^^ v.signExtend 48)))) ∧
    exec (.shli n d r k) s = finish (.shli n d r k) n 1 .seq none [] (s.setCore n (c.result d (shlOut (c.gr r) k))) ∧
    exec (.shri n d r k) s = finish (.shri n d r k) n 1 .seq none [] (s.setCore n (c.result d (shrOut (c.gr r) k))) ∧
    exec (.srai n d r k) s = finish (.srai n d r k) n 1 .seq none [] (s.setCore n (c.result d (sraOut (c.gr r) k))) ∧
    exec (.cmpi n d r v) s = finish (.cmpi n d r v) n 1 .seq none [] (s.setCore n { c with st := setFlags c.st (subOut (c.gr r) (v.signExtend 48) false) }) ∧
    exec (.ldih n d h) s = finish (.ldih n d h) n 1 .seq none [] (s.setCore n (c.setG d (BitVec.ofNat 48 ((c.gr d).toNat % 2 ^ 32 + h.toNat * 2 ^ 32))))

/-- Every MAC instruction (R256) of a core that is ready, with its parallel moves, completes in one cycle: PMOV moves alone, MPY
and MPYSU load the accumulator, the others accumulate with saturation and latch (R224), and AOV is raised where AOVE enables
it. -/
def Obligations.KlokoMacResults : Prop :=
  ∀ (n : CoreId) (s : State), Ready n s → ∀ (ad : Fin 2) (x y : Fin 16) (mv1 mv2 : Option Move),
    let c := s.core n
    let ms := movesOf mv1 mv2
    let o := doMoves n c ms s
    (MovesOk n ms none s →
      exec (.pmov n mv1 mv2) s = finish (.pmov n mv1 mv2) n 1 .seq none (satCauses c false o.sat) (o.s.setCore n (applyMoves ms o c c))) ∧
    (MovesOk n ms (some (16 + ad.val)) s →
      exec (.mpy n ad x y mv1 mv2) s = finish (.mpy n ad x y mv1 mv2) n 1 .seq none (satCauses c false o.sat) (o.s.setCore n (applyMoves ms o c (c.loadAcc ad (prodSS c x y)))) ∧
      exec (.mpysu n ad x y mv1 mv2) s = finish (.mpysu n ad x y mv1 mv2) n 1 .seq none (satCauses c false o.sat) (o.s.setCore n (applyMoves ms o c (c.loadAcc ad (prodSU c x y)))) ∧
      exec (.mac n ad x y mv1 mv2) s = finish (.mac n ad x y mv1 mv2) n 1 .seq none (satCauses c (c.accumulate ad (c.acc ad + prodSS c x y)).1 o.sat) (o.s.setCore n (applyMoves ms o c (c.accumulate ad (c.acc ad + prodSS c x y)).2)) ∧
      exec (.msu n ad x y mv1 mv2) s = finish (.msu n ad x y mv1 mv2) n 1 .seq none (satCauses c (c.accumulate ad (c.acc ad + -prodSS c x y)).1 o.sat) (o.s.setCore n (applyMoves ms o c (c.accumulate ad (c.acc ad + -prodSS c x y)).2)) ∧
      exec (.macsu n ad x y mv1 mv2) s = finish (.macsu n ad x y mv1 mv2) n 1 .seq none (satCauses c (c.accumulate ad (c.acc ad + prodSU c x y)).1 o.sat) (o.s.setCore n (applyMoves ms o c (c.accumulate ad (c.acc ad + prodSU c x y)).2)) ∧
      exec (.macuu n ad x y mv1 mv2) s = finish (.macuu n ad x y mv1 mv2) n 1 .seq none (satCauses c (c.accumulate ad (c.acc ad + prodUU c x y)).1 o.sat) (o.s.setCore n (applyMoves ms o c (c.accumulate ad (c.acc ad + prodUU c x y)).2)) ∧
      exec (.accx n ad x mv1 mv2) s = finish (.accx n ad x mv1 mv2) n 1 .seq none (satCauses c (c.accumulate ad (c.acc ad + (c.gr x).toInt * (2 ^ c.frac48 : Nat))).1 o.sat) (o.s.setCore n (applyMoves ms o c (c.accumulate ad (c.acc ad + (c.gr x).toInt * (2 ^ c.frac48 : Nat))).2)))

/-- Every ACC instruction (R226, R228, R259) of a core that is ready completes in one cycle: loads and moves of an accumulator,
its parts read and written, sums with saturation and latch, NORMA's redundant sign bits, and TSTA's Z and N. -/
def Obligations.KlokoAccResults : Prop :=
  ∀ (n : CoreId) (s : State), Ready n s → ∀ (ad src : Fin 2) (g : Fin 16) (k : Fin 64),
    let c := s.core n
    exec (.clra n ad src g k) s = finish (.clra n ad src g k) n 1 .seq none [] (s.setCore n ((c.loadAcc ad 0))) ∧
    exec (.rdal n ad src g k) s = finish (.rdal n ad src g k) n 1 .seq none [] (s.setCore n ((c.setG g ((c.a.getD ad 0).extractLsb' 0 48)))) ∧
    exec (.rdah n ad src g k) s = finish (.rdah n ad src g k) n 1 .seq none [] (s.setCore n ((c.setG g ((c.a.getD ad 0).extractLsb' 48 48)))) ∧
    exec (.rdag n ad src g k) s = finish (.rdag n ad src g k) n 1 .seq none [] (s.setCore n ((c.setG g (((c.a.getD ad 0).extractLsb' 96 16).signExtend 48)))) ∧
    exec (.lda n ad src g k) s = finish (.lda n ad src g k) n 1 .seq none [] (s.setCore n ((c.loadAcc ad ((c.gr g).toInt * (2 ^ c.frac48 : Nat))))) ∧
    exec (.norma n ad src g k) s = finish (.norma n ad src g k) n 1 .seq none [] (s.setCore n ((c.setG g (BitVec.ofNat 48 (normOf (c.a.getD ad 0)))))) ∧
    exec (.mova n ad src g k) s = finish (.mova n ad src g k) n 1 .seq none [] (s.setCore n (((c.putAcc ad (c.acc src)).setSt (ST_A0SAT + ad) (c.latched src)))) ∧
    exec (.tsta n ad src g k) s = finish (.tsta n ad src g k) n 1 .seq none [] (s.setCore n (((c.setSt ST_Z (c.acc ad == 0)).setSt ST_N (decide (c.acc ad < 0))))) ∧
    exec (.wral n ad src g k) s = finish (.wral n ad src g k) n 1 .seq none [] (s.setCore n ((c.putAcc ad (((c.a.getD ad 0).toNat - ((c.a.getD ad 0).toNat >>> 0 % 2 ^ 48) <<< 0 + ((c.gr g).toNat % 2 ^ 48) <<< 0 : Nat) : Int)))) ∧
    exec (.wrah n ad src g k) s = finish (.wrah n ad src g k) n 1 .seq none [] (s.setCore n ((c.putAcc ad (((c.a.getD ad 0).toNat - ((c.a.getD ad 0).toNat >>> 48 % 2 ^ 48) <<< 48 + ((c.gr g).toNat % 2 ^ 48) <<< 48 : Nat) : Int)))) ∧
    exec (.wrag n ad src g k) s = finish (.wrag n ad src g k) n 1 .seq none [] (s.setCore n ((c.putAcc ad (((c.a.getD ad 0).toNat - ((c.a.getD ad 0).toNat >>> 96 % 2 ^ 16) <<< 96 + ((c.gr g).toNat % 2 ^ 16) <<< 96 : Nat) : Int)))) ∧
    exec (.adda n ad src g k) s = finish (.adda n ad src g k) n 1 .seq none (satCauses c (c.accumulate ad (c.acc ad + c.acc src)).1 false) (s.setCore n ((c.accumulate ad (c.acc ad + c.acc src)).2)) ∧
    exec (.suba n ad src g k) s = finish (.suba n ad src g k) n 1 .seq none (satCauses c (c.accumulate ad (c.acc ad - c.acc src)).1 false) (s.setCore n ((c.accumulate ad (c.acc ad - c.acc src)).2)) ∧
    exec (.nega n ad src g k) s = finish (.nega n ad src g k) n 1 .seq none (satCauses c (c.accumulate ad (-c.acc ad)).1 false) (s.setCore n ((c.accumulate ad (-c.acc ad)).2)) ∧
    exec (.asla n ad src g k) s = finish (.asla n ad src g k) n 1 .seq none (satCauses c (c.accumulate ad (c.acc ad * (2 ^ k.val : Nat))).1 false) (s.setCore n ((c.accumulate ad (c.acc ad * (2 ^ k.val : Nat))).2)) ∧
    exec (.asra n ad src g k) s = finish (.asra n ad src g k) n 1 .seq none (satCauses c (c.accumulate ad (c.acc ad / (2 ^ k.val : Nat))).1 false) (s.setCore n ((c.accumulate ad (c.acc ad / (2 ^ k.val : Nat))).2)) ∧
    exec (.mva n ad src g k) s = finish (.mva n ad src g k) n 1 .seq none (satCauses c false (c.moveOut ad).2) (s.setCore n (((c.setG g (c.moveOut ad).1).moveSat (c.moveOut ad).2)))

/-- LDX, STX, LDD and STD (R260) of a core that is ready: a load takes the data word into REG, a store writes REG to its six bytes
and to nothing else; REG 18 to 31 raises ILLOP, and a word with a double error raises DMEM_UE (R216). -/
def Obligations.KlokoLocalMemory : Prop :=
  ∀ (n : CoreId) (s : State), Ready n s → ∀ (reg : Fin 32) (ptr : Fin 8) (ofs : BitVec 15),
    let c := s.core n
    let x := ((c.ptr ptr + ofs.toNat) % 32768)
    let load := fun (i : Instr) (w : Nat) => finish i n 1 .seq none []
      ((correct (dmSlot n w) 8 s).setCore n (c.loadReg reg (BitVec.ofNat 48 (s.le (dmSlot n w) 6))))
    let store := fun (i : Instr) (w : Nat) => finish i n 1 .seq none (satCauses c false (c.storeReg reg).2)
      ((writeDm n w (c.storeReg reg).1 s).setCore n (c.moveSat (c.storeReg reg).2))
    (reg.val < 18 →
      (hasDouble (dmSlot n x) 8 s = false → exec (.ldx n reg ptr ofs) s = load (.ldx n reg ptr ofs) x) ∧
      (hasDouble (dmSlot n ofs.toNat) 8 s = false → exec (.ldd n reg ofs) s = load (.ldd n reg ofs) ofs.toNat) ∧
      (hasDouble (dmSlot n x) 8 s = true →
        exec (.ldx n reg ptr ofs) s = stops (.ldx n reg ptr ofs) n X_DMEM_UE (countUnc (dmSlot n x) s)) ∧
      (hasDouble (dmSlot n ofs.toNat) 8 s = true →
        exec (.ldd n reg ofs) s = stops (.ldd n reg ofs) n X_DMEM_UE (countUnc (dmSlot n ofs.toNat) s)) ∧
      exec (.stx n reg ptr ofs) s = store (.stx n reg ptr ofs) x ∧ exec (.std n reg ofs) s = store (.std n reg ofs) ofs.toNat) ∧
    (18 ≤ reg.val →
      exec (.ldx n reg ptr ofs) s = stops (.ldx n reg ptr ofs) n X_ILLOP s ∧ exec (.ldd n reg ofs) s = stops (.ldd n reg ofs) n X_ILLOP s ∧
      exec (.stx n reg ptr ofs) s = stops (.stx n reg ptr ofs) n X_ILLOP s ∧ exec (.std n reg ofs) s = stops (.std n reg ofs) n X_ILLOP s)

/-- LDG, STG, AADD and ASWP (R232, R234, R260) of a core that is ready issue one access at G + OFF modulo 2^32 and go on; a REG
or SIZE outside its range raises ILLOP, and an atomic address off its word ALIGN. -/
def Obligations.KlokoGlobalMemory : Prop :=
  ∀ (n : CoreId) (s : State), Ready n s → ∀ (reg : Fin 32) (base : Fin 16) (size : Fin 8) (sx : Bool) (ofs : BitVec 24),
    let c := s.core n
    let a := ((c.gr base).toNat + (ofs.signExtend 32).toNat) % 2 ^ 32
    let ended := fun (i : Instr) (post : State → State) =>
      Host.Outcome.next (boundary n [] (post (addCycles i n 1 (s.setCore n (endOf c .seq none)))))
    (∀ k, sizeOf? size = some k → reg.val < 16 →
      exec (.ldg n reg base size sx ofs) s = ended (.ldg n reg base size sx ofs) (issueLoad n reg a size k sx) ∧
      exec (.stg n reg base size sx ofs) s = ended (.stg n reg base size sx ofs) (issueStore n a size (toLE k (c.gr reg).toNat))) ∧
    (size.val = 3 → reg.val < 16 → a % 4 = 0 →
      exec (.aadd n reg base size sx ofs) s = ended (.aadd n reg base size sx ofs) (issueAtomic n reg a fun old => old + (c.gr reg).toNat % 2 ^ 32) ∧
      exec (.aswp n reg base size sx ofs) s = ended (.aswp n reg base size sx ofs) (issueAtomic n reg a fun _ => (c.gr reg).toNat % 2 ^ 32)) ∧
    (size.val = 3 → reg.val < 16 → a % 4 ≠ 0 →
      exec (.aadd n reg base size sx ofs) s = stops (.aadd n reg base size sx ofs) n X_ALIGN s ∧ exec (.aswp n reg base size sx ofs) s = stops (.aswp n reg base size sx ofs) n X_ALIGN s) ∧
    (sizeOf? size = none ∨ 16 ≤ reg.val →
      exec (.ldg n reg base size sx ofs) s = stops (.ldg n reg base size sx ofs) n X_ILLOP s ∧ exec (.stg n reg base size sx ofs) s = stops (.stg n reg base size sx ofs) n X_ILLOP s) ∧
    (size.val ≠ 3 ∨ 16 ≤ reg.val →
      exec (.aadd n reg base size sx ofs) s = stops (.aadd n reg base size sx ofs) n X_ILLOP s ∧ exec (.aswp n reg base size sx ofs) s = stops (.aswp n reg base size sx ofs) n X_ILLOP s)

/-- GLOBAL_LOAD_RETURN and BUS_ERROR_RESPONSE complete (R233, R235).  Of the outstanding accesses that no earlier one of their
16-byte blocks holds back, the oldest load without an error writes its register, and the oldest access with an error response leaves
the address of the response in KCn_BUSERR and its size and kind in KCn_BUSINFO, gives the register of a load zero, and waits as LDERR
or STERR for the boundary; where there is none nothing happens. -/
def Obligations.KlokoAnswers : Prop :=
  ∀ (n : CoreId) (s : State),
    let c := s.core n
    let free := unblocked [] c.out
    let record := fun (x : GlobalAcc) (t : State) =>
      ((t.wr (KCn_BUSERR_ADDR n) x.errAddr).put (KCn_BUSINFO_STORE n) x.dest.isNone).wr (KCn_BUSINFO_SIZE n) x.size
    let ended := fun (t : State) => Host.Outcome.next (haltDue n (takeAsync n t))
    (∀ x g, free.find? (fun x => x.dest.isSome && x.cause == 0) = some x → x.dest = some g →
      exec (.globalLoadReturn n) s = ended (s.setCore n ({ c with out := c.out.erase x }.setG g x.value))) ∧
    (∀ x g, free.find? (fun x => x.cause != 0) = some x → x.dest = some g → exec (.busErrorResponse n) s =
      ended (record x (s.setCore n { ({ c with out := c.out.erase x }.setG g 0) with ldErr := true }))) ∧
    (∀ x, free.find? (fun x => x.cause != 0) = some x → x.dest = none → exec (.busErrorResponse n) s =
      ended (record x (s.setCore n { c with out := c.out.erase x, stErr := true }))) ∧
    (free.find? (fun x => x.dest.isSome && x.cause == 0) = none → exec (.globalLoadReturn n) s = .next s) ∧
    (free.find? (fun x => x.cause != 0) = none → exec (.busErrorResponse n) s = .next s)

/-- Every ADDR instruction (R230, R231, R261) of a core that is ready completes in one cycle; a length that LDLI or LDLG writes
leaves the old length to govern the next instruction. -/
def Obligations.KlokoAddrResults : Prop :=
  ∀ (n : CoreId) (s : State), Ready n s → ∀ (ptr : Fin 8) (kind : Fin 4) (g : Fin 16) (imm : BitVec 15),
    let c := s.core n
    exec (.ldpi n ptr kind g imm) s = finish (.ldpi n ptr kind g imm) n 1 .seq (none) [] (s.setCore n (c.setPtr ptr imm.toNat)) ∧
    exec (.ldbi n ptr kind g imm) s = finish (.ldbi n ptr kind g imm) n 1 .seq (none) [] (s.setCore n (c.setB ptr imm)) ∧
    exec (.ldli n ptr kind g imm) s = finish (.ldli n ptr kind g imm) n 1 .seq (some (ptr.val, c.l.getD ptr 0)) [] (s.setCore n (c.setLen ptr imm)) ∧
    exec (.ldmi n ptr kind g imm) s = finish (.ldmi n ptr kind g imm) n 1 .seq (none) [] (s.setCore n (c.setM ptr imm)) ∧
    exec (.ldpg n ptr kind g imm) s = finish (.ldpg n ptr kind g imm) n 1 .seq (none) [] (s.setCore n (c.setPtr ptr ((c.gr g).setWidth 15).toNat)) ∧
    exec (.ldbg n ptr kind g imm) s = finish (.ldbg n ptr kind g imm) n 1 .seq (none) [] (s.setCore n (c.setB ptr ((c.gr g).setWidth 15))) ∧
    exec (.ldlg n ptr kind g imm) s = finish (.ldlg n ptr kind g imm) n 1 .seq (some (ptr.val, c.l.getD ptr 0)) [] (s.setCore n (c.setLen ptr ((c.gr g).setWidth 15))) ∧
    exec (.ldmg n ptr kind g imm) s = finish (.ldmg n ptr kind g imm) n 1 .seq (none) [] (s.setCore n (c.setM ptr ((c.gr g).setWidth 15))) ∧
    exec (.rdar n ptr kind g imm) s = finish (.rdar n ptr kind g imm) n 1 .seq (none) [] (s.setCore n (c.setG g (addrReg c ptr kind))) ∧
    exec (.modp n ptr kind g imm) s = finish (.modp n ptr kind g imm) n 1 .seq (none) [] (s.setCore n (c.modify ptr imm.toInt)) ∧
    exec (.modpm n ptr kind g imm) s = finish (.modpm n ptr kind g imm) n 1 .seq (none) [] (s.setCore n (c.modify ptr (c.stepM ptr)))

/-- A FLOW instruction at the END of a loop raises ILLOP (R239).  Elsewhere BR to DBNZ, TRAP and BRK (R238, R242, R262) of a core
that is ready complete: the transfer with its cycles, the return stack of 16 with RSOVF and RSUNF, RTE's return, TRAP that
completes and then raises its cause, BRK that raises its cause without completing. -/
def Obligations.KlokoFlowResults : Prop :=
  ∀ (n : CoreId) (s : State), Ready n s → ∀ (cond g : Fin 16) (count : BitVec 16) (target : BitVec 14),
    (atEnd (s.core n) = true → ∀ i ∈ [Instr.br n cond g count target, .jmp n cond g count target, .jr n cond g count target,
      .call n cond g count target, .callr n cond g count target, .ret n cond g count target, .rte n cond g count target,
      .loop n cond g count target, .loopg n cond g count target, .dbnz n cond g count target, .trap n cond g count target,
      .brk n cond g count target], exec i s = stops i n X_ILLOP s) ∧
    (atEnd (s.core n) = false →
      let c := s.core n
      let gt := (c.gr g).setWidth 14
      (condHolds c.st cond = true → exec (.br n cond g count target) s = finish (.br n cond g count target) n 5 (.to (c.pc + target)) none [] s) ∧
      (condHolds c.st cond = false → exec (.br n cond g count target) s = finish (.br n cond g count target) n 1 .seq none [] s) ∧
      exec (.jmp n cond g count target) s = finish (.jmp n cond g count target) n 2 (.to target) none [] s ∧
      exec (.jr n cond g count target) s = finish (.jr n cond g count target) n 3 (.to gt) none [] s ∧
      (c.rets.length < 16 →
        exec (.call n cond g count target) s = finish (.call n cond g count target) n 2 (.to target) none [] (s.setCore n { c with rets := (c.pc + 1) :: c.rets }) ∧
        exec (.callr n cond g count target) s = finish (.callr n cond g count target) n 3 (.to gt) none [] (s.setCore n { c with rets := (c.pc + 1) :: c.rets })) ∧
      (16 ≤ c.rets.length →
        exec (.call n cond g count target) s = stops (.call n cond g count target) n X_RSOVF s ∧ exec (.callr n cond g count target) s = stops (.callr n cond g count target) n X_RSOVF s) ∧
      (∀ t rest, c.rets = t :: rest → exec (.ret n cond g count target) s = finish (.ret n cond g count target) n 3 (.to t) none [] (s.setCore n { c with rets := rest })) ∧
      (c.rets = [] → exec (.ret n cond g count target) s = stops (.ret n cond g count target) n X_RSUNF s) ∧
      exec (.rte n cond g count target) s = finish (.rte n cond g count target) n 5 (.resume c.epc) none [] (s.setCore n { c with st := c.est }) ∧
      (c.gr g - 1 ≠ 0 →
        exec (.dbnz n cond g count target) s = finish (.dbnz n cond g count target) n 5 (.to (c.pc + target)) none [] (s.setCore n (c.setG g (c.gr g - 1)))) ∧
      (c.gr g - 1 = 0 → exec (.dbnz n cond g count target) s = finish (.dbnz n cond g count target) n 1 .seq none [] (s.setCore n (c.setG g (c.gr g - 1)))) ∧
      exec (.trap n cond g count target) s = finish (.trap n cond g count target) n 1 .seq none [X_TRAP] (s.setCore n { c with trapNo := count.toNat % 256 }) ∧
      exec (.brk n cond g count target) s = stops (.brk n cond g count target) n X_BRK s)

/-- LOOP and LOOPG (R239) of a core that is ready: the loop begins with its count, a count of zero skips the body as a taken
transfer, an END before the body or outside the loop around it raises ILLOP, and a fifth loop LOOPOVF.  A core
goes on at the next address without a loop, at the start of a loop whose END it stands at with a count left, at the target of a
transfer, at the address that RTE resumes (R238). -/
def Obligations.KlokoLoops : Prop :=
  (∀ (n : CoreId) (s : State), Ready n s → atEnd (s.core n) = false →
    ∀ (cond g : Fin 16) (count : BitVec 16) (target : BitVec 14),
    let c := s.core n
    let begun := fun (i : Instr) (k : Nat) =>
      if k = 0 then finish i n 5 (.to (target + 1)) none [] s
      else finish i n 1 .seq none [] (s.setCore n { c with loops := ⟨c.pc.toNat + 1, target.toNat, k, c.stBit ST_EXL⟩ :: c.loops })
    (c.pc.toNat < target.toNat → outsideLoop c target = false → c.loops.length < 4 →
      exec (.loop n cond g count target) s = begun (.loop n cond g count target) count.toNat ∧
      exec (.loopg n cond g count target) s = begun (.loopg n cond g count target) ((c.gr g).toNat % 65536)) ∧
    (target.toNat ≤ c.pc.toNat ∨ outsideLoop c target = true →
      exec (.loop n cond g count target) s = stops (.loop n cond g count target) n X_ILLOP s ∧ exec (.loopg n cond g count target) s = stops (.loopg n cond g count target) n X_ILLOP s) ∧
    (c.pc.toNat < target.toNat → outsideLoop c target = false → 4 ≤ c.loops.length →
      exec (.loop n cond g count target) s = stops (.loop n cond g count target) n X_LOOPOVF s ∧ exec (.loopg n cond g count target) s = stops (.loopg n cond g count target) n X_LOOPOVF s)) ∧
  (∀ (c : CoreState) (t : BitVec 14),
    (c.loops = [] → goOn c .seq = { c with pc := c.pc + 1 }) ∧
    (∀ l rest, c.loops = l :: rest → eligible c l = true → l.last = c.pc.toNat → 1 < l.left →
      goOn c .seq = { c with pc := BitVec.ofNat 14 l.first, loops := { l with left := l.left - 1 } :: rest }) ∧
    (∀ l rest, c.loops = l :: rest → (eligible c l = false ∨ l.last ≠ c.pc.toNat) → goOn c .seq = { c with pc := c.pc + 1 }) ∧
    (∀ l rest, c.loops = l :: rest → eligible c l = true → l.last = c.pc.toNat → l.left ≤ 1 →
      goOn c .seq = goOn { c with loops := rest } .seq) ∧
    (goOn c (.to t)).pc = t ∧ goOn c (.resume t) = { c with pc := t })

/-- The SYS instructions (R221, R233, R248, R249, R263) of a core that is ready: NOP, the moves of special registers with ILLOP
where there is none, SETM, CLRST, FENCE, WAIT, HALT and SIGNAL. -/
def Obligations.KlokoSysResults : Prop :=
  ∀ (n : CoreId) (s : State), Ready n s → ∀ (g : Fin 16) (spec : Fin 32) (arg : BitVec 16),
    let c := s.core n
    let ended := fun (i : Instr) (post : State → State) =>
      Host.Outcome.next (boundary n [] (post (addCycles i n 1 (s.setCore n (endOf c .seq none)))))
    exec (.nop n g spec arg) s = finish (.nop n g spec arg) n 1 .seq none [] s ∧
    (∀ v, readSpecial s n spec = some v → exec (.mvs n g spec arg) s = finish (.mvs n g spec arg) n 1 .seq none [] (s.setCore n (c.setG g v))) ∧
    (readSpecial s n spec = none → exec (.mvs n g spec arg) s = stops (.mvs n g spec arg) n X_ILLOP s) ∧
    (∀ c', writeSpecial c spec (c.gr g) = some c' → exec (.mvsr n g spec arg) s = finish (.mvsr n g spec arg) n 1 .seq none [] (s.setCore n c')) ∧
    (writeSpecial c spec (c.gr g) = none → exec (.mvsr n g spec arg) s = stops (.mvsr n g spec arg) n X_ILLOP s) ∧
    exec (.setm n g spec arg) s = finish (.setm n g spec arg) n 1 .seq none [] (s.setCore n (setModes arg c)) ∧
    exec (.clrst n g spec arg) s = finish (.clrst n g spec arg) n 1 .seq none [] (s.setCore n (clearSticky arg c)) ∧
    exec (.fence n g spec arg) s = ended (.fence n g spec arg) (awaitAll n) ∧
    exec (.wait n g spec arg) s = ended (.wait n g spec arg) (fun s => if wakes s n then s else enterRun n K_WAIT s) ∧
    exec (.halt n g spec arg) s = ended (.halt n g spec arg) (fun s => enterRun n K_STOPPED (awaitAll n s)) ∧
    (arg.toNat % 8 < 7 → exec (.signal n g spec arg) s = ended (.signal n g spec arg) (fun s => s.raiseBit (KCn_DBELL_BITS (arg.toNat % 8)) n)) ∧
    (arg.toNat % 8 = 7 → exec (.signal n g spec arg) s = stops (.signal n g spec arg) n X_ILLOP s)

/-- Taking an exception (R242): EST takes ST and EPC the resume address, ECAUSE the cause, EXL becomes 1 and IE 0, and the core
goes on at EVBASE + 4 × cause, which KCn_STAT shows.  NMI_ENTRY and IRQ_ENTRY (R241, R243) take it at a boundary with EXL 0, from RUN
or WAIT, behind an error response that waits: NMI with cause 15, consumed; with IE 1 the lowest pending line k with cause 16 + k.  A synchronous cause
while EXL is 1 is a double fault (R244), FAULT with cause 1.  RTE restores ST from EST and continues at EPC; loop and return stacks
are as they were after either. -/
def Obligations.KlokoExceptions : Prop :=
  (∀ (n cause : Nat) (epc : BitVec 14) (s : State),
    let c := s.core n
    let word := cause + if cause = 11 then c.trapNo * 256 else 0
    let c' := { c with est := c.st, epc := epc, ecause := BitVec.ofNat 48 word,
                       st := setBitW (setBitW c.st ST_EXL true) ST_IE false,
                       pc := BitVec.ofNat 14 (c.evbase.toNat + 4 * cause), oldLen := none, made := {}, madeBefore := {} }
    enterExc n cause epc s = traceCore n 1 epc.toNat cause (stallCore n 4 ((s.setCore n c').wr (KCn_STAT_ECAUSE n) cause))) ∧
  (∀ (n : CoreId) (s : State),
    let c := s.core n
    let r := if s.coreState n = K_WAIT then s.wr (KCn_STAT_STATE n) K_RUN else s
    let err := c.ldErr || c.stErr
    (mayEnter s n = false → exec (.nmiEntry n) s = .next s ∧ exec (.irqEntry n) s = .next s) ∧
    (mayEnter s n = true → c.nmi = true → err = true → exec (.nmiEntry n) s = .next (haltDue n (takeAsync n r))) ∧
    (mayEnter s n = true → c.nmi = true → err = false →
      exec (.nmiEntry n) s = .next (haltDue n (enterExc n 15 c.pc (r.setCore n { c with nmi := false })))) ∧
    (∀ k, mayEnter s n = true → c.nmi = false → err = false → c.stBit ST_IE = true → pendingLine s n = some k →
      exec (.irqEntry n) s = .next (haltDue n (enterExc n (16 + k) c.pc r)))) ∧
  (∀ (n : Nat) (s : State), (s.core n).stBit ST_EXL = true → ∀ (causes : List Nat) (epc : BitVec 14),
    syncCauses n causes epc s = faultCore n 1 s) ∧
  (∀ (n : CoreId) (s : State), Ready n s → atEnd (s.core n) = false → ∀ (cond g : Fin 16) (count : BitVec 16) (target : BitVec 14),
    let c := s.core n
    exec (.rte n cond g count target) s = finish (.rte n cond g count target) n 5 (.resume c.epc) none [] (s.setCore n { c with st := c.est }) ∧
    goOn { c with st := c.est } (.resume c.epc) = { c with st := c.est, pc := c.epc })

/-- The end of an instruction that raises nothing, with no HALTREQ, in a core that is not traced: the core has gone on and counted its cycles; every
other core, every byte of memory and every register but KCn_CYCLE and KCn_STALL are unchanged (R237, R238, R266); its stall is that of its use of what the two instructions before it made. -/
def Obligations.KlokoFinishFrame : Prop :=
  ∀ (i : Instr) (n cost : Nat) (next : After) (len : Option (Nat × BitVec 15)) (s : State), n < 7 →
    issuing (s.coreState n) = true → (s.core n).ldErr = false → (s.core n).stErr = false → (s.core n).causes = [] →
    s.flag (KCn_CTRL_HALTREQ n) = false → s.bit DBG_TRSRC_CORES n = false → s.wf = true →
    let w := hazard (s.core n) (useOf i)
    ∃ t : State, finish i n cost next len [] s = .next t ∧
      t.core n = { endOf (s.core n) next len with
        cycle := (s.core n).cycle + BitVec.ofNat 48 (cost + w), made := (useOf i).made, madeBefore := (s.core n).made } ∧
      (∀ m, m ≠ n → t.core m = s.core m) ∧ t.mem = s.mem ∧
      (∀ a, a ≠ KCn_CYCLE n → a ≠ KCn_STALL n → t.reg a = s.reg a)

/-- A move field that names no register raises ILLOP, a forbidden combination ILLCOMB, and a moved data word with a double error
DMEM_UE (R236, R255): a MAC or ALU instruction with such moves, of a core that is ready, changes no register. -/
def Obligations.KlokoMoveFaults : Prop :=
  ∀ (n : CoreId) (s : State), Ready n s → ∀ (ad : Fin 2) (d x y : Fin 16) (mv1 mv2 mv : Option Move),
    let faulty := fun (i : Instr) (ms : List Move) (writes : Option Nat) =>
      (badMoveReg ms = true → exec i s = stops i n X_ILLOP s) ∧
      (badMoveReg ms = false → badCombination ms writes = true → exec i s = stops i n X_ILLCOMB s) ∧
      (∀ w, badMoveReg ms = false → badCombination ms writes = false → (doMoves n (s.core n) ms s).bad = some w →
        exec i s = stops i n X_DMEM_UE (readDm n w s).2)
    faulty (.pmov n mv1 mv2) (movesOf mv1 mv2) none ∧
    (∀ i ∈ [Instr.mpy n ad x y mv1 mv2, .mac n ad x y mv1 mv2, .msu n ad x y mv1 mv2, .mpysu n ad x y mv1 mv2,
      .macsu n ad x y mv1 mv2, .macuu n ad x y mv1 mv2, .accx n ad x mv1 mv2], faulty i (movesOf mv1 mv2) (some (16 + ad.val))) ∧
    (∀ i ∈ [Instr.mov n d x y mv, .add n d x y mv, .adc n d x y mv, .sub n d x y mv, .sbc n d x y mv, .adds n d x y mv,
      .subs n d x y mv, .neg n d x y mv, .abs n d x y mv, .and n d x y mv, .or n d x y mv, .xor n d x y mv, .andn n d x y mv,
      .not n d x y mv, .shl n d x y mv, .shr n d x y mv, .sra n d x y mv, .min n d x y mv, .max n d x y mv, .cls n d x y mv,
      .mull n d x y mv], faulty i mv.toList (some d.val)) ∧
    (∀ i ∈ [Instr.cmp n d x y mv, .tst n d x y mv], faulty i mv.toList none)

/-- SP_ENABLE, SP_DISABLE, BCEN_ENABLE, BCEN_DISABLE, SP_CONFIG_WRITE and MASK_WRITE of a port complete with the effect of R38 and
R41 to R45: a port is enabled only where its slots fit, one with frames in progress stops at the frame's boundary, a head command
that is outstanding as BCEN falls is lost, a format does not change while EN or BCEN is 1, and a mask of an enabled port waits for
its echo; where the port has no power each is a write that gets PWR_OFF (R504).  MASK_TIMEOUT is the tick at which MASKTO frame periods without the echo have passed, which abandons the change. -/
def Obligations.SampleLinkControl : Prop :=
  ∀ (n : Port) (s : State),
    let fits := fun (m : Nat) => slotsFit (s.rd (SPn_CTRL_FMT n)) (s.rd (SPn_CTRL_SLOTRATE n)) m (s.flag (SPn_CTRL_BAUD n))
    let t := if (s.port n).stopping then portStop n s else s
    let fresh := (List.range 4).foldl (fun s k => s.wr (fillFld n k) 1024) (t.setPort n { t.port n with
      hunt := 0, missing := 0, recovering := false, rxRd := none, live := 0, filled := 0, skip := Vector.replicate 4 0,
      heldFrames := [], handFrames := [] })
    let ctl := fun (t : State) => whenOn (SPn_CTRL n) (fun _ => t) s
    let msk := fun (t : State) => whenOn (SPn_SLOTMASK n) (fun _ => t) s
    let fall := fun (s : State) => if s.flag (SPn_CTRL_BCEN n) then fecLose n (s.wr (SPn_CTRL_BCEN n) 0) else s
    exec (.bcenEnable n) s = .next (ctl (s.wr (SPn_CTRL_BCEN n) 1)) ∧
    exec (.bcenDisable n) s = .next (ctl (fall s)) ∧
    (s.flag (SPn_CTRL_EN n) = false → fits (s.rd (SPn_SLOTMASK_ACTIVE n)) = true →
      exec (.spEnable n) s = .next (ctl (filterRestart n (fresh.wr (SPn_CTRL_EN n) 1)))) ∧
    (s.flag (SPn_CTRL_EN n) = false → fits (s.rd (SPn_SLOTMASK_ACTIVE n)) = false →
      exec (.spEnable n) s = .next (ctl (s.wr (SPn_STAT_CFGERR n) 1))) ∧
    (s.flag (SPn_CTRL_EN n) = false → exec (.spDisable n) s = .next (ctl s)) ∧
    (s.flag (SPn_CTRL_EN n) = true →
      exec (.spEnable n) s = .next (ctl s) ∧
      ((s.clear (SPn_CTRL_EN n)).flag (SPn_STAT_LINK_UP n) = true ∨ (s.port n).recovering = true →
        exec (.spDisable n) s = .next (ctl ((s.wr (SPn_CTRL_EN n) 0).setPort n { s.port n with stopping := true }))) ∧
      ((s.clear (SPn_CTRL_EN n)).flag (SPn_STAT_LINK_UP n) = false → (s.port n).recovering = false →
        exec (.spDisable n) s = .next (ctl (portStop n (s.wr (SPn_CTRL_EN n) 0))))) ∧
    (∀ v : Word, changesFormat s n v = true → s.flag (SPn_CTRL_EN n) = true ∨ s.flag (SPn_CTRL_BCEN n) = true →
      exec (.spConfigWrite n v) s = .next (ctl (s.wr (SPn_STAT_CFGERR n) 1))) ∧
    (∀ v : Word, changesFormat s n v = false ∨ (s.flag (SPn_CTRL_EN n) = false ∧ s.flag (SPn_CTRL_BCEN n) = false) →
      let s0 := if (SPn_CTRL_BCEN n).of v = 0 then fall s else s
      let s1 := (s0.typed (SPn_CTRL n) v).wr (SPn_CTRL_EN n) (s.rd (SPn_CTRL_EN n))
      exec (.spConfigWrite n v) s = .next (ctl (if (SPn_CTRL_EN n).of v = 1 then spEnable n s1 else spDisable n s1)) ∧
      exec (.spEnable n) s = .next (ctl (spEnable n s)) ∧ exec (.spDisable n) s = .next (ctl (spDisable n s))) ∧
    (∀ m : BitVec 4,
      let s1 := s.wr (SPn_SLOTMASK_MASK n) m.toNat
      (portOn s n = true → s.flag (SPn_SLOTMASK_CHG_PEND n) = true →
        exec (.maskWrite n m) s = .next (msk (s.wr (SPn_STAT_MASK_BUSY n) 1))) ∧
      (portOn s n = false ∨ s.flag (SPn_SLOTMASK_CHG_PEND n) = false → fits m.toNat = false →
        exec (.maskWrite n m) s = .next (msk (s.wr (SPn_STAT_CFGERR n) 1))) ∧
      (portOn s n = true → s.flag (SPn_SLOTMASK_CHG_PEND n) = false → fits m.toNat = true →
        exec (.maskWrite n m) s = .next (msk (((s1.wr (SPn_SLOTMASK_PENDING n) m.toNat).wr (SPn_SLOTMASK_CHG_PEND n) 1).setPort n
          { s.port n with maskAt := some s.ticks }))) ∧
      (portOn s n = false → fits m.toNat = true → exec (.maskWrite n m) s = .next (msk (s1.wr (SPn_SLOTMASK_ACTIVE n) m.toNat)))) ∧
    exec (.maskTimeout n) s = .next (tickAt (maskDue · n ·) s) ∧
    (∀ w, (s.port n).maskAt = some w → ∀ k,
      maskDue s n k = decide (w + max (s.rd (SPn_CTRL_MASKTO n)) 1 * 9375 ≤ k)) ∧
    maskTimeout n s = ((s.wr (SPn_SLOTMASK_CHG_PEND n) 0).wr (SPn_STAT_MASK_FAIL n) 1).setPort n { s.port n with maskAt := none }

/-- RECEIVE_FRAME, FRAME_MISSING, LINKDOWN_MUTED_FRAME and SP_SLATEFRAC_READ complete: a port that is off takes no frame; code groups
without the SOF pair in place are a missing frame; a hunting port counts CRC-valid frames in place and the eighth brings the link
up; a frame of a link that is up gets its Slate, its checks and its delivery, and the first good one of a recovery rejoins; a missing one is replaced
by a muted frame and the fourth takes the link down.  BACKCHANNEL_FRAME is the tick at which a marker leaves: the frame carries
MSEQ, BCNT, the mask, the formats and the command with its CRC in 8b/10b code groups, and leaves its marker. -/
def Obligations.SampleLinkFrames : Prop :=
  ∀ (n : Port) (s : State) (f : RxFrame),
    let l := (rxLine s n f).1
    let arr := s.tb.now + s.fineOf f.sub
    let s0 := refreshOwd n (s.setPort n { s.port n with rxRd := some (rxLine s n f).2 })
    let h := if f.inPlace then (s.port n).hunt + 1 else 1
    let hunting := s0.setPort n { s0.port n with hunt := h }
    let up := s.flag (SPn_STAT_LINK_UP n)
    (portOn s n = false → exec (.receiveFrame n f) s = .next s ∧ exec (.frameMissing n) s = .next s ∧
      exec (.linkdownMutedFrame n) s = .next s) ∧
    (portOn s n = true → l.sof = false → exec (.receiveFrame n f) s = if f.inPlace then exec (.frameMissing n) s else .next s) ∧
    (portOn s n = true → l.sof = true → up = true → f.inPlace = false → exec (.receiveFrame n f) s = .next s) ∧
    (portOn s n = true → l.sof = true → up = false →
      (rxCrcOk l = false → exec (.receiveFrame n f) s = .next (s0.setPort n { s0.port n with hunt := 0 })) ∧
      (rxCrcOk l = true → h < 8 →
        exec (.receiveFrame n f) s = .next (useHeader n arr l (showFcnt n (rxFcnt l) hunting))) ∧
      (rxCrcOk l = true → 8 ≤ h → exec (.receiveFrame n f) s = .next (rxInPlace n arr l (linkUp n hunting)))) ∧
    (portOn s n = true → l.sof = true → up = true → f.inPlace = true →
      ((s.port n).stopping = true → exec (.receiveFrame n f) s = .next (portStop n s0)) ∧
      ((s.port n).stopping = false → exec (.receiveFrame n f) s = .next (rxInPlace n arr l s0))) ∧
    (let s1 := s.setPort n { s.port n with missing := 0 }
      let s2 := if rxCrcOk l then useHeader n arr l s1 else s1
      ((s2.port n).recovering = true → mutePriority s2 n false l = 0 →
        rxInPlace n arr l s = recoverFrame n (slateOf s1 n arr) l s2) ∧
      ((s2.port n).recovering = false ∨ mutePriority s2 n false l ≠ 0 →
        rxInPlace n arr l s = takeFrame n (slateOf s1 n arr) (!s1.flag (SPn_STAT_HEAD_LOCK n)) l s2)) ∧
    (portOn s n = true → up = false → exec (.frameMissing n) s = .next s) ∧
    (portOn s n = true → up = true →
      let s1 := missingFrame n s
      let s2 := s1.setPort n { s1.port n with missing := (s1.port n).missing + 1, rxRd := none }
      ((s.port n).stopping = true → exec (.frameMissing n) s = .next (portStop n s)) ∧
      ((s.port n).stopping = false →
        exec (.frameMissing n) s = .next (if 4 ≤ (s1.port n).missing + 1 then linkDown n s2 else s2))) ∧
    (portOn s n = true → ((s.port n).recovering = false ∨ up = true) → exec (.linkdownMutedFrame n) s = .next s) ∧
    (portOn s n = true → (s.port n).recovering = true → up = false →
      ((s.port n).stopping = true → exec (.linkdownMutedFrame n) s = .next (portStop n s)) ∧
      ((s.port n).stopping = false → (s.port n).hunt = 0 → exec (.linkdownMutedFrame n) s = .next (missingFrame n s)) ∧
      ((s.port n).stopping = false → 0 < (s.port n).hunt →
        exec (.linkdownMutedFrame n) s = .next ((missingFrame n s).setReg (SPn_FCNT n) (s.reg (SPn_FCNT n))))) ∧
    exec (.backchannelFrame n) s = .next (tickAt (fun s _ => !entering s && markerDue s n s.tb.now (tbTick s).tb.now) s) ∧
    (s.flag (SPn_CTRL_BCEN n) = true →
      let s1 := (fecCommand n s).2
      let p := s1.port n
      let mask := if s1.flag (SPn_SLOTMASK_CHG_PEND n) then s1.rd (SPn_SLOTMASK_PENDING n) else s1.rd (SPn_SLOTMASK_ACTIVE n)
      let cmd := match (fecCommand n s).1 with
        | none => List.replicate 64 (0 : Byte)
        | some (q, c) => toLE 1 q ++ toLE 1 c.op ++ toLE 1 c.slot ++ toLE 8 c.arg ++ List.replicate 53 0
      let body := toLE 1 p.mseq ++ toLE 2 p.bcnt ++ toLE 1 mask ++ toLE 1 (s1.rd (SPn_CTRL_SLOTRATE n)) ++
        toLE 1 (s1.rd (SPn_CTRL_FMT n)) ++ cmd
      let line := encodeLine p.txRd (bcOctets (frameGroups s1 n) p.bcnt (body ++ toBE 2 (crc16 body).toNat))
      bcFrame n s = s1.setPort n { p with
        mseq := (p.mseq + 1) % 256, bcnt := (p.bcnt + 1) % 65536, sent := line.1, txRd := line.2,
        markers := (⟨p.mseq, s1.tb.now⟩ :: p.markers).take 256 }) ∧
    (∀ init : Init, exec (.spSlatefracRead init n) s = .next (asAccess init (SPn_SLATEFRAC n) false
      (fun s => latchSec init (SPn_SLATESEC n) (s.reg (SPn_SLATESEC n)).toNat s) s))

/-- A round trip that is accepted outside a delay fault stands in RTT.LAST and clears the run of bad ones, and one that is
discarded raises RTT_RANGE; the FAULTN-th discarded one in a row raises DELAY_FAULT and DLY_EVT and is logged, and no earlier
one does (R58, R59). -/
def Obligations.SampleLinkDelay : Prop :=
  ∀ (n : Port) (s : State), s.wf = true → s.flag (SPn_STAT_DELAY_FAULT n) = false →
    (∀ r : Int, (rttAccept n r s).rd (SPn_RTT_LAST n) = unsigned (SPn_RTT_LAST n).width r ∧
      ((rttAccept n r s).port n).bad = 0 ∧ ((rttAccept n r s).port n).rtts = (r :: (s.port n).rtts).take 64) ∧
    (rttDiscard n s).flag (SPn_STAT_RTT_RANGE n) = true ∧
    ((s.port n).bad + 1 < max (s.rd (SPn_DLYCFG_FAULTN n)) 1 →
      ((rttDiscard n s).port n).bad = (s.port n).bad + 1 ∧ (rttDiscard n s).flag (SPn_STAT_DELAY_FAULT n) = false) ∧
    (max (s.rd (SPn_DLYCFG_FAULTN n)) 1 ≤ (s.port n).bad + 1 →
      (rttDiscard n s).flag (SPn_STAT_DELAY_FAULT n) = true ∧ (rttDiscard n s).flag (SPn_STAT_DLY_EVT n) = true ∧
      (rttDiscard n s).flag (SPn_STAT_DLY_SETTLE n) = false)

/-- CLAPPER_ARM and CLAPPER_DISARM complete: an armed Clapper refuses a second ARM with BUSY, a time less than 8 ticks ahead is PAST,
else the Clapper is armed for the ports of SP_CLAPMASK and holds them; DISARM lets every port go.  CLAPPER_FIRE is the tick at which
the time base reaches Tc: the ports that are up without delay fault are let go to deliver from Tc, the frame in hand included
and a slot that delivers still going on, the others are reported in SP_CLAPMISS, and the inputs of Reel that wait for it are told. -/
def Obligations.ClapperCommands : Prop :=
  ∀ (s : State),
    let tc := s.stamp SP_CLAPSEC SP_CLAPFRAC
    let ctl := fun (t : State) => whenOn SP_CLAPCTRL (fun _ => t) s
    (s.clapper.isSome = true → exec .clapperArm s = .next (ctl (s.wr SP_CLAPSTAT_BUSY 1))) ∧
    (s.clapper = none → tc * 2 ^ 48 < s.tb.now + 8 * s.rate → exec .clapperArm s = .next (ctl (s.wr SP_CLAPSTAT_PAST 1))) ∧
    (s.clapper = none → s.tb.now + 8 * s.rate ≤ tc * 2 ^ 48 → exec .clapperArm s =
      .next (ctl (holdPorts (s.rd SP_CLAPMASK_PORTS)
        (({ s with clapper := some ⟨tc, s.rd SP_CLAPMASK_PORTS⟩ } : State).wr SP_CLAPSTAT_ARMED 1)))) ∧
    exec .clapperDisarm s = .next (ctl (holdPorts 0 (({ s with clapper := none } : State).wr SP_CLAPSTAT_ARMED 0))) ∧
    exec .clapperFire s = .next (tickAt (fun s _ => clapDue s (tbTick s).tb.now) s) ∧
    (s.clapper = none → clapFire s = s ∧ ∀ now, clapDue s now = false) ∧
    (∀ c : Clapper, s.clapper = some c →
      let ports := (List.range 32).filter fun n => c.ports >>> n % 2 == 1
      let ready := fun (s : State) n => s.flag (SPn_STAT_LINK_UP n) && !s.flag (SPn_STAT_DELAY_FAULT n)
      let miss := (ports.filter fun n => !ready s n).foldl (fun a n => a + 2 ^ n) 0
      let s1 := ((({ s with clapper := none } : State).wr SP_CLAPSTAT_ARMED 0).wr SP_CLAPSTAT_FIRED 1).wr SP_CLAPMISS_PORTS miss
      let release := fun (s : State) (n : Nat) =>
        let going := ((s.port n).handFrames).filter fun h => clapLies c.tc h.2
        let goes := fun (k : Nat) => going.any fun h => h.1 == k
        let s2 := (List.range 4).foldl (fun s k => if goes k then s else endSlot n k 4 s) s
        let waits := ((List.range 4).filter fun k => slotActive s2 n k && !goes k).foldl (fun a k => a + 2 ^ k) 0
        let s3 := (s2.wr (SPn_STAT_CLAP_HELD n) 0).setPort n { s2.port n with
          clapAt := some c.tc, clapSlots := waits, heldFrames := [] }
        ((s.port n).heldFrames).foldl (fun s h => if slotActive s n h.1 then clapBegin n h.1 c.tc h.2 s else s)
          (going.foldl (fun s h => clapShow n h.1 c.tc h.2 s) s3)
      (∀ now, clapDue s now = decide (c.tc * 2 ^ 48 ≤ now)) ∧
      clapFire s = reelClapper c.tc ((ports.filter fun n => ready s1 n).foldl release s1))

/-- CONFCLR, SCRUB_READ, MARCH_GO, MARCH_COMPLETE, REPAIR_RECORD, NVS_WORD_WRITE, CHAIN_COMMIT, CHAIN_LOCK, CHAIN_SIGNED,
CHAIN_RELOAD, CHAIN_COMMAND_DONE, OTP_READ, OTP_PROG and OTP_PROG_DONE complete.  The commands of MEM and OTP are SV's, those of
Chain SV's and initiators 10 and 11's; one Chain command runs at a time; a bank takes four repairs; an OTP row takes bits only in
the lifecycle states of R475, rows of DK read as zero, and programming only sets bits.  A scrub read, the end of a word write and that of a
programming are the ticks at which they fall; a signed Chain command waits for the verifier's answer. -/
def Obligations.StoreCommands : Prop :=
  ∀ (init : Init) (first last : Fin 64) (pres ok : Bool) (fails : List (BitVec 32)) (still : List (Fin 48)) (bank : Fin 48)
    (row : BitVec 11) (addr : BitVec 26) (r : Fin 128) (s : State),
    let six := init.val = 6
    let chains := init.val = 6 ∨ init.val = 10 ∨ init.val = 11
    let u := unstage init s
    let acc := fun (a : Nat) (t : State) => asAccess init a true (fun _ => t) s
    let refused := fun (a : Nat) => Host.Outcome.next (acc a (icError init a true OWNER u))
    let taken := fun (op a : Nat) => Host.Outcome.next
      (acc NVS_CHCMD (({ u with nvs := { u.nvs with chain := some { op := op, addr := a, init := init.val } } } : State).wr NVS_STAT_BUSY 1))
    let busy := fun (op : Nat) =>
      Host.Outcome.next (acc NVS_CHCMD (((u.wr NVS_CHRES_OP op).wr NVS_CHRES_RESULT CH_BUSY).wr NVS_STAT_CHFAIL 1))
    let v := s.rd NVS_OTPDATAH_DATA * 2 ^ 32 + s.rd NVS_OTPDATAL_DATA
    exec .confclr s = .next (whenOn MEM_CTRL (fun s => { s with
      regs := s.regs.filter fun c => !(decide (MEMb_CONFi 0 0 ≤ c.1) && decide (c.1 < MEMb_CONFi 47 15 + 8)),
      memc := { s.memc with confAt := s.ticks } }) s) ∧
    exec .scrubRead s = .next (tickAt (fun s _ => sysDue s && scrubDue s) s) ∧
    (scrubDue s = true ↔ s.rd MEM_CTRL_SCRUBINT ≠ 0 ∧ s.rd MEM_CTRL_SCRUBINT ≤ s.memc.scrubCycles + 1) ∧
    (s.memc.double = [] → (scrubRead s).mem = s.mem) ∧ (scrubRead s).memc.scrubAt = (s.memc.scrubAt + 1) % 65536 ∧ (scrubRead s).memc.scrubCycles = 0 ∧
    (¬six → exec (.marchGo init first last pres) s = refused MEM_MARCHCMD ∧
      exec (.repairRecord init bank row) s = refused MEM_REPAIRCMD ∧
      exec (.otpRead init r) s = refused NVS_OTPCMD ∧ exec (.otpProg init r) s = refused NVS_OTPCMD) ∧
    (six →
      (s.memc.march.isSome = true ∨ last < first ∨ 47 < last.val →
        exec (.marchGo init first last pres) s = .next (acc MEM_MARCHCMD (u.wr MEM_STAT_MARCHERR 1))) ∧
      (s.memc.march = none → first ≤ last → last.val ≤ 47 → exec (.marchGo init first last pres) s =
        .next (acc MEM_MARCHCMD ((({ u with memc := { u.memc with march := some (first.val, last.val, pres), marchCycles := 0 } } : State).wr
          MEM_MARCHSTAT_BUSY 1).wr MEM_MARCHSTAT_PRES (if pres then 1 else 0)))) ∧
      (4 ≤ (repairsOf s bank).length → exec (.repairRecord init bank row) s = .next (acc MEM_REPAIRCMD (u.wr MEM_STAT_REPERR 1))) ∧
      ((repairsOf s bank).length < 4 → exec (.repairRecord init bank row) s =
        .next (acc MEM_REPAIRCMD (({ u with memc := { u.memc with repairs := u.memc.repairs ++ [(bank.val, row.toNat)] } } : State).wr
          (MEMb_REPAIR_REPPEND bank) 1))) ∧
      (s.nvs.otpProg.isSome = true → exec (.otpRead init r) s = .next (acc NVS_OTPCMD (u.wr NVS_STAT_OTPERR 1)) ∧
        exec (.otpProg init r) s = .next (acc NVS_OTPCMD (u.wr NVS_STAT_OTPERR 1))) ∧
      (s.nvs.otpProg = none →
        let x := if r.val < 4 then 0 else otpRow s r
        exec (.otpRead init r) s =
          .next (acc NVS_OTPCMD (((u.wr NVS_OTPDATAH_DATA (x / 2 ^ 32)).wr NVS_OTPDATAL_DATA x).wr NVS_STAT_OTPDONE 1)) ∧
        (otpMay s r v = false → exec (.otpProg init r) s = .next (acc NVS_OTPCMD (u.wr NVS_STAT_OTPERR 1))) ∧
        (otpMay s r v = true → exec (.otpProg init r) s =
          .next (acc NVS_OTPCMD { u with nvs := { u.nvs with otpProg := some (r.val, v), otpAt := u.ticks } })))) ∧
    (s.memc.march = none → exec (.marchComplete fails still) s = .next s) ∧
    (s.memc.marchCycles < 655360 → exec (.marchComplete fails still) s = .next s) ∧
    (∀ a b p, s.memc.march = some (a, b, p) → 655360 ≤ s.memc.marchCycles → s.wf = true →
      ∃ t, exec (.marchComplete fails still) s = .next t ∧ t.memc.march = none ∧ t.memc.bootMarch = false ∧
        (s.memc.bootMarch = false → t.flag MEM_STAT_MARCHDONE = true ∧ t.flag MEM_MARCHSTAT_BUSY = false ∧
          (p = true → t.mem = s.mem) ∧
          (p = false → ∀ x, t.byte x = if x < 0x01800000 ∧ a ≤ bankOf x ∧ bankOf x ≤ b then 0 else s.byte x))) ∧
    exec .nvsWordWrite s = .next (tickAt (fun s _ => wordDue s) s) ∧
    (wordDue s = true ↔ s.nvs.queue ≠ [] ∧ 120 ≤ s.nvs.wordTicks + 1) ∧
    (wordDue s = true → nvsTick s = nvsLand s) ∧
    (¬chains → exec (.chainCommit init addr) s = refused NVS_CHCMD ∧ exec (.chainLock init) s = refused NVS_CHCMD ∧
      exec (.chainSigned init addr) s = refused NVS_CHCMD ∧ exec (.chainReload init) s = refused NVS_CHCMD) ∧
    (chains → s.nvs.chain.isSome = true → exec (.chainCommit init addr) s = busy 1 ∧ exec (.chainLock init) s = busy 2 ∧
      exec (.chainSigned init addr) s = busy 3 ∧ exec (.chainReload init) s = busy 4) ∧
    (chains → s.nvs.chain = none → exec (.chainCommit init addr) s = taken 1 (addr.toNat * 64) ∧
      exec (.chainLock init) s = taken 2 0 ∧ exec (.chainSigned init addr) s = taken 3 (addr.toNat * 64) ∧
      exec (.chainReload init) s = taken 4 0) ∧
    (s.nvs.chain = none → exec (.chainCommandDone ok) s = .next s) ∧
    (∀ c, s.nvs.chain = some c →
      let ends := fun (img : List Byte) (l : Bool) (q : Nat) (t : State) => Host.Outcome.next (flushCopies
        (if ok then chainResult c.op CH_OK (commit img l q t) else chainResult c.op CH_NVSERR (commitFailed img t)))
      (∀ img l q, c.writing = some (img, l, q) → exec (.chainCommandDone ok) s = ends img l q (chainOver s)) ∧
      (c.writing = none → 1 ≤ c.op → c.op ≤ 4 →
        let e := if c.op = 1 then commitEnd c.addr s else if c.op = 2 then (lockEnd s, s)
          else if c.op = 3 then signedEnd c s else (ChainEnd.reload, s)
        let t := chainOver e.2
        (∀ k, e.1 = .fails k → exec (.chainCommandDone ok) s = .next (flushCopies (chainResult c.op k t))) ∧
        (e.1 = .reload → exec (.chainCommandDone ok) s = .next (flushCopies (chainResult c.op CH_OK (loadMirror t)))) ∧
        (e.1 = .waits → exec (.chainCommandDone ok) s = .next e.2) ∧
        (∀ img l q, e.1 = .writes img l q → exec (.chainCommandDone ok) s = ends img l q t)) ∧
      (∀ h rest r, c.read = some (h, rest) → c.verdict = some r → r ≠ V_VALID →
        signedEnd c s = (.fails (if r = V_KEYMISMATCH then CH_KEYMISMATCH else CH_BADSIG), s))) ∧
    (∀ img, otpHash s 3 ≠ 0 → imageInForce s = some img → imageOk img = true → lockEnd s = .writes img true (imgSeq img)) ∧
    exec .otpProgDone s = .next (tickAt otpDue s) ∧
    (∀ k x, s.nvs.otpProg = some (k, x) → let t := otpProgDone s
      (∀ w, otpDue s w = true ↔ s.nvs.otpAt + 60000 ≤ w) ∧ t.mem = s.mem ∧ t.nvs.otpProg = none ∧
      (k < 128 → otpRow t k = otpRow s k ||| x % 2 ^ 64) ∧ ∀ j, j ≠ k → otpRow t j = otpRow s j)

/-- LEVEL_CHANGE, LEVEL_SETTLE_END, VIDFAIL_TIMEOUT, STANDBY_ENTRY, STANDBY_EXIT, KEEPTIME_ENTRY, DEEP_ENTRY, CUTOVER, WAKE_PIN,
RTC_ALARM, I2C_ADDR_WAKE, EV0_WAKE_EDGE, DBGREQ_WAKE, POWER_UP, COLD_RESET, RESET_PIN, BROWNOUT, CRYSTAL_SWITCHOVER and
VDD_AON_IN_LOSS complete.  A request of an initiator that R494 does not name is refused; the others meet its checks in order, and a
refusal leaves all but RESULT and REFUSED; a settling time and the time-out of VPG end at the tick at which they have passed, and
LEVEL_SETTLE_END is VPG going high where a change awaits it; a STANDBY entry and an exit end at the next tick; an enabled wake acts by the
power state, is lost in the four always-on cycles behind a cut-over, and the lowest code of one cycle is recorded; a reset needs VDD_AON_IN.
A request is a register access of its initiator, which the debug level, the firewall or the power of the block may refuse. -/
def Obligations.PowerCommands : Prop :=
  ∀ (init : Init) (lv : Fin 4) (b : Bool) (s : State),
    let six := [6, 10, 11]
    let x := unstage init s
    let perf := fun (t : State) => asAccess init PWR_PERF true (fun _ => t) s
    let cmd := fun (t : State) => asAccess init PWR_CMD true (fun _ => t) s
    let ends := fun (r : Nat) => cmd ((x.wr PWR_STAT_RESULT r).wr PWR_STAT_REFUSED 1)
    -- levels
    let s1 := x.wr PWR_PERF_TARGET lv
    let s2 := switchLevel lv s1
    let refused := fun (r : Nat) => Host.Outcome.next
      (perf (((s1.wr PWR_STAT_RESULT r).wr PWR_STAT_REFUSED 1).wr PWR_PERF_TARGET (s1.pwr.deferred.getD s1.level)))
    (init.val ∉ [4, 5, 6, 10, 11] → exec (.levelChange init lv) s = .next (perf (icError init PWR_PERF true OWNER x))) ∧
    (init.val ∈ [4, 5, 6, 10, 11] →
      (let u : State := if s.pwr.deferred.isSome then
          ({ x with pwr := { x.pwr with deferred := none } } : State).wr PWR_STAT_DEFERRED 0 else x
       lv.val = s.level → exec (.levelChange init lv) s = .next (perf ((u.wr PWR_STAT_RESULT 0).wr PWR_PERF_TARGET lv))) ∧
      (lv.val ≠ s.level → debugHalted s = true → exec (.levelChange init lv) s = .next
        (perf ((({ x with pwr := { x.pwr with deferred := some lv.val } } : State).wr PWR_STAT_DEFERRED 1).wr PWR_PERF_TARGET lv))) ∧
      (lv.val ≠ s.level → debugHalted s = false →
        (pwrBusy s1 = true → exec (.levelChange init lv) s = refused P_BUSY) ∧
        (pwrBusy s1 = false → lv.val = 3 → exec (.levelChange init lv) s = refused P_BADSTATE) ∧
        (pwrBusy s1 = false → lv.val < 3 → levelFits s1 lv = false → exec (.levelChange init lv) s = refused P_BUDGET) ∧
        (pwrBusy s1 = false → lv.val < 3 → levelFits s1 lv = true → lv.val < s1.level → exec (.levelChange init lv) s =
          .next (perf (({ s1 with pwr := { s1.pwr with change := some ⟨lv, s1.level, s1.flag PWR_CFG_VPGEN, s1.ticks⟩, vid := 2 - lv.val } } :
            State).wr PWR_STAT_LEVELBUSY 1))) ∧
        (pwrBusy s1 = false → lv.val < 3 → levelFits s1 lv = true → s1.level < lv.val → exec (.levelChange init lv) s =
          .next (perf (({ s2 with pwr := { s2.pwr with change := some ⟨lv, s1.level, false, s1.ticks⟩, vid := 2 - lv.val } } :
            State).wr PWR_STAT_LEVELBUSY 1))))) ∧
    ((∀ c, s.pwr.change = some c → c.awaitVpg = false) → exec .levelSettleEnd s = .next (tickAt levelDue s)) ∧
    exec .vidfailTimeout s = .next (tickAt vidDue s) ∧
    (s.pwr.change = none → (∀ k, levelDue s k = false ∧ vidDue s k = false)) ∧
    (∀ c, s.pwr.change = some c →
      let d := if s.level = c.target then s else switchLevel c.target s
      let ended := ((((({ d with pwr := { d.pwr with change := none } } : State).wr PWR_STAT_LEVELBUSY 0).wr
        PWR_STAT_LEVELDONE 1).count PWR_COUNT_LEVELCHG).wr PWR_STAT_RESULT 0)
      levelEnd s = ended ∧
      (∀ k, levelDue s k = true ↔ c.awaitVpg = false ∧ c.since + max (s.rd PWR_CFG_SETTLE) 1 * 600 ≤ k) ∧
      (∀ k, vidDue s k = true ↔ c.awaitVpg = true ∧ c.since + 600000 ≤ k) ∧
      (c.awaitVpg = true → c.since + 6000 ≤ s.ticks → exec .levelSettleEnd s = .next ended) ∧
      (c.awaitVpg = true → s.ticks < c.since + 6000 → exec .levelSettleEnd s = .next s) ∧
      vidFail s = ((({ s with pwr := { s.pwr with change := none, vid := 2 - c.former } } : State).wr PWR_STAT_LEVELBUSY 0).wr
          PWR_STAT_VIDFAIL 1).wr PWR_STAT_RESULT P_VIDFAIL) ∧
    -- state requests
    (∀ p ∈ [((.standbyExit init : Instr), 0), (.standbyEntry init, 1), (.keeptimeEntry init, 2), (.deepEntry init, 3)],
      (init.val ∉ six → exec p.1 s = .next (cmd (icError init PWR_CMD true OWNER x))) ∧
      (init.val ∈ six → s.pwr.power = powerOf p.2 → exec p.1 s = .next (cmd (x.wr PWR_STAT_RESULT 0))) ∧
      (init.val ∈ six → p.2 = 0 → s.pwr.power = .exiting → wokeNow s = true → exec p.1 s = .next (cmd (x.wr PWR_STAT_RESULT 0))) ∧
      (init.val ∈ six → s.pwr.power ≠ powerOf p.2 → p.2 ≠ 0 ∨ s.pwr.power ≠ .exiting ∨ wokeNow s = false →
        (pwrBusy s = true → exec p.1 s = .next (ends P_BUSY)) ∧
        (pwrBusy s = false → s.pwr.power ≠ .active → s.pwr.power ≠ .standby → exec p.1 s = .next (ends P_BADSTATE)) ∧
        (pwrBusy s = false → s.pwr.power = .active ∨ s.pwr.power = .standby →
          (2 ≤ p.2 → debugHalted s = true → exec p.1 s = .next (ends P_DEBUG_HOLD)) ∧
          (2 ≤ p.2 → debugHalted s = false → (levelSource s).isSome = true → exec p.1 s = .next (ends P_WAKE_ACTIVE)) ∧
          (2 ≤ p.2 → debugHalted s = false → levelSource s = none → exec p.1 s = .next (cmd (enterDeep p.2 x))) ∧
          (p.2 = 0 → exec p.1 s = .next (cmd ((leaveStandby 6 x).wr PWR_STAT_RESULT 0))) ∧
          (p.2 = 1 → exec p.1 s = .next (cmd (setPower (.entering 1 false) PS_ENTERING (standbySteps x))))))) ∧
    (∀ f, s.pwr.power = .entering 1 f →
      (levelSource s = none → powerTick s = (setPower .standby PS_STANDBY s).wr PWR_STAT_RESULT 0) ∧
      (∀ c, levelSource s = some c → powerTick s = aborted c (setPower .active PS_ACTIVE (powerArray s)))) ∧
    (s.pwr.power = .exiting →
      powerTick s = ((setPower .active PS_ACTIVE (powerArray s)).wr PWR_STAT_WOKE 1).count PWR_COUNT_WAKES) ∧
    -- the cut-over
    ((∀ f, s.pwr.power ≠ .entering 2 f) → (∀ f, s.pwr.power ≠ .entering 3 f) → exec .cutover s = .next s) ∧
    (∀ f, s.pwr.power = .entering 2 f →
      let k := setPower .keeptime PS_ACTIVE (keeptimeBase s)
      exec .cutover s = .next { k with pwr := { k.pwr with switching := 4 } }) ∧
    (∀ f, s.pwr.power = .entering 3 f →
      let k := coldBase true s
      exec .cutover s = .next { k with pwr := { k.pwr with
        power := .deep, coreEn := false, switching := 4, lowMode := k.flag PWR_CFG_AONLP } }) ∧
    (let left := fun (n : Nat) => ({ s with pwr := { s.pwr with switching := n } } : State)
     (s.pwr.switching = 0 → switchCycle s = s) ∧
     (∀ n, s.pwr.switching = n + 2 → switchCycle s = left (n + 1)) ∧
     (s.pwr.switching = 1 → levelSource s = none → switchCycle s = left 0) ∧
     (∀ c, s.pwr.switching = 1 → levelSource s = some c → switchCycle s = wakeEvent c (left 0))) ∧
    -- wakes
    (let w : State := { s with pwr := { s.pwr with wakePin := b } }
     let wakes := fun (i : Instr) (c : Nat) (en : Prop) (s' : State) =>
      (¬en → exec i s = .next s') ∧
      (en → s'.pwr.supplied = false ∨ 0 < s'.pwr.switching → exec i s = .next s') ∧
      (en → s'.pwr.supplied = true → s'.pwr.switching = 0 →
        (s'.pwr.power = .active → exec i s = .next (recordLower c s')) ∧
        (s'.pwr.power = .exiting → exec i s = .next (if c = 3 then s' else recordLower c s')) ∧
        (s'.pwr.power = .standby → exec i s = .next (if c = 3 then s' else leaveStandby c s')) ∧
        (∀ t f, s'.pwr.power = .entering t f → exec i s = .next (if t = 1 ∧ c = 3 then s' else abortEntry c f s')) ∧
        (s'.pwr.power = .keeptime → exec i s = .next (wakeKeeptime c s')) ∧
        (s'.pwr.power = .deep → exec i s = .next (wakeDeep c s')))
     (∀ c, recordLower c s = if s.pwr.wakeAt = some (s.rd PWR_RTC_COUNT) ∧ c < s.rd PWR_WAKESRC_CODE then s.wr PWR_WAKESRC_CODE c else s) ∧
     wakes (.wakePin b) 1 (s.flag PWR_WAKEEN_WAKE = true ∧ b ≠ s.flag PWR_WAKECFG_WAKEPOL) w ∧
     (∀ c, levelSource s = some c →
       wakes .rtcAlarm c (s.flag PWR_WAKEEN_RTC = true ∧ s.rd PWR_RTCALM_ALARM ≤ s.rd PWR_RTC_COUNT) s) ∧
     (levelSource s = none → exec .rtcAlarm s = .next s) ∧
     (let up := s.pwr.supplied = true ∧ s.pwr.switching = 0
      let wakesNow := s.flag PWR_WAKEEN_I2C = true ∧ up ∧ (s.pwr.power = .keeptime ∨ (s.pwr.power = .deep ∧ s.pwr.coreUp = none))
      let t := if s.flag PWR_WAKEEN_I2C then wakeEvent 3 s else s
      (wakesNow ∨ linkOn s 3 = true → exec .i2cAddrWake s = .next (returned 0 [] t)) ∧
      (¬wakesNow → linkOn s 3 = false → exec .i2cAddrWake s = .next (returned NACKED [] t)) ∧
      (up → s.pwr.power = .keeptime → wakeEvent 3 s = wakeKeeptime 3 s) ∧ (up → s.pwr.power = .deep → wakeEvent 3 s = wakeDeep 3 s)) ∧
     wakes (.ev0WakeEdge b) 4 (s.flag PWR_WAKEEN_EV0 = true ∧
       (2 ≤ s.rd PWR_WAKECFG_EV0EDGE ∨ s.rd PWR_WAKECFG_EV0EDGE = (if b then 1 else 0))) s ∧
     wakes .dbgreqWake 5 (s.flag PWR_WAKEEN_DBGREQ = true ∧ otpLcs s ≠ DEPLOYED) s) ∧
    -- supplies
    (s.pwr.supplied = true → exec .powerUp s = .next s ∧ exec .coldReset s = .next (coldReset false s) ∧
      exec .resetPin s = .next (coldReset false (s.wr PWR_RSTCAUSE_PIN 1)) ∧
      exec .brownout s = .next (coldReset false (s.wr PWR_RSTCAUSE_BROWNOUT 1)) ∧
      exec .crystalSwitchover s = .next { s with pwr := { s.pwr with crystal := true } }) ∧
    (s.pwr.supplied = false →
      exec .powerUp s = .next { s with pwr := { s.pwr with supplied := true, coreEn := true } } ∧
      exec .coldReset s = .next s ∧ exec .resetPin s = .next s ∧ exec .brownout s = .next s ∧
      exec .crystalSwitchover s = .next s) ∧
    exec .vddAonInLoss s = .next (unsupplied s)

/-- WDOG_KICK, SUPPLY_SAMPLE, TEMP_SAMPLE, SWLOG_WRITE and DBG_TRACE_ENABLE complete.  A core kicks its own watchdog,
and the count restarts; one that reaches its period at a tick is a fault of its core; the fourth sample in a row outside the limits is
an excursion, and the fourth below 650 mV a cold reset; the hottest sensor sets TWARN and TCRIT, each with an entry where it stands at 0 or
its limit is reached from below; without power SAF samples neither. -/
def Obligations.HealthCommands : Prop :=
  ∀ (init : Init) (core : CoreId) (mv : Vector (BitVec 16) 6) (t : Vector (BitVec 12) 4) (v : Word) (wrap : Bool) (s : State),
    let dog := s.saf.dogs.getD core {}
    let x := unstage init s
    let acc := fun (a : Nat) (t : State) => asAccess init a true (fun _ => t) s
    let kick := fun (t : State) => acc (SAF_WDKICKn core) t
    (init.val ≠ core.val → exec (.wdogKick init core) s = .next (kick (icError init (SAF_WDKICKn core) true OWNER x))) ∧
    (init.val = core.val →
      (dog.counting = false → exec (.wdogKick init core) s = .next (kick x)) ∧
      (dog.counting = true → s.flag (SAF_WDCFGn_EN core) = false → exec (.wdogKick init core) s = .next (kick x)) ∧
      (dog.counting = true → s.flag (SAF_WDCFGn_EN core) = true → exec (.wdogKick init core) s =
        .next (kick (x.setDog core { period := max (s.rd (SAF_WDCFGn_PERIOD core)) 1, counting := true, count := 0 })))) ∧
    (dogDue s core = true ↔ dog.counting = true ∧ clocked s core = true ∧ dog.period * 600 ≤ dog.count + 1) ∧
    (dogDue s core = true →
      dogTick s core = faultCore core 2 (s.setDog core { dog with count := dog.count + 1 })) ∧
    (dog.counting = true → clocked s core = true → dogDue s core = false →
      dogTick s core = s.setDog core { dog with count := dog.count + 1 }) ∧
    -- supplies
    (let each := ((List.range 6).zip (mv.toList.map (·.toNat))).foldl supplySample s
     let core_ := mv[0].toNat
     let run := if core_ < 650 then each.saf.floorRun + 1 else 0
     let s1 : State := { each with saf := { each.saf with floorRun := run } }
     (hostOn s = false → exec (.supplySample mv) s = .next s ∧ exec (.tempSample t) s = .next s) ∧
     (hostOn s = true → run ≠ 4 → exec (.supplySample mv) s = .next s1) ∧
     (hostOn s = true → run = 4 → exec (.supplySample mv) s =
       .next (coldReset false ((logUnit 0x31 2 0 (core_ * 65536) s1).wr PWR_RSTCAUSE_SAFRST 1)))) ∧
    (∀ k m, k < 6 →
      let bad := outOfLimits s k m = true ∧ ¬(k = 0 ∧ s.flag PWR_STAT_LEVELBUSY = true)
      let runs := fun (r : Nat) =>
        ({ s with saf := { s.saf with runs := s.saf.runs.setIfInBounds k r } } : State).wr (SAF_VOLTk_MV k) m
      let r := s.saf.runs.getD k 0 + 1
      (¬bad → supplySample s (k, m) = runs 0) ∧
      (bad → r ≠ 4 → supplySample s (k, m) = runs r) ∧
      (bad → r = 4 → supplySample s (k, m) =
        logUnit 0x30 1 k (k + m * 65536) (((runs r).wr SAF_STAT_VEXC 1).count SAF_COUNT_VEXC))) ∧
    -- temperature
    (let h := hottest (t.toList.map (·.toNat))
     let s1 := s.wr SAF_TEMP_T (t[0].toNat + t[1].toNat * 2 ^ 12 + t[2].toNat * 2 ^ 24 + t[3].toNat * 2 ^ 36)
     let warn := signed 12 (s1.rd SAF_TLIM_TWARN)
     let crit := signed 12 (s1.rd SAF_TLIM_TCRIT)
     let s2 := if h.2 ≤ crit - 32 then s1.wr SAF_STAT_THOT 0 else s1
     let s3 := if h.2 < warn then s2
       else if (hottest (tempList s)).2 < warn ∨ s1.flag SAF_STAT_TWARN = false then logUnit 0x32 1 h.1 (h.1 + unsigned 12 h.2 * 65536) (s2.wr SAF_STAT_TWARN 1)
       else s2.wr SAF_STAT_TWARN 1
     let s4 := s3.wr SAF_STAT_TCRIT 1
     let s5 := s4.wr SAF_STAT_THOT 1
     (hostOn s = true → h.2 < crit → exec (.tempSample t) s = .next s3) ∧
     (hostOn s = true → crit ≤ h.2 → s4.flag SAF_STAT_THOT = true → s1.flag SAF_STAT_TCRIT = true → exec (.tempSample t) s = .next s4) ∧
     (hostOn s = true → crit ≤ h.2 → s4.flag SAF_STAT_THOT = true → s1.flag SAF_STAT_TCRIT = false →
       exec (.tempSample t) s = .next (logUnit 0x33 2 h.1 (h.1 + unsigned 12 h.2 * 65536) s4)) ∧
     (hostOn s = true → crit ≤ h.2 → s4.flag SAF_STAT_THOT = false → s5.flag SAF_CTRL_THERMSTBY = false →
       exec (.tempSample t) s = .next (logUnit 0x33 2 h.1 (h.1 + unsigned 12 h.2 * 65536) s5)) ∧
     (hostOn s = true → crit ≤ h.2 → s4.flag SAF_STAT_THOT = false → s5.flag SAF_CTRL_THERMSTBY = true →
       let s6 := stateRequest 1 s5
       exec (.tempSample t) s = .next
         (logUnit 0x33 2 h.1 (h.1 + unsigned 12 h.2 * 65536 + s6.rd PWR_STAT_RESULT * 2 ^ 32) s6))) ∧
    -- the log and the trace
    (init.val ∉ [4, 5, 6] → exec (.swlogWrite init v) s = .next (acc SAF_SWLOG (icError init SAF_SWLOG true OWNER x))) ∧
    (init.val ∈ [4, 5, 6] → exec (.swlogWrite init v) s =
      .next (acc SAF_SWLOG (logEvent (0x8000 + SAF_SWLOG_CODE.of v) (SAF_SWLOG_SEV.of v) init 0 (SAF_SWLOG_DATA.of v) x))) ∧
    (init.val ≠ 14 ∨ s.rd SVU_DBG_LEVEL = 0 →
      exec (.dbgTraceEnable init wrap) s = .next (acc DBG_CTRL (icError init DBG_CTRL true OWNER x))) ∧
    (init.val = 14 → 1 ≤ s.rd SVU_DBG_LEVEL →
      let s1 := x.typed DBG_CTRL (if wrap then 3#48 else 1#48)
      (s.flag DBG_CTRL_TREN = true → exec (.dbgTraceEnable init wrap) s = .next (acc DBG_CTRL s1)) ∧
      (s.flag DBG_CTRL_TREN = false → s1.flag DBG_CTRL_TREN = true → exec (.dbgTraceEnable init wrap) s =
        .next (acc DBG_CTRL { (s1.wr DBG_TRWP_WP 0).wr DBG_TRWP_LOST 0 with dbgStart := s1.ticks })))

/-- MSIX_TRIG, MBIN_POST, MBIN_ACK, MBOUT_POST, MBOUT_ACK, PCIE_REQUEST, PCIE_RESET, PCIE_LINK_CHANGE, SPI_STATUS, SPI_WRITE, SPI_READ,
SPI_EMPW, SPI_EMPR, UART_BYTE_RECEIVED, UART_BYTE_SENT, I2C_WRITE_TRANSFER, I2C_READ_TRANSFER and TOD_QUEUE complete: a vector that may
not leave stays pending, a mailbox takes one frame of 1 to 4,096 bytes from its sender, a full ring drops what arrives, an error response sets
WERR, no byte of a ring starts within a character time before the start of a string, and a string that was queued leaves on its
UART once DELAY has passed since an edge of the paired generator.  The balls are no SPI target while the boot ROM reads the flash, and an
I²C transfer that wakes the device gets no data. -/
def Obligations.HostCommands : Prop :=
  ∀ (init : Init) (v : Fin 64) (len : BitVec 13) (l7 : BitVec 7) (u : Fin 2) (a29 : BitVec 29) (addr : BitVec 32) (b : Byte)
    (bs : List Byte) (n : Nat) (x y z : Bool) (dw : BitVec 10) (sp : Fin 8) (wd : Fin 4) (s : State),
    let w := unstage init s
    let acc := fun (a : Nat) (t : State) => asAccess init a true (fun _ => t) s
    let refused := fun (a : Nat) => Host.Outcome.next (acc a (icError init a true OWNER w))
    let bad := fun (a : Nat) => Host.Outcome.next (acc a (w.wr HST_STAT_CFGERR 1))
    let fits := 1 ≤ len.toNat ∧ len.toNat ≤ 4096
    -- vectors
    (7 ≤ init.val ∨ v.val < 3 → exec (.msixTrig init v) s = .next (acc HST_MSIXTRIG w)) ∧
    (init.val < 7 → 3 ≤ v.val →
      let goes := s.flag HST_PCISTAT_MSIXEN = true ∧ s.hst.mask = false ∧ s.flag HST_PCISTAT_BME = true ∧ vectorMasked s v = false
      (¬goes → exec (.msixTrig init v) s =
        .next (acc HST_MSIXTRIG { w with hst := { w.hst with pba := w.hst.pba ||| 1 <<< v.val } })) ∧
      (goes → exec (.msixTrig init v) s =
        .next (acc HST_MSIXTRIG { w with hst := { w.hst with vectors := w.hst.vectors ++ [v.val] } }))) ∧
    -- mailboxes
    (init.val ≠ 10 → exec (.mbinPost init len) s = refused HST_MBIN ∧ exec (.mboutAck init) s = refused HST_MBOUT) ∧
    (init.val ≠ 6 → exec (.mbinAck init) s = refused HST_MBIN ∧ exec (.mboutPost init len) s = refused HST_MBOUT) ∧
    (init.val = 10 → (s.flag HST_MBIN_FULL = true ∨ ¬fits → exec (.mbinPost init len) s = bad HST_MBIN) ∧
      (s.flag HST_MBIN_FULL = false → fits → exec (.mbinPost init len) s =
        .next (acc HST_MBIN (((w.wr HST_MBIN_LEN len.toNat).wr HST_MBIN_FULL 1).wr HST_STAT_MBIN 1))) ∧
      (s.flag HST_MBOUT_FULL = false → exec (.mboutAck init) s = .next (acc HST_MBOUT w)) ∧
      (s.flag HST_MBOUT_FULL = true →
        exec (.mboutAck init) s = .next (acc HST_MBOUT ((w.wr HST_MBOUT_FULL 0).wr HST_STAT_MBOUTFREE 1)))) ∧
    (init.val = 6 → (s.flag HST_MBOUT_FULL = true ∨ ¬fits → exec (.mboutPost init len) s = bad HST_MBOUT) ∧
      (s.flag HST_MBOUT_FULL = false → fits → exec (.mboutPost init len) s =
        .next (acc HST_MBOUT (raiseVector 0 ((w.wr HST_MBOUT_LEN len.toNat).wr HST_MBOUT_FULL 1)))) ∧
      (s.flag HST_MBIN_FULL = false → exec (.mbinAck init) s = .next (acc HST_MBIN w)) ∧
      (s.flag HST_MBIN_FULL = true → exec (.mbinAck init) s = .next (acc HST_MBIN (raiseVector 2 (w.wr HST_MBIN_FULL 0))))) ∧
    -- PCIe
    exec .pcieReset s = .next
      (let r := maskVectors ((((s.wr HST_PCISTAT_BME 0).wr HST_PCISTAT_MSIXEN 0).wr HST_MBIN_FULL 0).wr HST_MBOUT_FULL 0)
       { r with hst := { r.hst with pba := 0, mask := false, bar0 := 0 } }) ∧
    (s.wf = true → vectorMasked (maskVectors s) v = true) ∧
    (hostOn s = false → exec (.pcieLinkChange x sp wd) s = .next s ∧ exec (.pcieRequest (.read a29 n)) s = .next s ∧
      exec (.pcieRequest (.write a29 bs)) s = .next s ∧ exec (.pcieRequest (.config x y z)) s = .next s ∧
      exec (.pcieRequest (.configBar addr)) s = .next s ∧ exec (.pcieRequest (.configRead dw)) s = .next s) ∧
    (hostOn s = true →
      exec (.pcieLinkChange true sp wd) s =
        .next (((s.wr HST_STAT_LINKUP 1).wr HST_PCISTAT_SPEED sp).wr HST_PCISTAT_WIDTH wd) ∧
      (let d := if s.flag HST_STAT_LINKUP then s.wr HST_STAT_PCIEDOWN 1 else s
       exec (.pcieLinkChange false sp wd) s =
         .next (((d.wr HST_STAT_LINKUP 0).wr HST_PCISTAT_SPEED 0).wr HST_PCISTAT_WIDTH 0)) ∧
      exec (.pcieRequest (.write a29 bs)) s = .next (busWrite 10 a29.toNat bs s).2 ∧
      (∀ c d s', busRead 10 a29.toNat n s = (c, d, s') →
        (c = 0 → exec (.pcieRequest (.read a29 n)) s = .next (returned 0 d s')) ∧
        (c = DECERR → exec (.pcieRequest (.read a29 n)) s = .next (returned UNSUPPORTED d s')) ∧
        (c ≠ 0 → c ≠ DECERR → exec (.pcieRequest (.read a29 n)) s = .next (returned COMPLETER_ABORT d s'))) ∧
      exec (.pcieRequest (.config x y z)) s =
        .next (flushVectors ((({ s with hst := { s.hst with mask := z } } : State).wr HST_PCISTAT_BME (if x then 1 else 0)).wr
          HST_PCISTAT_MSIXEN (if y then 1 else 0))) ∧
      exec (.pcieRequest (.configBar addr)) s = .next { s with hst := { s.hst with bar0 := addr.toNat / 2 ^ 29 * 2 ^ 29 } } ∧
      (let known := fun (d : BitVec 10) (k : Nat) => exec (.pcieRequest (.configRead d)) s = .next (returned 0 (toLE 4 k) s)
       known 0 (s.rd HST_PCIID_DEVICE * 2 ^ 16 + s.rd HST_PCIID_VENDOR) ∧ known 2 (0x118000 * 2 ^ 8 + s.rd HST_PCIID_REVID) ∧
       known 4 s.hst.bar0 ∧
       (dw ∉ [0, 2, 4] → ∃ k, exec (.pcieRequest (.configRead dw)) s =
        .next (returned 0 (toLE 4 k) { s with freeCount := s.freeCount + 1 })))) ∧
    -- SPI
    (spiOn s = true ↔ hostOn s = true ∧ ¬(s.rd HST_BOOT_STATUS = BOOT_RUNNING ∧ s.rd HST_BOOT_BOOTSEL = 0)) ∧
    (spiOn s = false → exec .spiStatus s = .next s ∧ exec (.spiWrite addr bs) s = .next s ∧ exec (.spiRead addr n x) s = .next s ∧
      exec (.spiEmpw bs) s = .next s ∧ exec (.spiEmpr n) s = .next s) ∧
    (spiOn s = true →
      (b.toNat ∉ [0x05, 0x02, 0x0B, 0x42, 0x4B] → spiTransaction b bs n x s = returned 0 (List.replicate n 0) s) ∧
      exec .spiStatus s =
        .next { s with hst := { s.hst with cause := 0, data := [spiStatusByte s], werr := false } } ∧
      (∀ s', busWrite 11 addr.toNat bs s = (0, s') → exec (.spiWrite addr bs) s = .next s') ∧
      (∀ c s', busWrite 11 addr.toNat bs s = (c, s') → c ≠ 0 → exec (.spiWrite addr bs) s =
        .next (({ s' with hst := { s'.hst with werr := true } } : State).wr HST_STAT_SPIWERR 1)) ∧
      (let k := min n (256 - addr.toNat % 256)
       ∀ c d s', busRead 11 addr.toNat k s = (c, d, s') →
        exec (.spiRead addr n false) s = .next (returned 0 (2#8 :: List.replicate k 0) s') ∧
        (c = 0 → exec (.spiRead addr n true) s = .next (returned 0 (0#8 :: d) s')) ∧
        (c ≠ 0 → exec (.spiRead addr n true) s = .next (returned c (1#8 :: List.replicate k 0) s')))) ∧
    -- the rings
    (∀ j, (rxLevel s j = 4096 → rxPush j b s = (false, s.wr HST_STAT_RXOVF 1)) ∧
      (rxLevel s j ≠ 4096 →
        let t := (memWrite 11 (s.rd (HST_Lj_RXBASE_BASE j) * 4096 + s.rd (HST_Lj_RXWP_INDEX j) % 4096) [b] s).2.count
          (HST_Lj_RXWP_INDEX j)
        rxPush j b s = (true, { t with hst := { t.hst with rxAt := t.hst.rxAt.setIfInBounds j t.ticks } }))) ∧
    (spiOn s = true → linkOn s 0 = false → exec (.spiEmpw bs) s = .next s) ∧
    (spiOn s = true → linkOn s 0 = true → exec (.spiEmpw bs) s = .next (bs.foldl (fun s b => (rxPush 0 b s).2) s)) ∧
    (spiOn s = true → exec (.spiEmpr n) s = .next (returned 0 (txRead 0 n 0 s).1 (txRead 0 n 0 s).2)) ∧
    (y = true ∨ linkOn s (1 + u.val) = false → exec (.uartByteReceived u b x y) s = .next s) ∧
    (linkOn s (1 + u.val) = true →
      exec (.uartByteReceived u b true false) s = .next (s.wr HST_STAT_UARTERR 1) ∧
      exec (.uartByteReceived u b false false) s = .next (rxPush (1 + u.val) b s).2) ∧
    (∀ t rest, s.hst.tod.getD u [] = t :: rest → exec (.uartByteSent u) s =
      .next (returned 0 [t] { s with hst := { s.hst with tod := s.hst.tod.setIfInBounds u rest } })) ∧
    (s.hst.tod.getD u [] = [] →
      (linkOn s (1 + u.val) = false ∨ txLevel s (1 + u.val) = 0 ∨ startNear s u = true → exec (.uartByteSent u) s = .next s) ∧
      (linkOn s (1 + u.val) = true → txLevel s (1 + u.val) ≠ 0 → startNear s u = false → exec (.uartByteSent u) s =
        .next (returned 0 [(txPop (1 + u.val) s).1] (txPop (1 + u.val) s).2))) ∧
    (i2cWakes s = true → exec (.i2cWriteTransfer bs) s = .next (returned 0 (bs.map fun _ => 1) (wakeEvent 3 s)) ∧
      exec (.i2cReadTransfer n) s = .next (returned 0 (List.replicate n 0xFF) (wakeEvent 3 s))) ∧
    (i2cWakes s = false → linkOn s 3 = false → exec (.i2cWriteTransfer bs) s = .next (returned NACKED [] s) ∧
      exec (.i2cReadTransfer n) s = .next (returned NACKED [] s)) ∧
    (i2cWakes s = false → linkOn s 3 = true →
      exec (.i2cReadTransfer n) s = .next (returned 0 (txRead 3 n 0xFF s).1 (txRead 3 n 0xFF s).2) ∧
      (∃ acks, exec (.i2cWriteTransfer bs) s = .next (returned 0 acks (bs.foldl (fun s b => (rxPush 3 b s).2) s)) ∧
        acks.length = bs.length ∧ ∀ a ∈ acks, a = 0#8 ∨ a = 1#8)) ∧
    -- time-of-day strings
    (init.val ≠ 6 → exec (.todQueue init u l7) s = refused (HST_TODu u)) ∧
    (init.val = 6 →
      (s.hst.tod.getD u [] ≠ [] ∨ 96 < l7.toNat → exec (.todQueue init u l7) s = .next (acc (HST_TODu u) w)) ∧
      (s.hst.tod.getD u [] = [] → l7.toNat ≤ 96 → exec (.todQueue init u l7) s =
        .next (acc (HST_TODu u) ((w.wr (HST_TODu_LEN u) l7.toNat).wr (HST_TODu_QUEUED u) (if l7.toNat = 0 then 0 else 1))))) ∧
    (todDue s s.ticks = false → todStart s = s) ∧
    (todDue s s.ticks = true →
      let p : State := { s with pls := { s.pls with tod := s.pls.tod.filter fun k => decide (s.ticks < k) } }
      let q := p.rd TPE_TODCFG_UART
      (p.flag TPE_TODCFG_EN = false ∨ hostOn s = false → todStart s = p) ∧
      (p.flag TPE_TODCFG_EN = true → hostOn s = true → p.flag (HST_TODu_QUEUED q) = false →
        todStart s = p.wr TPE_TODSTAT_TODMISS 1) ∧
      (p.flag TPE_TODCFG_EN = true → hostOn s = true → p.flag (HST_TODu_QUEUED q) = true →
        let text := p.bytes (0x10154000 + 0x80 * q) (p.rd (HST_TODu_LEN q))
        todStart s = (({ p with hst := { p.hst with tod := p.hst.tod.setIfInBounds q text } } : State).wr
          (HST_TODu_QUEUED q) 0).wr TPE_TODSTAT_TODSENT 1))

/-- BOOT_FLASH, HST_BOOTGO, SECURE_BOOT_CHECK, BOOTSTAT_OUTPUT and NMEA_OUTPUT complete.  An image is staged under region 31 and
checked: header, segments, signature, rollback and hash, the first failing check giving the cause; one that passes is copied and SV
leaves its boot ROM, slot B follows slot A, and any other failure ends with FAIL and every byte link served.  NMEA output comes once a
second, behind that second's time-of-day string. -/
def Obligations.BootCommands : Prop :=
  ∀ (init : Init) (v : Word) (image : List Byte) (ok : Bool) (s : State),
    let u := unstage init s
    let go := fun (t : State) => asAccess init HST_BOOTGO true (fun _ => t) s
    (s.rd HST_BOOT_STATUS ≠ BOOT_RUNNING ∨ s.rd HST_BOOT_BOOTSEL ≠ 0 ∨ s.clk.svOut = false ∨ s.memc.bootMarch = true →
      exec (.bootFlash image ok) s = .next s) ∧
    (s.rd HST_BOOT_STATUS = BOOT_RUNNING → s.rd HST_BOOT_BOOTSEL = 0 → s.clk.svOut = true → s.memc.bootMarch = false →
      let bs := image.take (min (320 + payLen image) 0x800000)
      let s1 := (dmaWrite 6 STAGE bs (stageProtect s)).2
      exec (.bootFlash image ok) s = .next (bootStatus BOOT_VERIFY 0
        { s1 with hst := { s1.hst with boot := some { len := bs.length, src := s1.hst.slot, bad := !ok } } })) ∧
    (¬(init.val = 10 ∨ init.val = 11) ∨ bootWaits s = false →
      exec (.hstBootgo init v) s = .next (go (icError init HST_BOOTGO true OWNER u))) ∧
    (init.val = 10 ∨ init.val = 11 → bootWaits s = true →
      let n := HST_BOOTGO_LEN.of v
      let s1 := stageProtect (u.wr HST_STAT_GOREQ 1)
      (HST_BOOTGO_GO.of v ≠ 1 → exec (.hstBootgo init v) s = .next (go s1)) ∧
      (HST_BOOTGO_GO.of v = 1 → n < 328 ∨ 16777216 < n → exec (.hstBootgo init v) s = .next (go (bootFail BF_HEADER 2 s1))) ∧
      (HST_BOOTGO_GO.of v = 1 → 328 ≤ n → n ≤ 16777216 →
        let s2 := stageProtect s1
        exec (.hstBootgo init v) s = .next (go (bootStatus BOOT_VERIFY 0
          { s2 with hst := { s2.hst with boot := some { len := n, src := 2, bad := s1.hst.stageBad } } })))) ∧
    (s.hst.boot = none ∨ s.memc.bootMarch = true → exec .secureBootCheck s = .next s) ∧
    (∀ b c img s1, s.memc.bootMarch = false → s.hst.boot = some b → dmaRead 6 STAGE b.len s = (c, img, s1) →
      let cause := bootCause img b.src (b.bad || c != 0) s1
      (cause = BF_HEADER ∨ cause = BF_SEGMENT ∨ cause = BF_FLASH ∨ cause = BF_MEMORY →
        exec .secureBootCheck s = .next (bootFail cause b.src s1)) ∧
      (cause = BF_SIGNATURE ∨ cause = BF_ROLLBACK ∨ cause = BF_HASH →
        exec .secureBootCheck s = .next (bootFail cause b.src (countCheck img s1))) ∧
      (cause = 0 → exec .secureBootCheck s =
        .next (bootHandOver b.src (writeBootPcs img (copySegments img (segments img) 320 (countCheck img s1)))))) ∧
    (let fits := fun (i : List Byte) => (segments i).all fun x => segmentFits x.1 x.2
     (∀ src, src < 2 → bootCause image src true s = BF_FLASH) ∧ (∀ src, 2 ≤ src → bootCause image src true s = BF_MEMORY) ∧
     (∀ src, headerFits image = false → bootCause image src false s = BF_HEADER) ∧
     (∀ src, headerFits image = true → image.length = 320 + payLen image →
      (fits image = false → bootCause image src false s = BF_SEGMENT) ∧
      (fits image = true → bootCause image src false s =
        if bootSignature image s ≠ V_VALID then BF_SIGNATURE
        else if svnOk image s = false then BF_ROLLBACK
        else if hashOk image = false then BF_HASH else 0))) ∧
    (∀ cause src s1, src ≠ 0 → bootFail cause src s1 = (List.range 4).foldl romLink (bootStatus BOOT_FAIL cause
      (stageRelease { s1 with hst := { s1.hst with boot := none, stageBad := false } }))) ∧
    (∀ j < 4, s.bit HST_CTRL_LINKEN j = true → romLink s j = s) ∧
    (∀ cause s1, (bootFail cause 0 s1).hst.boot = none ∧ (bootFail cause 0 s1).hst.slot = 1) ∧
    exec .bootstatOutput s = .next (tickAt bootstatDue s) ∧
    (∀ k, bootstatDue s k = true ↔ s.rd HST_BOOT_STATUS = BOOT_FAIL ∧ k % 600000000 = 0) ∧
    bootstat s = (List.range 5).foldl (fun s' l => sendFrame l 1 0x40 (outputBody 1 0x40 [s.rd HST_BOOT_CAUSE]) s') s ∧
    (let g := s.rd TPE_TODCFG_TPG
     todAhead s = true ↔ s.flag TPE_TODCFG_EN = true ∧ (s.pls.tod ≠ [] ∨ s.hst.tod.getD (s.rd TPE_TODCFG_UART) [] ≠ [] ∨
      (s.rd (TPGn_STAT_STATE g) = T_ARMED ∧ (s.tpg g).trail = none ∧ tpgNext s g / 2 ^ 48 ≤ s.sec))) ∧
    (svRuns s = false ∨ s.hst.nmeaAt = some s.sec ∨ todAhead s = true → exec .nmeaOutput s = .next s) ∧
    (svRuns s = true → s.hst.nmeaAt ≠ some s.sec → todAhead s = false →
      let send := fun (u : Nat) (s' : State) => if s'.hst.nmea.uarts.testBit u then
        (nmeaText s).foldl (fun s b => sendOn (u + 2) b s) s' else s'
      exec .nmeaOutput s = .next (send 1 (send 0 { s with hst := { s.hst with nmeaAt := some s.sec } })))

/-- EMP_FRAME, EMP_FRAME_TIMEOUT and every EMP command complete.  A command that reaches SV is answered with BUSY while its class
awaits an end, else with what SV finds; the boot ROM answers those of UART0 while it awaits an image, and nothing is answered
otherwise.  A frame without a right CRC is counted, and the hunt goes on behind its first byte; an undefined command is answered with UNKNOWN, and an
argument out of its range with BADARG and its offset. -/
def Obligations.EmpCommands : Prop :=
  ∀ (l : Fin 5) (core : CoreId) (bs : List Byte) (b1 b2 b3 b4 b5 : Byte) (w16 v16 : BitVec 16) (m5 : BitVec 5) (w32 : BitVec 32)
    (q : BitVec 64) (w v : Word) (x : Bool) (at_ : BitVec 12) (t8 : Fin 8) (lv port : Fin 4) (a26 : BitVec 26) (u : Fin 2)
    (us : BitVec 2) (ws : List (Byte × Word)) (r : EmpReading) (s : State),
    let rows : List (Instr × EmpCmd) := [(.empSysVersion l, .sysVersion), (.empSysCaps l, .sysCaps),
      (.empSysReset l, .sysReset), (.empSysRestartcore l core bs, .sysRestartcore core bs), (.empSysStats l, .sysStats),
      (.empSysOutcfg l b1 b2 m5 w16, .sysOutcfg b1 b2 m5 w16), (.empCfgGet l b1, .cfgGet b1), (.empCfgSet l b1 q, .cfgSet b1 q),
      (.empCfgPtprx l b1 b2, .cfgPtprx b1 b2), (.empTimeStatus l, .timeStatus), (.empTimeLoad l w v, .timeLoad w v),
      (.empTimeStep l w, .timeStep w), (.empTimeSlew l w v, .timeSlew w v), (.empTimeUtc l w16 v16 x w, .timeUtc w16 v16 x w),
      (.empMeasSubscribe l w32, .measSubscribe w32), (.empChanRequest l b1 b2 b3 b4 at_ bs, .chanRequest b1 b2 b3 b4 at_ bs),
      (.empChanRelease l at_ bs, .chanRelease at_ bs), (.empPwrState l t8, .pwrState t8), (.empPwrLevel l lv, .pwrLevel lv),
      (.empChainRead l, .chainRead), (.empChainCommit l a26 bs, .chainCommit a26 bs), (.empChainLock l, .chainLock),
      (.empChainSigned l a26 bs, .chainSigned a26 bs), (.empLogRead l w16, .logRead w16), (.empLogWrite l w, .logWrite w),
      (.empPtpPortcfg l port ws, .ptpPortcfg port ws), (.empPtpGrants l b1 bs, .ptpGrants b1 bs),
      (.empExtTod l t8 w16 b1 b2 b3 b4 b5, .extTod t8 w16 b1 b2 b3 b4 b5), (.empExtTemp l w16, .extTemp w16),
      (.empExtZdain l u t8, .extZdain u t8), (.empNmeaCfg l b1 b2 us x, .nmeaCfg b1 b2 us x),
      (.empBootData l w32 bs, .bootData w32 bs), (.empBootGo l w32, .bootGo w32)]
    (∀ p ∈ rows,
      let k := empKey p.2
      let awaited := s.hst.await.any fun a => a.2.1 == k.1
      (svRuns s = false → ¬(bootListens s = true ∧ l.val = 2) → exec p.1 s = .next s) ∧
      (svRuns s = false → bootListens s = true → l.val = 2 →
        exec p.1 s = .next (respond 2 k.1 k.2 (bootDo p.2 s).1 (bootDo p.2 s).2)) ∧
      (svRuns s = true → awaited = true → exec p.1 s = .next (respond l k.1 k.2 ⟨E_BUSY, 0, []⟩ s)) ∧
      (svRuns s = true → awaited = false →
        (∀ a s', empDo l p.2 s = (some a, s') → exec p.1 s = .next (respond l k.1 k.2 a s')) ∧
        (∀ s', empDo l p.2 s = (none, s') → exec p.1 s = .next s'))) ∧
    -- what SV and the boot ROM find
    empDo l .sysVersion s = (some ⟨E_OK, 0, answerBody 1 0 [s.rd HST_PCIID_DEVICE, s.rd HST_PCIID_REVID]⟩, s) ∧
    empDo l .sysCaps s = (some ⟨E_OK, 0, answerBody 1 1 []⟩, s) ∧
    empDo l .timeStatus s = (some ⟨E_OK, 0, answerBody 3 0 (timeNumbers s)⟩, s) ∧
    (17 < b1.toNat → ∀ c ∈ [(.cfgGet b1 : EmpCmd), .cfgSet b1 q], empDo l c s = (some ⟨E_BADARG, 0, []⟩, s)) ∧
    (b1.toNat ≤ 17 → cfgFits s b1.toNat q.toNat = false → empDo l (.cfgSet b1 q) s = (some ⟨E_BADARG, 1, []⟩, s)) ∧
    (3 < t8.val → empDo l (.pwrState t8) s = (some ⟨E_BADARG, 0, []⟩, s)) ∧
    empDo l .sysStats s = (some ⟨E_OK, 0, statsBody s⟩, s) ∧
    empDo l .sysReset s = (none, returned 0
      (if (respond l 1 2 ⟨E_OK, 0, []⟩ s).hst.lost = s.hst.lost then empBytes 1 0x82 [0, 0] else [])
      (coldReset false (respond l 1 2 ⟨E_OK, 0, []⟩ s))) ∧
    empDo l (.measSubscribe w32) s =
      (some ⟨E_OK, 0, []⟩, { s with hst := { s.hst with antennas := w32.toNat } }) ∧
    empDo l (.extTemp w16) s = (some ⟨E_OK, 0, []⟩, { s with hst := { s.hst with boardTemp := w16.toInt } }) ∧
    (∀ s', svWrites [(TB_STEP, w.toNat), (TB_CMD, (TB_CMD_STEP.insert 0 1).toNat)] s = (0, s') →
      (s'.rd TB_COUNT_REFUSED = s.rd TB_COUNT_REFUSED → empDo l (.timeStep w) s = (some ⟨E_OK, 0, []⟩, s')) ∧
      (s'.rd TB_COUNT_REFUSED ≠ s.rd TB_COUNT_REFUSED →
        empDo l (.timeStep w) s = (some ⟨E_REFUSED, s'.rd TB_REFINFO_CAUSE, []⟩, s'))) ∧
    (∀ c ∈ [(.bootData w32 bs : EmpCmd), .bootGo w32], empDo l c s = (some ⟨E_UNKNOWN, 0, []⟩, s)) ∧
    (4082 < bs.length → bootDo (.bootData w32 bs) s = (⟨E_BADLEN, 0, []⟩, s)) ∧
    (bs.length ≤ 4082 → 0x1000000 < w32.toNat + bs.length → bootDo (.bootData w32 bs) s = (⟨E_BADARG, 0, []⟩, s)) ∧
    (∀ s', bs.length ≤ 4082 → w32.toNat + bs.length ≤ 0x1000000 →
      dmaWrite 6 (STAGE + w32.toNat) bs (stageProtect s) = (0, s') →
      bootDo (.bootData w32 bs) s = (⟨E_OK, 0, []⟩, s')) ∧
    -- frames
    (∀ cls id p, empBytes cls id p = [0xE7#8, 0x4B#8] ++ ([BitVec.ofNat 8 cls, BitVec.ofNat 8 id] ++ toLE 2 p.length ++ p) ++
      toLE 4 (crc32c ([BitVec.ofNat 8 cls, BitVec.ofNat 8 id] ++ toLE 2 p.length ++ p))) ∧
    (served s l = false → exec (.empFrame l r) s = .next s ∧ frameTimeout l s = s) ∧
    exec (.empFrameTimeout l) s = .next (tickAt (frameDue · l ·) s) ∧
    (∀ j k, j + 1 = l.val → (frameDue s l k = true ↔ rxLevel s j ≠ 0 ∧ s.hst.rxAt.getD j 0 + 6000000 ≤ k)) ∧
    (served s l = true → l.val = 0 →
      frameTimeout l s = s ∧ (∀ k, frameDue s l k = false) ∧
      (s.flag HST_MBIN_FULL = false → exec (.empFrame l r) s = .next s) ∧
      (s.flag HST_MBIN_FULL = true → ∀ c frame s1, busRead 6 0x10152000 (s.rd HST_MBIN_LEN) s = (c, frame, s1) →
        let p := mailFrame frame.length frame
        let s2 := (List.range p.1).foldl (fun s _ => countFrame 0 s) (mbinAck s1)
        (∀ cls id, p.2 = some (cls, id) → exec (.empFrame l r) s = .next (frameRuns 0 cls id r s2)) ∧
        (p.2 = none → exec (.empFrame l r) s = .next s2))) ∧
    (∀ k, mailFrame (k + 1) bs =
      let m := bs.drop (huntLen bs)
      if m.take 2 ≠ [0xE7#8, 0x4B#8] then (0, none)
      else match parseFrame m with
        | .whole cls id _ => (0, some (cls, id))
        | _ => ((mailFrame k (m.drop 1)).1 + 1, (mailFrame k (m.drop 1)).2)) ∧
    (served s l = true → l.val ≠ 0 → ∀ j raw s1 frame s2, j + 1 = l.val → ringBytes j (rxLevel s j) 0 s = (raw, s1) →
      skipJunk j raw s1 = (frame, s2) →
      (frame.take 2 ≠ [0xE7#8, 0x4B#8] → exec (.empFrame l r) s = .next s2) ∧
      (frame.take 2 = [0xE7#8, 0x4B#8] →
        (parseFrame frame = .partly → exec (.empFrame l r) s = .next s2) ∧
        (parseFrame frame = .bad → exec (.empFrame l r) s = .next (countFrame l (s2.count (HST_Lj_RXRP_INDEX j)))) ∧
        (∀ cls id n, parseFrame frame = .whole cls id n →
          exec (.empFrame l r) s = .next (frameRuns l cls id r (s2.count (HST_Lj_RXRP_INDEX j) (n + 10))))) ∧
      (frame.head? = some 0xE7#8 ∧ parseFrame frame = .partly →
        frameTimeout l s = countFrame l (s2.count (HST_Lj_RXRP_INDEX j))) ∧
      (¬(frame.head? = some 0xE7#8 ∧ parseFrame frame = .partly) → frameTimeout l s = s2)) ∧
    (∀ cls id, (64 ≤ id → frameRuns l cls id r s = s) ∧
      (id < 64 → empDefined cls id = false → frameRuns l cls id r s = respond l cls id ⟨E_UNKNOWN, 0, []⟩ s) ∧
      (id < 64 → empDefined cls id = true →
        frameRuns l cls id .badLen s = respond l cls id ⟨E_BADLEN, 0, []⟩ s ∧
        frameRuns l cls id (.badArg b1) s = respond l cls id ⟨E_BADARG, b1.toNat, []⟩ s ∧
        (∀ c, empKey c = (cls, id) → frameRuns l cls id (.cmd c) s = runEmp l c s)))

/-- Every replica value satisfies |Re r| + |Im r| ≤ 4.  After carrier wipe-off each rail of a sample, whose 4-bit codes stand for odd
values of magnitude at most 15, has a magnitude of at most 150, and one product contributes at most 600 to I and to Q (R161). -/
def Obligations.ReplicaBound : Prop :=
  ∀ (s : State) (c : ChanCfg) (p j m : Nat) (xi xq : Int), xi.natAbs ≤ 15 → xq.natAbs ≤ 15 →
    let r := replica s c p j
    let re := xi * cosOf m + xq * sinOf m
    let im := xq * cosOf m - xi * sinOf m
    r.1.natAbs + r.2.natAbs ≤ 4 ∧ re.natAbs ≤ 150 ∧ im.natAbs ≤ 150 ∧
      (re * r.1 - im * r.2).natAbs ≤ 600 ∧ (re * r.2 + im * r.1).natAbs ≤ 600

/-- Every command completes in every state: exec answers a next state, which is that of the command's own statement.  A step takes the
command at the front of the queue and answers what it does to the state with the rest of the queue; with no command waiting the
device idles, which is the model's choice (notes/assumptions/1). -/
def Obligations.StepTakesFront : Prop :=
  (∀ (c : Instr) (s : State), ∃ t, exec c s = .next t) ∧
  (∀ (c : Instr) (rest : List Instr) (s : State), s.pending = c :: rest → step s = exec c { s with pending := rest }) ∧
  (∀ s : State, s.pending = [] → step s = .next s)

/-- After reset the registers and the memory are in their canonical form and no command waits; the level is P2 with its VID code 0;
the time base, its rate, its steps and its slews are zero; no channel is ACTIVE; every core has zeroed registers, SV runs in its boot
ROM and the other cores are in RESET; a clock fault is in force until the root locks; and the registers named hold the reset values
of their tables.  That SV is still in its boot ROM with the first mirror load done is the model's choice of the instant
(notes/assumptions/4). -/
def Obligations.ResetState : Prop :=
  let s := State.reset
  s.wf = true ∧ s.pending = [] ∧ s.mem = [] ∧
  s.rd PWR_PERF_TARGET = 2 ∧ s.rd PWR_STAT_LEVEL = 2 ∧ s.pwr.vid = 0 ∧ s.rd PWR_STAT_STATE = PS_ACTIVE ∧
  s.tb.now = 0 ∧ s.tb.steps = [] ∧ s.tb.slew = none ∧ s.rd TB_FREQ_FREQ = 0 ∧ s.rd TB_COUNT_REFUSED = 0 ∧
  (∀ c < 16, chanState s c = FREE) ∧
  (∀ n : CoreId, (s.core n).loops = [] ∧ (s.core n).rets = [] ∧ (s.core n).st = 0 ∧ (s.core n).out = [] ∧
    (∀ k : Fin 16, (s.core n).gr k = 0)) ∧
  s.coreState 6 = K_RUN ∧ (∀ n : Fin 6, s.coreState n = K_RESET) ∧
  s.rd HST_BOOT_STATUS = BOOT_RUNNING ∧ s.rd SVU_DBG_LEVEL = 0 ∧ s.flag SAF_STAT_CLKFAULT = true ∧
  s.rd (KC_IRTs_CORE 12) = 6 ∧ s.rd (SAF_VLIMk_HI 1) = 945

/-- The decoder gives back every Kloko instruction from its word, with every operand at every value that its encoding admits; and
whatever the decoder reads has an encoding, on the same core. -/
def Obligations.KlokoRoundTrip : Prop :=
  (∀ (i : Instr) (n : CoreId) (w : Word), encodeKloko i = some (n, w) → decodeKloko n w = some i) ∧
  (∀ (i : Instr) (n : CoreId) (w : Word), decodeKloko n w = some i → ∃ w', encodeKloko i = some (n, w'))

/-- An invariant: no core holds more than four loops or more than sixteen return addresses.  Every Kloko instruction but the global
accesses, of a core that awaits no response, answers a state in which it holds again, whatever the instruction, its core's state and
the exceptions and faults that it meets. -/
def Obligations.KlokoStacks : Prop :=
  ∀ (i : Instr) (n : CoreId) (w : Word) (s : State), encodeKloko i = some (n, w) → globalInstr i = false → (s.core n).out = [] →
    (∀ m : CoreId, (s.core m).stacksOk = true) →
    ∃ t, exec i s = .next t ∧ ∀ m : CoreId, (t.core m).stacksOk = true

/-- CONDITION_FRAME, BLANKER_BLOCK, NOTCH_BLOCK, AGC_BLOCK, STAT_INTERVAL_END and COND_SOFTRST of a stream complete: a frame in
progress goes on, else the oldest item of the stream is taken, a D1 frame only with the item after it; a complete block of
1,024 gives the blanker the sum that its mean comes from, the notches their ends and clashes, and the AGC in AUTO its gain of R91; STAT_INTERVAL_END
at the end of an interval shows the statistics and begins afresh, and does nothing within one; SOFTRST sets the loops to their start. -/
def Obligations.ConditionerCommands : Prop :=
  ∀ (n : Stream) (s : State),
    let c := s.cond n
    (∀ f, c.cur = some f → exec (.conditionFrame n) s = .next (condContinue n s)) ∧
    (c.cur = none → (s.stream n).input = [] → exec (.conditionFrame n) s = .next s) ∧
    (∀ cause rest, c.cur = none → (s.stream n).input = .ends cause :: rest →
      exec (.conditionFrame n) s = .next (condEnds n cause (s.setStream n { s.stream n with input := rest }))) ∧
    (∀ f rest, c.cur = none → (s.stream n).input = .frame f :: rest → f.fmt ≠ 0 → rest = [] →
      exec (.conditionFrame n) s = .next (condContinue n (condBegin n f false [] (s.setStream n { s.stream n with input := rest })))) ∧
    (∀ f g rest, c.cur = none → (s.stream n).input = .frame f :: .frame g :: rest →
      exec (.conditionFrame n) s =
        .next (condContinue n (condBegin n f (isEdge g) g.area (s.setStream n { s.stream n with input := .frame g :: rest })))) ∧
    (∀ f cause rest, c.cur = none → (s.stream n).input = .frame f :: .ends cause :: rest →
      exec (.conditionFrame n) s =
        .next (condContinue n (condBegin n f true [] (s.setStream n { s.stream n with input := .ends cause :: rest })))) ∧
    (∀ f, c.cur = none → (s.stream n).input = [.frame f] → f.fmt = 0 → exec (.conditionFrame n) s = .next s) ∧
    (1024 ≤ c.blockLen → exec (.blankerBlock n) s =
      .next (s.setCond n { c with mean := some c.blockSum, blockSum := 0, blockLen := 0 })) ∧
    (c.blockLen < 1024 → exec (.blankerBlock n) s = .next s) ∧
    (c.notchLen < 1024 → exec (.notchBlock n) s = .next s) ∧
    (c.agcLen < 1024 → exec (.agcBlock n) s = .next s) ∧
    (1024 ≤ c.notchLen →
      let s1 := [(0, 1), (0, 2), (0, 3), (1, 2), (1, 3), (2, 3)].foldl (notchClash n) ((List.range 4).foldl (notchEnd n) s)
      let s2 := s1.setCond n { s1.cond n with notchLen := 0 }
      exec (.notchBlock n) s = .next (s2.wr (CNDn_STAT_ENGAGED n) (engaged (s2.cond n)))) ∧
    (1024 ≤ c.agcLen → s.rd (CNDn_CTRL_AGCMODE n) ≠ 0 →
      exec (.agcBlock n) s = .next (s.setCond n { c with agcSum := 0, agcLen := 0 })) ∧
    (1024 ≤ c.agcLen → s.rd (CNDn_CTRL_AGCMODE n) = 0 →
      let g : Int := s.rd (CNDn_GAIN_GAIN n)
      let tgt := max (s.rd (CNDn_AGC_MAGTGT n)) 1
      let g' : Int := g + (g * ((tgt : Int) - (c.agcSum / (2 * c.agcLen) : Nat))).tdiv (tgt * 2 ^ s.rd (CNDn_AGC_SH n) : Nat)
      exec (.agcBlock n) s = .next ((s.setCond n { c with agcSum := 0, agcLen := 0 }).wr (CNDn_GAIN_GAIN n)
        (if g' < 1 then 1 else if 0xFFFF < g' then 0xFFFF else g'.toNat))) ∧
    (statDue s n = false → exec (.statIntervalEnd n) s = .next s) ∧
    (statDue s n = true → ∃ t, exec (.statIntervalEnd n) s = .next t ∧ t.mem = s.mem ∧
      t.cond n = { c with msec := if c.seen = 0 then s.tb.now * 1000 / 2 ^ 96 - 1 else c.msec, seen := 0, preSum := 0, preLen := 0, postSum := 0, postLen := 0, peak := 0, blanked := 0, zeros := 0,
                          clips := 0 } ∧
      (s.wf = true → t.rd (CNDn_STPWR_PRE n) = c.preSum / c.preLen % 2 ^ (CNDn_STPWR_PRE n).width ∧
        t.rd (CNDn_STPWR_POST n) = c.postSum / c.postLen % 2 ^ (CNDn_STPWR_POST n).width ∧
        t.rd (CNDn_STBLANK_BLANKED n) = c.blanked % 2 ^ (CNDn_STBLANK_BLANKED n).width ∧
        t.flag (CNDn_STAT_STATRDY n) = true)) ∧
    (∃ t, exec (.condSoftrst n) s = .next (whenOn (CNDn_CTRL n) (fun _ => t) s) ∧ t.mem = s.mem ∧ (t.cond n).dcI = 0 ∧ (t.cond n).dcQ = 0 ∧ (t.cond n).mean = none ∧
      (∀ k : Fin 4, (t.cond n).notches.getD k {} =
        { mode := if (c.notches.getD k {}).mode = 2 then 2 else 0, centre := signed 24 (s.rd (CNDn_NCTLk_CFREQ n k)) }) ∧
      (s.wf = true → t.rd (CNDn_DC_DCI n) = 0 ∧ t.rd (CNDn_DC_DCQ n) = 0 ∧ t.rd (CNDn_GAIN_GAIN n) = s.rd (CNDn_GAIN_MAN n) ∧
        t.rd (CNDn_STAT_ENGAGED n) = 0))

/-- FEC_START, FEC_BANDCHG, FEC_REFORMAT, FEC_GAIN, FEC_STOP, FEC_RESTART, FEC_TLMPAGE and FEC_HEADRESET complete: an operation
that its state, another transition, the link or the back-channel does not allow sets BUSY and nothing else; one that is
allowed queues its commands, START, BANDCHG and REFORMAT enter CONFIG, and STOP and HEADRESET replace what waits, but for one another; a
STOP that waits enters IDLE at once where no command is outstanding. -/
def Obligations.HeadOperations : Prop :=
  ∀ (n : Port) (page : Byte) (s : State),
    let h := s.head n
    let added := fun (op : Nat) => s.setHead n { h with queue := h.queue ++ opCmds s n op page.toNat }
    let on := fun (t : State) => whenOn (FECn_CMD n) (fun _ => t) s
    let kept := fun (op : Nat) => h.queue.filter fun c => (c.kind == K_STOP || c.kind == K_HEADRESET) && c.kind != op
    let replaced := fun (op : Nat) =>
      let t := s.setHead n { h with queue := kept op ++ opCmds s n op page.toNat, awaitIdle := false }
      if (t.head n).out.isNone && (t.head n).queue.any (·.kind == K_STOP) && t.headState n != H_IDLE then headEnter n H_IDLE 0 t else t
    let busy : Host.Outcome State Fault Refusal := .next (on (s.wr (FECn_STAT_BUSY n) 1))
    (opBusy s n K_START 0 = true → exec (.fecStart n) s = busy) ∧
    (opBusy s n K_BANDCHG 0 = true → exec (.fecBandchg n) s = busy) ∧
    (opBusy s n K_REFORMAT 0 = true → exec (.fecReformat n) s = busy) ∧
    (opBusy s n K_GAIN 0 = true → exec (.fecGain n) s = busy) ∧
    (opBusy s n K_STOP 0 = true → exec (.fecStop n) s = busy) ∧
    (opBusy s n K_RESTART 0 = true → exec (.fecRestart n) s = busy) ∧
    (opBusy s n K_TLMPAGE page.toNat = true → exec (.fecTlmpage n page) s = busy) ∧
    (opBusy s n K_HEADRESET 0 = true → exec (.fecHeadreset n) s = busy) ∧
    (opBusy s n K_START 0 = false → page = 0 → exec (.fecStart n) s = .next (on (headEnter n H_CONFIG 0 (added K_START)))) ∧
    (opBusy s n K_BANDCHG 0 = false → page = 0 → exec (.fecBandchg n) s = .next (on (headEnter n H_CONFIG 0 (added K_BANDCHG)))) ∧
    (opBusy s n K_REFORMAT 0 = false → page = 0 →
      (reformatFits s n = false → exec (.fecReformat n) s = .next (on (s.wr (FECn_STAT_CFGERR n) 1))) ∧
      (reformatFits s n = true → s.flag (SPn_SLOTMASK_CHG_PEND n) = true → exec (.fecReformat n) s = busy) ∧
      (reformatFits s n = true → s.flag (SPn_SLOTMASK_CHG_PEND n) = false →
        exec (.fecReformat n) s = .next (on (headEnter n H_CONFIG 0 (added K_REFORMAT))))) ∧
    (opBusy s n K_GAIN 0 = false → page = 0 → exec (.fecGain n) s = .next (on (added K_GAIN))) ∧
    (opBusy s n K_STOP 0 = false → page = 0 → exec (.fecStop n) s = .next (on (replaced K_STOP))) ∧
    (opBusy s n K_RESTART 0 = false → page = 0 → exec (.fecRestart n) s = .next (on (added K_RESTART))) ∧
    (opBusy s n K_TLMPAGE page.toNat = false → exec (.fecTlmpage n page) s = .next (on (added K_TLMPAGE))) ∧
    (opBusy s n K_HEADRESET 0 = false → page = 0 → exec (.fecHeadreset n) s = .next (on (replaced K_HEADRESET)))

/-- CMD_TIMEOUT, CALLIM_EXPIRY, SETTLE_EXPIRY and HELD_CMD_TIMEOUT are the ticks at which CMDTO, CALLIM, SETTLE and CALTO frame
periods have passed; BRT_ROUTE_WRITE completes.  A command without acknowledgement is resent, unless its back-channel fell, and after
RETRY resends faults the head with NOACK; the first CALLIM in CAL sends CAL again and the second faults; SETTLE ends with RUN; the
oldest held command fails with HEAD_NOT_READY; a route changes only while its consumer does not run. -/
def Obligations.HeadEvents : Prop :=
  ∀ (n : Port) (s : State),
    let h := s.head n
    exec (.cmdTimeout n) s = .next (tickAt (cmdDue · n ·) s) ∧ exec (.callimExpiry n) s = .next (tickAt (calDue · n ·) s) ∧
    exec (.settleExpiry n) s = .next (tickAt (settleDue · n ·) s) ∧ exec (.heldCmdTimeout n) s = .next (tickAt (heldDue · n ·) s) ∧
    (∀ t, cmdDue s n t =
      (h.out.isSome && !h.due && decide (h.sentAt + max (s.rd (FECn_CTRL_CMDTO n)) 1 * 9375 ≤ t))) ∧
    (∀ t w, h.since = some w → s.headState n = H_CAL →
      calDue s n t = decide (w + max (s.rd (FECn_TIMING_CALLIM n)) 1 * 9375 ≤ t) ∧ settleDue s n t = false) ∧
    (∀ t w, h.since = some w → s.headState n = H_SETTLE →
      settleDue s n t = decide (w + s.rd (FECn_TIMING_SETTLE n) * 9375 ≤ t) ∧ calDue s n t = false) ∧
    (h.resends < s.rd (FECn_CTRL_RETRY n) →
      fecTimeout n s = s.setHead n { h with due := !h.lost, sentAt := s.ticks, resends := h.resends + 1 }) ∧
    (s.rd (FECn_CTRL_RETRY n) ≤ h.resends → fecTimeout n s = stopEnters n (headFault n FC_NOACK s)) ∧
    (h.calAgain = false → fecCalLimit n s = s.setHead n
      { h with calAgain := true, since := some s.ticks, queue := h.queue ++ [⟨K_CALRETRY, OP_CAL, 0, 0⟩] }) ∧
    (h.calAgain = true → fecCalLimit n s = headFault n FC_CALFAIL s) ∧
    (stopWaits s n = false →
      fecSettled n s = s.setHead n { h with since := none, queue := h.queue ++ [⟨K_SETTLE, OP_RUN, 0, 0⟩] }) ∧
    (∀ x rest, h.held = x :: rest → heldTimeout n s =
      failHeld n x ((s.setHead n { h with held := rest }).wr (FECn_STAT_HELD n) (s.rd (FECn_STAT_HELD n) - 1))) ∧
    (∀ (k : Fin 12) (v : Word),
      (routeBusy s k = true → exec (.brtRouteWrite k v) s = .next (whenOn (routeReg k) (fun s => s.wr BRT_STAT_ROUTE_BUSY 1) s)) ∧
      (routeBusy s k = false → exec (.brtRouteWrite k v) s = .next (whenOn (routeReg k) (fun s => s.typed (routeReg k) v) s)))

/-- After a head enters CONFIG, CAL or SETTLE its STATE shows that state and its cause is 0; entering SETTLE resets the loops of
its four conditioners (R97); a head that enters FAULT with nothing held shows FAULT, its cause and the FAULT bit, and keeps
of its queue only a STOP or HEADRESET. -/
def Obligations.HeadEntersState : Prop :=
  ∀ (n : Port) (s : State), s.wf = true →
    (∀ st cause, st = H_CONFIG ∨ st = H_CAL ∨ st = H_SETTLE →
      (headEnter n st cause s).headState n = st ∧ (headEnter n st cause s).rd (FECn_STAT_FCAUSE n) = 0) ∧
    (∀ cause k, k < 4 → ((headEnter n H_SETTLE cause s).cond (4 * n.val + k)).mean = none ∧
      ((headEnter n H_SETTLE cause s).cond (4 * n.val + k)).dcI = 0) ∧
    (∀ cause, cause < 8 → (s.head n).held = [] →
      (headFault n cause s).headState n = H_FAULT ∧ (headFault n cause s).rd (FECn_STAT_FCAUSE n) = cause ∧
      (headFault n cause s).flag (FECn_STAT_FAULT n) = true ∧ ((headFault n cause s).head n).out = none ∧
      ∀ c ∈ ((headFault n cause s).head n).queue, c.kind = K_STOP ∨ c.kind = K_HEADRESET)

/-- CSH_START, CSH_STOP, CSH_REMAP and CSH_RINGMOVE through a port that belongs to the initiator, with no command waiting and room
for the response, complete with the command evaluated and one entry reserved, as a write of the port's register; behind other commands they wait their turn; another
initiator gets OWNER, and a full queue
ignores the command with CMDOVF.  CSH_RSP_READ takes the oldest response, and the scheduler runs on. -/
def Obligations.SchedulerCommands : Prop :=
  ∀ (init : Init) (port : Fin 8) (tag : Byte) (chan : Chan) (from_ new : Fin 4) (s : State),
    let cmd := fun (f : State → State) => Host.Outcome.next (asAccess init (CSH_CMDj port) true f s)
    let taken := fun (s : State) => { s with ca := { s.ca with cmds := [], reserved := s.ca.reserved.setIfInBounds port (s.ca.reserved.getD port.val 0 + 1) } }
    let word := fun (op c n f : Nat) => tag.toNat * 2 ^ 40 + op * 2 ^ 32 + n * 2 ^ 14 + f * 2 ^ 12 + c
    (cshPortOf init port = true → s.ca.cmds = [] → (s.ca.rsps.getD port.val []).length + s.ca.reserved.getD port.val 0 < 16 →
      exec (.cshStart init port tag chan) s = cmd (fun s => evalStart port (word 1 chan 0 0) (taken s)) ∧
      exec (.cshStop init port tag chan) s = cmd (fun s => evalStop port (word 2 chan 0 0) (taken s)) ∧
      exec (.cshRemap init port tag chan new) s = cmd (fun s => evalRemap port (word 3 chan new 0) (taken s)) ∧
      exec (.cshRingmove init port tag from_ new) s = cmd (fun s => evalRingMove port (word 4 0 new from_) (taken s))) ∧
    (cshPortOf init port = true → (s.ca.cmds.filter fun x => x.port == port.val).length < 16 →
      let queued := fun (w : Word) => cmd (fun s => cshRun { s with ca := { s.ca with cmds := s.ca.cmds ++ [⟨port, w.toNat⟩] } })
      exec (.cshStart init port tag chan) s = queued (cshWord 1 tag.toNat chan 0 0) ∧
      exec (.cshStop init port tag chan) s = queued (cshWord 2 tag.toNat chan 0 0) ∧
      exec (.cshRemap init port tag chan new) s = queued (cshWord 3 tag.toNat chan new 0) ∧
      exec (.cshRingmove init port tag from_ new) s = queued (cshWord 4 tag.toNat 0 new from_)) ∧
    (cshPortOf init port = true → 16 ≤ (s.ca.cmds.filter fun x => x.port == port.val).length →
      exec (.cshStart init port tag chan) s = cmd (·.wr CSH_STAT_CMDOVF 1) ∧
      exec (.cshStop init port tag chan) s = cmd (·.wr CSH_STAT_CMDOVF 1) ∧
      exec (.cshRemap init port tag chan new) s = cmd (·.wr CSH_STAT_CMDOVF 1) ∧
      exec (.cshRingmove init port tag from_ new) s = cmd (·.wr CSH_STAT_CMDOVF 1)) ∧
    (cshPortOf init port = false →
      exec (.cshStart init port tag chan) s = cmd (icError init (CSH_CMDj port) true OWNER) ∧
      exec (.cshStop init port tag chan) s = cmd (icError init (CSH_CMDj port) true OWNER) ∧
      exec (.cshRemap init port tag chan new) s = cmd (icError init (CSH_CMDj port) true OWNER) ∧
      exec (.cshRingmove init port tag from_ new) s = cmd (icError init (CSH_CMDj port) true OWNER)) ∧
    (let read := { s with ca := { s.ca with rsps := s.ca.rsps.setIfInBounds port ((s.ca.rsps.getD port.val []).drop 1) } }
     exec (.cshRspRead port) s = .next (whenOn (CSH_RSPj port) (fun _ => cshRun read) s) ∧ (s.ca.cmds = [] → cshRun read = read))

/-- A START is answered BUSY for a channel that is HELD or ACTIVE, BADCTX for a context that breaks its rules, HEAD_NOT_READY for a
stream without a head to wait for, and is held while its head is on its way to RUN; a stream that is ready then meets
CLAPHOLD, PAST, BUDGET and NOENGINE in this order, and else the channel is admitted on the lowest engine with room.
STOP of an ACTIVE channel releases it and leaves it STOPPED with cause 1, of a HELD one withdraws its start, of another is answered
NOTACTIVE; REMAP gives the channel its ring, RINGMOVE every channel of a ring. -/
def Obligations.StartChecks : Prop :=
  ∀ (port cmd : Nat) (s : State),
    let c := bits cmd 11 0
    let n := (s.cfg c).stream
    let charge := (8 >>> streamRate s n) * tapsEff (s.cfg c).taps
    let past := (s.cfg c).startMode = 1 ∧ (s.ctx c 7 % 2 ^ 48) * 2 ^ 96 + (s.ctx c 6 % 2 ^ 48) * 2 ^ 48 < s.tb.now
    (chanState s c ≠ FREE → chanState s c ≠ STOPPED → evalStart port cmd s = startFails port cmd R_BUSY s) ∧
    (chanState s c = FREE ∨ chanState s c = STOPPED →
      (ctxOk s c = false → evalStart port cmd s = startFails port cmd R_BADCTX s) ∧
      (ctxOk s c = true → streamReady s n = false → headHolds s n = false →
        evalStart port cmd s = startFails port cmd R_HNR s) ∧
      (ctxOk s c = true → streamReady s n = false → headHolds s n = true →
        let s1 := ((s.setChan c { charge := 0, slot := 32, engine := 128 }).setChanState c HELD).count CSH_COUNT_HELD
        evalStart port cmd s = refreshUse (holdCmd (n / 4) { kind := 0, id := c, port := port, word := cmd } s1)) ∧
      (ctxOk s c = true → streamReady s n = true →
        (clapHolds s n = true → evalStart port cmd s = startFails port cmd R_CLAPHOLD s) ∧
        (clapHolds s n = false → past → evalStart port cmd s = startFails port cmd R_PAST s) ∧
        (clapHolds s n = false → ¬past → s.rd CSH_BUDGET_LIMIT < s.rd CSH_BUDGET_USED + charge →
          evalStart port cmd s = startFails port cmd R_BUDGET s) ∧
        (clapHolds s n = false → ¬past → s.rd CSH_BUDGET_USED + charge ≤ s.rd CSH_BUDGET_LIMIT →
          (findEngine s charge = none → evalStart port cmd s = startFails port cmd R_NOENGINE s) ∧
          (∀ e, findEngine s charge = some e → evalStart port cmd s = postRsp port cmd R_OK (admitChan c charge e s))))) ∧
    -- STOP, REMAP and RINGMOVE
    let s1 := release c s
    let s2 := s1.setCtx c 8 (setBits (setBits (s1.ctx c 8) 11 8 1) 2 0 STOPPED)
    (chanState s c = ACTIVE → evalStop port cmd s = postRsp port cmd R_OK (refreshUse ((s2.setCtx c 11 0).setChan c {}))) ∧
    (chanState s c = HELD → evalStop port cmd s = postRsp port cmd R_OK (cancelHeld c s)) ∧
    (chanState s c ≠ ACTIVE → chanState s c ≠ HELD → evalStop port cmd s = postRsp port cmd R_NOTACTIVE s) ∧
    evalRemap port cmd s = postRsp port cmd R_OK (s.setCtx c 0 (setBits (s.ctx c 0) 9 8 (bits cmd 15 14))) ∧
    evalRingMove port cmd s = postRsp port cmd R_OK
      (((List.range 4096).filter fun c => (s.cfg c).ring == bits cmd 13 12).foldl
        (fun s c => s.setCtx c 0 (setBits (s.ctx c 0) 9 8 (bits cmd 15 14))) s)

/-- ENGINE_BLOCK, RING_RP_WRITE, RING_BASE_WRITE, CONTEXT_WRITE, AIDING_COMMIT and AIDING_TRANSFER complete: an
ACTIVE channel correlates up to 256 samples of what its stream has delivered and stops with a stream that has ended; RP and
BASE are checked; RING_DB_TIMEOUT is the tick at which TO µs without a write of RP make the doorbell of a ring that holds records
request; a port of aiding takes 64 records from its own initiator, drops one with a
bad coherent count, and hands the oldest to an ACTIVE channel only.  CODE_RAM_WRITE and CGN_CRC_CHECK complete: a word of
a free block is stored, one of a block in use is refused with CODE_LOCKED and counted; a check starts only when none runs and its
blocks exist.  CGN_CRC_DONE is the tick in which a check reads its last word; every third tick reads one word as it stands then, and the
result is the CRC-32C over the words in ascending order. -/
def Obligations.ArrayCommands : Prop :=
  ∀ (s : State),
    (∀ (c : Chan), chanState s c ≠ ACTIVE → exec (.engineBlock c) s = .next s) ∧
    (∀ (c : Chan), chanState s c = ACTIVE → ((findFirst c s).chan c).next = none → exec (.engineBlock c) s = .next (findFirst c s)) ∧
    (∀ (c : Chan) (k : Nat), chanState s c = ACTIVE →
      let s1 := findFirst c s
      (s1.chan c).next = some k →
      let st := s1.stream (s1.cfg c).stream
      let stop := match (s1.chan c).endAt with | some e => e.1 | none => st.count
      let hi := min (k + 256) (min stop st.count)
      let w := loadWork s1 c
      exec (.engineBlock c) s = .next (stopAtEnd c hi (finishWork c (stepRange s1 c (s1.cfg c) false k hi st.window
        { w with run := { w.run with next := some (max k hi) } }) s1))) ∧
    (∀ k : Fin 4,
      exec (.ringDbTimeout k) s = .next (tickAt (fun s t => !ringWaited s k s.ticks && ringWaited s k t) s) ∧
      (∀ t, ringWaited s k t = true ↔ 0 < ringLevel s k ∧ s.rd (CA_RINGk_DB_TO k) ≠ 0 ∧
        s.ca.rpAt.getD k 0 + s.rd (CA_RINGk_DB_TO k) * 600 ≤ t) ∧
      (ringDoorbell s k = true ↔ max (s.rd (CA_RINGk_DB_THR k)) 1 ≤ ringLevel s k ∨ ringWaited s k s.ticks = true) ∧
      ∀ v : Word,
        let left := (s.rd (CA_RINGk_WP_WP k) + 65536 - v.toNat % 65536) % 65536
        let s1 := s.typed (CA_RINGk_RP k) v
        let bad := v.toNat % 128 ≠ 0 ∨ 0x01800000 ≤ v.toNat % 2 ^ 32 ∨ ringNamed s k = true
        let rp := fun (t : State) => whenOn (CA_RINGk_RP k) (fun _ => t) s
        let base := fun (t : State) => whenOn (CA_RINGk_BASE k) (fun _ => t) s
        (4096 < left → exec (.ringRpWrite k v) s = .next (rp (s.wr CA_STAT_CFGERR 1))) ∧
        (left ≤ 4096 → exec (.ringRpWrite k v) s =
          .next (rp { s1 with ca := { s1.ca with rpAt := s1.ca.rpAt.setIfInBounds k s1.ticks } })) ∧
        (bad → exec (.ringBaseWrite k v) s = .next (base (s.wr CA_STAT_CFGERR 1))) ∧
        (¬bad → exec (.ringBaseWrite k v) s = .next (base (s.typed (CA_RINGk_BASE k) v)))) ∧
    (∀ (init : Init) (c : Chan) (w : Fin 32) (v : BitVec 64),
      let a := 0x04000000 + 256 * c.val + 8 * w.val
      let s1 := traceInit init a true s
      (accessCause s1 init a 8 false true = 0 →
        exec (.contextWrite init c w v) s = .next (landWrite a (toLE 8 v.toNat) s1)) ∧
      (accessCause s1 init a 8 false true = CTX_LOCKED →
        exec (.contextWrite init c w v) s = .next (icError init a true CTX_LOCKED s1))) ∧
    (∀ (init : Init) (i : CoreId) (v : Word),
      let q := s.ca.aids.getD i []
      let hdr := fun (f : State → State) => asAccess init (CA_AIDi_HDR i) true f s
      let badNcoh := bits v.toNat 19 19 = 1 ∧ ¬(1 ≤ bits v.toNat 30 24 ∧ bits v.toNat 30 24 ≤ 100)
      (init ≠ i.val → exec (.aidingCommit init i v) s = .next (hdr (icError init (CA_AIDi_HDR i) true OWNER))) ∧
      (init = i.val → 64 ≤ q.length → exec (.aidingCommit init i v) s =
        .next (hdr fun s => ((s.count (CA_AIDi_CNT_DROPS i)).wr (CA_AIDi_STAT_OVF i) 1).wr CA_STAT_AIDOVF 1)) ∧
      (init = i.val → q.length < 64 → badNcoh → exec (.aidingCommit init i v) s =
        .next (hdr fun s => (s.count (CA_AIDi_CNT_DROPS i)).wr CA_STAT_AIDOVF 1)) ∧
      (init = i.val → q.length < 64 → ¬badNcoh → exec (.aidingCommit init i v) s =
        .next (hdr fun s => ({ s with ca := { s.ca with aids := s.ca.aids.setIfInBounds i (q ++ [⟨v.toNat, (s.reg (CA_AIDi_CARR i)).toNat,
          (s.reg (CA_AIDi_CODE i)).toNat, (s.reg (CA_AIDi_CADJ i)).toNat, (s.reg (CA_AIDi_KADJ i)).toNat⟩]) } } : State).wr
          (CA_AIDi_STAT_LEVEL i) (q.length + 1)))) ∧
    (∀ i : CoreId, s.ca.aids.getD i [] = [] → exec (.aidingTransfer i) s = .next s) ∧
    (∀ (i : CoreId) (r : AidRec) (rest : List AidRec), s.ca.aids.getD i [] = r :: rest →
      let s1 := ({ s with ca := { s.ca with aids := s.ca.aids.setIfInBounds i rest } } : State).wr (CA_AIDi_STAT_LEVEL i) rest.length
      (chanState s1 (bits r.hdr 11 0) = ACTIVE → exec (.aidingTransfer i) s = .next (mergeAiding r s1)) ∧
      (chanState s1 (bits r.hdr 11 0) ≠ ACTIVE → exec (.aidingTransfer i) s =
        .next ((s1.count (CA_AIDi_CNT_NOTACT i)).wr (CA_AIDi_STAT_NOTACT i) 1))) ∧
    -- the code RAM and its check engine
    (∀ (init : Init) (w : Fin 16384) (v : BitVec 64),
      let a := 0x05800000 + 8 * w.val
      let s1 := traceInit init a true s
      (accessCause s1 init a 8 false true = 0 → exec (.codeRamWrite init w v) s = .next (landWrite a (toLE 8 v.toNat) s1)) ∧
      (accessCause s1 init a 8 false true = CODE_LOCKED → exec (.codeRamWrite init w v) s =
        .next (icError init a true CODE_LOCKED ((s1.wr CGN_STAT_LOCKERR 1).count CGN_LOCKCNT_COUNT)))) ∧
    (∀ first count : Fin 256,
      (s.flag CGN_CRCRES_BUSY = true ∨ 255 < first.val + count.val →
        exec (.cgnCrcCheck first count) s = .next (whenOn CGN_CRCCMD (fun s => s.wr CGN_STAT_CFGERR 1) s)) ∧
      (s.flag CGN_CRCRES_BUSY = false → first.val + count.val ≤ 255 → exec (.cgnCrcCheck first count) s =
        .next (whenOn CGN_CRCCMD (fun s => (({ s with cgn := { check := some (first.val, count.val) } } : State).wr
          CGN_CRCRES_BUSY 1).wr CGN_CRCRES_DONE 0) s))) ∧
    exec .cgnCrcDone s = .next (tickAt (fun s _ => crcDue s) s) ∧
    (s.cgn.check = none → crcTick s = s ∧ crcDue s = false) ∧
    (∀ first count, s.cgn.check = some (first, count) →
      let word := s.bytes (0x05800000 + 512 * first + 8 * s.cgn.words) 8
      let last := 64 * (count + 1) ≤ s.cgn.words + 1
      let ended := ({ s with cgn := {} } : State).wr CGN_CRCRES_CRC (word.foldl crc32cByte s.cgn.crc ^^^ 0xFFFFFFFF#32).toNat
      (crcDue s = true ↔ last ∧ 2 ≤ s.cgn.ticks) ∧
      (s.cgn.ticks < 2 → crcTick s = { s with cgn := { s.cgn with ticks := s.cgn.ticks + 1 } }) ∧
      (2 ≤ s.cgn.ticks → ¬last → crcTick s = { s with cgn := { s.cgn with
        words := s.cgn.words + 1, crc := word.foldl crc32cByte s.cgn.crc, ticks := 0 } }) ∧
      (2 ≤ s.cgn.ticks → last →
        crcTick s = ((ended.wr CGN_CRCRES_BUSY 0).wr CGN_CRCRES_DONE 1).wr CGN_STAT_CRCDONE 1))

/-- SE_START, SE_ABORT, SE_GRID_ORIGIN and SE_BLOCK complete: a start is answered BUSY, NOROUTE or BADPLAN, is held with its head, or
meets NOBUF and PAST and enters WAIT; an abort idles the slot without reports, with a block in the datapath after its transform; the
grid origin takes the samples from the start instant and enters RUN; in its turn among the slots a block is taken where it is whole
and not too old, the blocks passed over are counted.  SE_BLOCK_COMPLETE is the tick that ends the transforms of a block, whose powers
are then summed, and SE_RPT_DB_TIMEOUT the one at which TO µs without a write of RP make the report doorbell request. -/
def Obligations.SearchCommands : Prop :=
  ∀ (k : Fin 4) (s : State),
    let sl := s.slot k
    let st := s.rd (SEk_STAT_STATE k)
    let cmd := fun (t : State) => whenOn (SEk_CMD k) (fun _ => t) s
    (st ≠ SE_IDLE → exec (.seStart k) s = .next (cmd (s.wr (SEk_STAT_RESULT k) RES_BUSY))) ∧
    (st = SE_IDLE → s.flag (BRT_SEk_EN k) = false → exec (.seStart k) s = .next (cmd (s.wr (SEk_STAT_RESULT k) RES_NOROUTE))) ∧
    (st = SE_IDLE → s.flag (BRT_SEk_EN k) = true →
      let n := s.rd (BRT_SEk_STREAM k)
      let w := (readPlan (s.rd (SEk_BASE_BASE k) * 64) s).1
      let s1 := (readPlan (s.rd (SEk_BASE_BASE k) * 64) s).2
      let p := planOf w
      let blocks := (p.descs.map fun d => if d.kind = 0 then blocksOf (descCfg d) else []).flatten
      let s2 := refreshUse (s1.setSlot k { plan := some p, blocks := blocks, stream := n, rate := streamRate s n })
      (∀ d, planFault w p (streamRate s n) = some d →
        exec (.seStart k) s = .next (cmd ((s1.wr (SEk_STAT_BADDESC k) d).wr (SEk_STAT_RESULT k) RES_BADPLAN))) ∧
      (planFault w p (streamRate s n) = none →
        (streamReady s1 n = true → exec (.seStart k) s = .next (cmd (seReady k s2))) ∧
        (streamReady s1 n = false → headHolds s1 n = true →
          exec (.seStart k) s = .next (cmd (holdCmd (n / 4) { kind := 1, id := k } (s2.wr (SEk_STAT_STATE k) SE_HELD)))) ∧
        (streamReady s1 n = false → headHolds s1 n = false →
          exec (.seStart k) s = .next (cmd ((refreshUse (s2.setSlot k {})).wr (SEk_STAT_RESULT k) RES_HNR))))) ∧
    (∀ p, sl.plan = some p →
      let s1 := s.setSlot k { sl with rate := streamRate s sl.stream, behind := itemsBehind s sl.stream }
      let past := p.startMode = 1 ∧ p.start * 2 ^ 48 < s.tb.now + 8 * s.rate
      (65536 < p.n + otherN s k → seReady k s = seDrop k RES_NOBUF s) ∧
      (p.n + otherN s k ≤ 65536 → past → seReady k s = seDrop k RES_PAST s) ∧
      (p.n + otherN s k ≤ 65536 → ¬past → seReady k s = awaitStream sl.stream
        (((s1.wr (SEk_STAT_STATE k) SE_WAIT).wr (SEk_STAT_RESULT k) RES_OK).setReg (SEk_PROG k) 0))) ∧
    (st = SE_IDLE → exec (.seAbort k) s = .next (cmd s)) ∧
    (st ≠ SE_IDLE → sl.busy.isSome = true → exec (.seAbort k) s = .next (cmd (s.setSlot k { sl with aborting := true }))) ∧
    (st ≠ SE_IDLE → st ≠ SE_HELD → sl.busy = none → exec (.seAbort k) s = .next (cmd (seIdle k RES_ABORTED s))) ∧
    (st = SE_HELD → sl.busy = none →
      let n := sl.stream / 4
      let s1 := s.setHead n { s.head n with held := (s.head n).held.filter fun x => !(x.kind == 1 && x.id == k.val) }
      exec (.seAbort k) s = .next (cmd (seIdle k RES_ABORTED (s1.wr (FECn_STAT_HELD n) (s1.rd (FECn_STAT_HELD n) - 1))))) ∧
    (sl.plan = none ∨ st ≠ SE_WAIT → exec (.seGridOrigin k) s = .next s) ∧
    (∀ p, sl.plan = some p → st = SE_WAIT →
      let frames := if p.startMode = 0 then (if sl.inbox.isEmpty then none else some sl.inbox) else fromInstant p.start sl.inbox
      (frames = none → exec (.seGridOrigin k) s = .next (s.setSlot k { sl with inbox := [] })) ∧
      (∀ fs, frames = some fs → exec (.seGridOrigin k) s =
        .next ((({ s with se := { s.se with dirty := true } } : State).setSlot k
          (fs.foldl (seIngest p) { sl with inbox := [] })).wr (SEk_STAT_STATE k) SE_RUN))) ∧
    (sePaused s = true ∨ seTurn s k = false ∨ sl.plan = none ∨ seQualifies s k = none → exec (.seBlock k) s = .next s) ∧
    (∀ p q, sl.plan = some p → seQualifies s k = some q → sePaused s = false → seTurn s k = true →
      let s1 := ((s.countSat (SEk_PROG_NSKIP k) (q - sl.nextBlock)).wr (SEk_PROG_BLOCK k) q).setSlot k
        { sl with busy := some q, nextBlock := q + 1, block := blockSamples p sl q, left := transforms p * transformCycles p }
      exec (.seBlock k) s = .next { s1 with se := { s1.se with last := k } }) ∧
    exec (.seBlockComplete k) s = .next (tickAt (fun s _ => seBlockDue s k) s) ∧
    (∀ p q, sl.plan = some p → sl.busy = some q →
      let first := s.rd (SEk_PROG_NSUM k) == 0
      let acc := accBlock first s.freeCount p sl q { s with freeCount := s.freeCount + 1 }
      let s1 := seSum k q acc.2.1 acc.2.2
      (acc.1 = true → seBlockComplete k s = seIdle k RES_FWERR acc.2.2) ∧
      (acc.1 = false → s1.rd (SEk_PROG_NSUM k) = p.nnc → seBlockComplete k s = seEndWith k RES_OK false s1) ∧
      (acc.1 = false → s1.rd (SEk_PROG_NSUM k) ≠ p.nnc → seBlockComplete k s = s1)) ∧
    (∀ p q sats, sl.plan = some p →
      let first := s.rd (SEk_PROG_NSUM k) == 0
      let zs := sl.block.foldl (fun a x => a + x.zs) 0
      let tref := match sl.block with | x :: _ => x.time / (2 ^ p.dsel * sampleRate sl.rate) | [] => 0
      seSum k q sats s = (s.setSlot k { sl with
        busy := none, block := [], left := 0,
        marks := sl.marks ||| sl.block.foldl (fun a x => a ||| x.marks) 0 ||| (if 0 < zs then 1 else 0),
        muted := sl.muted + zs, sats := sl.sats ++ sats, tref := if first then tref else sl.tref,
        refBlock := if first then q else sl.refBlock }).count (SEk_PROG_NSUM k)) ∧
    exec .seRptDbTimeout s = .next (tickAt (fun s t => !rptWaited s s.ticks && rptWaited s t) s) ∧
    (∀ t, rptWaited s t = true ↔ 0 < rptLevel s ∧ s.rd SE_RPTDB_TO ≠ 0 ∧ s.se.rpAt + s.rd SE_RPTDB_TO * 600 ≤ t)

/-- REEL_ARM, REEL_STOP, REEL_TRIGGER and REEL_FRAC_READ complete: ARM is checked in the order BUSY, NOROUTE, BADCFG, head, PAST, and
then waits for its trigger; STOP ends an ARMED or HELD input with ABORTED and a running one at its next frame; an ARMED input
whose first sample has been delivered runs from it; a read of a FRAC register latches its SEC register. -/
def Obligations.ReelCommands : Prop :=
  ∀ (k : Fin 8) (s : State),
    let st := s.rd (REELk_STAT_STATE k)
    let n := s.rd (BRT_REELk_STREAM k)
    let badCfg := s.rd (REELk_LEN_LEN k) = 0 ∨
      0x01800000 < s.rd (REELk_BASE_BASE k) * 64 + (3 + s.rd (REELk_CTRL_PACK k)) * s.rd (REELk_LEN_LEN k)
    let cmd := fun (t : State) => whenOn (REELk_CMD k) (fun _ => t) s
    let result := fun (r : Nat) => Host.Outcome.next (cmd (s.wr (REELk_STAT_RESULT k) r))
    let s1 := s.setReel k { stream := n }
    (st ≠ REEL_IDLE → st ≠ REEL_DONE → exec (.reelArm k) s = result RES_BUSY) ∧
    (st = REEL_IDLE ∨ st = REEL_DONE → s.flag (BRT_REELk_EN k) = false → exec (.reelArm k) s = result RES_NOROUTE) ∧
    (st = REEL_IDLE ∨ st = REEL_DONE → s.flag (BRT_REELk_EN k) = true →
      (badCfg → exec (.reelArm k) s = result RES_BADCFG) ∧
      (¬badCfg → streamReady s n = false → headHolds s n = false → exec (.reelArm k) s = result RES_HNR) ∧
      (¬badCfg → streamReady s n = false → headHolds s n = true →
        exec (.reelArm k) s = .next (cmd (holdCmd (n / 4) { kind := 2, id := k } (s1.wr (REELk_STAT_STATE k) REEL_HELD)))) ∧
      (¬badCfg → streamReady s n = true → reelPast s k = true → exec (.reelArm k) s = result RES_PAST) ∧
      (¬badCfg → streamReady s n = true → reelPast s k = false →
        let t := ((s1.wr (REELk_STAT_STATE k) REEL_ARMED).wr (REELk_STAT_RESULT k) RES_OK).setReg (REELk_COUNT k) 0
        let at_ := if reelTrig t k = 1 then some (reelTrigAt t k) else none
        exec (.reelArm k) s = .next (cmd (t.setReel k { stream := n, behind := itemsBehind t n, trigAt := at_ })))) ∧
    (st = REEL_IDLE ∨ st = REEL_DONE → exec (.reelStop k) s = .next (cmd s)) ∧
    (st = REEL_RUN → exec (.reelStop k) s = .next (cmd (s.setReel k { s.reel k with stopping := true }))) ∧
    (st = REEL_ARMED → exec (.reelStop k) s = .next (cmd (reelDone k RES_ABORTED s))) ∧
    (st = REEL_HELD →
      let m := (s.reel k).stream / 4
      let s2 := s.setHead m { s.head m with held := (s.head m).held.filter fun x => !(x.kind == 2 && x.id == k.val) }
      exec (.reelStop k) s = .next (cmd (reelDone k RES_ABORTED (s2.wr (FECn_STAT_HELD m) (s2.rd (FECn_STAT_HELD m) - 1))))) ∧
    (st ≠ REEL_ARMED → exec (.reelTrigger k) s = .next s) ∧
    (st = REEL_ARMED →
      let x := s.reel k
      let t := (s.setReel k { x with inbox := [] }).wr (REELk_STAT_STATE k) REEL_RUN
      let own := fun (g : TapFrame) => g.samples.find? (ownSample g.tag)
      let frames := if reelTrig s k = 0 then (if x.inbox.isEmpty then none else some x.inbox)
        else match x.trigAt with | none => none | some w => fromInstant w x.inbox
      (frames = none → exec (.reelTrigger k) s = .next (s.setReel k { x with inbox := [] })) ∧
      (frames = some [] → exec (.reelTrigger k) s = .next s) ∧
      (∀ f rest, frames = some (f :: rest) → exec (.reelTrigger k) s = .next (rest.foldl (fun s g => reelFrame k true g s)
        (reelFrame k (x.inbox.any fun g => g.tag == f.tag && own g == own f) f t)))) ∧
    (∀ (init : Init) (last : Bool),
      let sec := if last then REELk_TLASTSEC k else REELk_TFIRSTSEC k
      exec (.reelFracRead init k last) s = .next (asAccess init (sec + 8) false (fun s => { s with bus := { s.bus with
        secs := (init.val, sec, (s.reg sec).toNat) :: s.bus.secs.filter fun e => !(e.1 == init.val && e.2.1 == sec) } }) s))

/-- TB_LOAD, TB_STEP, TB_SLEW, TB_SLEWSTOP, TB_FREQ_WRITE and TB_FRAC_READ complete, each as an access of its
register.  An initiator that TB_OWNERS does not name is
refused with OWNER; a load, step, slew or frequency that breaks a rule is refused with its cause; an accepted step gets its
step tick 4 ticks on, an accepted slew replaces the one waiting with its rate clamped, a frequency within 50 ppm is stored. -/
def Obligations.TimeBaseCommands : Prop :=
  ∀ (init : Init) (f : Word) (s : State),
    let step := s.rdS TB_STEP_STEP
    let amount := s.rdS TB_SLEW_AMOUNT
    let rate := s.rd TB_SLEWRATE_RATE
    let load := s.stamp TB_LOADSEC TB_LOADFRAC
    let ahead : Int := (load * 2 ^ 48 : Nat) - (s.tb.now : Int)
    let set := s.flag TB_STAT_TIMESET
    let limit := min (s.rd TB_STEPLIM_LIMIT) (10 ^ 12)
    let freq := signed 48 f.toNat
    let cmd := fun (g : State → State) => asAccess init TB_CMD true g s
    let frq := fun (g : State → State) => asAccess init TB_FREQ true g s
    (s.bit TB_OWNERS_MASK init = false →
      exec (.tbLoad init) s = .next (cmd fun s => icError init TB_CMD true OWNER s) ∧
      exec (.tbStep init) s = .next (cmd fun s => icError init TB_CMD true OWNER s) ∧
      exec (.tbSlew init) s = .next (cmd fun s => icError init TB_CMD true OWNER s) ∧
      exec (.tbSlewstop init) s = .next (cmd fun s => icError init TB_CMD true OWNER s) ∧
      exec (.tbFreqWrite init f) s = .next (frq fun s => icError init TB_FREQ true OWNER s)) ∧
    (s.bit TB_OWNERS_MASK init = true →
      (set = true ∨ s.tb.load.isSome = true →
        exec (.tbLoad init) s = .next (cmd fun s => tbRefuse 0 ALREADYSET init (toPs ahead) s)) ∧
      (set = false → s.tb.load = none → ahead < (8 * s.rate : Nat) →
        exec (.tbLoad init) s = .next (cmd fun s => tbRefuse 0 BACKWARD init (toPs ahead) s)) ∧
      (set = false → s.tb.load = none → ((8 * s.rate : Nat) : Int) ≤ ahead →
        exec (.tbLoad init) s = .next (cmd fun s => { s with tb := { s.tb with load := some load } })) ∧
      (step = 0 → exec (.tbStep init) s = .next (cmd fun s => s)) ∧
      (step ≠ 0 → set = false → exec (.tbStep init) s = .next (cmd fun s => tbRefuse 1 NOTSET init step s)) ∧
      (step < 0 → set = true → exec (.tbStep init) s = .next (cmd fun s => tbRefuse 1 BACKWARD init step s)) ∧
      ((limit : Int) < step → set = true → exec (.tbStep init) s = .next (cmd fun s => tbRefuse 1 LIMIT init step s)) ∧
      (∀ ps : Nat, step = ps → 0 < ps → ps ≤ limit → set = true →
        (limit < ps + windowSum (s.ticks + 4) s.tb.history →
          exec (.tbStep init) s = .next (cmd fun s => tbRefuse 1 WINDOW init step s)) ∧
        (ps + windowSum (s.ticks + 4) s.tb.history ≤ limit →
          exec (.tbStep init) s = .next (cmd fun s => { s with tb := { s.tb with
            steps := s.tb.steps ++ [⟨s.ticks + 4, ps⟩], history := ⟨s.ticks + 4, ps⟩ :: s.tb.history } }))) ∧
      (set = false → exec (.tbSlew init) s = .next (cmd fun s => tbRefuse 2 NOTSET init amount s)) ∧
      (set = true → rate = 0 → exec (.tbSlew init) s = .next (cmd fun s => tbRefuse 2 BADRATE init amount s)) ∧
      (set = true → rate ≠ 0 → amount = 0 → exec (.tbSlew init) s = exec (.tbSlewstop init) s) ∧
      (set = true → rate ≠ 0 → amount ≠ 0 → rate ≤ s.slewLimit →
        exec (.tbSlew init) s = .next (cmd fun s => { s with tb := { s.tb with slewNext := some ⟨rate, psOfS amount⟩ } })) ∧
      (set = true → amount ≠ 0 → s.slewLimit < rate → s.wf = true →
        ∃ t, exec (.tbSlew init) s = .next (cmd fun _ => t) ∧ t.tb = { s.tb with slewNext := some ⟨s.slewLimit, psOfS amount⟩ } ∧
          t.flag TB_STAT_SLEW_CLAMP = true ∧ t.mem = s.mem) ∧
      exec (.tbSlewstop init) s = .next (cmd fun s => { s with tb := { s.tb with slewStop := true, slewNext := none } }) ∧
      ((14073748835 : Int) < freq ∨ freq < -14073748835 →
        exec (.tbFreqWrite init f) s = .next (frq fun s => tbRefuse 3 RANGE init freq s)) ∧
      (freq ≤ 14073748835 → -14073748835 ≤ freq → s.wf = true →
        ∃ t, exec (.tbFreqWrite init f) s = .next (frq fun _ => t) ∧ t.reg TB_FREQ = f ∧ t.mem = s.mem ∧
          t.flag TB_STAT_RAMPING = ((s.setReg TB_FREQ f).rd TB_FREQNOW_FREQ != f.toNat) ∧
          ∀ a, a ≠ TB_FREQ → a ≠ TB_STAT → t.reg a = s.reg a)) ∧
    exec (.tbFracRead init) s = .next (asAccess init TB_FRAC false (fun s => { s with bus := { s.bus with
      secs := (init.val, TB_SEC, s.tb.now / 2 ^ 96) :: s.bus.secs.filter fun e => !(e.1 == init.val && e.2.1 == TB_SEC) } }) s)

/-- TICK of a supplied block out of DEEP is a tick of the time base and of all that counts on it, then of the always-on counter, of a
STANDBY entry or exit under way and of what SV, or the boot ROM for an answer due, polls; in DEEP the time base stands still; without supply nothing happens.  LOAD_TAKE_EFFECT, STEP_TICK, SLEW_END,
FREQ_RAMP_MOVE, LEAP_APPLY, TPG_LEADING_EDGE, TPG_TRAILING_EDGE, RAMP_SEGMENT_END,
OSY_PHASE_CAPTURE, KC_TIMER_EXPIRY, WATCHDOG_EXPIRY,
TOD_STRING_START, EVC_CAPTURE and EVC_WINDOW_MISS are that
tick where their event is due at it, and change nothing otherwise; REF_SWITCH_TICK is a tick at which a reference switch in
progress takes place, and changes nothing where none awaits its tick (the model's choice, log entry 5). -/
def Obligations.TickCommands : Prop :=
  ∀ (g : Fin 16) (u : Fin 4) (e : Fin 8) (core : CoreId) (s : State),
    let polled := fun (t : State) => if svRuns t || !t.hst.await.isEmpty then empPoll t else t
    let ticked := fun (s : State) =>
      if s.pwr.supplied then polled (powerTick (rtcTick (if s.pwr.power = .deep then deepTick s else tick s))) else s
    let names := fun (due : Bool) (c : Instr) => exec c s = .next (if due then ticked s else s)
    let on := tbRuns s && hostOn s
    names true .tick ∧ names (loadDue s) .loadTakeEffect ∧ names (stepDue s) .stepTick ∧ names (slewDue s) .slewEnd ∧
    names (rampDue s) .freqRampMove ∧ names (leapDue s) .leapApply ∧
    names (tbRuns s && leadingDue s g) (.tpgLeadingEdge g) ∧ names (tbRuns s && trailingDue s g) (.tpgTrailingEdge g) ∧
    names (tbRuns s && segmentDue s u) (.rampSegmentEnd u) ∧ names (tbRuns s && (phEdge s u).isSome) (.osyPhaseCapture u) ∧
    names (on && s.rd (KCn_TIMER_COUNT core) == 1) (.kcTimerExpiry core) ∧
    names (on && dogDue s core) (.watchdogExpiry core) ∧
    names (on && todDue s (s.ticks + 1)) .todStringStart ∧
    names (tbRuns s && filterDue s e (s.ticks + 1)) (.evcCapture e) ∧ names (tbRuns s && missDue s e) (.evcWindowMiss e) ∧
    (switchDue s = true → exec .refSwitchTick s = .next (ticked { s with tb := { s.tb with refSwitch := true } })) ∧
    (switchDue s = false → exec .refSwitchTick s = .next s)

/-- At a tick with no load waiting, no slew, no ramp and no reference switch, the time base gains TB_RATE, which is NOM and
floor(NOM × FREQNOW / 2^48), and the converted values of the accepted steps due at that tick; the steps that are not due keep
waiting, and TB_RATE reads so afterwards. -/
def Obligations.TimeBaseAdvances : Prop :=
  ∀ s : State, s.wf = true → s.tb.load = none → s.tb.slew = none → s.tb.slewNext = none → s.tb.refSwitch = false →
    s.rdS TB_FREQ_FREQ = s.rdS TB_FREQNOW_FREQ →
      let r := ((132046937523773895989 : Int) + 132046937523773895989 * s.rdS TB_FREQNOW_FREQ / 2 ^ 48).toNat
      let due := s.tb.steps.filter fun p => decide (p.due ≤ s.ticks + 1)
      (tbTick s).ticks = s.ticks + 1 ∧ (tbTick s).rate = r ∧
      (tbTick s).tb.now = (s.tb.now + r + due.foldl (fun a p => a + p.ps * 2 ^ 96 / 10 ^ 12) 0) % 2 ^ 144 ∧
      (tbTick s).tb.steps = s.tb.steps.filter fun p => !decide (p.due ≤ s.ticks + 1)

/-- TPG_ARM, TPG_DISARM and TPG_NEXTLAST_FRAC_READ complete: only the owner arms and disarms; ARM of an ARMED generator sets BUSY, of
a bad configuration CFGERR; a target at least 8 ticks ahead becomes the next one and the generator is ARMED; a train's late
target moves on by whole periods with LATE_ALIGNED, and a one-shot's is PAST; DISARM waits for the end of a pulse in progress;
the read of a FRAC register latches its SEC register for the initiator. -/
def Obligations.PulseCommands : Prop :=
  ∀ (init : Init) (n : Fin 16) (last : Bool) (s : State),
    let mine := ownerOf s (tpgUnit n) = some init.val
    let st := s.rd (TPGn_STAT_STATE n)
    let tgt := tpgTarget s n
    let s1 := s.setTpg n { s.tpg n with path := s.rd (TPGn_PATH_PATH n) }
    let cmd := fun (g : State → State) => asAccess init (TPGn_CMD n) true g s
    let soon : Int := armNow s + (8 * s.rate : Nat)
    (¬mine → exec (.tpgArm init n) s = .next (cmd fun s => icError init (TPGn_CMD n) true OWNER s) ∧
      exec (.tpgDisarm init n) s = .next (cmd fun s => icError init (TPGn_CMD n) true OWNER s)) ∧
    (mine →
      (st = T_ARMED → exec (.tpgArm init n) s = .next (cmd fun s => s.wr (TPGn_STAT_BUSY n) 1)) ∧
      (st ≠ T_ARMED → tpgConfigOk s n = false → exec (.tpgArm init n) s = .next (cmd fun s => s.wr (TPGn_STAT_CFGERR n) 1)) ∧
      (st ≠ T_ARMED → tpgConfigOk s n = true →
        (soon ≤ firing s1 n tgt → exec (.tpgArm init n) s = .next (cmd fun s => tpgArmed n tgt s)) ∧
        (firing s1 n tgt < soon → isTrain s n = true → exec (.tpgArm init n) s =
          .next (cmd fun s => (tpgArmed n (tgt + alignK s1 n tgt soon * tpgPeriod s n) s).wr (TPGn_STAT_LATE_ALIGNED n) 1)) ∧
        (firing s1 n tgt < soon → isTrain s n = false → exec (.tpgArm init n) s =
          .next (cmd fun s => logUnit 0x51 0 n (n + tgt % 2 ^ 48 * 2 ^ 16) (s.wr (TPGn_STAT_PAST n) 1)))) ∧
      ((s.tpg n).trail.isSome = true → exec (.tpgDisarm init n) s = .next (cmd fun s => s.setTpg n { s.tpg n with disarm := true })) ∧
      ((s.tpg n).trail = none → exec (.tpgDisarm init n) s = .next (cmd fun s => s.wr (TPGn_STAT_STATE n) T_IDLE))) ∧
    (s.tb.stepped = none → armNow s = s.tb.now) ∧
    exec (.tpgNextlastFracRead init n last) s =
      .next (let sec := if last then TPGn_LASTSEC n else TPGn_NEXTSEC n
        asAccess init (sec + 8) false (fun s => latchSec init sec (s.reg sec).toNat s) s)

/-- A leading edge sets LEVEL and EDGE of its generator and stores the instant of its emission in LASTSEC and LASTFRAC; a one-shot
keeps its next target, and the trailing edge is due a WIDTH later; where the generator is paired with a time-of-day string, that is
due at the first tick DELAY µs after the edge. -/
def Obligations.LeadingEdge : Prop :=
  ∀ (n : Fin 16) (k tick f : Nat) (s : State), s.wf = true → isTrain s n = false →
    let t := leadingEdge n k tick f s
    let last := (tick + f * s.rate / 256 + (s.tpg n).path * s.rate / 256) / 2 ^ 48
    t.flag (TPGn_STAT_LEVEL n) = true ∧ t.flag (TPGn_STAT_EDGE n) = true ∧
    t.reg (TPGn_LASTSEC n) = BitVec.ofNat 48 (last / 2 ^ 48) ∧ t.reg (TPGn_LASTFRAC n) = BitVec.ofNat 48 last ∧
    t.reg (TPGn_NEXTSEC n) = s.reg (TPGn_NEXTSEC n) ∧ t.reg (TPGn_NEXTFRAC n) = s.reg (TPGn_NEXTFRAC n) ∧
    (t.tpg n).trail = some (tpgNext s n + s.rd (TPGn_WIDTH_FRAC n)) ∧
    (s.flag TPE_TODCFG_EN = true → s.rd TPE_TODCFG_TPG = n →
      t.pls.tod = s.pls.tod ++ [k + 600 * s.rd TPE_TODCFG_DELAY + if f = 0 then 0 else 1])

/-- UNIT_CLAIM, UNIT_RELEASE, UNIT_FORCE_RELEASE, PIN_CLAIM, PIN_RELEASE and PIN_FORCE_RELEASE complete, where the debug port's level, the
firewall and the power let the initiator write the register and no write of it came before in the CLK_PER cycle: a free unit is claimed, one's
own stays, another's is refused with OWNER and logged; only the owner releases; only initiator 6 forces a release, and one of
an owned unit is logged.  The writes of one cycle are kept, and evaluated together: of two claims of a free unit the lower initiator's
stands. -/
def Obligations.UnitOwnership : Prop :=
  ∀ (init : Init) (s : State),
    let u := unstage init s
    let open_ := fun (o : Owned) => portLost s init = false ∧ portCause u init o.reg true = 0 ∧
      ∀ t ∈ s.pls.turns, t.reg = o.reg → t.cycle ≠ s.ticks / 3
    let kept := fun (o : Owned) (frel rel claim : Bool) => { u with pls := { u.pls with
      turns := ⟨o.reg, u.ticks / 3, ownerOf u o, [⟨init, frel, rel, claim⟩]⟩ ::
        u.pls.turns.filter fun t => t.reg != o.reg && t.cycle == u.ticks / 3 } }
    let owned := fun (o : Owned) (w : Nat) (t : State) => (t.wr (ownedFld o) 1).wr (ownerFld o) w
    let free := fun (o : Owned) (t : State) => (t.wr (ownedFld o) 0).wr (ownerFld o) 0
    let claims := fun (o : Owned) (c : Instr) => open_ o →
      (ownerOf s o = none ∨ ownerOf s o = some init.val → exec c s = .next (owned o init (kept o false false true))) ∧
      (∀ w, ownerOf s o = some w → w ≠ init.val →
        let s1 := owned o w (kept o false false true)
        let s2 := if o.pin then s1.wr PMX_STAT_REFUSED 1 else s1
        exec c s = .next (icError init o.reg true OWNER (logEvent (if o.pin then 0x61 else 0x62) 1 init o.unit
          (claimData o init w) (s2.wr SAF_STAT_PINREFUSED 1))))
    let releases := fun (o : Owned) (c : Instr) => open_ o →
      (ownerOf s o = some init.val → exec c s = .next (free o (kept o false true false))) ∧
      (ownerOf s o = none → exec c s = .next (icError init o.reg true OWNER (free o (kept o false true false)))) ∧
      (∀ w, ownerOf s o = some w → w ≠ init.val →
        exec c s = .next (icError init o.reg true OWNER (owned o w (kept o false true false))))
    let forces := fun (o : Owned) (c : Instr) => open_ o →
      (init.val ≠ 6 → ∀ w, ownerOf s o = some w → exec c s =
        .next (icError init o.reg true OWNER (owned o w (kept o true false false)))) ∧
      (init.val ≠ 6 → ownerOf s o = none → exec c s = .next (icError init o.reg true OWNER (free o (kept o true false false)))) ∧
      (init.val = 6 → ownerOf s o = none → exec c s = .next (free o (kept o true false false))) ∧
      (∀ w, init.val = 6 → ownerOf s o = some w → exec c s = .next (logEvent 0x63 0 init o.unit
        (o.unit % 32 + (if o.pin then 32 else 0) + init.val * 2 ^ 8 + w * 2 ^ 12) (free o (kept o true false false))))
    (∀ k : Fin 24, claims (ownedUnit k) (.unitClaim init k) ∧ releases (ownedUnit k) (.unitRelease init k) ∧
      forces (ownedUnit k) (.unitForceRelease init k)) ∧
    (∀ p : Fin 48, claims (pinUnit p) (.pinClaim init p) ∧ releases (pinUnit p) (.pinRelease init p) ∧
      forces (pinUnit p) (.pinForceRelease init p)) ∧
    (∀ (r c a b : Nat), Turn.winner ⟨r, c, none, [⟨a, false, false, true⟩, ⟨b, false, false, true⟩]⟩ = some (min a b)) ∧
    (∀ (a : Nat) (w : Bool) (f : State → State), (portLost s init = true → asAccess init a w f s = s) ∧
      (portLost s init = false → portCause u init a w = 0 → asAccess init a w f s = f u) ∧
      (portLost s init = false → portCause u init a w ≠ 0 →
        asAccess init a w f s = icError init a w (portCause u init a w) u))

/-- EVC_INPUT_EDGE, EVC_FLUSH, EVC_CAPFRAC_READ and EVC_CAPINFO_READ complete: an edge reaches the unit only through a ball of the Pin
Multiplexer; one of an enabled unit is accepted at once without a filter and waits in it otherwise, a second edge within the
filter's time withdraws it; an accepted edge that EDGE does not select gives no capture, and a selected one closer than
max(FILT + 2, 4) ticks is lost; the edge in the filter is accepted FILT ticks after it came, and a window without a capture sets
MISS and counts; the owner's FLUSH empties the queue; a read of CAPFRAC latches the oldest capture for the initiator and a read
of CAPINFO removes it. -/
def Obligations.CaptureCommands : Prop :=
  ∀ (init : Init) (n : Fin 8) (fine : Fin 256) (w : Span) (s : State),
    let e := s.evc n
    let flipped := { e with level := !e.level }
    let path := s.rd (EVCn_PATH_PATH n) * s.rate / 256
    let x : Transition := ⟨s.ticks, 256 * s.tb.now + fine.val * s.rate, path, e.level, e.stepped, s.flag SAF_STAT_CLKFAULT⟩
    let ctl := fun (g : State → State) => asAccess init (EVCn_CTRL n) true g s
    let frac := fun (g : State → State) => asAccess init (EVCn_CAPFRAC n) false g s
    let info := fun (g : State → State) => asAccess init (EVCn_CAPINFO n) false g s
    let on := evcPowered s = true ∧ s.flag (EVCn_CTRL_EN n) = true
    let wired := ∃ b < 48, s.rd (PMX_PINn_FUNC b) = 17 + n
    (¬wired → exec (.evcInputEdge n fine) s = .next s) ∧
    (wired →
      (∀ y, e.cand = some y → exec (.evcInputEdge n fine) s =
        .next (s.setEvc n { flipped with cand := none, stepped := e.stepped || y.stepped })) ∧
      (¬on → e.cand = none → exec (.evcInputEdge n fine) s = .next (s.setEvc n flipped)) ∧
      (on → e.cand = none → s.rd (EVCn_CTRL_FILT n) = 0 →
        exec (.evcInputEdge n fine) s = .next (evcAccept n x (s.setEvc n { flipped with stepped := false }))) ∧
      (on → e.cand = none → s.rd (EVCn_CTRL_FILT n) ≠ 0 →
        exec (.evcInputEdge n fine) s = .next (s.setEvc n { flipped with stepped := false, cand := some x }))) ∧
    (∀ y k, e.cand = some y → (filterDue s n k = true ↔ y.tick + s.rd (EVCn_CTRL_FILT n) ≤ k)) ∧
    (∀ y, evcSelects s n y.fall = false → evcAccept n y s = s.setEvc n { e with stepped := e.stepped || y.stepped }) ∧
    (∀ y k, evcSelects s n y.fall = true → e.accepted = some k → y.tick < k + max (s.rd (EVCn_CTRL_FILT n) + 2) 4 →
      evcAccept n y s = ((s.setEvc n { e with stepped := e.stepped || y.stepped }).wr (EVCn_STAT_OVF n) 1).count (EVCn_COUNT_OVF n)) ∧
    (let k := emptyWindows s n w
     (k ≠ 0 → evcMiss n w s = (s.wr (EVCn_STAT_MISS n) 1).count (EVCn_COUNT_MISS n) k) ∧ (k = 0 → evcMiss n w s = s)) ∧
    (ownerOf s (evcUnit n) = some init.val → exec (.evcFlush init n) s = .next (ctl fun s => s.setEvc n { e with queue := [] })) ∧
    (ownerOf s (evcUnit n) ≠ some init.val →
      exec (.evcFlush init n) s = .next (ctl fun s => icError init (EVCn_CTRL n) true OWNER s)) ∧
    (let others := e.latched.filter fun p => p.1 != init.val
     (∀ c rest, e.queue = c :: rest →
        exec (.evcCapfracRead init n) s = .next (frac fun s => s.setEvc n { e with latched := (init.val, c) :: others })) ∧
      (e.queue = [] → exec (.evcCapfracRead init n) s = .next (frac fun s => s.setEvc n { e with latched := others })) ∧
      (latchedCapture e init = none → exec (.evcCapinfoRead init n) s = .next (info fun s => s)) ∧
      (∀ c, latchedCapture e init = some c →
        (∀ rest, e.queue = c :: rest →
          exec (.evcCapinfoRead init n) s = .next (info fun s => s.setEvc n { e with latched := others, queue := rest })) ∧
        (e.queue.head? ≠ some c →
          exec (.evcCapinfoRead init n) s = .next (info fun s => s.setEvc n { e with latched := others }))))

/-- CLK_RELOCK, CLK_SWITCH, REF_LOS, REF_ABSENT, REF_PRESENT, REF_QUALIFIED, REFCMP_WINDOW, PLL_LOCKED, PLL_LOL, RELOCK_TIMEOUT,
ROOT_BOOT_TIMEOUT, BAUD_SYNTH_LOSS_OF_LOCK, CLOCK_FAULT_END, FREQ_CHECK and GROSS_CHECK complete, each with its conditions; the time-outs and
the end of the fault are the ticks at which they fall, and a root that has not locked since boot, for want of a band too, goes to REFB
after 1 ms.  A command during a relock or a switch, or a switch without a VALID reference to go to, sets CMDREF; an event that its state
rules out, or one in DEEP, changes nothing. -/
def Obligations.RootClockCommands : Prop :=
  ∀ (r : Fin 2) (y dev : BitVec 48) (tb corr sys per : Int) (s : State),
    let busy := rootState s = C_SWITCH ∨ rootState s = C_RELOCK
    let sel := selected s
    let live := s.pwr.power ≠ .deep
    let cmd := fun (t : State) => whenOn CLK_CMD (fun _ => t) s
    (¬live → ∀ c ∈ [Instr.refLos, .refAbsent, .refPresent r, .refQualified r, .refcmpWindow y, .pllLocked, .pllLol], exec c s = .next s) ∧
    (busy → exec .clkRelock s = .next (cmd (s.wr CLK_STAT_CMDREF 1)) ∧ exec .clkSwitch s = .next (cmd (s.wr CLK_STAT_CMDREF 1))) ∧
    (¬busy → exec .clkRelock s = .next (cmd (beginRelock true s))) ∧
    (refState s (1 - sel) ≠ R_VALID ∨ s.flag CLK_STAT_ALTVALID = false → exec .clkSwitch s = .next (cmd (s.wr CLK_STAT_CMDREF 1))) ∧
    (¬busy → refState s (1 - sel) = R_VALID → s.flag CLK_STAT_ALTVALID = true → exec .clkSwitch s = .next (cmd (beginSwitch s))) ∧
    (refState s sel = R_ABSENT → exec .refLos s = .next s) ∧
    (refState s sel ≠ R_ABSENT →
      let s0 := s.wr (refFld sel) R_ABSENT
      let s1 := ({ s0 with clk := { s0.clk with lost := s0.clk.lost.setIfInBounds sel true } } : State)
      let t := losCheck (logUnit 0x03 2 sel sel ((s1.wr (if sel = 0 then CLK_STAT_LOSA else CLK_STAT_LOSB) 1).count CLK_COUNT_LOS))
      let switching := rootState t = C_SWITCH ∧ t.clk.ticked = false
      let goes := t.flag CLK_CTRL_AUTOSW = true ∧ refState t (other t) = R_VALID ∧ t.flag CLK_STAT_ALTVALID = true
      (live → switching → exec .refLos s = .next t) ∧
      (live → ¬switching → goes → exec .refLos s = .next (beginSwitch t)) ∧
      (live → ¬switching → ¬goes → exec .refLos s =
        .next (rootEnter C_FROZEN { t with clk := { t.clk with await := true, ticked := false } }))) ∧
    (refState s (1 - sel) = R_ABSENT → exec .refAbsent s = .next s) ∧
    (live → refState s (1 - sel) ≠ R_ABSENT → s.wf = true →
      let t := dropWindow (setFailing 1 false (s.wr (refFld (1 - sel)) R_ABSENT))
      let switching := rootState s = C_SWITCH ∧ s.clk.ticked = false
      (¬switching → exec .refAbsent s = .next t) ∧
      (switching → refState s sel = R_VALID → exec .refAbsent s = .next (beginRelock false t)) ∧
      (switching → refState s sel ≠ R_VALID → exec .refAbsent s =
        .next ((rootEnter C_FROZEN { t with clk := { t.clk with await := true } }).wr CLK_STAT_RELOCKFAIL 1))) ∧
    (refState s r ≠ R_ABSENT → exec (.refPresent r) s = .next s) ∧
    (live → refState s r = R_ABSENT → r.val = sel → s.clk.lost.getD r.val false = false →
      exec (.refPresent r) s = .next (refValid r s)) ∧
    (live → refState s r = R_ABSENT → r.val = sel → s.clk.lost.getD r.val false = true →
      exec (.refPresent r) s = .next (losCheck (startPresent r s))) ∧
    (live → refState s r = R_ABSENT → r.val ≠ sel → exec (.refPresent r) s =
      .next (losCheck (startPresent r { s with saf := { s.saf with freqFrom := s.ticks, judged := false } }))) ∧
    (let held := refState s r = R_PRESENT ∧ s.clk.presentAt.getD r 0 + max (s.rd CLK_REFCFG_QUAL) 1 * 6000000 ≤ s.ticks
     (live → held → exec (.refQualified r) s = .next (refValid r s)) ∧ (¬held → exec (.refQualified r) s = .next s)) ∧
    (refState s (1 - sel) ≠ R_VALID ∨ s.clk.lockedOnce = false ∨ s.ticks < s.clk.winFrom + 600000000 →
      exec (.refcmpWindow y) s = .next s) ∧
    (live → refState s (1 - sel) = R_VALID → s.clk.lockedOnce = true → s.clk.winFrom + 600000000 ≤ s.ticks →
      let s1 := ({ s with clk := { s.clk with winFrom := s.ticks } } : State).wrS CLK_REFCMP_YOTHER y.toInt
      let far := max (s1.rd CLK_REFCFG_REFTOL) 1 * 2 ^ 48 < y.toInt.natAbs * 10 ^ 6
      (far → exec (.refcmpWindow y) s = .next (dropWindow (startPresent (other s1) (recomputeAlt s1)))) ∧
      (¬far → exec (.refcmpWindow y) s = .next (recomputeAlt { s1 with clk := { s1.clk with yValid := true } }))) ∧
    (refState s sel = R_ABSENT ∨ rootState s = C_LOCKED ∨ rootState s = C_FROZEN ∨ (rootState s = C_SWITCH ∧ s.clk.ticked = false) →
      exec .pllLocked s = .next s) ∧
    (live → refState s sel ≠ R_ABSENT → rootState s = C_ACQUIRE ∨ rootState s = C_RELOCK ∨ (rootState s = C_SWITCH ∧ s.clk.ticked = true) →
      let s1 := (({ s with freeCount := s.freeCount + 2 } : State).wr CLK_DTW_DTW (Config.freeValue s.freeCount % 2 ^ 24)).wr CLK_DTW_POS
        (Config.freeValue (s.freeCount + 1) % 2 ^ 8)
      let s2 := if rootState s = C_ACQUIRE then s1 else s1.count CLK_COUNT_RELOCKS
      let s3 := if rootState s = C_SWITCH then s2.wr CLK_STAT_SWITCHED 1 else s2
      exec .pllLocked s = .next (releaseSv (rootEnter C_LOCKED
        { s3 with clk := { s3.clk with
          lockedOnce := true, await := false, ticked := false, since := none,
          winFrom := if s.clk.lockedOnce then s.clk.winFrom else s.ticks } }))) ∧
    (rootState s ≠ C_LOCKED → exec .pllLol s = .next s) ∧
    (live → rootState s = C_LOCKED → exec .pllLol s =
      .next (logUnit 0x04 1 0 0 ((rootEnter C_FROZEN (s.wr CLK_STAT_LOL 1)).count CLK_COUNT_LOL))) ∧
    exec .relockTimeout s = .next (if tbRuns s && relockDue s (s.ticks + 1) then deviceTick s else s) ∧
    (∀ w k, s.clk.since = some w → (relockDue s k = true ↔ busy ∧ w + 240000 ≤ k)) ∧
    rootTimeout s = (rootEnter C_FROZEN { s with clk := { s.clk with ticked := false, since := none } }).wr CLK_STAT_RELOCKFAIL 1 ∧
    (∀ late, exec (.rootBootTimeout late) s = .next (if tbRuns s && bootDue s late (s.ticks + 1) then deviceTick s else s)) ∧
    (∀ k, bootDue s false k = (!s.clk.svOut && k == s.clk.resetAt + 600000) ∧
      bootDue s true k = (!s.clk.svOut && k == s.clk.resetAt + 1200000)) ∧
    let unlocked := (rootState s = C_ACQUIRE ∨ rootState s = C_FROZEN) ∧ s.clk.lockedOnce = false
    (unlocked → refState s 0 = R_ABSENT → sel = 0 →
      let t := bootAcquire (takePath 1 (s.wr CLK_STAT_SEL 1))
      bootTimeout false s = if refState t 1 = R_PRESENT then refValid 1 t else t) ∧
    (¬unlocked ∨ refState s 0 ≠ R_ABSENT ∨ sel ≠ 0 → bootTimeout false s = s) ∧
    (¬unlocked → bootTimeout true s = releaseSv s) ∧
    (unlocked →
      bootTimeout true s = releaseSv (rootEnter C_FROZEN { s with clk := { s.clk with await := true } })) ∧
    (hostOn s = true → exec .baudSynthLossOfLock s = .next (logUnit 0x04 1 1 1 (s.wr CLK_STAT_SPLOL 1))) ∧
    (hostOn s = false → exec .baudSynthLossOfLock s = .next s) ∧
    exec .clockFaultEnd s = .next (if tbRuns s && faultEndDue s then deviceTick s else s) ∧
    (faultEndDue s = true ↔ s.flag SAF_STAT_CLKFAULT = true ∧ s.saf.failing = 0 ∧ s.flag CLK_STAT_LOCK = true ∧
      (refState s (1 - sel) = R_ABSENT ∨ s.saf.judged = true) ∧
      min (max (s.rd SAF_CFCFG_CFHOLD) 10) 100 * 600 ≤ s.saf.okTicks + 1) ∧
    (let us := min (s.saf.faultTicks / 600) (2 ^ 32 - 1)
     clockFaultEnd s = refreshTrust (logUnit 0x02 1 0 us (((s.wr SAF_STAT_CLKFAULT 0).wr SAF_STAT_CFEND 1).wr SAF_CFSTAT_LASTUS us))) ∧
    (let judges := s.pwr.power ≠ .deep ∧ refState s (1 - sel) ≠ R_ABSENT ∧ s.clk.lockedOnce = true ∧ s.saf.freqFrom + 600000 ≤ s.ticks
     (¬judges → exec (.freqCheck dev) s = .next s) ∧
      (judges → exec (.freqCheck dev) s =
        .next (clockFault (setFailing 1
          (decide (min (max (s.rd SAF_CFCFG_CFPPM) 1) 50 * 2 ^ 48 < dev.toInt.natAbs * 10 ^ 6))
          { s with saf := { s.saf with judged := true } })))) ∧
    (s.pwr.power ≠ .deep → exec (.grossCheck tb corr sys per) s = .next (clockFault (setFailing 2
      ([tb, corr, sys, per].any fun d => decide (max (s.rd SAF_CFCFG_GROSS) 1 * 10000 < d.natAbs)) s))) ∧
    (s.pwr.power = .deep → exec (.grossCheck tb corr sys per) s = .next s) ∧
    (live → refState s sel ≠ R_ABSENT → rootState s ≠ C_SWITCH → s.flag CLK_CTRL_AUTOSW = false → s.wf = true →
      ∃ t, exec .refLos s = .next t ∧ refState t sel = R_ABSENT ∧ rootState t = C_FROZEN ∧ t.flag CLK_STAT_LOCK = false ∧
        t.clk.await = true)

/-- With a check failing, a clock fault that is not in force starts: CLKFAULT and CFSTART are set, CAUSE names the failing checks,
and the count rises by one; in one that is in force the causes gather and nothing else changes. -/
def Obligations.ClockFaultStarts : Prop :=
  ∀ s : State, s.wf = true → 0 < s.saf.failing → s.saf.failing < 8 →
    (s.flag SAF_STAT_CLKFAULT = false →
      (clockFault s).flag SAF_STAT_CLKFAULT = true ∧ (clockFault s).flag SAF_STAT_CFSTART = true ∧
      (clockFault s).rd SAF_CFSTAT_CAUSE = s.saf.failing ∧
      (clockFault s).rd SAF_COUNT_CF = (s.rd SAF_COUNT_CF + 1) % 2 ^ SAF_COUNT_CF.width) ∧
    (s.flag SAF_STAT_CLKFAULT = true →
      (clockFault s).rd SAF_CFSTAT_CAUSE = s.rd SAF_CFSTAT_CAUSE ||| s.saf.failing ∧
      ∀ a, a ≠ SAF_CFSTAT → (clockFault s).reg a = s.reg a)

/-- OSY_ENABLE, OSY_DISABLE, OSY_LOCKED, OSY_LOL, OSY_RELOCK, OSY_OUTPUT_ENABLE, OSY_OUTPUT_DISABLE, RAMPGO, RAMPSTOP, PHMEAS,
OSY_PHASE_CAPTURE, BANDMEAS and BANDMEAS_DONE complete: EN needs a frequency in range and a band with room; an output needs a
divider within its rules; a ramp needs a locked synthesiser; a band is measured only while EN is 0; what a rule refuses sets
CFGERR or NOBAND and changes nothing else.  A pad starts and stops at a rising edge of its output, and a synthesiser whose EN falls runs
on while a pad is driven; PHMEAS is ended by the tick interval in which the next rising edge leaves its pad. -/
def Obligations.SynthesiserCommands : Prop :=
  ∀ (n : Fin 4) (k : Fin 2) (band : Fin 64) (flo fhi : BitVec 13) (s : State),
    let x := s.osyn n
    let en := s.flag (OSYn_CTRL_EN n)
    let mult := s.rd (OSYn_CTRL_MULT n)
    let f := pdMHz mult * osyW s n
    let err := s.wr (OSYn_STAT_CFGERR n) 1
    let ctl := fun (t : State) => whenOn (OSYn_CTRL n) (fun _ => t) s
    let cmd := fun (t : State) => whenOn (OSYn_CMD n) (fun _ => t) s
    let out := fun (t : State) => whenOn (OSYn_OUTCTRL n) (fun _ => t) s
    let driven := outputDriven s n 0 = true ∨ outputDriven s n 1 = true
    let inRange := 5600 * 2 ^ 48 ≤ f ∧ f ≤ 6600 * 2 ^ 48
    let ramping := s.rd (OSYn_RAMPCTRL_STATE n) = 1
    (en = true → exec (.osyEnable n) s = .next (ctl s)) ∧
    (en = false → ¬inRange → exec (.osyEnable n) s = .next (ctl err)) ∧
    (en = false → inRange → osyBand s n mult (osyW s n) = none →
      exec (.osyEnable n) s = .next (ctl (s.wr (OSYn_STAT_NOBAND n) 1))) ∧
    (∀ b, en = false → inRange → osyBand s n mult (osyW s n) = some b → s.wf = true →
      ∃ t, exec (.osyEnable n) s = .next (ctl t) ∧ t.flag (OSYn_CTRL_EN n) = true ∧
        t.rd (OSYn_STAT_BAND n) = b % 2 ^ (OSYn_STAT_BAND n).width ∧ (t.osyn n).mult = mult ∧ (t.osyn n).acquiring = true ∧
        t.mem = s.mem) ∧
    (en = false → exec (.osyDisable n) s = .next (ctl s)) ∧
    (en = true → driven → exec (.osyDisable n) s = .next (ctl ((s.wr (OSYn_CTRL_EN n) 0).setOsy n { x with stopping := true }))) ∧
    (en = true → ¬driven → s.wf = true → ∃ t, exec (.osyDisable n) s = .next (ctl t) ∧ t.flag (OSYn_CTRL_EN n) = false ∧
      t.flag (OSYn_STAT_LOCK n) = false ∧ t.rd (OSYn_RAMPCTRL_STATE n) = 0 ∧ t.osyn n = { mult := x.mult } ∧ t.mem = s.mem) ∧
    (x.acquiring = false → exec (.osyLocked n) s = .next s) ∧
    (x.acquiring = true → s.wf = true → ∃ t, exec (.osyLocked n) s = .next t ∧ t.flag (OSYn_STAT_LOCK n) = true ∧
      t.rd (OSYn_DTW_DTW n) = Config.freeValue s.freeCount % 2 ^ 24 ∧ t.freeCount = s.freeCount + 3 ∧ (t.osyn n).acquiring = false ∧ (t.osyn n).started = true ∧
      (x.relocking = true → t.flag (OSYn_STAT_RELOCKED n) = true)) ∧
    (s.flag (OSYn_STAT_LOCK n) = false → exec (.osyLol n) s = .next s) ∧
    (s.flag (OSYn_STAT_LOCK n) = true → exec (.osyLol n) s =
      .next (logUnit 0x04 1 (2 + n.val) (2 + n.val) ((s.wr (OSYn_STAT_LOCK n) 0).wr (OSYn_STAT_LOL n) 1))) ∧
    (en = false ∨ x.relocking = true → exec (.osyRelock n) s = .next (cmd err)) ∧
    (en = true → x.relocking = false →
      let w := osyW s n * pdMHz x.mult / pdMHz mult
      let s1 := ((s.wr (OSYn_NINT_NINT n) (w / 2 ^ 48)).wr (OSYn_NFRAC_NFRAC n) w).wr (OSYn_STAT_LOCK n) 0
      (osyBand s1 n mult w = none → exec (.osyRelock n) s = .next
        (cmd ((s1.setOsy n { x with mult := mult, acquiring := false, relocking := false }).wr (OSYn_STAT_NOBAND n) 1))) ∧
      (∀ b, osyBand s1 n mult w = some b → exec (.osyRelock n) s = .next
        (cmd ((s1.setOsy n { x with mult := mult, acquiring := true, relocking := true }).wr (OSYn_STAT_BAND n) b)))) ∧
    (s.flag (oeFld n k) = true → exec (.osyOutputEnable n k) s = .next (out s)) ∧
    (s.flag (oeFld n k) = false → outputOk s n k (s.rd (fmtFld n k)) = true →
      exec (.osyOutputEnable n k) s = .next (out (s.wr (oeFld n k) 1))) ∧
    (s.flag (oeFld n k) = false → outputOk s n k (s.rd (fmtFld n k)) = false → exec (.osyOutputEnable n k) s = .next (out err)) ∧
    exec (.osyOutputDisable n k) s = .next (out (s.wr (oeFld n k) 0)) ∧
    (ramping ∨ en = false ∨ s.flag (OSYn_STAT_LOCK n) = false → exec (.rampgo n) s = .next (cmd err)) ∧
    (¬ramping → en = true → s.flag (OSYn_STAT_LOCK n) = true → exec (.rampgo n) s =
      .next (cmd (enterSegment n 0 (((s.setReg (OSYn_PHASEACC n) 0).setOsy n { x with sum := 0 }).wr (OSYn_RAMPCTRL_STATE n) 1)))) ∧
    (ramping → exec (.rampstop n) s = .next (cmd (s.wr (OSYn_RAMPCTRL_STATE n) 2))) ∧
    (¬ramping → exec (.rampstop n) s = .next (cmd s)) ∧
    exec (.phmeas n k) s = .next (cmd (s.setOsy n { x with phMeas := some k.val })) ∧
    exec (.osyPhaseCapture n) s = .next (if tbRuns s && (phEdge s n).isSome then deviceTick s else s) ∧
    (x.phMeas = none → phEdge s n = none) ∧
    (∀ o, x.phMeas = some o → phEdge s n = if osyRuns s n && (padsAfter s n).getD o false then edgeIn s n o else none) ∧
    (∀ t0 f, phCapture n t0 f s = ((s.setOsy n { x with phMeas := none }).setStamp (OSYn_PHSEC n) (OSYn_PHFRAC n)
      ((t0 + f * s.rate / 256) / 2 ^ 48)).wr (OSYn_STAT_PHDONE n) 1) ∧
    ((edgeIn s n k).isSome = true → (padsAfter s n).getD k false = outputWanted s n k) ∧
    (edgeIn s n k = none → (padsAfter s n).getD k false = outputDriven s n k) ∧
    (en = true ∨ x.bandMeas.isSome = true → exec (.bandmeas n band) s = .next (cmd err)) ∧
    (en = false → x.bandMeas = none → exec (.bandmeas n band) s = .next (cmd (s.setOsy n { x with bandMeas := some (band.val, s.ticks) }))) ∧
    (x.bandMeas = none → exec (.bandmeasDone n flo fhi) s = .next s) ∧
    (∀ b t, x.bandMeas = some (b, t) → s.ticks < t + 30000 → exec (.bandmeasDone n flo fhi) s = .next s) ∧
    (∀ b t, x.bandMeas = some (b, t) → t + 30000 ≤ s.ticks → exec (.bandmeasDone n flo fhi) s =
      .next ((((s.wr (OSYn_BANDMEAS_FLO n) flo.toNat).wr (OSYn_BANDMEAS_FHI n) fhi.toNat).setOsy n { x with bandMeas := none }).wr
        (OSYn_STAT_BMDONE n) 1))

/-- ETH_ENABLE, ETH_LINK_CHANGE, ETH_REF_FALLBACK, ESMC_INFO_PDU, ESMC_EVENT_PDU, ESMC_RECEIVED, ESMC_TIMEOUT, RXFREQ_WINDOW and
PTP_SOURCE_OFFSET complete: a mode outside R390 sets CFGERR and the port stays off; a port that is off has no link; ESMC is sent
only by a port that is up with TXEN and received only under RXEN; a window of RXFREQ takes 1 s of the link; an offset is that of the exchange with the smallest round trip of
the second that has ended, where there are MINEX of them, and carries VALID only under the conditions of R410; a change of TXQL that none
has told yet keeps its 10 ms when another follows. -/
def Obligations.EthernetCommands : Prop :=
  ∀ (n : Fin 4) (up : Bool) (ql : BitVec 4) (freq : BitVec 48) (xs : List PtpExchange) (p : PtpParent) (unc : Nat) (s : State),
    let en := s.flag (ETHn_CTRL_EN n)
    let rate := s.rd (ETHn_CTRL_RATE n)
    let fec := fecOf (s.rd (ETHn_CTRL_FEC n))
    let ok := modeOk rate fec (s.flag (ETHn_CTRL_AN n))
    let sends := ethUp s n = true ∧ s.flag (ETHn_ESMC_TXEN n) = true
    let pdu := fun (k : EthKind) => { ethHead s n k with body := esmcBody s n }
    let told := fun (ms : List EthMsg) =>
      ({ s with eth := { s.eth with qlAt := s.eth.qlAt.setIfInBounds n none, sent := ms } } : State)
    let kept := xs.filter fun x => x.t2.toNat / 2 ^ 48 + 1 == s.sec
    let began := fun (t : State) => ({ t with eth := { t.eth with rxfFrom := t.eth.rxfFrom.setIfInBounds n t.ticks } } : State)
    let ctl := fun (t : State) => whenOn (ETHn_CTRL n) (fun _ => t) s
    (en = true → exec (.ethEnable n) s = .next (ctl (refreshQl s n))) ∧
    (en = false → ok = false → exec (.ethEnable n) s = .next (ctl (refreshQl (s.wr (ETHn_STAT_CFGERR n) 1) n))) ∧
    (en = false → ok = true → exec (.ethEnable n) s = .next (ctl (refreshQl
      ((((s.wr (ETHn_CTRL_EN n) 1).wr (ETHn_STAT_REFFB n) 0).wr (ETHn_PMALAT_TX n) (pmaLat rate fec).1).wr (ETHn_PMALAT_RX n)
        (pmaLat rate fec).2) n))) ∧
    (en = false → exec (.ethLinkChange n up) s = .next s) ∧
    (en = true → s.flag (ETHn_STAT_LINK_UP n) = true → exec (.ethLinkChange n true) s = .next s) ∧
    (en = true → s.flag (ETHn_STAT_LINK_UP n) = false → exec (.ethLinkChange n true) s = .next (began (s.wr (ETHn_STAT_LINK_UP n) 1))) ∧
    (en = true → exec (.ethLinkChange n false) s = .next ((s.wr (ETHn_STAT_LINK_UP n) 0).wr (ETHn_STAT_RXFVALID n) 0)) ∧
    exec (.ethRefFallback n) s = .next (tickAt (fun s t => fallbackDue s t && s.flag (ETHn_CTRL_REFSRC n)) s) ∧
    (en = true → s.flag (ETHn_CTRL_REFSRC n) = true → ethFallback s n = refreshQl (s.wr (ETHn_STAT_REFFB n) 1) n) ∧
    (en = false ∨ s.flag (ETHn_CTRL_REFSRC n) = false → ethFallback s n = s) ∧
    exec (.esmcInfoPdu n) s = .next (tickAt (fun s t => infoDue t && ethUp s n && s.flag (ETHn_ESMC_TXEN n)) s) ∧
    (sends → esmcPdu .esmcInfo n s = { s with eth := { s.eth with sent := s.eth.sent ++ [pdu .esmcInfo] } }) ∧
    (s.eth.qlAt.getD n none = none → exec (.esmcEventPdu n) s = .next { s with eth := { s.eth with sent := [] } }) ∧
    (∀ w, s.eth.qlAt.getD n none = some w →
      (sends → exec (.esmcEventPdu n) s = .next (told [pdu .esmcEvent])) ∧
      (¬sends → exec (.esmcEventPdu n) s = .next (told []))) ∧
    (∀ w, s.eth.qlAt.getD n none = some w → (refreshQl s n).eth.qlAt.getD n none = some w) ∧
    (ethUp s n = false → exec (.esmcReceived n ql) s = .next s) ∧
    (ethUp s n = true → s.flag (ETHn_ESMC_RXEN n) = true → exec (.esmcReceived n ql) s =
      .next (({ s with eth := { s.eth with esmcAt := s.eth.esmcAt.setIfInBounds n (some s.ticks) } } : State).wr (ETHn_ESMC_RXQL n) ql.toNat)) ∧
    (ethUp s n = true → s.flag (ETHn_ESMC_RXEN n) = false →
      exec (.esmcReceived n ql) s = .next ((s.count (ETHn_CNTERR_RXDROP n)).wr (ETHn_STAT_RXDROP n) 1)) ∧
    exec (.esmcTimeout n) s = .next (tickAt (esmcDue · n ·) s) ∧
    esmcTimeout n s = (({ s with eth := { s.eth with esmcAt := s.eth.esmcAt.setIfInBounds n none } } : State).wr (ETHn_ESMC_RXQL n)
      0xF).wr (ETHn_STAT_ESMCTO n) 1 ∧
    (s.flag (ETHn_STAT_LINK_UP n) = true → s.eth.rxfFrom.getD n 0 + 600000000 ≤ s.ticks →
      exec (.rxfreqWindow n freq) s = .next (((began s).setReg (ETHn_RXFREQ n) freq).wr (ETHn_STAT_RXFVALID n) 1)) ∧
    (s.flag (ETHn_STAT_LINK_UP n) = false ∨ s.ticks < s.eth.rxfFrom.getD n 0 + 600000000 → exec (.rxfreqWindow n freq) s = .next s) ∧
    (svRuns s = false ∨ s.flag (ETHn_PTPCFG_ROLE n) = false → exec (.ptpSourceOffset n xs p unc) s = .next s) ∧
    (svRuns s = true → s.flag (ETHn_PTPCFG_ROLE n) = true → s.wf = true → ∃ t, exec (.ptpSourceOffset n xs p unc) s = .next t ∧ t.mem = s.mem ∧
      t.rd (ETHn_SRCINFO_CLASS n) = p.cls.toNat ∧
      t.rd (ETHn_SRCINFO_SEQ n) = (s.rd (ETHn_SRCINFO_SEQ n) + 1) % 2 ^ (ETHn_SRCINFO_SEQ n).width ∧
      (bestExchange kept = none ∨ kept.length < (ptpRx s).1 →
        t.rdS (ETHn_SRCOFS_OFS n) = s.rdS (ETHn_SRCOFS_OFS n) ∧ t.flag (ETHn_SRCINFO_VALID n) = false) ∧
      (∀ x, bestExchange kept = some x → (ptpRx s).1 ≤ kept.length →
        (-2 ^ 47 ≤ offsetPs s n x → offsetPs s n x < 2 ^ 47 → t.rdS (ETHn_SRCOFS_OFS n) = offsetPs s n x) ∧
        t.rd (ETHn_SRCINFO_UNC n) = min unc (2 ^ 23 - 1) ∧ t.flag (ETHn_SRCINFO_VALID n) = offsetValid s n x p))

/-- SYNC_INSTANT, DELAY_REQ_RECEIVED, ETH_FRAME_RECEIVED and ETH_TX_SLOT complete: SYNC_INSTANT is the tick at which an instant of the
grid comes, where one is due, and the departure of queued Syncs; only an enabled transmitter queues Syncs, its multicast stream
before its grants, and none during a clock fault or without a link; a port that is not up takes nothing; a Delay_Req during a
clock fault is dropped and counted; a frame SV has no use for is counted, and a request for
a unicast grant that reached the ring is answered by SV, with durationField zero where no entry is free; a full ring drops; a slot that may not be sent is
completed unsent, and without a slot nothing happens. -/
def Obligations.EthernetTraffic : Prop :=
  ∀ (n : Fin 4) (a b : Nat) (waits : List (Fin 256)) (r : DelayReq) (tlv : Tlv) (fine : Fin 256) (frame : List Byte) (s : State),
    let up := ethUp s n
    let counted := s.count (ETHn_CNTRX_DREQ n)
    let stamp := fun (s : State) (f : Nat) => ingress s n ((s.tb.now + f * s.rate / 256) / 2 ^ 48)
    exec (.syncInstant n waits) s = .next (sendSyncs n waits (if syncDue s then deviceTick s else s)) ∧
    (s.eth.queue.getD n [] = [] → sendSyncs n waits s = s) ∧
    (s.flag (ETHn_CTRL_EN n) = false ∨ s.flag (ETHn_PTPCFG_ROLE n) = true → portSync a b s n = s) ∧
    (s.flag (ETHn_CTRL_EN n) = true → s.flag (ETHn_PTPCFG_ROLE n) = false →
      portSync a b s n = (List.range 256).foldl (grantSync n a b) (mcastSync n a b s)) ∧
    (∀ g, s.flag SAF_STAT_CLKFAULT = true ∨ s.flag (ETHn_STAT_LINK_UP n) = false →
      syncQueue n 1 a g s = (s.count (ETHn_CNTERR_NOTSENT n)).wr (ETHn_STAT_NOTSENT n) 1) ∧
    (∀ g, s.flag SAF_STAT_CLKFAULT = false → s.flag (ETHn_STAT_LINK_UP n) = true →
      syncQueue n 1 a g s =
        { s with eth := { s.eth with queue := s.eth.queue.setIfInBounds n (s.eth.queue.getD n [] ++ [⟨g, a⟩]) } }) ∧
    (up = false → exec (.delayReqReceived n r) s = .next s ∧ (∀ k, exec (.ethFrameReceived n k tlv fine frame) s = .next s) ∧
      exec (.ethTxSlot n fine) s = .next s) ∧
    (up = true → s.flag (ETHn_PTPCFG_ROLE n) = true → counted.flag SAF_STAT_CLKFAULT = false →
      exec (.delayReqReceived n r) s = exec (.ethFrameReceived n .ptpEvent r.tlv r.fine r.frame) counted) ∧
    (up = true → counted.flag SAF_STAT_CLKFAULT = true →
      exec (.delayReqReceived n r) s =
        .next ((counted.count (ETHn_CNTERR_RESPDROP n)).wr (ETHn_STAT_RESPDROP n) 1)) ∧
    (∀ s1, up = true → s.flag (ETHn_PTPCFG_ROLE n) = false → counted.flag SAF_STAT_CLKFAULT = false →
      authRx n r.tlv r.frame counted = (none, s1) → exec (.delayReqReceived n r) s = .next s1) ∧
    (∀ noauth auth s1, up = true → s.flag (ETHn_PTPCFG_ROLE n) = false → counted.flag SAF_STAT_CLKFAULT = false →
      authRx n r.tlv r.frame counted = (some (noauth, auth), s1) →
      let g := (grantMatch n r.source s1).1
      let s2 := (grantMatch n r.source s1).2
      (g.isSome = true ∨ (r.multicast = true ∧ s2.flag (ETHn_MCAST_DRESP n) = true) →
        exec (.delayReqReceived n r) s = .next (delayResp n r g s2)) ∧
      (g = none → r.multicast = false ∨ s2.flag (ETHn_MCAST_DRESP n) = false → exec (.delayReqReceived n r) s =
        .next (rxRing n (rxFlags s2 true auth noauth) (stamp s2 r.fine) r.frame s2))) ∧
    (up = true → exec (.ethFrameReceived n .other tlv fine frame) s =
        .next ((s.count (ETHn_CNTERR_RXDROP n)).wr (ETHn_STAT_RXDROP n) 1) ∧
      exec (.ethFrameReceived n .arpIcmp tlv fine frame) s = .next (rxRing n 0 0 frame s)) ∧
    (∀ s1, up = true → authRx n tlv frame s = (none, s1) →
      exec (.ethFrameReceived n .ptpEvent tlv fine frame) s = .next s1 ∧
      exec (.ethFrameReceived n .ptpGeneral tlv fine frame) s = .next s1) ∧
    (∀ noauth auth s1, up = true → authRx n tlv frame s = (some (noauth, auth), s1) →
      exec (.ethFrameReceived n .ptpEvent tlv fine frame) s =
        .next (rxRing n (rxFlags s1 true auth noauth) (stamp s1 fine) frame s1) ∧
      exec (.ethFrameReceived n .ptpGeneral tlv fine frame) s = .next (rxRing n (rxFlags s1 false auth noauth) 0 frame s1)) ∧
    (∀ (g : GrantReq) (t : State), exec (.ethFrameReceived n .ptpGeneral tlv fine frame) s = .next t →
      exec (.ethFrameReceived n (.grantRequest g) tlv fine frame) s =
        .next (if t.rd (ETHn_RXWP_INDEX n) = s.rd (ETHn_RXWP_INDEX n) then t else negotiate n g t)) ∧
    (∀ g : GrantReq, (svRuns s = false ∨ s.flag (ETHn_PTPCFG_ROLE n) = true → negotiate n g s = s) ∧
      (svRuns s = true → s.flag (ETHn_PTPCFG_ROLE n) = false →
        let beyondRange := g.sync = true ∧ (signed 8 g.log.toNat < -7 ∨ 4 < signed 8 g.log.toNat)
        (beyondRange → negotiate n g s = grantAnswer n 0 g s) ∧
        (¬beyondRange → negotiate n g s = match grantSlot s n g with
          | none => grantAnswer n 0 g s
          | some i =>
            let w := writeGrant i (grantEntry s n g (s.bytes (grantAddr s i) 64)) s
            grantAnswer n (if w.1 = 0 then g.duration.toNat else 0) g w.2))) ∧
    (256 ≤ (s.rd (ETHn_RXWP_INDEX n) + 65536 - s.rd (ETHn_RXRP_INDEX n)) % 65536 →
      ∀ flags x, rxRing n flags x frame s = (s.count (ETHn_CNTERR_RXDROP n)).wr (ETHn_STAT_RXDROP n) 1) ∧
    (s.rd (ETHn_TXRP_INDEX n) = s.rd (ETHn_TXWP_INDEX n) → exec (.ethTxSlot n fine) s = .next s) ∧
    (up = true → s.rd (ETHn_TXRP_INDEX n) ≠ s.rd (ETHn_TXWP_INDEX n) → ∃ u, exec (.ethTxSlot n fine) s = .next u ∧
      (s.wf = true → u.flag (ETHn_STAT_TXDONE n) = true))

/-- REGISTER_WRITE, HALF_WRITE_STAGE and HALF_READ_LATCH of a slot of the register blocks complete.  A slot that the debug level,
the firewall, the power of its block or the trace registers' rule refuses gets an error response of that cause, and a half staged by
the initiator is discarded; a permitted write writes the slot's 48 bits, with a cause where its block refuses it; a permitted write of the upper half
alone is staged for the initiator; a permitted read of the lower half returns it and latches the upper half, unless the page or the
aiding port is another's; a slot of another's key page is refused to any access with VIOL's record; an unpowered debug port's access is
lost.  A write that sets KCn_CTRL.STEP for the debug port is KC_STEP's. -/
def Obligations.RegisterAccesses : Prop :=
  ∀ (init : Init) (slot : Fin 204800) (v : Word) (hi : BitVec 32) (s : State),
    let a := 0x10000000 + 8 * slot.val
    let addr : BitVec 32 := BitVec.ofNat 32 a
    let sw := traceInit init a true s
    let su := traceInit init (a + 4) true s
    let sr := unstage init (traceInit init a false s)
    isHostBuffer a = false → isHostBuffer (a + 4) = false →
      (portLost s init = true → exec (.registerWrite init addr v) s = .next s ∧ exec (.halfWriteStage init addr hi) s = .next s ∧
        exec (.halfReadLatch init addr) s = .next s) ∧
      (portLost s init = false →
      (slotCause sw init a true ≠ 0 →
        exec (.registerWrite init addr v) s =
          .next (returned (slotCause sw init a true) [] (icError init a true (slotCause sw init a true) (unstage init sw)))) ∧
      (slotCause sw init a true = 0 → pageMay sw init a = false → exec (.registerWrite init addr v) s =
        .next (returned OWNER [] (pageViolation init a true (unstage init sw)))) ∧
      (slotCause sw init a true = 0 → pageMay sw init a = true → init.val ≠ 14 ∨ (∀ k < 7, a ≠ KCn_CTRL k) ∨ v.getLsbD 3 = false →
        exec (.registerWrite init addr v) s =
          .next (returned (blockCause init a v (unstage init sw)) [] (regWrite init a v (unstage init sw)))) ∧
      (slotCause su init a true ≠ 0 →
        exec (.halfWriteStage init addr hi) s =
          .next (returned (slotCause su init a true) [] (icError init (a + 4) true (slotCause su init a true) (unstage init su)))) ∧
      (slotCause su init a true = 0 → pageMay su init a = false → exec (.halfWriteStage init addr hi) s =
        .next (returned OWNER [] (pageViolation init a true (unstage init su)))) ∧
      (slotCause su init a true = 0 → pageMay su init a = true →
        let u := unstage init su
        exec (.halfWriteStage init addr hi) s = .next (returned 0 []
          { u with bus := { u.bus with staged := (init.val, a, hi.toNat % 65536) :: u.bus.staged } })) ∧
      (slotCause sr init a false ≠ 0 →
        exec (.halfReadLatch init addr) s = .next (returned (slotCause sr init a false) [0, 0, 0, 0]
          (icError init a false (slotCause sr init a false) sr))) ∧
      (slotCause sr init a false = 0 → readOwned sr init a = true →
        let img := (regImage init a sr).1
        let s1 := (regImage init a sr).2
        exec (.halfReadLatch init addr) s = .next (returned 0 ((toLE 8 img).take 4)
          (latchHalf init a (img / 2 ^ 32) (readEffect init a s1)))) ∧
      (slotCause sr init a false = 0 → readOwned sr init a = false →
        exec (.halfReadLatch init addr) s = .next (returned OWNER [0, 0, 0, 0]
          (if a / 65536 = 0x1012 then pageViolation init a false sr else icError init a false OWNER sr))))

/-- IC_TRANSACTION of shared memory by an initiator that is not traced and that no rule refuses: a write within one 256-byte block
stores its bytes, changes no other byte and no register but those that count it and the errors it corrects, and a read after it returns them; an atomic add or swap returns the
old word and stores the new one.  A refused write changes no byte but those of the log. -/
def Obligations.MemoryTransactions : Prop :=
  ∀ (init : Init) (addr : BitVec 32) (b : List Byte) (n : Nat) (v : BitVec 32) (s : State),
    let a := addr.toNat
    a < 0x01800000 → s.wf = true → init.val ≠ 14 → s.bit DBG_TRSRC_INITS init = false →
      (b ≠ [] → b.length ≤ 256 - a % 256 → accessCause s init a b.length false true = 0 →
        ∃ t, exec (.icTransaction init addr (.write b)) s = .next t ∧ t.hst.cause = 0 ∧
          (∀ r, r ∉ [IC_INFLIGHT, MEM_ECC, MEM_STAT, MEM_ECCADDR] → t.reg r = s.reg r) ∧ s.rd IC_INFLIGHT_PEAK ≤ t.rd IC_INFLIGHT_PEAK ∧
          t.bytes a b.length = b ∧ ∀ x, (x < a ∨ a + b.length ≤ x) → t.byte x = s.byte x) ∧
      (0 < n → n ≤ 256 - a % 256 → accessCause s init a n true false = 0 →
        ∃ t, exec (.icTransaction init addr (.read n)) s = .next t ∧ t.hst.cause = 0 ∧ t.hst.data = s.bytes a n ∧
          ∀ x, t.byte x = s.byte x) ∧
      (0 < n → n ≤ 256 - a % 256 → accessCause s init a n true false ≠ 0 →
        ∃ t, exec (.icTransaction init addr (.read n)) s = .next t ∧ t.hst.cause = accessCause s init a n true false ∧
          t.hst.data = List.replicate n 0) ∧
      (atomicCause s init a = 0 →
        let old := s.le a 4
        (∃ t, exec (.icTransaction init addr (.atomicAdd v)) s = .next t ∧ t.hst.data = toLE 4 old ∧
          t.bytes a 4 = toLE 4 (old + v.toNat) ∧ ∀ x, (x < a ∨ a + 4 ≤ x) → t.byte x = s.byte x) ∧
        (∃ t, exec (.icTransaction init addr (.atomicSwap v)) s = .next t ∧ t.hst.data = toLE 4 old ∧
          t.bytes a 4 = toLE 4 v.toNat ∧ ∀ x, (x < a ∨ a + 4 ≤ x) → t.byte x = s.byte x))

/-- IC_TRANSACTION of any initiator at any address completes: a read or a write is made piece by piece, a slot or a 256-byte block at
a time, and the first piece that is refused gives its cause; an atomic access is one piece, refused with its cause and the
address in the error log.  CORE_WINDOW_ACCESS is the transaction at that place of the core's window; IC_TIMEOUT, IC_ERRLOG_READ, IC_ERRINFO_READ and
FIREWALL_LOCK complete: a time-out is an error of cause 14, and ends an outstanding access of a core to that address; a read of IC_ERRLOG shows the oldest address and latches its
entry for the initiator, and a read of IC_ERRINFO shows the latched entry and removes it; the lock is set by those who may
write the firewall, and a locked one refuses with FIREWALL.  An access of the unpowered debug port is lost. -/
def Obligations.InterconnectCommands : Prop :=
  ∀ (init : Init) (core : CoreId) (ofs : BitVec 20) (op : BusOp) (addr : BitVec 32) (wr : Bool) (s : State),
    let keep := s.bus.infoLatch.filter fun p => p.1 != init.val
    let at_ := addr.toNat
    let sa := traceInit init at_ false (if inBlocks at_ then unstage init s else s)
    (portLost s init = true → exec (.icTransaction init addr op) s = .next s ∧ exec (.coreWindowAccess init core ofs op) s = .next s) ∧
    (portLost s init = false → ∀ n, exec (.icTransaction init addr (.read n)) s =
      .next (returned (busRead init at_ n s).1 (busRead init at_ n s).2.1 (busRead init at_ n s).2.2)) ∧
    (∀ b, init.val ≠ 14 → exec (.icTransaction init addr (.write b)) s =
      .next (returned (busWrite init at_ b s).1 [] (busWrite init at_ b s).2)) ∧
    (∀ a n, 0 < n →
      let x := pieceRead init a (pieceLen a n) s
      let y := busRead init (a + pieceLen a n) (n - pieceLen a n) x.2.2
      busRead init a n s = (if x.1 = 0 then y.1 else x.1, x.2.1 ++ y.2.1, y.2.2)) ∧
    (∀ a b, b ≠ [] →
      let k := pieceLen a b.length
      let x := pieceWrite init a (b.take k) s
      let y := busWrite init (a + k) (b.drop k) x.2
      busWrite init a b s = (if x.1 = 0 then y.1 else x.1, y.2)) ∧
    (∀ v : BitVec 32, portLost s init = false → atomicCause sa init at_ = 0 →
      let t := correct at_ 4 sa
      let old := t.le at_ 4
      exec (.icTransaction init addr (.atomicAdd v)) s =
        .next (returned 0 (toLE 4 old) (landWrite at_ (toLE 4 (old + v.toNat)) t)) ∧
      exec (.icTransaction init addr (.atomicSwap v)) s =
        .next (returned 0 (toLE 4 old) (landWrite at_ (toLE 4 v.toNat) t))) ∧
    (∀ v : BitVec 32, let c := atomicCause sa init at_
      portLost s init = false → c ≠ 0 →
      let t := icError init at_ false c (refusedWrite at_ 4 c sa)
      exec (.icTransaction init addr (.atomicAdd v)) s = .next (returned c (toLE 4 0) t) ∧
      exec (.icTransaction init addr (.atomicSwap v)) s = .next (returned c (toLE 4 0) t)) ∧
    (portLost s init = false → let r := busOp init (0x02000000 + 0x100000 * core.val + ofs.toNat) op s
     exec (.coreWindowAccess init core ofs op) s = .next (returned r.1 r.2.1 r.2.2)) ∧
    (let e := icError init addr.toNat wr 14 s
     let own := (s.core init).out.find? fun x => x.addr == addr.toNat && x.dest.isNone == wr
     (own = none → exec (.icTimeout init addr wr) s = .next (returned 14 [] e)) ∧
     (∀ x, own = some x → exec (.icTimeout init addr wr) s = .next (returned 14 [] (haltDue init (takeAsync init
      (answer init { x with cause := 14, errAddr := addr.toNat }
        (e.setCore init { s.core init with out := (s.core init).out.erase x }))))))) ∧
    (let acc := fun a w (t : State) => asAccess init a w (fun _ => t) s
     let u := unstage init s
     (s.bus.errors = [] → exec (.icErrlogRead init) s =
      .next (acc IC_ERRLOG false (returned 0 (toLE 6 0) { u with bus := { u.bus with infoLatch := keep } }))) ∧
     (∀ e rest, s.bus.errors = e :: rest → exec (.icErrlogRead init) s =
      .next (acc IC_ERRLOG false (returned 0 (toLE 6 e.addr) { u with bus := { u.bus with infoLatch := (init.val, e) :: keep } }))) ∧
     (latchedError s init = none → exec (.icErrinfoRead init) s = .next (acc IC_ERRINFO false (returned 0 (toLE 6 0) u))) ∧
     (∀ e, latchedError s init = some e → exec (.icErrinfoRead init) s = .next (acc IC_ERRINFO false (returned 0 (toLE 6 (errWord e))
      { u with bus := { u.bus with errors := s.bus.errors.erase e, infoLatch := keep } }))) ∧
     (mayFirewall s init = false → exec (.firewallLock init) s = .next (acc IC_FWCTRL true (icError init IC_FWCTRL true OWNER u))) ∧
     (mayFirewall s init = true → s.flag IC_FWCTRL_LOCK = true →
      exec (.firewallLock init) s = .next (acc IC_FWCTRL true (icError init IC_FWCTRL true FIREWALL u))) ∧
     (mayFirewall s init = true → s.flag IC_FWCTRL_LOCK = false →
      exec (.firewallLock init) s = .next (acc IC_FWCTRL true (u.typed IC_FWCTRL 1))))

/-- KC_START, KC_RESET, KC_NMI, KC_HALTREQ and KC_STEP complete: no core starts before an image has passed; a core in RESET starts at
its BOOTPC; a reset empties the core and its watchdog; halt and step are the debug port's at D2 or D3, through the firewall, a core that issues is
held unless a load is outstanding, and a held core that is stepped carries out what its memory holds at its pc; what an unpowered debug port sends is lost. -/
def Obligations.CoreRunControl : Prop :=
  ∀ (n : CoreId) (on : Bool) (s : State),
    let st := s.coreState n
    let c := s.core n
    let lv := s.rd SVU_DBG_LEVEL
    let u := unstage 14 s
    let may := portCause u 14 (KCn_CTRL n) true
    let held := u.put (KCn_CTRL_HALTREQ n) on
    let ctl := fun (t : State) => whenOn (KCn_CTRL n) (fun _ => t) s
    let dbg := fun (t : State) => asAccess 14 (KCn_CTRL n) true (fun _ => t) s
    (s.rd HST_BOOT_STATUS ≠ BOOT_DONE → exec (.kcStart n) s = .next (ctl s)) ∧
    (s.rd HST_BOOT_STATUS = BOOT_DONE → st = K_RESET ∨ st = K_STOPPED → s.wf = true →
      let s1 := if st = K_RESET then s.setCore n { c with pc := BitVec.ofNat 14 (s.rd (KCn_BOOTPC_PC n)) } else s
      let t := dogRestart n (s1.wr (KCn_STAT_STATE n) K_RUN)
      let halts := s.flag (KCn_CTRL_HALTREQ n) = true ∧ c.out.any (·.dest.isSome) = false
      (halts → exec (.kcStart n) s = .next (ctl (haltCore n t))) ∧ (¬halts → exec (.kcStart n) s = .next (ctl t))) ∧
    (st ≠ K_RESET → st ≠ K_STOPPED → exec (.kcStart n) s = .next (ctl s)) ∧
    (∃ t, exec (.kcReset n) s = .next (ctl t) ∧ t.core n = {} ∧ t.mem = s.mem ∧
      (s.wf = true → t.coreState n = K_RESET ∧ t.flag (SAF_WDCFGn_EN n) = false)) ∧
    exec (.kcNmi n) s = .next (ctl (s.setCore n { c with nmi := true })) ∧
    (lv < 2 → may = OWNER) ∧ (may = 0 → 2 ≤ lv ∧ s.isOff (KCn_CTRL n) = false) ∧
    (portLost s 14 = true → exec (.kcHaltreq n on) s = .next s ∧ exec (.kcStep n) s = .next s) ∧
    (portLost s 14 = false → may ≠ 0 → exec (.kcHaltreq n on) s = .next (icError 14 (KCn_CTRL n) true may u) ∧
      exec (.kcStep n) s = .next (icError 14 (KCn_CTRL n) true may u)) ∧
    (on = true →
      let now := issuing (held.coreState n) = true ∧ clocked held n = true ∧ c.out.any (·.dest.isSome) = false
      (now → exec (.kcHaltreq n on) s = .next (dbg (haltCore n held))) ∧ (¬now → exec (.kcHaltreq n on) s = .next (dbg held))) ∧
    (on = false → exec (.kcHaltreq n on) s = .next (dbg (resumeCore n held))) ∧
    (st ≠ K_HALTED ∨ clocked s n = false → exec (.kcStep n) s = .next (dbg u)) ∧
    (st = K_HALTED → clocked s n = true →
      decodeKloko n (BitVec.ofNat 48 (s.le (0x02080000 + 0x100000 * n.val + 8 * c.pc.toNat) 6)) = none →
      exec (.kcStep n) s = .next (dbg (holdAgain n (runInstr n (.nop n 0 0 0) (fun s => .stop X_ILLOP s)
        ((u.setCore n { c with stepping := true }).wr (KCn_STAT_STATE n) K_RUN))))) ∧
    (∀ i, st = K_HALTED → clocked s n = true →
      decodeKloko n (BitVec.ofNat 48 (s.le (0x02080000 + 0x100000 * n.val + 8 * c.pc.toNat) 6)) = some i →
      exec (.kcStep n) s =
        .next (dbg (holdAgain n (klokoExec i ((u.setCore n { c with stepping := true }).wr (KCn_STAT_STATE n) K_RUN)))))

/-- LC_BATCH, LC_WATCHDOG_KICK_TIMER, PLANNED_HANDOVER, LC_MIGRATION, RING_ADOPTION and SC_FAILOVER complete.  A loop core that runs
processes the records it has held whose channels are its own now, consumes its ring to WP, writes RP, signals both solution cores and
kicks its watchdog, which it also does 50 µs after its last kick; the active solution core begins a handover of an owned channel and
ends one that is released; the ring of a faulted core moves to the first live core after it, which drains it and hands the entries
over; the surviving solution core becomes active and takes over the time filter and the epoch last solved for.  A command ordered at the
port is answered before the map is changed further: a handover whose REMAP is refused does not begin. -/
def Obligations.LoopCoreFirmware : Prop :=
  ∀ (k q : Fin 4) (c : Chan) (tag : Byte) (outs : List LoopOut) (second : Bool) (s : State),
    let a := activeCore s
    let p := mapByte s c 2
    let kicked := fun (s : State) =>
      let t := (busWrite k (SAF_WDKICKn k) (toLE 8 1) s).2
      ({ t with nav := { t.nav with kicked := t.nav.kicked.setIfInBounds k t.ticks } } : State)
    (coreRuns s k = false → exec (.lcBatch k outs) s = .next s ∧ exec (.lcWatchdogKickTimer k) s = .next s) ∧
    (coreRuns s k = true →
      let rp := s.rd (CA_RINGk_RP_RP k)
      let wp := s.rd (CA_RINGk_WP_WP k)
      let d := (drainRing k k false ((wp + 65536 - rp) % 65536) rp (releaseRecords k (outs, s))).2
      exec (.lcBatch k outs) s = .next (kicked (signalCore k 5 (signalCore k 4 (coreWrite k (CA_RINGk_RP k) wp d)))) ∧
      (s.nav.kicked.getD k 0 + 30000 ≤ s.ticks → exec (.lcWatchdogKickTimer k) s = .next (kicked s)) ∧
      (s.ticks < s.nav.kicked.getD k 0 + 30000 → exec (.lcWatchdogKickTimer k) s = .next s)) ∧
    (activeRuns s = false → exec (.plannedHandover c q tag) s = .next s ∧ exec (.lcMigration k tag) s = .next s) ∧
    (∀ (w : Word) (s : State), let t := (readRsps a 33 0 s).2
      let r := readRsps a 33 0 (cshWrite a a w t)
      cshOrder a w s = (r.1 == rspWord w.toNat R_OK, r.2)) ∧
    (activeRuns s = true → mapByte s c 3 = 1 → p < 4 → p ≠ q →
      let r := cshOrder a (cshWord 3 tag.toNat c q 0) (mapSet a c [(3, 2), (9, q)] s)
      (r.1 = true → exec (.plannedHandover c q tag) s = .next (signalCore a q (signalCore a p r.2))) ∧
      (r.1 = false → exec (.plannedHandover c q tag) s = .next (mapSet a c [(3, 1)] r.2))) ∧
    (activeRuns s = true → mapByte s c 3 = 3 →
      exec (.plannedHandover c q tag) s = .next (mapSet a c [(2, mapByte s c 9), (3, 1)] s)) ∧
    (activeRuns s = true → mapByte s c 3 ≠ 1 ∨ 4 ≤ p ∨ p = q → mapByte s c 3 ≠ 3 →
      exec (.plannedHandover c q tag) s = .next s) ∧
    (s.coreState k ≠ K_FAULT → exec (.lcMigration k tag) s = .next s) ∧
    (activeRuns s = true → s.coreState k = K_FAULT →
      let s1 := clearAlive a k s
      (adopter s1 k = none → exec (.lcMigration k tag) s = .next s1) ∧
      (∀ j, adopter s1 k = some j →
        let r := cshOrder a (cshWord 4 tag.toNat 0 j k) s1
        exec (.lcMigration k tag) s = .next (if r.1 = false then r.2 else signalCore a j (coreWrite a 0x178
          (k.val + j * 2 ^ 8 + r.2.rd (CA_RINGk_RP_RP k) * 2 ^ 16 + r.2.rd (CA_RINGk_WP_WP k) * 2 ^ 32) r.2)))) ∧
    (handover s = none → exec (.ringAdoption outs) s = .next s) ∧
    (∀ h, handover s = some h →
      let j := h.adopter
      (coreRuns s j = false → exec (.ringAdoption outs) s = .next s) ∧
      (coreRuns s j = true →
        let d := drainRing j h.failed true ((h.wp + 65536 - h.rp) % 65536) h.rp (outs, s)
        let t := (releaseRecords j (d.1, coreWrite j 0x178 0 (coreWrite j (CA_RINGk_RP h.failed) h.wp d.2))).2
        let mine := (List.range 4096).filter fun c => mapByte t c 2 == h.failed && mapByte t c 3 == M_OWNED
        let u := (List.range 4096).foldl (adoptEntry (activeCore t) h.failed j 0) t
        (activeRuns t = false → exec (.ringAdoption outs) s = .next t) ∧
        (activeRuns t = true → exec (.ringAdoption outs) s =
          .next { u with nav := { u.nav with migrated := some u.ticks, moves := u.nav.moves ++ spread u j mine } }))) ∧
    (let failed := if second then 5 else 4
     let o := 9 - failed
     let t := coreWrite o 0x168 o s
     (s.coreState failed ≠ K_FAULT ∨ coreRuns s o = false → exec (.scFailover second) s = .next s) ∧
     (s.coreState failed = K_FAULT → coreRuns s o = true → a ≠ failed →
       exec (.scFailover second) s = .next (clearAlive o failed s)) ∧
     (s.coreState failed = K_FAULT → coreRuns s o = true → a = failed →
       exec (.scFailover second) s = .next (clearAlive o failed
         { t with nav := { t.nav with
             filter := t.nav.filter.setIfInBounds 0 (t.nav.filter.getD 1 0), epoch := #v[t.nav.epoch.getD 1 0, t.nav.epoch.getD 0 0] } })))

/-- SOLUTION_EPOCH, STANDBY_SC_EPOCH, HOLDOVER_FREQ_UPDATE and EXT_PULSE_OFFSET complete.  At an instant that it has not solved for, the
active solution core takes the rings, estimates, sets the modes, counts its sources, selects and steers by the highest that is
qualified, writes TB_TIMESTAT, SVU_TRUST.TRUSTREQ and its record, signals SV and serves the requests for channels; the standby core posts its aiding and
runs the consistency test, and the survivor in its place the test alone; in HOLDOVER the frequency follows the model of the
reference, once per second, at die sensor 0 where it takes no board temperature. -/
def Obligations.SolutionFirmware : Prop :=
  ∀ (o : SolOut) (blocks : List OsnmaBlock) (reqs : List ChanPost) (u : Fin 8) (s : State),
    let a := activeCore s
    let te := epochInstant s
    (activeRuns s = false → exec (.solutionEpoch o) s = .next s ∧ exec .holdoverFreqUpdate s = .next s ∧
      exec (.extPulseOffset u) s = .next s) ∧
    (epochDue s a = false → exec (.solutionEpoch o) s = .next s) ∧
    (activeRuns s = true → epochDue s a = true →
      let s1 := takeRings a te (takeConfig s)
      let f := fuse s1 (s1.nav.filter.getD 0 0) te (epochRecs s1 a)
      let s2 := takeUtc a o.utc ((List.range 4).foldl ptpSource (gnssSource f (setTracking a te (takeFix f s1))))
      let src := selectSource s2
      let r := if src = 0 then holdRecord a s2 else (none, s2)
      let s3 := noteSigma src r.1 (holdSet a src r.1 r.2)
      let d := if src = 0 then (Steer.continue, 0) else decision s3 src
      let s4 := if src = 0 then timestatWrite a src (validReq s3 src r.1 0) s3
        else timestatWrite a src (validReq s3 src r.1 (remAfter s3 d)) (steer a d s3)
      let s5 := if src = 0 then s4 else steerFreq a s4
      let s6 := writeSolution a te src f (if d.1 = .continue then 0 else d.2) (d.1 == .step) (trustReq a f s5)
      let s7 := learn a src (shed a o.tag.toNat (f.used.map (·.sat)) (measureLoads s6))
      exec (.solutionEpoch o) s = .next (serveRequests a o.tag.toNat o.grants (runMoves o.tag.toNat s7))) ∧
    (let n := standbyCore s
     let t := osnmaBlocks blocks s
     ((a ≠ 4 ∧ a ≠ 5) ∨ coreRuns s n = false → exec (.standbyScEpoch blocks reqs) s = .next s) ∧
     (a = 4 ∨ a = 5 → coreRuns s n = true →
       (epochDue s (9 - a) = false → exec (.standbyScEpoch blocks reqs) s = .next t) ∧
       (epochDue s (9 - a) = true → n = a →
         let t1 := takeConfig { t with nav := { t.nav with epoch := t.nav.epoch.setIfInBounds (5 - a) te } }
         exec (.standbyScEpoch blocks reqs) s = .next (writeSats n te (testEpoch n te true t1))) ∧
       (epochDue s (9 - a) = true → n ≠ a →
         let t1 := takeRings n te (takeConfig t)
         let f := fuse t1 (t1.nav.filter.getD 1 0) te (epochRecs t1 n)
         let t2 := { t1 with nav := { t1.nav with filter := t1.nav.filter.setIfInBounds 1 f.filter } }
         exec (.standbyScEpoch blocks reqs) s =
           .next (postRequests n reqs (writeSats n te (testEpoch n te false (aidAll n te f.rate t2))))))) ∧
    (s.flag TB_TIMESTAT_HOLDOVER = false ∨ updateDue s = false → exec .holdoverFreqUpdate s = .next s) ∧
    (activeRuns s = true → s.flag TB_TIMESTAT_HOLDOVER = true → updateDue s = true →
      let r := busRead a (0x06380000 + 64 * selected s) 64 s
      let rec_ := r.2.1
      let t := r.2.2
      (r.1 ≠ 0 ∨ imgLe rec_ 60 4 ≠ crc32c (rec_.take 60) → exec .holdoverFreqUpdate s = .next t) ∧
      (r.1 = 0 → imgLe rec_ 60 4 = crc32c (rec_.take 60) →
        let temp := if imgLe rec_ 7 1 = 1 then t.hst.boardTemp
          else signed 12 (t.rd SAF_TEMP_T % 4096)
        let y := modelY rec_ ((t.sec : Int) - imgLe rec_ 0 6) (temp - signed 16 (imgLe rec_ 28 2))
        exec .holdoverFreqUpdate s = .next (coreWrite a TB_FREQ (unsigned 48 (-y))
          { t with nav := { t.nav with updated := some t.ticks } }))) ∧
    (activeRuns s = true →
      let r := readCaptures a u (s.evc u).queue.length s
      let x := pulseOffset r.1 (r.2.nav.ext.getD u.val {}) (r.2.hst.evcTod.getD u.val none)
      let src := r.2.nav.srcs.getD (u.val + 5) {}
      ∃ t, exec (.extPulseOffset u) s = .next t ∧ t.mem = r.2.mem ∧ t.regs = r.2.regs ∧ t.hst.evcTod.getD u.val none = none ∧
        t.nav.ext.getD u.val {} = x ∧
        (∀ v, x.offset = some v → t.nav.srcs.getD (u.val + 5) {} = srcOffset r.2 src (toPs48 v)) ∧
        (x.offset = none → t.nav.srcs.getD (u.val + 5) {} = srcMissed r.2 src))

/-- The thirteen operations of CXE, CXE_OP_COMPLETE, SVU_SUBMIT and SVU_JOB_COMPLETE complete.  An operation's command begins the
next descriptor of the queue where that names it and the engine is free for its priority: one that a check refuses takes the
check's status, else it reads its input and its blocks are left to write; the one begun last completes first, none while an ICV runs.  A job is taken from initiators 4, 5, 6 and 15 while
fewer than eight wait, and the oldest one, be it of a descriptor, of a signed Chain command or of an OSNMA root, ends with its result
unless a certificate comes before it. -/
def Obligations.EngineCommands : Prop :=
  ∀ (init : Init) (d : BitVec 26) (s : State),
    let runs := fun (i : Instr) (code : Nat) (f : CxeOp → State → CxeOp × State) =>
      (nextOp s = none → exec i s = .next s) ∧
      (∀ o, nextOp s = some o → o.op ≠ code ∨ engineFree s o.prio = false → exec i s = .next s) ∧
      (∀ o, nextOp s = some o → o.op = code → engineFree s o.prio = true →
        let s1 : State := { s with cxe := { s.cxe with queue := s.cxe.queue.erase o } }
        (∀ c, opCheck s1 o = c → c ≠ 0 →
          let s2 := (if c = OP_EXHAUSTED then s1.wr CXE_STAT_EXHAUST 1 else s1).count CXE_BUSY_CYCLES 24
          exec i s = .next { s2 with cxe := { s2.cxe with running := { o with status := c, unver := false } :: s2.cxe.running } }) ∧
        (opCheck s1 o = 0 →
          let s2 := s1.count CXE_BUSY_CYCLES 24
          exec i s =
          .next { (f o s2).2 with cxe := { (f o s2).2.cxe with running := (f o s2).1 :: (f o s2).2.cxe.running } }))
    runs .ctrEnc 1 ctrEnc ∧ runs .ctrDec 2 ctrDec ∧ runs .gcmEnc 3 gcmEnc ∧ runs .gcmDec 4 gcmDec ∧
    runs .cmacGen 5 (cmacOp true) ∧ runs .cmacVer 6 (cmacOp false) ∧ runs .hmacGen 7 (hmacOp sha256Kind true) ∧
    runs .hmacVer 8 (hmacOp sha256Kind false) ∧ runs .hmac384Gen 9 (hmacOp sha384Kind true) ∧
    runs .hmac384Ver 10 (hmacOp sha384Kind false) ∧ runs .sha256 11 (shaOp sha256Kind) ∧ runs .sha384 12 (shaOp sha384Kind) ∧
    runs .unwrap 13 unwrapOp ∧
    (0 < s.cxe.icv → exec .cxeOpComplete s = .next s) ∧
    (∀ o, nextOp s = some o → ¬(1 ≤ o.op ∧ o.op ≤ 13) → engineFree s o.prio = true → exec .cxeOpComplete s =
      .next (cxeFinish { o with status := opCheck s o, unver := false }
        (({ s with cxe := { s.cxe with queue := s.cxe.queue.erase o } } : State).count CXE_BUSY_CYCLES 24))) ∧
    (s.cxe.icv = 0 → (∀ o, nextOp s = some o → 1 ≤ o.op ∧ o.op ≤ 13 ∨ engineFree s o.prio = false) →
      (s.cxe.running = [] → exec .cxeOpComplete s = .next s) ∧
      (∀ o rest, s.cxe.running = o :: rest →
        let r := opFinish o s
        exec .cxeOpComplete s = .next (cxeFinish r.1 (slotAfter r.1 { r.2 with cxe := { r.2.cxe with running := rest } })))) ∧
    (let u := unstage init s
     let acc := fun (t : State) => asAccess init SVU_SUBMIT true (fun _ => t) s
     (init.val ∉ [4, 5, 6, 15] → exec (.svuSubmit init d) s = .next (acc (icError init SVU_SUBMIT true OWNER u))) ∧
     (init.val ∈ [4, 5, 6, 15] →
      (8 ≤ s.svu.jobs.length → exec (.svuSubmit init d) s = .next (acc (u.wr SVU_STAT_QFULL 1))) ∧
      (s.svu.jobs.length < 8 → exec (.svuSubmit init d) s =
        .next (acc (refreshSvu { u with svu := { u.svu with jobs := s.svu.jobs ++ [.desc (d.toNat * 64)] } }))))) ∧
    (s.svu.jobs = [] ∨ (s.svu.cert = true ∧ s.svu.before = false) → exec .svuJobComplete s = .next s) ∧
    (∀ j rest, s.svu.jobs = j :: rest → s.svu.cert = false ∨ s.svu.before = true →
      let r := svuResult j s
      let s2 : State := { r.2 with svu := { r.2.svu with jobs := rest, before := false } }
      let t := refreshSvu ((if r.1 = V_VALID then s2.count SVU_COUNT_VALID else s2.count SVU_COUNT_FAILED).wr SVU_STAT_DONE 1)
      (∀ a, j = .desc a → exec .svuJobComplete s = .next t ∧
        let q := svuJob a s
        r = (q.1, (dmaWrite CXE_INIT (a + 56) (toLE 8 (q.2.1 * 256 + 128 + q.1)) q.2.2).2)) ∧
      (∀ key digest sig, j = .chain key digest sig → r = (svuCheck p256 3 key digest sig s, s) ∧
        exec .svuJobComplete s = .next (chainVerdict r.1 t)) ∧
      (∀ p pub digest sig sha3 n key, j = .root p pub digest sig sha3 n key →
        r = (svuCheck (if p then p521 else p256) 0 pub digest sig s, s) ∧
        exec .svuJobComplete s = .next (if r.1 = V_VALID then rootVerified sha3 n key t else t)))

/-- With one key and one initial counter, the counter mode of CTR_ENC and CTR_DEC applied twice gives the data back, and it keeps
their length. -/
def Obligations.CounterModeInverts : Prop :=
  ∀ (ks : List (List Nat)) (ctr : Nat) (m : List Byte),
    aesCtr ks ctr (aesCtr ks ctr m) = m ∧ (aesCtr ks ctr m).length = m.length

/-- PAGE_GIVE, PAGE_ZERO and PAGE_RECLAIM complete: a page answers its owner alone, another's access is a violation that is counted
and recorded; GIVE of a page with operations is an error, else the slots that the new owner does not own are zeroised and the
page is its; ZERO zeroises the slots of its mask; RECLAIM is SV's and takes the named pages back.  Each is a register access of its
initiator, which the debug level, the firewall or the power of the block may refuse. -/
def Obligations.PageCommands : Prop :=
  ∀ (init new : Init) (n : Fin 16) (mask : Byte) (pages : BitVec 16) (s : State),
    let u := unstage init s
    let acc := fun (t : State) => asAccess init (CXE_KPn_CTRL n) true (fun _ => t) s
    let sv := fun (t : State) => asAccess init CXE_RECLAIM true (fun _ => t) s
    let refused := acc (pageViolation init (CXE_KPn_CTRL n) true u)
    (pageOwner s n ≠ init.val → exec (.pageGive init n new) s = .next refused ∧ exec (.pageZero init n mask) s = .next refused) ∧
    (pageOwner s n = init.val →
      exec (.pageZero init n mask) s = .next (acc (zeroSlots n false (fun m => mask.toNat.testBit m) u)) ∧
      (pageOps s n ≠ 0 → exec (.pageGive init n new) s = .next (acc (u.wr (CXE_KPn_STAT_ERR n) 1))) ∧
      (pageOps s n = 0 → exec (.pageGive init n new) s = .next (acc (setPageOwner n new (zeroSlots n false
        (fun m => u.rd (CXE_KPn_SLOTm_STATE n m) != SL_EMPTY && u.rd (CXE_KPn_SLOTm_OWNER n m) != new.val) u))))) ∧
    (init.val ≠ 6 → exec (.pageReclaim init pages) s = .next (sv (icError init CXE_RECLAIM true OWNER u))) ∧
    (init.val = 6 → exec (.pageReclaim init pages) s = .next (sv ((List.range 16).foldl
      (fun s k => if pages.toNat.testBit k then setPageOwner k 6 (zeroSlots k true (fun _ => true) s) else s) u)))

/-- LIFECYCLE_REQUEST, LIFECYCLE_REQUEST_VERIFIED, DBG_CERT_SUBMIT, CERTIFICATE_VERIFIED, DBG_LEVEL_REQ, DBG_DROP and TRUSTREQ_WRITE
complete: a lifecycle request is SV's, the debug requests are the debug port's, TRUSTREQ the solution cores'; another initiator is
refused with OWNER.  A level needs no certificate in BLANK and RETURNED and fails elsewhere; a certificate or a request that
verifies under the key that its anchor names takes effect; one whose anchor is revoked, or that another key signed, does not.  Each
request is a register access of its initiator, and what an unpowered debug port sends is lost. -/
def Obligations.LifecycleAndDebug : Prop :=
  ∀ (init : Init) (target lv : Fin 4) (req : BitVec 26) (on : Bool) (key : List Byte) (s : State),
    let u := unstage init s
    let lcc := fun (t : State) => asAccess init SVU_LCCMD true (fun _ => t) s
    let dbg := fun (t : State) => asAccess init SVU_DBG true (fun _ => t) s
    let trust := fun (t : State) => asAccess init SVU_TRUST true (fun _ => t) s
    (∀ (b : List Byte) (s : State), let sel := imgLe b 13 1
      let revoked := sel = 1 ∧ otpBit s 8 = true
      let wrong := sel ≠ 0 ∧ ofBE (sha256 key) ≠ anchor s sel
      let point := onCurve p256 (ofBE (key.take p256.len)) (ofBE (key.drop p256.len))
      signedFields key b s = if revoked then V_REVOKED else if wrong then V_KEYMISMATCH else if point = false then V_BADKEY
        else if ecdsa p256 key (sha256 (b.take 16)) ((b.drop 16).take 64) then V_VALID else V_INVALID) ∧
    (init.val ≠ 6 → exec (.lifecycleRequest init target req) s = .next (lcc (icError init SVU_LCCMD true OWNER u))) ∧
    (init.val ≠ 14 →
      exec (.dbgCertSubmit init) s = .next (dbg (icError init SVU_DBG true OWNER u)) ∧
      exec (.dbgLevelReq init lv) s = .next (dbg (icError init SVU_DBG true OWNER u)) ∧
      exec (.dbgDrop init) s = .next (dbg (icError init SVU_DBG true OWNER u))) ∧
    (init.val ≠ 4 → init.val ≠ 5 → exec (.trustreqWrite init on) s = .next (trust (icError init SVU_TRUST true OWNER u))) ∧
    (init.val = 4 ∨ init.val = 5 → exec (.trustreqWrite init on) s =
      .next (trust (refreshTrust (u.wr SVU_TRUST_TRUSTREQ (if on then 1 else 0))))) ∧
    (∀ b s1, init.val = 6 → cxeRead (req.toNat * 64) 80 u = (some b, s1) →
      let fits := ofLE (b.take 8) = otpDevid s1 ∧ imgLe b 8 4 = 0 ∧ imgLe b 12 1 = target.val ∧ imgLe b 14 2 = 0
      let fails : Host.Outcome State Fault Refusal := .next (lcc (s1.wr SVU_STAT_LCFAIL 1))
      (lcTransition s1.lcs target = none ∨ ¬fits → exec (.lifecycleRequest init target req) s = fails) ∧
      (lcTransition s1.lcs target = some false → fits → otpHash s1 1 = 0 → exec (.lifecycleRequest init target req) s = fails) ∧
      (lcTransition s1.lcs target = some false → fits → otpHash s1 1 ≠ 0 →
        exec (.lifecycleRequest init target req) s = .next (lcc (lcAccept target s1))) ∧
      (lcTransition s1.lcs target = some true → fits → imgLe b 13 1 = 1 ∨ imgLe b 13 1 = 2 →
        exec (.lifecycleRequest init target req) s = .next (lcc { s1 with svu := { s1.svu with lc := some ⟨target, b⟩ } })) ∧
      (lcTransition s1.lcs target = some true → fits → ¬(imgLe b 13 1 = 1 ∨ imgLe b 13 1 = 2) →
        exec (.lifecycleRequest init target req) s = fails)) ∧
    (∀ s1, init.val = 6 → cxeRead (req.toNat * 64) 80 u = (none, s1) →
      exec (.lifecycleRequest init target req) s = .next (lcc (s1.wr SVU_STAT_LCFAIL 1))) ∧
    (s.svu.lc = none → exec (.lifecycleRequestVerified key) s = .next s) ∧
    (∀ r, s.svu.lc = some r →
      let s1 : State := { s with svu := { s.svu with lc := none } }
      (signedFields key r.bytes s1 = V_VALID → exec (.lifecycleRequestVerified key) s = .next (lcAccept r.target s1)) ∧
      (signedFields key r.bytes s1 ≠ V_VALID → exec (.lifecycleRequestVerified key) s = .next (s1.wr SVU_STAT_LCFAIL 1))) ∧
    (init.val = 14 →
      (s.svu.cert = true → exec (.dbgCertSubmit init) s = .next (dbg u) ∧ exec (.dbgLevelReq init lv) s = .next (dbg u)) ∧
      (s.svu.cert = false →
        exec (.dbgCertSubmit init) s = .next (dbg (refreshSvu
          { u with svu := { u.svu with cert := true, before := !s.svu.jobs.isEmpty } })) ∧
        (lv.val = 0 → exec (.dbgLevelReq init lv) s = exec (.dbgDrop init) s) ∧
        (lv.val ≠ 0 → s.lcs = BLANK ∨ s.lcs = RETURNED → exec (.dbgLevelReq init lv) s = .next (dbg (grantLevel lv u))) ∧
        (lv.val ≠ 0 → s.lcs ≠ BLANK → s.lcs ≠ RETURNED →
          exec (.dbgLevelReq init lv) s = .next (dbg (u.wr SVU_STAT_DBGFAIL 1)))) ∧
      exec (.dbgDrop init) s = .next (dbg ((List.range 7).foldl (fun s n => haltReq n false s) (u.wr SVU_DBG_LEVEL 0)))) ∧
    (s.svu.cert = false ∨ s.svu.before = true → exec (.certificateVerified key) s = .next s) ∧
    (s.svu.cert = true → s.svu.before = false →
      let b := mailbox s
      let k := imgLe b 12 1
      let cnt := (s.nvs.dbgCnt + 1) % 2 ^ 32
      let s1 := refreshSvu (({ s with svu := { s.svu with cert := false }, nvs := { s.nvs with dbgCnt := cnt } } : State).wr
        SVU_DBGCNT_COUNT cnt)
      let allowed := 1 ≤ k ∧ k ≤ (if s.lcs = PROVISIONED ∨ s.lcs = DEPLOYED then 2 else 3)
      let r := signedFields key b s1
      (certFields s b = true → r = V_VALID → allowed →
        exec (.certificateVerified key) s = .next (grantLevel k (s1.wr SVU_DBG_RESULT V_VALID))) ∧
      (certFields s b = true → r ≠ V_VALID ∨ ¬allowed →
        exec (.certificateVerified key) s = .next ((s1.wr SVU_DBG_RESULT r).wr SVU_STAT_DBGFAIL 1)) ∧
      (certFields s b = false → ∃ v, exec (.certificateVerified key) s =
        .next ((({ s1 with freeCount := s1.freeCount + 1 } : State).wr SVU_DBG_RESULT v).wr SVU_STAT_DBGFAIL 1)))
end

