-- ==== Sys2Proof/Laws/Kloko.lean ====
section
/-!
SUPPORT. What an instruction does in a core that is ready.
-/

namespace Sys2Proof.Machine

/-- A core with no access outstanding awaits no load. -/
theorem awaitLoads_none {n : Nat} {s : State} (h : (s.core n).out = []) (uses : List Nat) (fuel : Nat) :
    awaitLoads n uses fuel s = s := by
  cases fuel <;> simp [awaitLoads, h]

/-- An instruction of a core that is ready: its body's result, with the end of an instruction. -/
theorem runInstr_ready {n : Nat} {s : State} (h : Ready n s) (i : Instr) (body : State → KRes)
    (hf : (useOf i).flow = true → atEnd (s.core n) = false) :
    runInstr n i body s = match body s with
      | .stop cause s' => boundary n [] (syncCauses n [cause] (s.core n).pc (addCycles i n 1 s'))
      | .ok s' next raised cost len post => boundary n raised
          (post (traceAfter n next (addCycles i n cost (s'.setCore n (endOf (s'.core n) next len))))) := by
  have h1 := h.issue; have h2 := h.run; have ⟨h4, h5⟩ := h.noErr; have h6 := h.parity; have h7 := h.noStep
  have hflow : ((useOf i).flow && atEnd (s.core n)) = false := by
    cases hu : (useOf i).flow with
    | false => rfl
    | true => simpa using hf hu
  have hr : (K_RUN = K_WAIT) = False := by simp [K_RUN, K_WAIT]
  unfold runInstr issueInstr
  simp only [h1, if_true, h2, hr, if_false, awaitLoads_none h.out, h4, h5, h6, h7, hflow]
  cases body s <;> simp

end Sys2Proof.Machine
end

