-- ==== Sys2Proof/Laws/Ops.lean ====
section
/-!
SUPPORT. The laws of the shared operations: sparse tables, register slots and fields, bytes of memory, and the canonical form
that every one of them keeps.
-/

namespace Sys2Proof.Machine

/-! ### Sparse tables -/

theorem getAt_putAt_ne {α : Type} [DecidableEq α] (d d' v : α) (a b : Nat) (h : a ≠ b) :
    ∀ l : List (Nat × α), getAt d' (putAt d l b v) a = getAt d' l a := by
  intro l
  induction l with
  | nil => simp only [putAt]; split <;> simp [getAt, h]
  | cons x t ih =>
    obtain ⟨c, w⟩ := x
    simp only [putAt]
    split
    · split <;> simp [getAt, h]
    · split
      · rename_i h2; subst h2; split <;> simp [getAt, h]
      · simp only [getAt, ih]

theorem sparseAbove_le {α : Type} [DecidableEq α] (d : Nat → α) {lo lo' : Nat} (h : lo' ≤ lo) :
    ∀ {l : List (Nat × α)}, sparseAbove d lo l = true → sparseAbove d lo' l = true := by
  intro l hl
  cases l with
  | nil => rfl
  | cons x t =>
    obtain ⟨c, w⟩ := x
    simp only [sparseAbove, Bool.and_eq_true, decide_eq_true_eq] at hl ⊢
    exact ⟨⟨by omega, hl.1.2⟩, hl.2⟩

theorem getAt_below {α : Type} [DecidableEq α] (d : Nat → α) (d' : α) (a : Nat) :
    ∀ (l : List (Nat × α)) (lo : Nat), sparseAbove d lo l = true → a < lo → getAt d' l a = d' := by
  intro l
  induction l with
  | nil => intros; rfl
  | cons x t ih =>
    obtain ⟨c, w⟩ := x
    intro lo hl ha
    simp only [sparseAbove, Bool.and_eq_true, decide_eq_true_eq] at hl
    have : a ≠ c := by omega
    simp [getAt, this, ih (c + 1) hl.2 (by omega)]

theorem getAt_putAt_eq {α : Type} [DecidableEq α] (d : Nat → α) (a : Nat) (v : α) :
    ∀ (l : List (Nat × α)) (lo : Nat), sparseAbove d lo l = true → getAt (d a) (putAt (d a) l a v) a = v := by
  intro l
  induction l with
  | nil => intro lo hl; simp only [putAt]; split <;> simp_all [getAt]
  | cons x t ih =>
    obtain ⟨c, w⟩ := x
    intro lo hl
    simp only [sparseAbove, Bool.and_eq_true, decide_eq_true_eq] at hl
    simp only [putAt]
    split
    · rename_i hc
      split
      · rename_i hv
        have : a ≠ c := by omega
        simp [getAt, this, getAt_below d (d a) a t (c + 1) hl.2 (by omega), hv]
      · simp [getAt]
    · split
      · rename_i hc; subst hc
        split
        · rename_i hv; rw [getAt_below d (d a) a t (a + 1) hl.2 (by omega), hv]
        · simp [getAt]
      · rename_i hc; simp [getAt, hc, ih (c + 1) hl.2]

theorem sparseAbove_putAt {α : Type} [DecidableEq α] (d : Nat → α) (a : Nat) (v : α) :
    ∀ (l : List (Nat × α)) (lo : Nat), sparseAbove d lo l = true → lo ≤ a → sparseAbove d lo (putAt (d a) l a v) = true := by
  intro l
  induction l with
  | nil => intro lo _ ha; simp only [putAt]; split <;> simp_all [sparseAbove]
  | cons x t ih =>
    obtain ⟨c, w⟩ := x
    intro lo hl ha
    have hl' := hl
    simp only [sparseAbove, Bool.and_eq_true, decide_eq_true_eq] at hl'
    obtain ⟨⟨h1, h2⟩, h3⟩ := hl'
    simp only [putAt]
    split
    · rename_i hc
      split
      · exact hl
      · rename_i hv
        simp only [sparseAbove, Bool.and_eq_true, decide_eq_true_eq]
        exact ⟨⟨ha, hv⟩, ⟨⟨by omega, h2⟩, h3⟩⟩
    · split
      · rename_i hc; subst hc
        split
        · exact sparseAbove_le d (by omega) h3
        · rename_i hv
          simp only [sparseAbove, Bool.and_eq_true, decide_eq_true_eq]
          exact ⟨⟨h1, hv⟩, h3⟩
      · simp only [sparseAbove, Bool.and_eq_true, decide_eq_true_eq]
        exact ⟨⟨h1, h2⟩, ih (c + 1) h3 (by omega)⟩

theorem sparseAbove_filter {α : Type} [DecidableEq α] (d : Nat → α) (p : Nat × α → Bool) :
    ∀ (l : List (Nat × α)) (lo : Nat), sparseAbove d lo l = true → sparseAbove d lo (l.filter p) = true := by
  intro l
  induction l with
  | nil => intros; rfl
  | cons x t ih =>
    obtain ⟨c, w⟩ := x
    intro lo hl
    simp only [sparseAbove, Bool.and_eq_true, decide_eq_true_eq] at hl
    simp only [List.filter_cons]
    split
    · simp only [sparseAbove, Bool.and_eq_true, decide_eq_true_eq]
      exact ⟨hl.1, ih _ hl.2⟩
    · exact sparseAbove_le d (by omega) (ih _ hl.2)

/-! ### Registers -/

theorem reg_setReg_ne (s : State) {a b : Nat} (v : Word) (h : a ≠ b) : (s.setReg b v).reg a = s.reg a :=
  getAt_putAt_ne _ _ _ _ _ h _

theorem reg_setReg_eq (s : State) (a : Nat) (v : Word) (h : s.wf = true) : (s.setReg a v).reg a = v := by
  simp only [State.wf, Regs.wf, Bool.and_eq_true] at h
  exact getAt_putAt_eq regReset a v s.regs 0 h.1

theorem reg_wr_ne (s : State) (f : Fld) (v a : Nat) (h : a ≠ f.reg) : (s.wr f v).reg a = s.reg a := reg_setReg_ne s _ h

theorem rd_wr_ne (s : State) (f g : Fld) (v : Nat) (h : g.reg ≠ f.reg) : (s.wr f v).rd g = s.rd g := by
  simp only [State.rd, reg_wr_ne s f v _ h]

/-- A field that lies in a register: its bits are among the 48. -/
def Fld.ok (f : Fld) : Prop := f.lo + f.width ≤ 48

theorem Fld.insert_toNat (f : Fld) (hf : f.ok) (w : Word) (v : Nat) :
    (f.insert w v).toNat = w.toNat % 2 ^ f.lo + (v % 2 ^ f.width) * 2 ^ f.lo + w.toNat / 2 ^ (f.lo + f.width) * 2 ^ (f.lo + f.width) := by
  simp only [Fld.insert, BitVec.toNat_ofNat, Nat.shiftLeft_eq, Nat.shiftRight_eq_div_pow]
  generalize hn : w.toNat = n
  have hw : n < 2 ^ 48 := by have := w.isLt; omega
  have hp1 : 0 < 2 ^ f.lo := Nat.two_pow_pos _
  have hp2 : 0 < 2 ^ f.width := Nat.two_pow_pos _
  have e1 : n = 2 ^ f.lo * (n / 2 ^ f.lo) + n % 2 ^ f.lo := (Nat.div_add_mod _ _).symm
  have e2 : n / 2 ^ f.lo = 2 ^ f.width * (n / 2 ^ f.lo / 2 ^ f.width) + n / 2 ^ f.lo % 2 ^ f.width := (Nat.div_add_mod _ _).symm
  have e3 : n / 2 ^ (f.lo + f.width) = n / 2 ^ f.lo / 2 ^ f.width := by rw [Nat.div_div_eq_div_mul, Nat.pow_add]
  have hv : v % 2 ^ f.width < 2 ^ f.width := Nat.mod_lt _ hp2
  rw [e3, Nat.pow_add]
  generalize n / 2 ^ f.lo / 2 ^ f.width = q at *
  generalize n / 2 ^ f.lo % 2 ^ f.width = o at *
  generalize hr : n % 2 ^ f.lo = r at *
  have hrl : r < 2 ^ f.lo := by rw [← hr]; exact Nat.mod_lt _ hp1
  rw [e2] at e1
  have e4 : n = 2 ^ f.lo * (2 ^ f.width * q) + 2 ^ f.lo * o + r := by rw [e1]; ring
  have e5 : n - o * 2 ^ f.lo + v % 2 ^ f.width * 2 ^ f.lo = r + v % 2 ^ f.width * 2 ^ f.lo + q * (2 ^ f.lo * 2 ^ f.width) := by
    have : n = o * 2 ^ f.lo + (r + q * (2 ^ f.lo * 2 ^ f.width)) := by rw [e4]; ring
    rw [this, Nat.add_sub_cancel_left]; ring
  rw [e5]
  apply Nat.mod_eq_of_lt
  have hq : q * (2 ^ f.lo * 2 ^ f.width) + 2 ^ f.lo * 2 ^ f.width ≤ 2 ^ 48 := by
    have hle : 2 ^ f.lo * 2 ^ f.width ∣ 2 ^ 48 := by rw [← Nat.pow_add]; exact pow_dvd_pow 2 hf
    obtain ⟨k, hk⟩ := hle
    have h1 : q * (2 ^ f.lo * 2 ^ f.width) < k * (2 ^ f.lo * 2 ^ f.width) := by
      calc q * (2 ^ f.lo * 2 ^ f.width) ≤ n := by rw [e4]; nlinarith
        _ < 2 ^ 48 := hw
        _ = k * (2 ^ f.lo * 2 ^ f.width) := by rw [hk]; ring
    have h2 : q < k := Nat.lt_of_mul_lt_mul_right h1
    calc q * (2 ^ f.lo * 2 ^ f.width) + 2 ^ f.lo * 2 ^ f.width = (q + 1) * (2 ^ f.lo * 2 ^ f.width) := by ring
      _ ≤ k * (2 ^ f.lo * 2 ^ f.width) := Nat.mul_le_mul_right _ h2
      _ = 2 ^ 48 := by rw [hk]; ring
  have h3 : v % 2 ^ f.width * 2 ^ f.lo + 2 ^ f.lo ≤ 2 ^ f.lo * 2 ^ f.width := by
    calc v % 2 ^ f.width * 2 ^ f.lo + 2 ^ f.lo = (v % 2 ^ f.width + 1) * 2 ^ f.lo := by ring
      _ ≤ 2 ^ f.width * 2 ^ f.lo := Nat.mul_le_mul_right _ hv
      _ = 2 ^ f.lo * 2 ^ f.width := by ring
  omega

theorem rd_wr_eq (s : State) (f : Fld) (v : Nat) (hf : f.ok) (h : s.wf = true) : (s.wr f v).rd f = v % 2 ^ f.width := by
  simp only [State.rd, State.wr, reg_setReg_eq s _ _ h, Fld.insert_toNat f hf, Nat.shiftRight_eq_div_pow]
  generalize (s.reg f.reg).toNat = n
  have hp1 : 0 < 2 ^ f.lo := Nat.two_pow_pos _
  have : n % 2 ^ f.lo + v % 2 ^ f.width * 2 ^ f.lo + n / 2 ^ (f.lo + f.width) * 2 ^ (f.lo + f.width)
      = n % 2 ^ f.lo + 2 ^ f.lo * (v % 2 ^ f.width + 2 ^ f.width * (n / 2 ^ (f.lo + f.width))) := by rw [Nat.pow_add]; ring
  rw [this, Nat.add_mul_div_left _ _ hp1, Nat.div_eq_of_lt (Nat.mod_lt _ hp1), Nat.zero_add, Nat.add_mul_mod_self_left,
    Nat.mod_mod]

/-- A write of one field leaves the other fields of its register. -/
theorem rd_wr_disjoint (s : State) (f g : Fld) (v : Nat) (hf : f.ok) (h : s.wf = true)
    (hd : g.lo + g.width ≤ f.lo ∨ f.lo + f.width ≤ g.lo) : (s.wr f v).rd g = s.rd g := by
  by_cases hr : g.reg = f.reg
  swap
  · exact rd_wr_ne s f g v hr
  simp only [State.rd, State.wr, hr, reg_setReg_eq s _ _ h, Fld.insert_toNat f hf, Nat.shiftRight_eq_div_pow]
  generalize (s.reg f.reg).toNat = n
  have hv : v % 2 ^ f.width < 2 ^ f.width := Nat.mod_lt _ (Nat.two_pow_pos _)
  generalize v % 2 ^ f.width = x at *
  rcases hd with hd | hd
  · rw [← Nat.mod_mul_right_div_self, ← Nat.mod_mul_right_div_self (n := 2 ^ g.lo) n, ← Nat.pow_add]
    congr 1
    obtain ⟨k, hk⟩ := Nat.exists_eq_add_of_le hd
    have e : n % 2 ^ f.lo + x * 2 ^ f.lo + n / 2 ^ (f.lo + f.width) * 2 ^ (f.lo + f.width)
        = n % 2 ^ f.lo + 2 ^ (g.lo + g.width) * (2 ^ k * (x + n / 2 ^ (f.lo + f.width) * 2 ^ f.width)) := by
      rw [Nat.pow_add 2 f.lo, hk, Nat.pow_add 2 (g.lo + g.width)]; ring
    rw [e, Nat.add_mul_mod_self_left, Nat.mod_mod_of_dvd _ (pow_dvd_pow 2 hd)]
  · obtain ⟨k, hk⟩ := Nat.exists_eq_add_of_le hd
    have hlt : n % 2 ^ f.lo + x * 2 ^ f.lo < 2 ^ (f.lo + f.width) := by
      have := Nat.mod_lt n (Nat.two_pow_pos f.lo)
      calc n % 2 ^ f.lo + x * 2 ^ f.lo < 2 ^ f.lo + x * 2 ^ f.lo := by omega
        _ = (x + 1) * 2 ^ f.lo := by ring
        _ ≤ 2 ^ f.width * 2 ^ f.lo := Nat.mul_le_mul_right _ hv
        _ = 2 ^ (f.lo + f.width) := by rw [Nat.pow_add]; ring
    rw [hk, Nat.pow_add 2 (f.lo + f.width), ← Nat.div_div_eq_div_mul, ← Nat.div_div_eq_div_mul n, Nat.mul_comm (n / _),
      Nat.add_mul_div_left _ _ (Nat.two_pow_pos _), Nat.div_eq_of_lt hlt, Nat.zero_add]

/-! ### Memory -/

theorem byte_setByte_ne (s : State) {a b : Nat} (v : Byte) (h : a ≠ b) : (s.setByte b v).byte a = s.byte a :=
  getAt_putAt_ne _ _ _ _ _ h _

theorem byte_setByte_eq (s : State) (a : Nat) (v : Byte) (h : s.wf = true) : (s.setByte a v).byte a = v := by
  simp only [State.wf, Memory.wf, Bool.and_eq_true] at h
  exact getAt_putAt_eq (fun _ => (0 : Byte)) a v s.mem 0 h.2

theorem byte_setBytes_ne (l : List Byte) : ∀ (s : State) (b a : Nat), (a < b ∨ b + l.length ≤ a) → (s.setBytes b l).byte a = s.byte a := by
  induction l with
  | nil => intros; rfl
  | cons x t ih =>
    intro s b a h
    simp only [List.length_cons] at h
    rw [State.setBytes, ih _ _ _ (by omega), byte_setByte_ne _ _ (by omega)]

/-! ### The canonical form -/

theorem setReg_wf (s : State) (a : Nat) (v : Word) (h : s.wf = true) : (s.setReg a v).wf = true := by
  simp only [State.wf, Regs.wf, Bool.and_eq_true, State.setReg] at h ⊢
  exact ⟨sparseAbove_putAt regReset a v s.regs 0 h.1 (Nat.zero_le a), h.2⟩

theorem wr_wf (s : State) (f : Fld) (v : Nat) (h : s.wf = true) : (s.wr f v).wf = true := setReg_wf _ _ _ h

theorem setByte_wf (s : State) (a : Nat) (v : Byte) (h : s.wf = true) : (s.setByte a v).wf = true := by
  simp only [State.wf, Memory.wf, Bool.and_eq_true, State.setByte] at h ⊢
  exact ⟨h.1, sparseAbove_putAt (fun _ => (0 : Byte)) a v s.mem 0 h.2 (Nat.zero_le a)⟩

theorem setBytes_wf (l : List Byte) : ∀ (s : State) (a : Nat), s.wf = true → (s.setBytes a l).wf = true := by
  induction l with
  | nil => intro s a h; exact h
  | cons x t ih => intro s a h; exact ih _ _ (setByte_wf s a x h)

theorem zeroMem_wf (s : State) (lo hi : Nat) (h : s.wf = true) : (s.zeroMem lo hi).wf = true := by
  simp only [State.wf, Memory.wf, Bool.and_eq_true, State.zeroMem] at h ⊢
  exact ⟨h.1, sparseAbove_filter _ _ _ _ h.2⟩

theorem resetRegs_wf (s : State) (lo hi : Nat) (h : s.wf = true) : (s.resetRegs lo hi).wf = true := by
  simp only [State.wf, Regs.wf, Bool.and_eq_true, State.resetRegs] at h ⊢
  exact ⟨sparseAbove_filter _ _ _ _ h.1, h.2⟩

/-! ### Accesses that a command stands for -/

/-- What a debug port without power sends does nothing. -/
theorem asAccess_lost {s : State} {init : Nat} (h : portLost s init = true) (a : Nat) (write : Bool) (f : State → State) :
    asAccess init a write f s = s := by simp [asAccess, h]

/-- An access that nothing refuses does what it does, with the half discarded that its initiator has staged. -/
theorem asAccess_taken {s : State} {init a : Nat} {write : Bool} (h : portLost s init = false)
    (hc : portCause (unstage init s) init a write = 0) (f : State → State) :
    asAccess init a write f s = f (unstage init s) := by simp [asAccess, h, hc]

/-- An access that is refused does nothing but its error response, with the half discarded. -/
theorem asAccess_refused {s : State} {init a : Nat} {write : Bool} (h : portLost s init = false)
    (hc : portCause (unstage init s) init a write ≠ 0) (f : State → State) :
    asAccess init a write f s = icError init a write (portCause (unstage init s) init a write) (unstage init s) := by
  simp [asAccess, h, hc]

/-- An access does what depends on the state behind the discarded half alone. -/
theorem asAccess_const (s : State) (init a : Nat) (write : Bool) (f : State → State) :
    asAccess init a write f s = asAccess init a write (fun _ => f (unstage init s)) s := rfl

/-- A command without an initiator acts where its block has power, and is a refused write elsewhere. -/
theorem whenOn_on {s : State} {a : Nat} (h : s.isOff a = false) (f : State → State) : whenOn a f s = f s := by simp [whenOn, h]
theorem whenOn_off {s : State} {a : Nat} (h : s.isOff a = true) (f : State → State) :
    whenOn a f s = icError 6 a true PWR_OFF s := by simp [whenOn, h]
theorem whenOn_const (s : State) (a : Nat) (f : State → State) : whenOn a f s = whenOn a (fun _ => f s) s := rfl

/-! ### Bytes of a number -/

/-- A number of four bytes is what its bytes stand for, whatever follows them. -/
theorem ofBE_toBE_four (n : Nat) (h : n < 2 ^ 32) (l : List Byte) : ofBE ((toBE 4 n ++ l).take 4) = n := by
  simp [toBE, toLE, ofBE, ofLE]
  omega

end Sys2Proof.Machine
end

