-- ==== Sys2Proof/Laws/State.lean ====
section
/-!
SUPPORT. What every update of the state leaves: for each operation that replaces one part, one lemma for each other part, and
the reading of a part that was replaced.
-/

namespace Sys2Proof.Machine

/-! ### Writes of a field: one normal form -/

@[simp] theorem raise_eq (s : State) (f : Fld) : s.raise f = s.wr f 1 := rfl
@[simp] theorem clear_eq (s : State) (f : Fld) : s.clear f = s.wr f 0 := rfl
@[simp] theorem put_eq (s : State) (f : Fld) (b : Bool) : s.put f b = s.wr f (if b then 1 else 0) := rfl
@[simp] theorem count_eq (s : State) (f : Fld) (n : Nat) : s.count f n = s.wr f (s.rd f + n) := rfl
@[simp] theorem raiseBit_eq (s : State) (f : Fld) (k : Nat) : s.raiseBit f k = s.wr f (s.rd f ||| 1 <<< k) := rfl
@[simp] theorem countSat_eq (s : State) (f : Fld) (n : Nat) : s.countSat f n = s.wr f (min (s.rd f + n) (2 ^ f.width - 1)) := rfl
@[simp] theorem wrS_eq (s : State) (f : Fld) (z : Int) : s.wrS f z = s.wr f (unsigned f.width z) := rfl

/-! ### setReg -/

@[simp] theorem setReg_mem (s : State) (a : Nat) (v : Word) : (s.setReg a v).mem = s.mem := rfl
@[simp] theorem setReg_bus (s : State) (a : Nat) (v : Word) : (s.setReg a v).bus = s.bus := rfl
@[simp] theorem setReg_memc (s : State) (a : Nat) (v : Word) : (s.setReg a v).memc = s.memc := rfl
@[simp] theorem setReg_nvs (s : State) (a : Nat) (v : Word) : (s.setReg a v).nvs = s.nvs := rfl
@[simp] theorem setReg_saf (s : State) (a : Nat) (v : Word) : (s.setReg a v).saf = s.saf := rfl
@[simp] theorem setReg_pwr (s : State) (a : Nat) (v : Word) : (s.setReg a v).pwr = s.pwr := rfl
@[simp] theorem setReg_tb (s : State) (a : Nat) (v : Word) : (s.setReg a v).tb = s.tb := rfl
@[simp] theorem setReg_ports (s : State) (a : Nat) (v : Word) : (s.setReg a v).ports = s.ports := rfl
@[simp] theorem setReg_clapper (s : State) (a : Nat) (v : Word) : (s.setReg a v).clapper = s.clapper := rfl
@[simp] theorem setReg_ca (s : State) (a : Nat) (v : Word) : (s.setReg a v).ca = s.ca := rfl
@[simp] theorem setReg_cgn (s : State) (a : Nat) (v : Word) : (s.setReg a v).cgn = s.cgn := rfl
@[simp] theorem setReg_se (s : State) (a : Nat) (v : Word) : (s.setReg a v).se = s.se := rfl
@[simp] theorem setReg_reels (s : State) (a : Nat) (v : Word) : (s.setReg a v).reels = s.reels := rfl
@[simp] theorem setReg_streams (s : State) (a : Nat) (v : Word) : (s.setReg a v).streams = s.streams := rfl
@[simp] theorem setReg_conds (s : State) (a : Nat) (v : Word) : (s.setReg a v).conds = s.conds := rfl
@[simp] theorem setReg_heads (s : State) (a : Nat) (v : Word) : (s.setReg a v).heads = s.heads := rfl
@[simp] theorem setReg_pls (s : State) (a : Nat) (v : Word) : (s.setReg a v).pls = s.pls := rfl
@[simp] theorem setReg_clk (s : State) (a : Nat) (v : Word) : (s.setReg a v).clk = s.clk := rfl
@[simp] theorem setReg_osy (s : State) (a : Nat) (v : Word) : (s.setReg a v).osy = s.osy := rfl
@[simp] theorem setReg_eth (s : State) (a : Nat) (v : Word) : (s.setReg a v).eth = s.eth := rfl
@[simp] theorem setReg_cxe (s : State) (a : Nat) (v : Word) : (s.setReg a v).cxe = s.cxe := rfl
@[simp] theorem setReg_svu (s : State) (a : Nat) (v : Word) : (s.setReg a v).svu = s.svu := rfl
@[simp] theorem setReg_cores (s : State) (a : Nat) (v : Word) : (s.setReg a v).cores = s.cores := rfl
@[simp] theorem setReg_hst (s : State) (a : Nat) (v : Word) : (s.setReg a v).hst = s.hst := rfl
@[simp] theorem setReg_nav (s : State) (a : Nat) (v : Word) : (s.setReg a v).nav = s.nav := rfl
@[simp] theorem setReg_straps (s : State) (a : Nat) (v : Word) : (s.setReg a v).straps = s.straps := rfl
@[simp] theorem setReg_dbgStart (s : State) (a : Nat) (v : Word) : (s.setReg a v).dbgStart = s.dbgStart := rfl
@[simp] theorem setReg_ticks (s : State) (a : Nat) (v : Word) : (s.setReg a v).ticks = s.ticks := rfl
@[simp] theorem setReg_freeCount (s : State) (a : Nat) (v : Word) : (s.setReg a v).freeCount = s.freeCount := rfl
@[simp] theorem setReg_pending (s : State) (a : Nat) (v : Word) : (s.setReg a v).pending = s.pending := rfl
@[simp] theorem setReg_port (s : State) (a : Nat) (v : Word) (k : Nat) : (s.setReg a v).port k = s.port k := rfl
@[simp] theorem setReg_head (s : State) (a : Nat) (v : Word) (k : Nat) : (s.setReg a v).head k = s.head k := rfl
@[simp] theorem setReg_stream (s : State) (a : Nat) (v : Word) (k : Nat) : (s.setReg a v).stream k = s.stream k := rfl
@[simp] theorem setReg_cond (s : State) (a : Nat) (v : Word) (k : Nat) : (s.setReg a v).cond k = s.cond k := rfl
@[simp] theorem setReg_reel (s : State) (a : Nat) (v : Word) (k : Nat) : (s.setReg a v).reel k = s.reel k := rfl
@[simp] theorem setReg_core (s : State) (a : Nat) (v : Word) (k : Nat) : (s.setReg a v).core k = s.core k := rfl
@[simp] theorem setReg_osyn (s : State) (a : Nat) (v : Word) (k : Nat) : (s.setReg a v).osyn k = s.osyn k := rfl
@[simp] theorem setReg_tpg (s : State) (a : Nat) (v : Word) (k : Nat) : (s.setReg a v).tpg k = s.tpg k := rfl
@[simp] theorem setReg_evc (s : State) (a : Nat) (v : Word) (k : Nat) : (s.setReg a v).evc k = s.evc k := rfl
@[simp] theorem setReg_chan (s : State) (a : Nat) (v : Word) (k : Nat) : (s.setReg a v).chan k = s.chan k := rfl
@[simp] theorem setReg_slot (s : State) (a : Nat) (v : Word) (k : Nat) : (s.setReg a v).slot k = s.slot k := rfl
@[simp] theorem setReg_byte (s : State) (a : Nat) (v : Word) (b : Nat) : (s.setReg a v).byte b = s.byte b := rfl

/-! ### setByte -/

@[simp] theorem setByte_regs (s : State) (a : Nat) (v : Byte) : (s.setByte a v).regs = s.regs := rfl
@[simp] theorem setByte_bus (s : State) (a : Nat) (v : Byte) : (s.setByte a v).bus = s.bus := rfl
@[simp] theorem setByte_memc (s : State) (a : Nat) (v : Byte) : (s.setByte a v).memc = s.memc := rfl
@[simp] theorem setByte_nvs (s : State) (a : Nat) (v : Byte) : (s.setByte a v).nvs = s.nvs := rfl
@[simp] theorem setByte_saf (s : State) (a : Nat) (v : Byte) : (s.setByte a v).saf = s.saf := rfl
@[simp] theorem setByte_pwr (s : State) (a : Nat) (v : Byte) : (s.setByte a v).pwr = s.pwr := rfl
@[simp] theorem setByte_tb (s : State) (a : Nat) (v : Byte) : (s.setByte a v).tb = s.tb := rfl
@[simp] theorem setByte_ports (s : State) (a : Nat) (v : Byte) : (s.setByte a v).ports = s.ports := rfl
@[simp] theorem setByte_clapper (s : State) (a : Nat) (v : Byte) : (s.setByte a v).clapper = s.clapper := rfl
@[simp] theorem setByte_ca (s : State) (a : Nat) (v : Byte) : (s.setByte a v).ca = s.ca := rfl
@[simp] theorem setByte_cgn (s : State) (a : Nat) (v : Byte) : (s.setByte a v).cgn = s.cgn := rfl
@[simp] theorem setByte_se (s : State) (a : Nat) (v : Byte) : (s.setByte a v).se = s.se := rfl
@[simp] theorem setByte_reels (s : State) (a : Nat) (v : Byte) : (s.setByte a v).reels = s.reels := rfl
@[simp] theorem setByte_streams (s : State) (a : Nat) (v : Byte) : (s.setByte a v).streams = s.streams := rfl
@[simp] theorem setByte_conds (s : State) (a : Nat) (v : Byte) : (s.setByte a v).conds = s.conds := rfl
@[simp] theorem setByte_heads (s : State) (a : Nat) (v : Byte) : (s.setByte a v).heads = s.heads := rfl
@[simp] theorem setByte_pls (s : State) (a : Nat) (v : Byte) : (s.setByte a v).pls = s.pls := rfl
@[simp] theorem setByte_clk (s : State) (a : Nat) (v : Byte) : (s.setByte a v).clk = s.clk := rfl
@[simp] theorem setByte_osy (s : State) (a : Nat) (v : Byte) : (s.setByte a v).osy = s.osy := rfl
@[simp] theorem setByte_eth (s : State) (a : Nat) (v : Byte) : (s.setByte a v).eth = s.eth := rfl
@[simp] theorem setByte_cxe (s : State) (a : Nat) (v : Byte) : (s.setByte a v).cxe = s.cxe := rfl
@[simp] theorem setByte_svu (s : State) (a : Nat) (v : Byte) : (s.setByte a v).svu = s.svu := rfl
@[simp] theorem setByte_cores (s : State) (a : Nat) (v : Byte) : (s.setByte a v).cores = s.cores := rfl
@[simp] theorem setByte_hst (s : State) (a : Nat) (v : Byte) : (s.setByte a v).hst = s.hst := rfl
@[simp] theorem setByte_nav (s : State) (a : Nat) (v : Byte) : (s.setByte a v).nav = s.nav := rfl
@[simp] theorem setByte_straps (s : State) (a : Nat) (v : Byte) : (s.setByte a v).straps = s.straps := rfl
@[simp] theorem setByte_dbgStart (s : State) (a : Nat) (v : Byte) : (s.setByte a v).dbgStart = s.dbgStart := rfl
@[simp] theorem setByte_ticks (s : State) (a : Nat) (v : Byte) : (s.setByte a v).ticks = s.ticks := rfl
@[simp] theorem setByte_freeCount (s : State) (a : Nat) (v : Byte) : (s.setByte a v).freeCount = s.freeCount := rfl
@[simp] theorem setByte_pending (s : State) (a : Nat) (v : Byte) : (s.setByte a v).pending = s.pending := rfl
@[simp] theorem setByte_port (s : State) (a : Nat) (v : Byte) (k : Nat) : (s.setByte a v).port k = s.port k := rfl
@[simp] theorem setByte_head (s : State) (a : Nat) (v : Byte) (k : Nat) : (s.setByte a v).head k = s.head k := rfl
@[simp] theorem setByte_stream (s : State) (a : Nat) (v : Byte) (k : Nat) : (s.setByte a v).stream k = s.stream k := rfl
@[simp] theorem setByte_cond (s : State) (a : Nat) (v : Byte) (k : Nat) : (s.setByte a v).cond k = s.cond k := rfl
@[simp] theorem setByte_reel (s : State) (a : Nat) (v : Byte) (k : Nat) : (s.setByte a v).reel k = s.reel k := rfl
@[simp] theorem setByte_core (s : State) (a : Nat) (v : Byte) (k : Nat) : (s.setByte a v).core k = s.core k := rfl
@[simp] theorem setByte_osyn (s : State) (a : Nat) (v : Byte) (k : Nat) : (s.setByte a v).osyn k = s.osyn k := rfl
@[simp] theorem setByte_tpg (s : State) (a : Nat) (v : Byte) (k : Nat) : (s.setByte a v).tpg k = s.tpg k := rfl
@[simp] theorem setByte_evc (s : State) (a : Nat) (v : Byte) (k : Nat) : (s.setByte a v).evc k = s.evc k := rfl
@[simp] theorem setByte_chan (s : State) (a : Nat) (v : Byte) (k : Nat) : (s.setByte a v).chan k = s.chan k := rfl
@[simp] theorem setByte_slot (s : State) (a : Nat) (v : Byte) (k : Nat) : (s.setByte a v).slot k = s.slot k := rfl
@[simp] theorem setByte_reg (s : State) (a : Nat) (v : Byte) (b : Nat) : (s.setByte a v).reg b = s.reg b := rfl
@[simp] theorem setByte_rd (s : State) (a : Nat) (v : Byte) (g : Fld) : (s.setByte a v).rd g = s.rd g := rfl
@[simp] theorem setByte_flag (s : State) (a : Nat) (v : Byte) (g : Fld) : (s.setByte a v).flag g = s.flag g := rfl

/-! ### setPort -/

@[simp] theorem setPort_regs (s : State) (n : Nat) (x : PortState) : (s.setPort n x).regs = s.regs := rfl
@[simp] theorem setPort_mem (s : State) (n : Nat) (x : PortState) : (s.setPort n x).mem = s.mem := rfl
@[simp] theorem setPort_bus (s : State) (n : Nat) (x : PortState) : (s.setPort n x).bus = s.bus := rfl
@[simp] theorem setPort_memc (s : State) (n : Nat) (x : PortState) : (s.setPort n x).memc = s.memc := rfl
@[simp] theorem setPort_nvs (s : State) (n : Nat) (x : PortState) : (s.setPort n x).nvs = s.nvs := rfl
@[simp] theorem setPort_saf (s : State) (n : Nat) (x : PortState) : (s.setPort n x).saf = s.saf := rfl
@[simp] theorem setPort_pwr (s : State) (n : Nat) (x : PortState) : (s.setPort n x).pwr = s.pwr := rfl
@[simp] theorem setPort_tb (s : State) (n : Nat) (x : PortState) : (s.setPort n x).tb = s.tb := rfl
@[simp] theorem setPort_clapper (s : State) (n : Nat) (x : PortState) : (s.setPort n x).clapper = s.clapper := rfl
@[simp] theorem setPort_ca (s : State) (n : Nat) (x : PortState) : (s.setPort n x).ca = s.ca := rfl
@[simp] theorem setPort_cgn (s : State) (n : Nat) (x : PortState) : (s.setPort n x).cgn = s.cgn := rfl
@[simp] theorem setPort_se (s : State) (n : Nat) (x : PortState) : (s.setPort n x).se = s.se := rfl
@[simp] theorem setPort_reels (s : State) (n : Nat) (x : PortState) : (s.setPort n x).reels = s.reels := rfl
@[simp] theorem setPort_streams (s : State) (n : Nat) (x : PortState) : (s.setPort n x).streams = s.streams := rfl
@[simp] theorem setPort_conds (s : State) (n : Nat) (x : PortState) : (s.setPort n x).conds = s.conds := rfl
@[simp] theorem setPort_heads (s : State) (n : Nat) (x : PortState) : (s.setPort n x).heads = s.heads := rfl
@[simp] theorem setPort_pls (s : State) (n : Nat) (x : PortState) : (s.setPort n x).pls = s.pls := rfl
@[simp] theorem setPort_clk (s : State) (n : Nat) (x : PortState) : (s.setPort n x).clk = s.clk := rfl
@[simp] theorem setPort_osy (s : State) (n : Nat) (x : PortState) : (s.setPort n x).osy = s.osy := rfl
@[simp] theorem setPort_eth (s : State) (n : Nat) (x : PortState) : (s.setPort n x).eth = s.eth := rfl
@[simp] theorem setPort_cxe (s : State) (n : Nat) (x : PortState) : (s.setPort n x).cxe = s.cxe := rfl
@[simp] theorem setPort_svu (s : State) (n : Nat) (x : PortState) : (s.setPort n x).svu = s.svu := rfl
@[simp] theorem setPort_cores (s : State) (n : Nat) (x : PortState) : (s.setPort n x).cores = s.cores := rfl
@[simp] theorem setPort_hst (s : State) (n : Nat) (x : PortState) : (s.setPort n x).hst = s.hst := rfl
@[simp] theorem setPort_nav (s : State) (n : Nat) (x : PortState) : (s.setPort n x).nav = s.nav := rfl
@[simp] theorem setPort_straps (s : State) (n : Nat) (x : PortState) : (s.setPort n x).straps = s.straps := rfl
@[simp] theorem setPort_dbgStart (s : State) (n : Nat) (x : PortState) : (s.setPort n x).dbgStart = s.dbgStart := rfl
@[simp] theorem setPort_ticks (s : State) (n : Nat) (x : PortState) : (s.setPort n x).ticks = s.ticks := rfl
@[simp] theorem setPort_freeCount (s : State) (n : Nat) (x : PortState) : (s.setPort n x).freeCount = s.freeCount := rfl
@[simp] theorem setPort_pending (s : State) (n : Nat) (x : PortState) : (s.setPort n x).pending = s.pending := rfl
@[simp] theorem setPort_head (s : State) (n : Nat) (x : PortState) (k : Nat) : (s.setPort n x).head k = s.head k := rfl
@[simp] theorem setPort_stream (s : State) (n : Nat) (x : PortState) (k : Nat) : (s.setPort n x).stream k = s.stream k := rfl
@[simp] theorem setPort_cond (s : State) (n : Nat) (x : PortState) (k : Nat) : (s.setPort n x).cond k = s.cond k := rfl
@[simp] theorem setPort_reel (s : State) (n : Nat) (x : PortState) (k : Nat) : (s.setPort n x).reel k = s.reel k := rfl
@[simp] theorem setPort_core (s : State) (n : Nat) (x : PortState) (k : Nat) : (s.setPort n x).core k = s.core k := rfl
@[simp] theorem setPort_osyn (s : State) (n : Nat) (x : PortState) (k : Nat) : (s.setPort n x).osyn k = s.osyn k := rfl
@[simp] theorem setPort_tpg (s : State) (n : Nat) (x : PortState) (k : Nat) : (s.setPort n x).tpg k = s.tpg k := rfl
@[simp] theorem setPort_evc (s : State) (n : Nat) (x : PortState) (k : Nat) : (s.setPort n x).evc k = s.evc k := rfl
@[simp] theorem setPort_chan (s : State) (n : Nat) (x : PortState) (k : Nat) : (s.setPort n x).chan k = s.chan k := rfl
@[simp] theorem setPort_slot (s : State) (n : Nat) (x : PortState) (k : Nat) : (s.setPort n x).slot k = s.slot k := rfl
@[simp] theorem setPort_reg (s : State) (n : Nat) (x : PortState) (b : Nat) : (s.setPort n x).reg b = s.reg b := rfl
@[simp] theorem setPort_rd (s : State) (n : Nat) (x : PortState) (g : Fld) : (s.setPort n x).rd g = s.rd g := rfl
@[simp] theorem setPort_flag (s : State) (n : Nat) (x : PortState) (g : Fld) : (s.setPort n x).flag g = s.flag g := rfl
@[simp] theorem setPort_byte (s : State) (n : Nat) (x : PortState) (b : Nat) : (s.setPort n x).byte b = s.byte b := rfl
@[simp] theorem setPort_wf (s : State) (n : Nat) (x : PortState) : (s.setPort n x).wf = s.wf := rfl

/-! ### setHead -/

@[simp] theorem setHead_regs (s : State) (n : Nat) (x : HeadState) : (s.setHead n x).regs = s.regs := rfl
@[simp] theorem setHead_mem (s : State) (n : Nat) (x : HeadState) : (s.setHead n x).mem = s.mem := rfl
@[simp] theorem setHead_bus (s : State) (n : Nat) (x : HeadState) : (s.setHead n x).bus = s.bus := rfl
@[simp] theorem setHead_memc (s : State) (n : Nat) (x : HeadState) : (s.setHead n x).memc = s.memc := rfl
@[simp] theorem setHead_nvs (s : State) (n : Nat) (x : HeadState) : (s.setHead n x).nvs = s.nvs := rfl
@[simp] theorem setHead_saf (s : State) (n : Nat) (x : HeadState) : (s.setHead n x).saf = s.saf := rfl
@[simp] theorem setHead_pwr (s : State) (n : Nat) (x : HeadState) : (s.setHead n x).pwr = s.pwr := rfl
@[simp] theorem setHead_tb (s : State) (n : Nat) (x : HeadState) : (s.setHead n x).tb = s.tb := rfl
@[simp] theorem setHead_ports (s : State) (n : Nat) (x : HeadState) : (s.setHead n x).ports = s.ports := rfl
@[simp] theorem setHead_clapper (s : State) (n : Nat) (x : HeadState) : (s.setHead n x).clapper = s.clapper := rfl
@[simp] theorem setHead_ca (s : State) (n : Nat) (x : HeadState) : (s.setHead n x).ca = s.ca := rfl
@[simp] theorem setHead_cgn (s : State) (n : Nat) (x : HeadState) : (s.setHead n x).cgn = s.cgn := rfl
@[simp] theorem setHead_se (s : State) (n : Nat) (x : HeadState) : (s.setHead n x).se = s.se := rfl
@[simp] theorem setHead_reels (s : State) (n : Nat) (x : HeadState) : (s.setHead n x).reels = s.reels := rfl
@[simp] theorem setHead_streams (s : State) (n : Nat) (x : HeadState) : (s.setHead n x).streams = s.streams := rfl
@[simp] theorem setHead_conds (s : State) (n : Nat) (x : HeadState) : (s.setHead n x).conds = s.conds := rfl
@[simp] theorem setHead_pls (s : State) (n : Nat) (x : HeadState) : (s.setHead n x).pls = s.pls := rfl
@[simp] theorem setHead_clk (s : State) (n : Nat) (x : HeadState) : (s.setHead n x).clk = s.clk := rfl
@[simp] theorem setHead_osy (s : State) (n : Nat) (x : HeadState) : (s.setHead n x).osy = s.osy := rfl
@[simp] theorem setHead_eth (s : State) (n : Nat) (x : HeadState) : (s.setHead n x).eth = s.eth := rfl
@[simp] theorem setHead_cxe (s : State) (n : Nat) (x : HeadState) : (s.setHead n x).cxe = s.cxe := rfl
@[simp] theorem setHead_svu (s : State) (n : Nat) (x : HeadState) : (s.setHead n x).svu = s.svu := rfl
@[simp] theorem setHead_cores (s : State) (n : Nat) (x : HeadState) : (s.setHead n x).cores = s.cores := rfl
@[simp] theorem setHead_hst (s : State) (n : Nat) (x : HeadState) : (s.setHead n x).hst = s.hst := rfl
@[simp] theorem setHead_nav (s : State) (n : Nat) (x : HeadState) : (s.setHead n x).nav = s.nav := rfl
@[simp] theorem setHead_straps (s : State) (n : Nat) (x : HeadState) : (s.setHead n x).straps = s.straps := rfl
@[simp] theorem setHead_dbgStart (s : State) (n : Nat) (x : HeadState) : (s.setHead n x).dbgStart = s.dbgStart := rfl
@[simp] theorem setHead_ticks (s : State) (n : Nat) (x : HeadState) : (s.setHead n x).ticks = s.ticks := rfl
@[simp] theorem setHead_freeCount (s : State) (n : Nat) (x : HeadState) : (s.setHead n x).freeCount = s.freeCount := rfl
@[simp] theorem setHead_pending (s : State) (n : Nat) (x : HeadState) : (s.setHead n x).pending = s.pending := rfl
@[simp] theorem setHead_port (s : State) (n : Nat) (x : HeadState) (k : Nat) : (s.setHead n x).port k = s.port k := rfl
@[simp] theorem setHead_stream (s : State) (n : Nat) (x : HeadState) (k : Nat) : (s.setHead n x).stream k = s.stream k := rfl
@[simp] theorem setHead_cond (s : State) (n : Nat) (x : HeadState) (k : Nat) : (s.setHead n x).cond k = s.cond k := rfl
@[simp] theorem setHead_reel (s : State) (n : Nat) (x : HeadState) (k : Nat) : (s.setHead n x).reel k = s.reel k := rfl
@[simp] theorem setHead_core (s : State) (n : Nat) (x : HeadState) (k : Nat) : (s.setHead n x).core k = s.core k := rfl
@[simp] theorem setHead_osyn (s : State) (n : Nat) (x : HeadState) (k : Nat) : (s.setHead n x).osyn k = s.osyn k := rfl
@[simp] theorem setHead_tpg (s : State) (n : Nat) (x : HeadState) (k : Nat) : (s.setHead n x).tpg k = s.tpg k := rfl
@[simp] theorem setHead_evc (s : State) (n : Nat) (x : HeadState) (k : Nat) : (s.setHead n x).evc k = s.evc k := rfl
@[simp] theorem setHead_chan (s : State) (n : Nat) (x : HeadState) (k : Nat) : (s.setHead n x).chan k = s.chan k := rfl
@[simp] theorem setHead_slot (s : State) (n : Nat) (x : HeadState) (k : Nat) : (s.setHead n x).slot k = s.slot k := rfl
@[simp] theorem setHead_reg (s : State) (n : Nat) (x : HeadState) (b : Nat) : (s.setHead n x).reg b = s.reg b := rfl
@[simp] theorem setHead_rd (s : State) (n : Nat) (x : HeadState) (g : Fld) : (s.setHead n x).rd g = s.rd g := rfl
@[simp] theorem setHead_flag (s : State) (n : Nat) (x : HeadState) (g : Fld) : (s.setHead n x).flag g = s.flag g := rfl
@[simp] theorem setHead_byte (s : State) (n : Nat) (x : HeadState) (b : Nat) : (s.setHead n x).byte b = s.byte b := rfl
@[simp] theorem setHead_wf (s : State) (n : Nat) (x : HeadState) : (s.setHead n x).wf = s.wf := rfl

/-! ### setStream -/

@[simp] theorem setStream_regs (s : State) (n : Nat) (x : StreamState) : (s.setStream n x).regs = s.regs := rfl
@[simp] theorem setStream_mem (s : State) (n : Nat) (x : StreamState) : (s.setStream n x).mem = s.mem := rfl
@[simp] theorem setStream_bus (s : State) (n : Nat) (x : StreamState) : (s.setStream n x).bus = s.bus := rfl
@[simp] theorem setStream_memc (s : State) (n : Nat) (x : StreamState) : (s.setStream n x).memc = s.memc := rfl
@[simp] theorem setStream_nvs (s : State) (n : Nat) (x : StreamState) : (s.setStream n x).nvs = s.nvs := rfl
@[simp] theorem setStream_saf (s : State) (n : Nat) (x : StreamState) : (s.setStream n x).saf = s.saf := rfl
@[simp] theorem setStream_pwr (s : State) (n : Nat) (x : StreamState) : (s.setStream n x).pwr = s.pwr := rfl
@[simp] theorem setStream_tb (s : State) (n : Nat) (x : StreamState) : (s.setStream n x).tb = s.tb := rfl
@[simp] theorem setStream_ports (s : State) (n : Nat) (x : StreamState) : (s.setStream n x).ports = s.ports := rfl
@[simp] theorem setStream_clapper (s : State) (n : Nat) (x : StreamState) : (s.setStream n x).clapper = s.clapper := rfl
@[simp] theorem setStream_ca (s : State) (n : Nat) (x : StreamState) : (s.setStream n x).ca = s.ca := rfl
@[simp] theorem setStream_cgn (s : State) (n : Nat) (x : StreamState) : (s.setStream n x).cgn = s.cgn := rfl
@[simp] theorem setStream_se (s : State) (n : Nat) (x : StreamState) : (s.setStream n x).se = s.se := rfl
@[simp] theorem setStream_reels (s : State) (n : Nat) (x : StreamState) : (s.setStream n x).reels = s.reels := rfl
@[simp] theorem setStream_conds (s : State) (n : Nat) (x : StreamState) : (s.setStream n x).conds = s.conds := rfl
@[simp] theorem setStream_heads (s : State) (n : Nat) (x : StreamState) : (s.setStream n x).heads = s.heads := rfl
@[simp] theorem setStream_pls (s : State) (n : Nat) (x : StreamState) : (s.setStream n x).pls = s.pls := rfl
@[simp] theorem setStream_clk (s : State) (n : Nat) (x : StreamState) : (s.setStream n x).clk = s.clk := rfl
@[simp] theorem setStream_osy (s : State) (n : Nat) (x : StreamState) : (s.setStream n x).osy = s.osy := rfl
@[simp] theorem setStream_eth (s : State) (n : Nat) (x : StreamState) : (s.setStream n x).eth = s.eth := rfl
@[simp] theorem setStream_cxe (s : State) (n : Nat) (x : StreamState) : (s.setStream n x).cxe = s.cxe := rfl
@[simp] theorem setStream_svu (s : State) (n : Nat) (x : StreamState) : (s.setStream n x).svu = s.svu := rfl
@[simp] theorem setStream_cores (s : State) (n : Nat) (x : StreamState) : (s.setStream n x).cores = s.cores := rfl
@[simp] theorem setStream_hst (s : State) (n : Nat) (x : StreamState) : (s.setStream n x).hst = s.hst := rfl
@[simp] theorem setStream_nav (s : State) (n : Nat) (x : StreamState) : (s.setStream n x).nav = s.nav := rfl
@[simp] theorem setStream_straps (s : State) (n : Nat) (x : StreamState) : (s.setStream n x).straps = s.straps := rfl
@[simp] theorem setStream_dbgStart (s : State) (n : Nat) (x : StreamState) : (s.setStream n x).dbgStart = s.dbgStart := rfl
@[simp] theorem setStream_ticks (s : State) (n : Nat) (x : StreamState) : (s.setStream n x).ticks = s.ticks := rfl
@[simp] theorem setStream_freeCount (s : State) (n : Nat) (x : StreamState) : (s.setStream n x).freeCount = s.freeCount := rfl
@[simp] theorem setStream_pending (s : State) (n : Nat) (x : StreamState) : (s.setStream n x).pending = s.pending := rfl
@[simp] theorem setStream_port (s : State) (n : Nat) (x : StreamState) (k : Nat) : (s.setStream n x).port k = s.port k := rfl
@[simp] theorem setStream_head (s : State) (n : Nat) (x : StreamState) (k : Nat) : (s.setStream n x).head k = s.head k := rfl
@[simp] theorem setStream_cond (s : State) (n : Nat) (x : StreamState) (k : Nat) : (s.setStream n x).cond k = s.cond k := rfl
@[simp] theorem setStream_reel (s : State) (n : Nat) (x : StreamState) (k : Nat) : (s.setStream n x).reel k = s.reel k := rfl
@[simp] theorem setStream_core (s : State) (n : Nat) (x : StreamState) (k : Nat) : (s.setStream n x).core k = s.core k := rfl
@[simp] theorem setStream_osyn (s : State) (n : Nat) (x : StreamState) (k : Nat) : (s.setStream n x).osyn k = s.osyn k := rfl
@[simp] theorem setStream_tpg (s : State) (n : Nat) (x : StreamState) (k : Nat) : (s.setStream n x).tpg k = s.tpg k := rfl
@[simp] theorem setStream_evc (s : State) (n : Nat) (x : StreamState) (k : Nat) : (s.setStream n x).evc k = s.evc k := rfl
@[simp] theorem setStream_chan (s : State) (n : Nat) (x : StreamState) (k : Nat) : (s.setStream n x).chan k = s.chan k := rfl
@[simp] theorem setStream_slot (s : State) (n : Nat) (x : StreamState) (k : Nat) : (s.setStream n x).slot k = s.slot k := rfl
@[simp] theorem setStream_reg (s : State) (n : Nat) (x : StreamState) (b : Nat) : (s.setStream n x).reg b = s.reg b := rfl
@[simp] theorem setStream_rd (s : State) (n : Nat) (x : StreamState) (g : Fld) : (s.setStream n x).rd g = s.rd g := rfl
@[simp] theorem setStream_flag (s : State) (n : Nat) (x : StreamState) (g : Fld) : (s.setStream n x).flag g = s.flag g := rfl
@[simp] theorem setStream_byte (s : State) (n : Nat) (x : StreamState) (b : Nat) : (s.setStream n x).byte b = s.byte b := rfl
@[simp] theorem setStream_wf (s : State) (n : Nat) (x : StreamState) : (s.setStream n x).wf = s.wf := rfl

/-! ### setCond -/

@[simp] theorem setCond_regs (s : State) (n : Nat) (x : CondState) : (s.setCond n x).regs = s.regs := rfl
@[simp] theorem setCond_mem (s : State) (n : Nat) (x : CondState) : (s.setCond n x).mem = s.mem := rfl
@[simp] theorem setCond_bus (s : State) (n : Nat) (x : CondState) : (s.setCond n x).bus = s.bus := rfl
@[simp] theorem setCond_memc (s : State) (n : Nat) (x : CondState) : (s.setCond n x).memc = s.memc := rfl
@[simp] theorem setCond_nvs (s : State) (n : Nat) (x : CondState) : (s.setCond n x).nvs = s.nvs := rfl
@[simp] theorem setCond_saf (s : State) (n : Nat) (x : CondState) : (s.setCond n x).saf = s.saf := rfl
@[simp] theorem setCond_pwr (s : State) (n : Nat) (x : CondState) : (s.setCond n x).pwr = s.pwr := rfl
@[simp] theorem setCond_tb (s : State) (n : Nat) (x : CondState) : (s.setCond n x).tb = s.tb := rfl
@[simp] theorem setCond_ports (s : State) (n : Nat) (x : CondState) : (s.setCond n x).ports = s.ports := rfl
@[simp] theorem setCond_clapper (s : State) (n : Nat) (x : CondState) : (s.setCond n x).clapper = s.clapper := rfl
@[simp] theorem setCond_ca (s : State) (n : Nat) (x : CondState) : (s.setCond n x).ca = s.ca := rfl
@[simp] theorem setCond_cgn (s : State) (n : Nat) (x : CondState) : (s.setCond n x).cgn = s.cgn := rfl
@[simp] theorem setCond_se (s : State) (n : Nat) (x : CondState) : (s.setCond n x).se = s.se := rfl
@[simp] theorem setCond_reels (s : State) (n : Nat) (x : CondState) : (s.setCond n x).reels = s.reels := rfl
@[simp] theorem setCond_streams (s : State) (n : Nat) (x : CondState) : (s.setCond n x).streams = s.streams := rfl
@[simp] theorem setCond_heads (s : State) (n : Nat) (x : CondState) : (s.setCond n x).heads = s.heads := rfl
@[simp] theorem setCond_pls (s : State) (n : Nat) (x : CondState) : (s.setCond n x).pls = s.pls := rfl
@[simp] theorem setCond_clk (s : State) (n : Nat) (x : CondState) : (s.setCond n x).clk = s.clk := rfl
@[simp] theorem setCond_osy (s : State) (n : Nat) (x : CondState) : (s.setCond n x).osy = s.osy := rfl
@[simp] theorem setCond_eth (s : State) (n : Nat) (x : CondState) : (s.setCond n x).eth = s.eth := rfl
@[simp] theorem setCond_cxe (s : State) (n : Nat) (x : CondState) : (s.setCond n x).cxe = s.cxe := rfl
@[simp] theorem setCond_svu (s : State) (n : Nat) (x : CondState) : (s.setCond n x).svu = s.svu := rfl
@[simp] theorem setCond_cores (s : State) (n : Nat) (x : CondState) : (s.setCond n x).cores = s.cores := rfl
@[simp] theorem setCond_hst (s : State) (n : Nat) (x : CondState) : (s.setCond n x).hst = s.hst := rfl
@[simp] theorem setCond_nav (s : State) (n : Nat) (x : CondState) : (s.setCond n x).nav = s.nav := rfl
@[simp] theorem setCond_straps (s : State) (n : Nat) (x : CondState) : (s.setCond n x).straps = s.straps := rfl
@[simp] theorem setCond_dbgStart (s : State) (n : Nat) (x : CondState) : (s.setCond n x).dbgStart = s.dbgStart := rfl
@[simp] theorem setCond_ticks (s : State) (n : Nat) (x : CondState) : (s.setCond n x).ticks = s.ticks := rfl
@[simp] theorem setCond_freeCount (s : State) (n : Nat) (x : CondState) : (s.setCond n x).freeCount = s.freeCount := rfl
@[simp] theorem setCond_pending (s : State) (n : Nat) (x : CondState) : (s.setCond n x).pending = s.pending := rfl
@[simp] theorem setCond_port (s : State) (n : Nat) (x : CondState) (k : Nat) : (s.setCond n x).port k = s.port k := rfl
@[simp] theorem setCond_head (s : State) (n : Nat) (x : CondState) (k : Nat) : (s.setCond n x).head k = s.head k := rfl
@[simp] theorem setCond_stream (s : State) (n : Nat) (x : CondState) (k : Nat) : (s.setCond n x).stream k = s.stream k := rfl
@[simp] theorem setCond_reel (s : State) (n : Nat) (x : CondState) (k : Nat) : (s.setCond n x).reel k = s.reel k := rfl
@[simp] theorem setCond_core (s : State) (n : Nat) (x : CondState) (k : Nat) : (s.setCond n x).core k = s.core k := rfl
@[simp] theorem setCond_osyn (s : State) (n : Nat) (x : CondState) (k : Nat) : (s.setCond n x).osyn k = s.osyn k := rfl
@[simp] theorem setCond_tpg (s : State) (n : Nat) (x : CondState) (k : Nat) : (s.setCond n x).tpg k = s.tpg k := rfl
@[simp] theorem setCond_evc (s : State) (n : Nat) (x : CondState) (k : Nat) : (s.setCond n x).evc k = s.evc k := rfl
@[simp] theorem setCond_chan (s : State) (n : Nat) (x : CondState) (k : Nat) : (s.setCond n x).chan k = s.chan k := rfl
@[simp] theorem setCond_slot (s : State) (n : Nat) (x : CondState) (k : Nat) : (s.setCond n x).slot k = s.slot k := rfl
@[simp] theorem setCond_reg (s : State) (n : Nat) (x : CondState) (b : Nat) : (s.setCond n x).reg b = s.reg b := rfl
@[simp] theorem setCond_rd (s : State) (n : Nat) (x : CondState) (g : Fld) : (s.setCond n x).rd g = s.rd g := rfl
@[simp] theorem setCond_flag (s : State) (n : Nat) (x : CondState) (g : Fld) : (s.setCond n x).flag g = s.flag g := rfl
@[simp] theorem setCond_byte (s : State) (n : Nat) (x : CondState) (b : Nat) : (s.setCond n x).byte b = s.byte b := rfl
@[simp] theorem setCond_wf (s : State) (n : Nat) (x : CondState) : (s.setCond n x).wf = s.wf := rfl

/-! ### setReel -/

@[simp] theorem setReel_regs (s : State) (n : Nat) (x : ReelIn) : (s.setReel n x).regs = s.regs := rfl
@[simp] theorem setReel_mem (s : State) (n : Nat) (x : ReelIn) : (s.setReel n x).mem = s.mem := rfl
@[simp] theorem setReel_bus (s : State) (n : Nat) (x : ReelIn) : (s.setReel n x).bus = s.bus := rfl
@[simp] theorem setReel_memc (s : State) (n : Nat) (x : ReelIn) : (s.setReel n x).memc = s.memc := rfl
@[simp] theorem setReel_nvs (s : State) (n : Nat) (x : ReelIn) : (s.setReel n x).nvs = s.nvs := rfl
@[simp] theorem setReel_saf (s : State) (n : Nat) (x : ReelIn) : (s.setReel n x).saf = s.saf := rfl
@[simp] theorem setReel_pwr (s : State) (n : Nat) (x : ReelIn) : (s.setReel n x).pwr = s.pwr := rfl
@[simp] theorem setReel_tb (s : State) (n : Nat) (x : ReelIn) : (s.setReel n x).tb = s.tb := rfl
@[simp] theorem setReel_ports (s : State) (n : Nat) (x : ReelIn) : (s.setReel n x).ports = s.ports := rfl
@[simp] theorem setReel_clapper (s : State) (n : Nat) (x : ReelIn) : (s.setReel n x).clapper = s.clapper := rfl
@[simp] theorem setReel_ca (s : State) (n : Nat) (x : ReelIn) : (s.setReel n x).ca = s.ca := rfl
@[simp] theorem setReel_cgn (s : State) (n : Nat) (x : ReelIn) : (s.setReel n x).cgn = s.cgn := rfl
@[simp] theorem setReel_se (s : State) (n : Nat) (x : ReelIn) : (s.setReel n x).se = s.se := rfl
@[simp] theorem setReel_streams (s : State) (n : Nat) (x : ReelIn) : (s.setReel n x).streams = s.streams := rfl
@[simp] theorem setReel_conds (s : State) (n : Nat) (x : ReelIn) : (s.setReel n x).conds = s.conds := rfl
@[simp] theorem setReel_heads (s : State) (n : Nat) (x : ReelIn) : (s.setReel n x).heads = s.heads := rfl
@[simp] theorem setReel_pls (s : State) (n : Nat) (x : ReelIn) : (s.setReel n x).pls = s.pls := rfl
@[simp] theorem setReel_clk (s : State) (n : Nat) (x : ReelIn) : (s.setReel n x).clk = s.clk := rfl
@[simp] theorem setReel_osy (s : State) (n : Nat) (x : ReelIn) : (s.setReel n x).osy = s.osy := rfl
@[simp] theorem setReel_eth (s : State) (n : Nat) (x : ReelIn) : (s.setReel n x).eth = s.eth := rfl
@[simp] theorem setReel_cxe (s : State) (n : Nat) (x : ReelIn) : (s.setReel n x).cxe = s.cxe := rfl
@[simp] theorem setReel_svu (s : State) (n : Nat) (x : ReelIn) : (s.setReel n x).svu = s.svu := rfl
@[simp] theorem setReel_cores (s : State) (n : Nat) (x : ReelIn) : (s.setReel n x).cores = s.cores := rfl
@[simp] theorem setReel_hst (s : State) (n : Nat) (x : ReelIn) : (s.setReel n x).hst = s.hst := rfl
@[simp] theorem setReel_nav (s : State) (n : Nat) (x : ReelIn) : (s.setReel n x).nav = s.nav := rfl
@[simp] theorem setReel_straps (s : State) (n : Nat) (x : ReelIn) : (s.setReel n x).straps = s.straps := rfl
@[simp] theorem setReel_dbgStart (s : State) (n : Nat) (x : ReelIn) : (s.setReel n x).dbgStart = s.dbgStart := rfl
@[simp] theorem setReel_ticks (s : State) (n : Nat) (x : ReelIn) : (s.setReel n x).ticks = s.ticks := rfl
@[simp] theorem setReel_freeCount (s : State) (n : Nat) (x : ReelIn) : (s.setReel n x).freeCount = s.freeCount := rfl
@[simp] theorem setReel_pending (s : State) (n : Nat) (x : ReelIn) : (s.setReel n x).pending = s.pending := rfl
@[simp] theorem setReel_port (s : State) (n : Nat) (x : ReelIn) (k : Nat) : (s.setReel n x).port k = s.port k := rfl
@[simp] theorem setReel_head (s : State) (n : Nat) (x : ReelIn) (k : Nat) : (s.setReel n x).head k = s.head k := rfl
@[simp] theorem setReel_stream (s : State) (n : Nat) (x : ReelIn) (k : Nat) : (s.setReel n x).stream k = s.stream k := rfl
@[simp] theorem setReel_cond (s : State) (n : Nat) (x : ReelIn) (k : Nat) : (s.setReel n x).cond k = s.cond k := rfl
@[simp] theorem setReel_core (s : State) (n : Nat) (x : ReelIn) (k : Nat) : (s.setReel n x).core k = s.core k := rfl
@[simp] theorem setReel_osyn (s : State) (n : Nat) (x : ReelIn) (k : Nat) : (s.setReel n x).osyn k = s.osyn k := rfl
@[simp] theorem setReel_tpg (s : State) (n : Nat) (x : ReelIn) (k : Nat) : (s.setReel n x).tpg k = s.tpg k := rfl
@[simp] theorem setReel_evc (s : State) (n : Nat) (x : ReelIn) (k : Nat) : (s.setReel n x).evc k = s.evc k := rfl
@[simp] theorem setReel_chan (s : State) (n : Nat) (x : ReelIn) (k : Nat) : (s.setReel n x).chan k = s.chan k := rfl
@[simp] theorem setReel_slot (s : State) (n : Nat) (x : ReelIn) (k : Nat) : (s.setReel n x).slot k = s.slot k := rfl
@[simp] theorem setReel_reg (s : State) (n : Nat) (x : ReelIn) (b : Nat) : (s.setReel n x).reg b = s.reg b := rfl
@[simp] theorem setReel_rd (s : State) (n : Nat) (x : ReelIn) (g : Fld) : (s.setReel n x).rd g = s.rd g := rfl
@[simp] theorem setReel_flag (s : State) (n : Nat) (x : ReelIn) (g : Fld) : (s.setReel n x).flag g = s.flag g := rfl
@[simp] theorem setReel_byte (s : State) (n : Nat) (x : ReelIn) (b : Nat) : (s.setReel n x).byte b = s.byte b := rfl
@[simp] theorem setReel_wf (s : State) (n : Nat) (x : ReelIn) : (s.setReel n x).wf = s.wf := rfl

/-! ### setCore -/

@[simp] theorem setCore_regs (s : State) (n : Nat) (x : CoreState) : (s.setCore n x).regs = s.regs := rfl
@[simp] theorem setCore_mem (s : State) (n : Nat) (x : CoreState) : (s.setCore n x).mem = s.mem := rfl
@[simp] theorem setCore_bus (s : State) (n : Nat) (x : CoreState) : (s.setCore n x).bus = s.bus := rfl
@[simp] theorem setCore_memc (s : State) (n : Nat) (x : CoreState) : (s.setCore n x).memc = s.memc := rfl
@[simp] theorem setCore_nvs (s : State) (n : Nat) (x : CoreState) : (s.setCore n x).nvs = s.nvs := rfl
@[simp] theorem setCore_saf (s : State) (n : Nat) (x : CoreState) : (s.setCore n x).saf = s.saf := rfl
@[simp] theorem setCore_pwr (s : State) (n : Nat) (x : CoreState) : (s.setCore n x).pwr = s.pwr := rfl
@[simp] theorem setCore_tb (s : State) (n : Nat) (x : CoreState) : (s.setCore n x).tb = s.tb := rfl
@[simp] theorem setCore_ports (s : State) (n : Nat) (x : CoreState) : (s.setCore n x).ports = s.ports := rfl
@[simp] theorem setCore_clapper (s : State) (n : Nat) (x : CoreState) : (s.setCore n x).clapper = s.clapper := rfl
@[simp] theorem setCore_ca (s : State) (n : Nat) (x : CoreState) : (s.setCore n x).ca = s.ca := rfl
@[simp] theorem setCore_cgn (s : State) (n : Nat) (x : CoreState) : (s.setCore n x).cgn = s.cgn := rfl
@[simp] theorem setCore_se (s : State) (n : Nat) (x : CoreState) : (s.setCore n x).se = s.se := rfl
@[simp] theorem setCore_reels (s : State) (n : Nat) (x : CoreState) : (s.setCore n x).reels = s.reels := rfl
@[simp] theorem setCore_streams (s : State) (n : Nat) (x : CoreState) : (s.setCore n x).streams = s.streams := rfl
@[simp] theorem setCore_conds (s : State) (n : Nat) (x : CoreState) : (s.setCore n x).conds = s.conds := rfl
@[simp] theorem setCore_heads (s : State) (n : Nat) (x : CoreState) : (s.setCore n x).heads = s.heads := rfl
@[simp] theorem setCore_pls (s : State) (n : Nat) (x : CoreState) : (s.setCore n x).pls = s.pls := rfl
@[simp] theorem setCore_clk (s : State) (n : Nat) (x : CoreState) : (s.setCore n x).clk = s.clk := rfl
@[simp] theorem setCore_osy (s : State) (n : Nat) (x : CoreState) : (s.setCore n x).osy = s.osy := rfl
@[simp] theorem setCore_eth (s : State) (n : Nat) (x : CoreState) : (s.setCore n x).eth = s.eth := rfl
@[simp] theorem setCore_cxe (s : State) (n : Nat) (x : CoreState) : (s.setCore n x).cxe = s.cxe := rfl
@[simp] theorem setCore_svu (s : State) (n : Nat) (x : CoreState) : (s.setCore n x).svu = s.svu := rfl
@[simp] theorem setCore_hst (s : State) (n : Nat) (x : CoreState) : (s.setCore n x).hst = s.hst := rfl
@[simp] theorem setCore_nav (s : State) (n : Nat) (x : CoreState) : (s.setCore n x).nav = s.nav := rfl
@[simp] theorem setCore_straps (s : State) (n : Nat) (x : CoreState) : (s.setCore n x).straps = s.straps := rfl
@[simp] theorem setCore_dbgStart (s : State) (n : Nat) (x : CoreState) : (s.setCore n x).dbgStart = s.dbgStart := rfl
@[simp] theorem setCore_ticks (s : State) (n : Nat) (x : CoreState) : (s.setCore n x).ticks = s.ticks := rfl
@[simp] theorem setCore_freeCount (s : State) (n : Nat) (x : CoreState) : (s.setCore n x).freeCount = s.freeCount := rfl
@[simp] theorem setCore_pending (s : State) (n : Nat) (x : CoreState) : (s.setCore n x).pending = s.pending := rfl
@[simp] theorem setCore_port (s : State) (n : Nat) (x : CoreState) (k : Nat) : (s.setCore n x).port k = s.port k := rfl
@[simp] theorem setCore_head (s : State) (n : Nat) (x : CoreState) (k : Nat) : (s.setCore n x).head k = s.head k := rfl
@[simp] theorem setCore_stream (s : State) (n : Nat) (x : CoreState) (k : Nat) : (s.setCore n x).stream k = s.stream k := rfl
@[simp] theorem setCore_cond (s : State) (n : Nat) (x : CoreState) (k : Nat) : (s.setCore n x).cond k = s.cond k := rfl
@[simp] theorem setCore_reel (s : State) (n : Nat) (x : CoreState) (k : Nat) : (s.setCore n x).reel k = s.reel k := rfl
@[simp] theorem setCore_osyn (s : State) (n : Nat) (x : CoreState) (k : Nat) : (s.setCore n x).osyn k = s.osyn k := rfl
@[simp] theorem setCore_tpg (s : State) (n : Nat) (x : CoreState) (k : Nat) : (s.setCore n x).tpg k = s.tpg k := rfl
@[simp] theorem setCore_evc (s : State) (n : Nat) (x : CoreState) (k : Nat) : (s.setCore n x).evc k = s.evc k := rfl
@[simp] theorem setCore_chan (s : State) (n : Nat) (x : CoreState) (k : Nat) : (s.setCore n x).chan k = s.chan k := rfl
@[simp] theorem setCore_slot (s : State) (n : Nat) (x : CoreState) (k : Nat) : (s.setCore n x).slot k = s.slot k := rfl
@[simp] theorem setCore_reg (s : State) (n : Nat) (x : CoreState) (b : Nat) : (s.setCore n x).reg b = s.reg b := rfl
@[simp] theorem setCore_rd (s : State) (n : Nat) (x : CoreState) (g : Fld) : (s.setCore n x).rd g = s.rd g := rfl
@[simp] theorem setCore_flag (s : State) (n : Nat) (x : CoreState) (g : Fld) : (s.setCore n x).flag g = s.flag g := rfl
@[simp] theorem setCore_byte (s : State) (n : Nat) (x : CoreState) (b : Nat) : (s.setCore n x).byte b = s.byte b := rfl
@[simp] theorem setCore_wf (s : State) (n : Nat) (x : CoreState) : (s.setCore n x).wf = s.wf := rfl

/-! ### setOsy -/

@[simp] theorem setOsy_regs (s : State) (n : Nat) (x : OsyState) : (s.setOsy n x).regs = s.regs := rfl
@[simp] theorem setOsy_mem (s : State) (n : Nat) (x : OsyState) : (s.setOsy n x).mem = s.mem := rfl
@[simp] theorem setOsy_bus (s : State) (n : Nat) (x : OsyState) : (s.setOsy n x).bus = s.bus := rfl
@[simp] theorem setOsy_memc (s : State) (n : Nat) (x : OsyState) : (s.setOsy n x).memc = s.memc := rfl
@[simp] theorem setOsy_nvs (s : State) (n : Nat) (x : OsyState) : (s.setOsy n x).nvs = s.nvs := rfl
@[simp] theorem setOsy_saf (s : State) (n : Nat) (x : OsyState) : (s.setOsy n x).saf = s.saf := rfl
@[simp] theorem setOsy_pwr (s : State) (n : Nat) (x : OsyState) : (s.setOsy n x).pwr = s.pwr := rfl
@[simp] theorem setOsy_tb (s : State) (n : Nat) (x : OsyState) : (s.setOsy n x).tb = s.tb := rfl
@[simp] theorem setOsy_ports (s : State) (n : Nat) (x : OsyState) : (s.setOsy n x).ports = s.ports := rfl
@[simp] theorem setOsy_clapper (s : State) (n : Nat) (x : OsyState) : (s.setOsy n x).clapper = s.clapper := rfl
@[simp] theorem setOsy_ca (s : State) (n : Nat) (x : OsyState) : (s.setOsy n x).ca = s.ca := rfl
@[simp] theorem setOsy_cgn (s : State) (n : Nat) (x : OsyState) : (s.setOsy n x).cgn = s.cgn := rfl
@[simp] theorem setOsy_se (s : State) (n : Nat) (x : OsyState) : (s.setOsy n x).se = s.se := rfl
@[simp] theorem setOsy_reels (s : State) (n : Nat) (x : OsyState) : (s.setOsy n x).reels = s.reels := rfl
@[simp] theorem setOsy_streams (s : State) (n : Nat) (x : OsyState) : (s.setOsy n x).streams = s.streams := rfl
@[simp] theorem setOsy_conds (s : State) (n : Nat) (x : OsyState) : (s.setOsy n x).conds = s.conds := rfl
@[simp] theorem setOsy_heads (s : State) (n : Nat) (x : OsyState) : (s.setOsy n x).heads = s.heads := rfl
@[simp] theorem setOsy_pls (s : State) (n : Nat) (x : OsyState) : (s.setOsy n x).pls = s.pls := rfl
@[simp] theorem setOsy_clk (s : State) (n : Nat) (x : OsyState) : (s.setOsy n x).clk = s.clk := rfl
@[simp] theorem setOsy_eth (s : State) (n : Nat) (x : OsyState) : (s.setOsy n x).eth = s.eth := rfl
@[simp] theorem setOsy_cxe (s : State) (n : Nat) (x : OsyState) : (s.setOsy n x).cxe = s.cxe := rfl
@[simp] theorem setOsy_svu (s : State) (n : Nat) (x : OsyState) : (s.setOsy n x).svu = s.svu := rfl
@[simp] theorem setOsy_cores (s : State) (n : Nat) (x : OsyState) : (s.setOsy n x).cores = s.cores := rfl
@[simp] theorem setOsy_hst (s : State) (n : Nat) (x : OsyState) : (s.setOsy n x).hst = s.hst := rfl
@[simp] theorem setOsy_nav (s : State) (n : Nat) (x : OsyState) : (s.setOsy n x).nav = s.nav := rfl
@[simp] theorem setOsy_straps (s : State) (n : Nat) (x : OsyState) : (s.setOsy n x).straps = s.straps := rfl
@[simp] theorem setOsy_dbgStart (s : State) (n : Nat) (x : OsyState) : (s.setOsy n x).dbgStart = s.dbgStart := rfl
@[simp] theorem setOsy_ticks (s : State) (n : Nat) (x : OsyState) : (s.setOsy n x).ticks = s.ticks := rfl
@[simp] theorem setOsy_freeCount (s : State) (n : Nat) (x : OsyState) : (s.setOsy n x).freeCount = s.freeCount := rfl
@[simp] theorem setOsy_pending (s : State) (n : Nat) (x : OsyState) : (s.setOsy n x).pending = s.pending := rfl
@[simp] theorem setOsy_port (s : State) (n : Nat) (x : OsyState) (k : Nat) : (s.setOsy n x).port k = s.port k := rfl
@[simp] theorem setOsy_head (s : State) (n : Nat) (x : OsyState) (k : Nat) : (s.setOsy n x).head k = s.head k := rfl
@[simp] theorem setOsy_stream (s : State) (n : Nat) (x : OsyState) (k : Nat) : (s.setOsy n x).stream k = s.stream k := rfl
@[simp] theorem setOsy_cond (s : State) (n : Nat) (x : OsyState) (k : Nat) : (s.setOsy n x).cond k = s.cond k := rfl
@[simp] theorem setOsy_reel (s : State) (n : Nat) (x : OsyState) (k : Nat) : (s.setOsy n x).reel k = s.reel k := rfl
@[simp] theorem setOsy_core (s : State) (n : Nat) (x : OsyState) (k : Nat) : (s.setOsy n x).core k = s.core k := rfl
@[simp] theorem setOsy_tpg (s : State) (n : Nat) (x : OsyState) (k : Nat) : (s.setOsy n x).tpg k = s.tpg k := rfl
@[simp] theorem setOsy_evc (s : State) (n : Nat) (x : OsyState) (k : Nat) : (s.setOsy n x).evc k = s.evc k := rfl
@[simp] theorem setOsy_chan (s : State) (n : Nat) (x : OsyState) (k : Nat) : (s.setOsy n x).chan k = s.chan k := rfl
@[simp] theorem setOsy_slot (s : State) (n : Nat) (x : OsyState) (k : Nat) : (s.setOsy n x).slot k = s.slot k := rfl
@[simp] theorem setOsy_reg (s : State) (n : Nat) (x : OsyState) (b : Nat) : (s.setOsy n x).reg b = s.reg b := rfl
@[simp] theorem setOsy_rd (s : State) (n : Nat) (x : OsyState) (g : Fld) : (s.setOsy n x).rd g = s.rd g := rfl
@[simp] theorem setOsy_flag (s : State) (n : Nat) (x : OsyState) (g : Fld) : (s.setOsy n x).flag g = s.flag g := rfl
@[simp] theorem setOsy_byte (s : State) (n : Nat) (x : OsyState) (b : Nat) : (s.setOsy n x).byte b = s.byte b := rfl
@[simp] theorem setOsy_wf (s : State) (n : Nat) (x : OsyState) : (s.setOsy n x).wf = s.wf := rfl

/-! ### setTpg -/

@[simp] theorem setTpg_regs (s : State) (n : Nat) (x : TpgState) : (s.setTpg n x).regs = s.regs := rfl
@[simp] theorem setTpg_mem (s : State) (n : Nat) (x : TpgState) : (s.setTpg n x).mem = s.mem := rfl
@[simp] theorem setTpg_bus (s : State) (n : Nat) (x : TpgState) : (s.setTpg n x).bus = s.bus := rfl
@[simp] theorem setTpg_memc (s : State) (n : Nat) (x : TpgState) : (s.setTpg n x).memc = s.memc := rfl
@[simp] theorem setTpg_nvs (s : State) (n : Nat) (x : TpgState) : (s.setTpg n x).nvs = s.nvs := rfl
@[simp] theorem setTpg_saf (s : State) (n : Nat) (x : TpgState) : (s.setTpg n x).saf = s.saf := rfl
@[simp] theorem setTpg_pwr (s : State) (n : Nat) (x : TpgState) : (s.setTpg n x).pwr = s.pwr := rfl
@[simp] theorem setTpg_tb (s : State) (n : Nat) (x : TpgState) : (s.setTpg n x).tb = s.tb := rfl
@[simp] theorem setTpg_ports (s : State) (n : Nat) (x : TpgState) : (s.setTpg n x).ports = s.ports := rfl
@[simp] theorem setTpg_clapper (s : State) (n : Nat) (x : TpgState) : (s.setTpg n x).clapper = s.clapper := rfl
@[simp] theorem setTpg_ca (s : State) (n : Nat) (x : TpgState) : (s.setTpg n x).ca = s.ca := rfl
@[simp] theorem setTpg_cgn (s : State) (n : Nat) (x : TpgState) : (s.setTpg n x).cgn = s.cgn := rfl
@[simp] theorem setTpg_se (s : State) (n : Nat) (x : TpgState) : (s.setTpg n x).se = s.se := rfl
@[simp] theorem setTpg_reels (s : State) (n : Nat) (x : TpgState) : (s.setTpg n x).reels = s.reels := rfl
@[simp] theorem setTpg_streams (s : State) (n : Nat) (x : TpgState) : (s.setTpg n x).streams = s.streams := rfl
@[simp] theorem setTpg_conds (s : State) (n : Nat) (x : TpgState) : (s.setTpg n x).conds = s.conds := rfl
@[simp] theorem setTpg_heads (s : State) (n : Nat) (x : TpgState) : (s.setTpg n x).heads = s.heads := rfl
@[simp] theorem setTpg_clk (s : State) (n : Nat) (x : TpgState) : (s.setTpg n x).clk = s.clk := rfl
@[simp] theorem setTpg_osy (s : State) (n : Nat) (x : TpgState) : (s.setTpg n x).osy = s.osy := rfl
@[simp] theorem setTpg_eth (s : State) (n : Nat) (x : TpgState) : (s.setTpg n x).eth = s.eth := rfl
@[simp] theorem setTpg_cxe (s : State) (n : Nat) (x : TpgState) : (s.setTpg n x).cxe = s.cxe := rfl
@[simp] theorem setTpg_svu (s : State) (n : Nat) (x : TpgState) : (s.setTpg n x).svu = s.svu := rfl
@[simp] theorem setTpg_cores (s : State) (n : Nat) (x : TpgState) : (s.setTpg n x).cores = s.cores := rfl
@[simp] theorem setTpg_hst (s : State) (n : Nat) (x : TpgState) : (s.setTpg n x).hst = s.hst := rfl
@[simp] theorem setTpg_nav (s : State) (n : Nat) (x : TpgState) : (s.setTpg n x).nav = s.nav := rfl
@[simp] theorem setTpg_straps (s : State) (n : Nat) (x : TpgState) : (s.setTpg n x).straps = s.straps := rfl
@[simp] theorem setTpg_dbgStart (s : State) (n : Nat) (x : TpgState) : (s.setTpg n x).dbgStart = s.dbgStart := rfl
@[simp] theorem setTpg_ticks (s : State) (n : Nat) (x : TpgState) : (s.setTpg n x).ticks = s.ticks := rfl
@[simp] theorem setTpg_freeCount (s : State) (n : Nat) (x : TpgState) : (s.setTpg n x).freeCount = s.freeCount := rfl
@[simp] theorem setTpg_pending (s : State) (n : Nat) (x : TpgState) : (s.setTpg n x).pending = s.pending := rfl
@[simp] theorem setTpg_port (s : State) (n : Nat) (x : TpgState) (k : Nat) : (s.setTpg n x).port k = s.port k := rfl
@[simp] theorem setTpg_head (s : State) (n : Nat) (x : TpgState) (k : Nat) : (s.setTpg n x).head k = s.head k := rfl
@[simp] theorem setTpg_stream (s : State) (n : Nat) (x : TpgState) (k : Nat) : (s.setTpg n x).stream k = s.stream k := rfl
@[simp] theorem setTpg_cond (s : State) (n : Nat) (x : TpgState) (k : Nat) : (s.setTpg n x).cond k = s.cond k := rfl
@[simp] theorem setTpg_reel (s : State) (n : Nat) (x : TpgState) (k : Nat) : (s.setTpg n x).reel k = s.reel k := rfl
@[simp] theorem setTpg_core (s : State) (n : Nat) (x : TpgState) (k : Nat) : (s.setTpg n x).core k = s.core k := rfl
@[simp] theorem setTpg_osyn (s : State) (n : Nat) (x : TpgState) (k : Nat) : (s.setTpg n x).osyn k = s.osyn k := rfl
@[simp] theorem setTpg_chan (s : State) (n : Nat) (x : TpgState) (k : Nat) : (s.setTpg n x).chan k = s.chan k := rfl
@[simp] theorem setTpg_slot (s : State) (n : Nat) (x : TpgState) (k : Nat) : (s.setTpg n x).slot k = s.slot k := rfl
@[simp] theorem setTpg_reg (s : State) (n : Nat) (x : TpgState) (b : Nat) : (s.setTpg n x).reg b = s.reg b := rfl
@[simp] theorem setTpg_rd (s : State) (n : Nat) (x : TpgState) (g : Fld) : (s.setTpg n x).rd g = s.rd g := rfl
@[simp] theorem setTpg_flag (s : State) (n : Nat) (x : TpgState) (g : Fld) : (s.setTpg n x).flag g = s.flag g := rfl
@[simp] theorem setTpg_byte (s : State) (n : Nat) (x : TpgState) (b : Nat) : (s.setTpg n x).byte b = s.byte b := rfl
@[simp] theorem setTpg_wf (s : State) (n : Nat) (x : TpgState) : (s.setTpg n x).wf = s.wf := rfl

/-! ### setEvc -/

@[simp] theorem setEvc_mem (s : State) (n : Nat) (x : EvcState) : (s.setEvc n x).mem = s.mem := rfl
@[simp] theorem setEvc_bus (s : State) (n : Nat) (x : EvcState) : (s.setEvc n x).bus = s.bus := rfl
@[simp] theorem setEvc_memc (s : State) (n : Nat) (x : EvcState) : (s.setEvc n x).memc = s.memc := rfl
@[simp] theorem setEvc_nvs (s : State) (n : Nat) (x : EvcState) : (s.setEvc n x).nvs = s.nvs := rfl
@[simp] theorem setEvc_saf (s : State) (n : Nat) (x : EvcState) : (s.setEvc n x).saf = s.saf := rfl
@[simp] theorem setEvc_pwr (s : State) (n : Nat) (x : EvcState) : (s.setEvc n x).pwr = s.pwr := rfl
@[simp] theorem setEvc_tb (s : State) (n : Nat) (x : EvcState) : (s.setEvc n x).tb = s.tb := rfl
@[simp] theorem setEvc_ports (s : State) (n : Nat) (x : EvcState) : (s.setEvc n x).ports = s.ports := rfl
@[simp] theorem setEvc_clapper (s : State) (n : Nat) (x : EvcState) : (s.setEvc n x).clapper = s.clapper := rfl
@[simp] theorem setEvc_ca (s : State) (n : Nat) (x : EvcState) : (s.setEvc n x).ca = s.ca := rfl
@[simp] theorem setEvc_cgn (s : State) (n : Nat) (x : EvcState) : (s.setEvc n x).cgn = s.cgn := rfl
@[simp] theorem setEvc_se (s : State) (n : Nat) (x : EvcState) : (s.setEvc n x).se = s.se := rfl
@[simp] theorem setEvc_reels (s : State) (n : Nat) (x : EvcState) : (s.setEvc n x).reels = s.reels := rfl
@[simp] theorem setEvc_streams (s : State) (n : Nat) (x : EvcState) : (s.setEvc n x).streams = s.streams := rfl
@[simp] theorem setEvc_conds (s : State) (n : Nat) (x : EvcState) : (s.setEvc n x).conds = s.conds := rfl
@[simp] theorem setEvc_heads (s : State) (n : Nat) (x : EvcState) : (s.setEvc n x).heads = s.heads := rfl
@[simp] theorem setEvc_clk (s : State) (n : Nat) (x : EvcState) : (s.setEvc n x).clk = s.clk := rfl
@[simp] theorem setEvc_osy (s : State) (n : Nat) (x : EvcState) : (s.setEvc n x).osy = s.osy := rfl
@[simp] theorem setEvc_eth (s : State) (n : Nat) (x : EvcState) : (s.setEvc n x).eth = s.eth := rfl
@[simp] theorem setEvc_cxe (s : State) (n : Nat) (x : EvcState) : (s.setEvc n x).cxe = s.cxe := rfl
@[simp] theorem setEvc_svu (s : State) (n : Nat) (x : EvcState) : (s.setEvc n x).svu = s.svu := rfl
@[simp] theorem setEvc_cores (s : State) (n : Nat) (x : EvcState) : (s.setEvc n x).cores = s.cores := rfl
@[simp] theorem setEvc_hst (s : State) (n : Nat) (x : EvcState) : (s.setEvc n x).hst = s.hst := rfl
@[simp] theorem setEvc_nav (s : State) (n : Nat) (x : EvcState) : (s.setEvc n x).nav = s.nav := rfl
@[simp] theorem setEvc_straps (s : State) (n : Nat) (x : EvcState) : (s.setEvc n x).straps = s.straps := rfl
@[simp] theorem setEvc_dbgStart (s : State) (n : Nat) (x : EvcState) : (s.setEvc n x).dbgStart = s.dbgStart := rfl
@[simp] theorem setEvc_ticks (s : State) (n : Nat) (x : EvcState) : (s.setEvc n x).ticks = s.ticks := rfl
@[simp] theorem setEvc_freeCount (s : State) (n : Nat) (x : EvcState) : (s.setEvc n x).freeCount = s.freeCount := rfl
@[simp] theorem setEvc_pending (s : State) (n : Nat) (x : EvcState) : (s.setEvc n x).pending = s.pending := rfl
@[simp] theorem setEvc_port (s : State) (n : Nat) (x : EvcState) (k : Nat) : (s.setEvc n x).port k = s.port k := rfl
@[simp] theorem setEvc_head (s : State) (n : Nat) (x : EvcState) (k : Nat) : (s.setEvc n x).head k = s.head k := rfl
@[simp] theorem setEvc_stream (s : State) (n : Nat) (x : EvcState) (k : Nat) : (s.setEvc n x).stream k = s.stream k := rfl
@[simp] theorem setEvc_cond (s : State) (n : Nat) (x : EvcState) (k : Nat) : (s.setEvc n x).cond k = s.cond k := rfl
@[simp] theorem setEvc_reel (s : State) (n : Nat) (x : EvcState) (k : Nat) : (s.setEvc n x).reel k = s.reel k := rfl
@[simp] theorem setEvc_core (s : State) (n : Nat) (x : EvcState) (k : Nat) : (s.setEvc n x).core k = s.core k := rfl
@[simp] theorem setEvc_osyn (s : State) (n : Nat) (x : EvcState) (k : Nat) : (s.setEvc n x).osyn k = s.osyn k := rfl
@[simp] theorem setEvc_chan (s : State) (n : Nat) (x : EvcState) (k : Nat) : (s.setEvc n x).chan k = s.chan k := rfl
@[simp] theorem setEvc_slot (s : State) (n : Nat) (x : EvcState) (k : Nat) : (s.setEvc n x).slot k = s.slot k := rfl
@[simp] theorem setEvc_byte (s : State) (n : Nat) (x : EvcState) (b : Nat) : (s.setEvc n x).byte b = s.byte b := rfl

/-! ### setChan -/

@[simp] theorem setChan_regs (s : State) (n : Nat) (x : ChanRun) : (s.setChan n x).regs = s.regs := rfl
@[simp] theorem setChan_mem (s : State) (n : Nat) (x : ChanRun) : (s.setChan n x).mem = s.mem := rfl
@[simp] theorem setChan_bus (s : State) (n : Nat) (x : ChanRun) : (s.setChan n x).bus = s.bus := rfl
@[simp] theorem setChan_memc (s : State) (n : Nat) (x : ChanRun) : (s.setChan n x).memc = s.memc := rfl
@[simp] theorem setChan_nvs (s : State) (n : Nat) (x : ChanRun) : (s.setChan n x).nvs = s.nvs := rfl
@[simp] theorem setChan_saf (s : State) (n : Nat) (x : ChanRun) : (s.setChan n x).saf = s.saf := rfl
@[simp] theorem setChan_pwr (s : State) (n : Nat) (x : ChanRun) : (s.setChan n x).pwr = s.pwr := rfl
@[simp] theorem setChan_tb (s : State) (n : Nat) (x : ChanRun) : (s.setChan n x).tb = s.tb := rfl
@[simp] theorem setChan_ports (s : State) (n : Nat) (x : ChanRun) : (s.setChan n x).ports = s.ports := rfl
@[simp] theorem setChan_clapper (s : State) (n : Nat) (x : ChanRun) : (s.setChan n x).clapper = s.clapper := rfl
@[simp] theorem setChan_cgn (s : State) (n : Nat) (x : ChanRun) : (s.setChan n x).cgn = s.cgn := rfl
@[simp] theorem setChan_se (s : State) (n : Nat) (x : ChanRun) : (s.setChan n x).se = s.se := rfl
@[simp] theorem setChan_reels (s : State) (n : Nat) (x : ChanRun) : (s.setChan n x).reels = s.reels := rfl
@[simp] theorem setChan_streams (s : State) (n : Nat) (x : ChanRun) : (s.setChan n x).streams = s.streams := rfl
@[simp] theorem setChan_conds (s : State) (n : Nat) (x : ChanRun) : (s.setChan n x).conds = s.conds := rfl
@[simp] theorem setChan_heads (s : State) (n : Nat) (x : ChanRun) : (s.setChan n x).heads = s.heads := rfl
@[simp] theorem setChan_pls (s : State) (n : Nat) (x : ChanRun) : (s.setChan n x).pls = s.pls := rfl
@[simp] theorem setChan_clk (s : State) (n : Nat) (x : ChanRun) : (s.setChan n x).clk = s.clk := rfl
@[simp] theorem setChan_osy (s : State) (n : Nat) (x : ChanRun) : (s.setChan n x).osy = s.osy := rfl
@[simp] theorem setChan_eth (s : State) (n : Nat) (x : ChanRun) : (s.setChan n x).eth = s.eth := rfl
@[simp] theorem setChan_cxe (s : State) (n : Nat) (x : ChanRun) : (s.setChan n x).cxe = s.cxe := rfl
@[simp] theorem setChan_svu (s : State) (n : Nat) (x : ChanRun) : (s.setChan n x).svu = s.svu := rfl
@[simp] theorem setChan_cores (s : State) (n : Nat) (x : ChanRun) : (s.setChan n x).cores = s.cores := rfl
@[simp] theorem setChan_hst (s : State) (n : Nat) (x : ChanRun) : (s.setChan n x).hst = s.hst := rfl
@[simp] theorem setChan_nav (s : State) (n : Nat) (x : ChanRun) : (s.setChan n x).nav = s.nav := rfl
@[simp] theorem setChan_straps (s : State) (n : Nat) (x : ChanRun) : (s.setChan n x).straps = s.straps := rfl
@[simp] theorem setChan_dbgStart (s : State) (n : Nat) (x : ChanRun) : (s.setChan n x).dbgStart = s.dbgStart := rfl
@[simp] theorem setChan_ticks (s : State) (n : Nat) (x : ChanRun) : (s.setChan n x).ticks = s.ticks := rfl
@[simp] theorem setChan_freeCount (s : State) (n : Nat) (x : ChanRun) : (s.setChan n x).freeCount = s.freeCount := rfl
@[simp] theorem setChan_pending (s : State) (n : Nat) (x : ChanRun) : (s.setChan n x).pending = s.pending := rfl
@[simp] theorem setChan_port (s : State) (n : Nat) (x : ChanRun) (k : Nat) : (s.setChan n x).port k = s.port k := rfl
@[simp] theorem setChan_head (s : State) (n : Nat) (x : ChanRun) (k : Nat) : (s.setChan n x).head k = s.head k := rfl
@[simp] theorem setChan_stream (s : State) (n : Nat) (x : ChanRun) (k : Nat) : (s.setChan n x).stream k = s.stream k := rfl
@[simp] theorem setChan_cond (s : State) (n : Nat) (x : ChanRun) (k : Nat) : (s.setChan n x).cond k = s.cond k := rfl
@[simp] theorem setChan_reel (s : State) (n : Nat) (x : ChanRun) (k : Nat) : (s.setChan n x).reel k = s.reel k := rfl
@[simp] theorem setChan_core (s : State) (n : Nat) (x : ChanRun) (k : Nat) : (s.setChan n x).core k = s.core k := rfl
@[simp] theorem setChan_osyn (s : State) (n : Nat) (x : ChanRun) (k : Nat) : (s.setChan n x).osyn k = s.osyn k := rfl
@[simp] theorem setChan_tpg (s : State) (n : Nat) (x : ChanRun) (k : Nat) : (s.setChan n x).tpg k = s.tpg k := rfl
@[simp] theorem setChan_evc (s : State) (n : Nat) (x : ChanRun) (k : Nat) : (s.setChan n x).evc k = s.evc k := rfl
@[simp] theorem setChan_slot (s : State) (n : Nat) (x : ChanRun) (k : Nat) : (s.setChan n x).slot k = s.slot k := rfl
@[simp] theorem setChan_reg (s : State) (n : Nat) (x : ChanRun) (b : Nat) : (s.setChan n x).reg b = s.reg b := rfl
@[simp] theorem setChan_rd (s : State) (n : Nat) (x : ChanRun) (g : Fld) : (s.setChan n x).rd g = s.rd g := rfl
@[simp] theorem setChan_flag (s : State) (n : Nat) (x : ChanRun) (g : Fld) : (s.setChan n x).flag g = s.flag g := rfl
@[simp] theorem setChan_byte (s : State) (n : Nat) (x : ChanRun) (b : Nat) : (s.setChan n x).byte b = s.byte b := rfl
@[simp] theorem setChan_wf (s : State) (n : Nat) (x : ChanRun) : (s.setChan n x).wf = s.wf := rfl

/-! ### setSlot -/

@[simp] theorem setSlot_regs (s : State) (n : Nat) (x : SearchSlot) : (s.setSlot n x).regs = s.regs := rfl
@[simp] theorem setSlot_mem (s : State) (n : Nat) (x : SearchSlot) : (s.setSlot n x).mem = s.mem := rfl
@[simp] theorem setSlot_bus (s : State) (n : Nat) (x : SearchSlot) : (s.setSlot n x).bus = s.bus := rfl
@[simp] theorem setSlot_memc (s : State) (n : Nat) (x : SearchSlot) : (s.setSlot n x).memc = s.memc := rfl
@[simp] theorem setSlot_nvs (s : State) (n : Nat) (x : SearchSlot) : (s.setSlot n x).nvs = s.nvs := rfl
@[simp] theorem setSlot_saf (s : State) (n : Nat) (x : SearchSlot) : (s.setSlot n x).saf = s.saf := rfl
@[simp] theorem setSlot_pwr (s : State) (n : Nat) (x : SearchSlot) : (s.setSlot n x).pwr = s.pwr := rfl
@[simp] theorem setSlot_tb (s : State) (n : Nat) (x : SearchSlot) : (s.setSlot n x).tb = s.tb := rfl
@[simp] theorem setSlot_ports (s : State) (n : Nat) (x : SearchSlot) : (s.setSlot n x).ports = s.ports := rfl
@[simp] theorem setSlot_clapper (s : State) (n : Nat) (x : SearchSlot) : (s.setSlot n x).clapper = s.clapper := rfl
@[simp] theorem setSlot_ca (s : State) (n : Nat) (x : SearchSlot) : (s.setSlot n x).ca = s.ca := rfl
@[simp] theorem setSlot_cgn (s : State) (n : Nat) (x : SearchSlot) : (s.setSlot n x).cgn = s.cgn := rfl
@[simp] theorem setSlot_reels (s : State) (n : Nat) (x : SearchSlot) : (s.setSlot n x).reels = s.reels := rfl
@[simp] theorem setSlot_streams (s : State) (n : Nat) (x : SearchSlot) : (s.setSlot n x).streams = s.streams := rfl
@[simp] theorem setSlot_conds (s : State) (n : Nat) (x : SearchSlot) : (s.setSlot n x).conds = s.conds := rfl
@[simp] theorem setSlot_heads (s : State) (n : Nat) (x : SearchSlot) : (s.setSlot n x).heads = s.heads := rfl
@[simp] theorem setSlot_pls (s : State) (n : Nat) (x : SearchSlot) : (s.setSlot n x).pls = s.pls := rfl
@[simp] theorem setSlot_clk (s : State) (n : Nat) (x : SearchSlot) : (s.setSlot n x).clk = s.clk := rfl
@[simp] theorem setSlot_osy (s : State) (n : Nat) (x : SearchSlot) : (s.setSlot n x).osy = s.osy := rfl
@[simp] theorem setSlot_eth (s : State) (n : Nat) (x : SearchSlot) : (s.setSlot n x).eth = s.eth := rfl
@[simp] theorem setSlot_cxe (s : State) (n : Nat) (x : SearchSlot) : (s.setSlot n x).cxe = s.cxe := rfl
@[simp] theorem setSlot_svu (s : State) (n : Nat) (x : SearchSlot) : (s.setSlot n x).svu = s.svu := rfl
@[simp] theorem setSlot_cores (s : State) (n : Nat) (x : SearchSlot) : (s.setSlot n x).cores = s.cores := rfl
@[simp] theorem setSlot_hst (s : State) (n : Nat) (x : SearchSlot) : (s.setSlot n x).hst = s.hst := rfl
@[simp] theorem setSlot_nav (s : State) (n : Nat) (x : SearchSlot) : (s.setSlot n x).nav = s.nav := rfl
@[simp] theorem setSlot_straps (s : State) (n : Nat) (x : SearchSlot) : (s.setSlot n x).straps = s.straps := rfl
@[simp] theorem setSlot_dbgStart (s : State) (n : Nat) (x : SearchSlot) : (s.setSlot n x).dbgStart = s.dbgStart := rfl
@[simp] theorem setSlot_ticks (s : State) (n : Nat) (x : SearchSlot) : (s.setSlot n x).ticks = s.ticks := rfl
@[simp] theorem setSlot_freeCount (s : State) (n : Nat) (x : SearchSlot) : (s.setSlot n x).freeCount = s.freeCount := rfl
@[simp] theorem setSlot_pending (s : State) (n : Nat) (x : SearchSlot) : (s.setSlot n x).pending = s.pending := rfl
@[simp] theorem setSlot_port (s : State) (n : Nat) (x : SearchSlot) (k : Nat) : (s.setSlot n x).port k = s.port k := rfl
@[simp] theorem setSlot_head (s : State) (n : Nat) (x : SearchSlot) (k : Nat) : (s.setSlot n x).head k = s.head k := rfl
@[simp] theorem setSlot_stream (s : State) (n : Nat) (x : SearchSlot) (k : Nat) : (s.setSlot n x).stream k = s.stream k := rfl
@[simp] theorem setSlot_cond (s : State) (n : Nat) (x : SearchSlot) (k : Nat) : (s.setSlot n x).cond k = s.cond k := rfl
@[simp] theorem setSlot_reel (s : State) (n : Nat) (x : SearchSlot) (k : Nat) : (s.setSlot n x).reel k = s.reel k := rfl
@[simp] theorem setSlot_core (s : State) (n : Nat) (x : SearchSlot) (k : Nat) : (s.setSlot n x).core k = s.core k := rfl
@[simp] theorem setSlot_osyn (s : State) (n : Nat) (x : SearchSlot) (k : Nat) : (s.setSlot n x).osyn k = s.osyn k := rfl
@[simp] theorem setSlot_tpg (s : State) (n : Nat) (x : SearchSlot) (k : Nat) : (s.setSlot n x).tpg k = s.tpg k := rfl
@[simp] theorem setSlot_evc (s : State) (n : Nat) (x : SearchSlot) (k : Nat) : (s.setSlot n x).evc k = s.evc k := rfl
@[simp] theorem setSlot_chan (s : State) (n : Nat) (x : SearchSlot) (k : Nat) : (s.setSlot n x).chan k = s.chan k := rfl
@[simp] theorem setSlot_reg (s : State) (n : Nat) (x : SearchSlot) (b : Nat) : (s.setSlot n x).reg b = s.reg b := rfl
@[simp] theorem setSlot_rd (s : State) (n : Nat) (x : SearchSlot) (g : Fld) : (s.setSlot n x).rd g = s.rd g := rfl
@[simp] theorem setSlot_flag (s : State) (n : Nat) (x : SearchSlot) (g : Fld) : (s.setSlot n x).flag g = s.flag g := rfl
@[simp] theorem setSlot_byte (s : State) (n : Nat) (x : SearchSlot) (b : Nat) : (s.setSlot n x).byte b = s.byte b := rfl
@[simp] theorem setSlot_wf (s : State) (n : Nat) (x : SearchSlot) : (s.setSlot n x).wf = s.wf := rfl

/-! ### setDog -/

@[simp] theorem setDog_regs (s : State) (n : Nat) (x : Watchdog) : (s.setDog n x).regs = s.regs := rfl
@[simp] theorem setDog_mem (s : State) (n : Nat) (x : Watchdog) : (s.setDog n x).mem = s.mem := rfl
@[simp] theorem setDog_bus (s : State) (n : Nat) (x : Watchdog) : (s.setDog n x).bus = s.bus := rfl
@[simp] theorem setDog_memc (s : State) (n : Nat) (x : Watchdog) : (s.setDog n x).memc = s.memc := rfl
@[simp] theorem setDog_nvs (s : State) (n : Nat) (x : Watchdog) : (s.setDog n x).nvs = s.nvs := rfl
@[simp] theorem setDog_pwr (s : State) (n : Nat) (x : Watchdog) : (s.setDog n x).pwr = s.pwr := rfl
@[simp] theorem setDog_tb (s : State) (n : Nat) (x : Watchdog) : (s.setDog n x).tb = s.tb := rfl
@[simp] theorem setDog_ports (s : State) (n : Nat) (x : Watchdog) : (s.setDog n x).ports = s.ports := rfl
@[simp] theorem setDog_clapper (s : State) (n : Nat) (x : Watchdog) : (s.setDog n x).clapper = s.clapper := rfl
@[simp] theorem setDog_ca (s : State) (n : Nat) (x : Watchdog) : (s.setDog n x).ca = s.ca := rfl
@[simp] theorem setDog_cgn (s : State) (n : Nat) (x : Watchdog) : (s.setDog n x).cgn = s.cgn := rfl
@[simp] theorem setDog_se (s : State) (n : Nat) (x : Watchdog) : (s.setDog n x).se = s.se := rfl
@[simp] theorem setDog_reels (s : State) (n : Nat) (x : Watchdog) : (s.setDog n x).reels = s.reels := rfl
@[simp] theorem setDog_streams (s : State) (n : Nat) (x : Watchdog) : (s.setDog n x).streams = s.streams := rfl
@[simp] theorem setDog_conds (s : State) (n : Nat) (x : Watchdog) : (s.setDog n x).conds = s.conds := rfl
@[simp] theorem setDog_heads (s : State) (n : Nat) (x : Watchdog) : (s.setDog n x).heads = s.heads := rfl
@[simp] theorem setDog_pls (s : State) (n : Nat) (x : Watchdog) : (s.setDog n x).pls = s.pls := rfl
@[simp] theorem setDog_clk (s : State) (n : Nat) (x : Watchdog) : (s.setDog n x).clk = s.clk := rfl
@[simp] theorem setDog_osy (s : State) (n : Nat) (x : Watchdog) : (s.setDog n x).osy = s.osy := rfl
@[simp] theorem setDog_eth (s : State) (n : Nat) (x : Watchdog) : (s.setDog n x).eth = s.eth := rfl
@[simp] theorem setDog_cxe (s : State) (n : Nat) (x : Watchdog) : (s.setDog n x).cxe = s.cxe := rfl
@[simp] theorem setDog_svu (s : State) (n : Nat) (x : Watchdog) : (s.setDog n x).svu = s.svu := rfl
@[simp] theorem setDog_cores (s : State) (n : Nat) (x : Watchdog) : (s.setDog n x).cores = s.cores := rfl
@[simp] theorem setDog_hst (s : State) (n : Nat) (x : Watchdog) : (s.setDog n x).hst = s.hst := rfl
@[simp] theorem setDog_nav (s : State) (n : Nat) (x : Watchdog) : (s.setDog n x).nav = s.nav := rfl
@[simp] theorem setDog_straps (s : State) (n : Nat) (x : Watchdog) : (s.setDog n x).straps = s.straps := rfl
@[simp] theorem setDog_dbgStart (s : State) (n : Nat) (x : Watchdog) : (s.setDog n x).dbgStart = s.dbgStart := rfl
@[simp] theorem setDog_ticks (s : State) (n : Nat) (x : Watchdog) : (s.setDog n x).ticks = s.ticks := rfl
@[simp] theorem setDog_freeCount (s : State) (n : Nat) (x : Watchdog) : (s.setDog n x).freeCount = s.freeCount := rfl
@[simp] theorem setDog_pending (s : State) (n : Nat) (x : Watchdog) : (s.setDog n x).pending = s.pending := rfl
@[simp] theorem setDog_port (s : State) (n : Nat) (x : Watchdog) (k : Nat) : (s.setDog n x).port k = s.port k := rfl
@[simp] theorem setDog_head (s : State) (n : Nat) (x : Watchdog) (k : Nat) : (s.setDog n x).head k = s.head k := rfl
@[simp] theorem setDog_stream (s : State) (n : Nat) (x : Watchdog) (k : Nat) : (s.setDog n x).stream k = s.stream k := rfl
@[simp] theorem setDog_cond (s : State) (n : Nat) (x : Watchdog) (k : Nat) : (s.setDog n x).cond k = s.cond k := rfl
@[simp] theorem setDog_reel (s : State) (n : Nat) (x : Watchdog) (k : Nat) : (s.setDog n x).reel k = s.reel k := rfl
@[simp] theorem setDog_core (s : State) (n : Nat) (x : Watchdog) (k : Nat) : (s.setDog n x).core k = s.core k := rfl
@[simp] theorem setDog_osyn (s : State) (n : Nat) (x : Watchdog) (k : Nat) : (s.setDog n x).osyn k = s.osyn k := rfl
@[simp] theorem setDog_tpg (s : State) (n : Nat) (x : Watchdog) (k : Nat) : (s.setDog n x).tpg k = s.tpg k := rfl
@[simp] theorem setDog_evc (s : State) (n : Nat) (x : Watchdog) (k : Nat) : (s.setDog n x).evc k = s.evc k := rfl
@[simp] theorem setDog_chan (s : State) (n : Nat) (x : Watchdog) (k : Nat) : (s.setDog n x).chan k = s.chan k := rfl
@[simp] theorem setDog_slot (s : State) (n : Nat) (x : Watchdog) (k : Nat) : (s.setDog n x).slot k = s.slot k := rfl
@[simp] theorem setDog_reg (s : State) (n : Nat) (x : Watchdog) (b : Nat) : (s.setDog n x).reg b = s.reg b := rfl
@[simp] theorem setDog_rd (s : State) (n : Nat) (x : Watchdog) (g : Fld) : (s.setDog n x).rd g = s.rd g := rfl
@[simp] theorem setDog_flag (s : State) (n : Nat) (x : Watchdog) (g : Fld) : (s.setDog n x).flag g = s.flag g := rfl
@[simp] theorem setDog_byte (s : State) (n : Nat) (x : Watchdog) (b : Nat) : (s.setDog n x).byte b = s.byte b := rfl
@[simp] theorem setDog_wf (s : State) (n : Nat) (x : Watchdog) : (s.setDog n x).wf = s.wf := rfl

/-! ### setSlotKey -/

@[simp] theorem setSlotKey_regs (s : State) (n m : Nat) (x : KeySlot) : (s.setSlotKey n m x).regs = s.regs := rfl
@[simp] theorem setSlotKey_mem (s : State) (n m : Nat) (x : KeySlot) : (s.setSlotKey n m x).mem = s.mem := rfl
@[simp] theorem setSlotKey_bus (s : State) (n m : Nat) (x : KeySlot) : (s.setSlotKey n m x).bus = s.bus := rfl
@[simp] theorem setSlotKey_memc (s : State) (n m : Nat) (x : KeySlot) : (s.setSlotKey n m x).memc = s.memc := rfl
@[simp] theorem setSlotKey_nvs (s : State) (n m : Nat) (x : KeySlot) : (s.setSlotKey n m x).nvs = s.nvs := rfl
@[simp] theorem setSlotKey_saf (s : State) (n m : Nat) (x : KeySlot) : (s.setSlotKey n m x).saf = s.saf := rfl
@[simp] theorem setSlotKey_pwr (s : State) (n m : Nat) (x : KeySlot) : (s.setSlotKey n m x).pwr = s.pwr := rfl
@[simp] theorem setSlotKey_tb (s : State) (n m : Nat) (x : KeySlot) : (s.setSlotKey n m x).tb = s.tb := rfl
@[simp] theorem setSlotKey_ports (s : State) (n m : Nat) (x : KeySlot) : (s.setSlotKey n m x).ports = s.ports := rfl
@[simp] theorem setSlotKey_clapper (s : State) (n m : Nat) (x : KeySlot) : (s.setSlotKey n m x).clapper = s.clapper := rfl
@[simp] theorem setSlotKey_ca (s : State) (n m : Nat) (x : KeySlot) : (s.setSlotKey n m x).ca = s.ca := rfl
@[simp] theorem setSlotKey_cgn (s : State) (n m : Nat) (x : KeySlot) : (s.setSlotKey n m x).cgn = s.cgn := rfl
@[simp] theorem setSlotKey_se (s : State) (n m : Nat) (x : KeySlot) : (s.setSlotKey n m x).se = s.se := rfl
@[simp] theorem setSlotKey_reels (s : State) (n m : Nat) (x : KeySlot) : (s.setSlotKey n m x).reels = s.reels := rfl
@[simp] theorem setSlotKey_streams (s : State) (n m : Nat) (x : KeySlot) : (s.setSlotKey n m x).streams = s.streams := rfl
@[simp] theorem setSlotKey_conds (s : State) (n m : Nat) (x : KeySlot) : (s.setSlotKey n m x).conds = s.conds := rfl
@[simp] theorem setSlotKey_heads (s : State) (n m : Nat) (x : KeySlot) : (s.setSlotKey n m x).heads = s.heads := rfl
@[simp] theorem setSlotKey_pls (s : State) (n m : Nat) (x : KeySlot) : (s.setSlotKey n m x).pls = s.pls := rfl
@[simp] theorem setSlotKey_clk (s : State) (n m : Nat) (x : KeySlot) : (s.setSlotKey n m x).clk = s.clk := rfl
@[simp] theorem setSlotKey_osy (s : State) (n m : Nat) (x : KeySlot) : (s.setSlotKey n m x).osy = s.osy := rfl
@[simp] theorem setSlotKey_eth (s : State) (n m : Nat) (x : KeySlot) : (s.setSlotKey n m x).eth = s.eth := rfl
@[simp] theorem setSlotKey_svu (s : State) (n m : Nat) (x : KeySlot) : (s.setSlotKey n m x).svu = s.svu := rfl
@[simp] theorem setSlotKey_cores (s : State) (n m : Nat) (x : KeySlot) : (s.setSlotKey n m x).cores = s.cores := rfl
@[simp] theorem setSlotKey_hst (s : State) (n m : Nat) (x : KeySlot) : (s.setSlotKey n m x).hst = s.hst := rfl
@[simp] theorem setSlotKey_nav (s : State) (n m : Nat) (x : KeySlot) : (s.setSlotKey n m x).nav = s.nav := rfl
@[simp] theorem setSlotKey_straps (s : State) (n m : Nat) (x : KeySlot) : (s.setSlotKey n m x).straps = s.straps := rfl
@[simp] theorem setSlotKey_dbgStart (s : State) (n m : Nat) (x : KeySlot) : (s.setSlotKey n m x).dbgStart = s.dbgStart := rfl
@[simp] theorem setSlotKey_ticks (s : State) (n m : Nat) (x : KeySlot) : (s.setSlotKey n m x).ticks = s.ticks := rfl
@[simp] theorem setSlotKey_freeCount (s : State) (n m : Nat) (x : KeySlot) : (s.setSlotKey n m x).freeCount = s.freeCount := rfl
@[simp] theorem setSlotKey_pending (s : State) (n m : Nat) (x : KeySlot) : (s.setSlotKey n m x).pending = s.pending := rfl
@[simp] theorem setSlotKey_port (s : State) (n m : Nat) (x : KeySlot) (k : Nat) : (s.setSlotKey n m x).port k = s.port k := rfl
@[simp] theorem setSlotKey_head (s : State) (n m : Nat) (x : KeySlot) (k : Nat) : (s.setSlotKey n m x).head k = s.head k := rfl
@[simp] theorem setSlotKey_stream (s : State) (n m : Nat) (x : KeySlot) (k : Nat) : (s.setSlotKey n m x).stream k = s.stream k := rfl
@[simp] theorem setSlotKey_cond (s : State) (n m : Nat) (x : KeySlot) (k : Nat) : (s.setSlotKey n m x).cond k = s.cond k := rfl
@[simp] theorem setSlotKey_reel (s : State) (n m : Nat) (x : KeySlot) (k : Nat) : (s.setSlotKey n m x).reel k = s.reel k := rfl
@[simp] theorem setSlotKey_core (s : State) (n m : Nat) (x : KeySlot) (k : Nat) : (s.setSlotKey n m x).core k = s.core k := rfl
@[simp] theorem setSlotKey_osyn (s : State) (n m : Nat) (x : KeySlot) (k : Nat) : (s.setSlotKey n m x).osyn k = s.osyn k := rfl
@[simp] theorem setSlotKey_tpg (s : State) (n m : Nat) (x : KeySlot) (k : Nat) : (s.setSlotKey n m x).tpg k = s.tpg k := rfl
@[simp] theorem setSlotKey_evc (s : State) (n m : Nat) (x : KeySlot) (k : Nat) : (s.setSlotKey n m x).evc k = s.evc k := rfl
@[simp] theorem setSlotKey_chan (s : State) (n m : Nat) (x : KeySlot) (k : Nat) : (s.setSlotKey n m x).chan k = s.chan k := rfl
@[simp] theorem setSlotKey_slot (s : State) (n m : Nat) (x : KeySlot) (k : Nat) : (s.setSlotKey n m x).slot k = s.slot k := rfl
@[simp] theorem setSlotKey_reg (s : State) (n m : Nat) (x : KeySlot) (b : Nat) : (s.setSlotKey n m x).reg b = s.reg b := rfl
@[simp] theorem setSlotKey_rd (s : State) (n m : Nat) (x : KeySlot) (g : Fld) : (s.setSlotKey n m x).rd g = s.rd g := rfl
@[simp] theorem setSlotKey_flag (s : State) (n m : Nat) (x : KeySlot) (g : Fld) : (s.setSlotKey n m x).flag g = s.flag g := rfl
@[simp] theorem setSlotKey_byte (s : State) (n m : Nat) (x : KeySlot) (b : Nat) : (s.setSlotKey n m x).byte b = s.byte b := rfl
@[simp] theorem setSlotKey_wf (s : State) (n m : Nat) (x : KeySlot) : (s.setSlotKey n m x).wf = s.wf := rfl

/-! ### wr -/

@[simp] theorem wr_mem (s : State) (f : Fld) (v : Nat) : (s.wr f v).mem = s.mem := rfl
@[simp] theorem wr_bus (s : State) (f : Fld) (v : Nat) : (s.wr f v).bus = s.bus := rfl
@[simp] theorem wr_memc (s : State) (f : Fld) (v : Nat) : (s.wr f v).memc = s.memc := rfl
@[simp] theorem wr_nvs (s : State) (f : Fld) (v : Nat) : (s.wr f v).nvs = s.nvs := rfl
@[simp] theorem wr_saf (s : State) (f : Fld) (v : Nat) : (s.wr f v).saf = s.saf := rfl
@[simp] theorem wr_pwr (s : State) (f : Fld) (v : Nat) : (s.wr f v).pwr = s.pwr := rfl
@[simp] theorem wr_tb (s : State) (f : Fld) (v : Nat) : (s.wr f v).tb = s.tb := rfl
@[simp] theorem wr_ports (s : State) (f : Fld) (v : Nat) : (s.wr f v).ports = s.ports := rfl
@[simp] theorem wr_clapper (s : State) (f : Fld) (v : Nat) : (s.wr f v).clapper = s.clapper := rfl
@[simp] theorem wr_ca (s : State) (f : Fld) (v : Nat) : (s.wr f v).ca = s.ca := rfl
@[simp] theorem wr_cgn (s : State) (f : Fld) (v : Nat) : (s.wr f v).cgn = s.cgn := rfl
@[simp] theorem wr_se (s : State) (f : Fld) (v : Nat) : (s.wr f v).se = s.se := rfl
@[simp] theorem wr_reels (s : State) (f : Fld) (v : Nat) : (s.wr f v).reels = s.reels := rfl
@[simp] theorem wr_streams (s : State) (f : Fld) (v : Nat) : (s.wr f v).streams = s.streams := rfl
@[simp] theorem wr_conds (s : State) (f : Fld) (v : Nat) : (s.wr f v).conds = s.conds := rfl
@[simp] theorem wr_heads (s : State) (f : Fld) (v : Nat) : (s.wr f v).heads = s.heads := rfl
@[simp] theorem wr_pls (s : State) (f : Fld) (v : Nat) : (s.wr f v).pls = s.pls := rfl
@[simp] theorem wr_clk (s : State) (f : Fld) (v : Nat) : (s.wr f v).clk = s.clk := rfl
@[simp] theorem wr_osy (s : State) (f : Fld) (v : Nat) : (s.wr f v).osy = s.osy := rfl
@[simp] theorem wr_eth (s : State) (f : Fld) (v : Nat) : (s.wr f v).eth = s.eth := rfl
@[simp] theorem wr_cxe (s : State) (f : Fld) (v : Nat) : (s.wr f v).cxe = s.cxe := rfl
@[simp] theorem wr_svu (s : State) (f : Fld) (v : Nat) : (s.wr f v).svu = s.svu := rfl
@[simp] theorem wr_cores (s : State) (f : Fld) (v : Nat) : (s.wr f v).cores = s.cores := rfl
@[simp] theorem wr_hst (s : State) (f : Fld) (v : Nat) : (s.wr f v).hst = s.hst := rfl
@[simp] theorem wr_nav (s : State) (f : Fld) (v : Nat) : (s.wr f v).nav = s.nav := rfl
@[simp] theorem wr_straps (s : State) (f : Fld) (v : Nat) : (s.wr f v).straps = s.straps := rfl
@[simp] theorem wr_dbgStart (s : State) (f : Fld) (v : Nat) : (s.wr f v).dbgStart = s.dbgStart := rfl
@[simp] theorem wr_ticks (s : State) (f : Fld) (v : Nat) : (s.wr f v).ticks = s.ticks := rfl
@[simp] theorem wr_freeCount (s : State) (f : Fld) (v : Nat) : (s.wr f v).freeCount = s.freeCount := rfl
@[simp] theorem wr_pending (s : State) (f : Fld) (v : Nat) : (s.wr f v).pending = s.pending := rfl
@[simp] theorem wr_port (s : State) (f : Fld) (v : Nat) (k : Nat) : (s.wr f v).port k = s.port k := rfl
@[simp] theorem wr_head (s : State) (f : Fld) (v : Nat) (k : Nat) : (s.wr f v).head k = s.head k := rfl
@[simp] theorem wr_stream (s : State) (f : Fld) (v : Nat) (k : Nat) : (s.wr f v).stream k = s.stream k := rfl
@[simp] theorem wr_cond (s : State) (f : Fld) (v : Nat) (k : Nat) : (s.wr f v).cond k = s.cond k := rfl
@[simp] theorem wr_reel (s : State) (f : Fld) (v : Nat) (k : Nat) : (s.wr f v).reel k = s.reel k := rfl
@[simp] theorem wr_core (s : State) (f : Fld) (v : Nat) (k : Nat) : (s.wr f v).core k = s.core k := rfl
@[simp] theorem wr_osyn (s : State) (f : Fld) (v : Nat) (k : Nat) : (s.wr f v).osyn k = s.osyn k := rfl
@[simp] theorem wr_tpg (s : State) (f : Fld) (v : Nat) (k : Nat) : (s.wr f v).tpg k = s.tpg k := rfl
@[simp] theorem wr_evc (s : State) (f : Fld) (v : Nat) (k : Nat) : (s.wr f v).evc k = s.evc k := rfl
@[simp] theorem wr_chan (s : State) (f : Fld) (v : Nat) (k : Nat) : (s.wr f v).chan k = s.chan k := rfl
@[simp] theorem wr_slot (s : State) (f : Fld) (v : Nat) (k : Nat) : (s.wr f v).slot k = s.slot k := rfl
@[simp] theorem wr_byte (s : State) (f : Fld) (v : Nat) (b : Nat) : (s.wr f v).byte b = s.byte b := rfl

/-! ### unstage -/

@[simp] theorem unstage_mem (s : State) (i : Nat) : (unstage i s).mem = s.mem := rfl
@[simp] theorem unstage_memc (s : State) (i : Nat) : (unstage i s).memc = s.memc := rfl
@[simp] theorem unstage_nvs (s : State) (i : Nat) : (unstage i s).nvs = s.nvs := rfl
@[simp] theorem unstage_saf (s : State) (i : Nat) : (unstage i s).saf = s.saf := rfl
@[simp] theorem unstage_pwr (s : State) (i : Nat) : (unstage i s).pwr = s.pwr := rfl
@[simp] theorem unstage_tb (s : State) (i : Nat) : (unstage i s).tb = s.tb := rfl
@[simp] theorem unstage_ports (s : State) (i : Nat) : (unstage i s).ports = s.ports := rfl
@[simp] theorem unstage_clapper (s : State) (i : Nat) : (unstage i s).clapper = s.clapper := rfl
@[simp] theorem unstage_ca (s : State) (i : Nat) : (unstage i s).ca = s.ca := rfl
@[simp] theorem unstage_cgn (s : State) (i : Nat) : (unstage i s).cgn = s.cgn := rfl
@[simp] theorem unstage_se (s : State) (i : Nat) : (unstage i s).se = s.se := rfl
@[simp] theorem unstage_reels (s : State) (i : Nat) : (unstage i s).reels = s.reels := rfl
@[simp] theorem unstage_streams (s : State) (i : Nat) : (unstage i s).streams = s.streams := rfl
@[simp] theorem unstage_conds (s : State) (i : Nat) : (unstage i s).conds = s.conds := rfl
@[simp] theorem unstage_heads (s : State) (i : Nat) : (unstage i s).heads = s.heads := rfl
@[simp] theorem unstage_pls (s : State) (i : Nat) : (unstage i s).pls = s.pls := rfl
@[simp] theorem unstage_clk (s : State) (i : Nat) : (unstage i s).clk = s.clk := rfl
@[simp] theorem unstage_osy (s : State) (i : Nat) : (unstage i s).osy = s.osy := rfl
@[simp] theorem unstage_eth (s : State) (i : Nat) : (unstage i s).eth = s.eth := rfl
@[simp] theorem unstage_cxe (s : State) (i : Nat) : (unstage i s).cxe = s.cxe := rfl
@[simp] theorem unstage_svu (s : State) (i : Nat) : (unstage i s).svu = s.svu := rfl
@[simp] theorem unstage_cores (s : State) (i : Nat) : (unstage i s).cores = s.cores := rfl
@[simp] theorem unstage_hst (s : State) (i : Nat) : (unstage i s).hst = s.hst := rfl
@[simp] theorem unstage_nav (s : State) (i : Nat) : (unstage i s).nav = s.nav := rfl
@[simp] theorem unstage_straps (s : State) (i : Nat) : (unstage i s).straps = s.straps := rfl
@[simp] theorem unstage_dbgStart (s : State) (i : Nat) : (unstage i s).dbgStart = s.dbgStart := rfl
@[simp] theorem unstage_ticks (s : State) (i : Nat) : (unstage i s).ticks = s.ticks := rfl
@[simp] theorem unstage_freeCount (s : State) (i : Nat) : (unstage i s).freeCount = s.freeCount := rfl
@[simp] theorem unstage_pending (s : State) (i : Nat) : (unstage i s).pending = s.pending := rfl
@[simp] theorem unstage_port (s : State) (i : Nat) (k : Nat) : (unstage i s).port k = s.port k := rfl
@[simp] theorem unstage_head (s : State) (i : Nat) (k : Nat) : (unstage i s).head k = s.head k := rfl
@[simp] theorem unstage_stream (s : State) (i : Nat) (k : Nat) : (unstage i s).stream k = s.stream k := rfl
@[simp] theorem unstage_cond (s : State) (i : Nat) (k : Nat) : (unstage i s).cond k = s.cond k := rfl
@[simp] theorem unstage_reel (s : State) (i : Nat) (k : Nat) : (unstage i s).reel k = s.reel k := rfl
@[simp] theorem unstage_core (s : State) (i : Nat) (k : Nat) : (unstage i s).core k = s.core k := rfl
@[simp] theorem unstage_osyn (s : State) (i : Nat) (k : Nat) : (unstage i s).osyn k = s.osyn k := rfl
@[simp] theorem unstage_tpg (s : State) (i : Nat) (k : Nat) : (unstage i s).tpg k = s.tpg k := rfl
@[simp] theorem unstage_evc (s : State) (i : Nat) (k : Nat) : (unstage i s).evc k = s.evc k := rfl
@[simp] theorem unstage_chan (s : State) (i : Nat) (k : Nat) : (unstage i s).chan k = s.chan k := rfl
@[simp] theorem unstage_slot (s : State) (i : Nat) (k : Nat) : (unstage i s).slot k = s.slot k := rfl
@[simp] theorem unstage_byte (s : State) (i : Nat) (b : Nat) : (unstage i s).byte b = s.byte b := rfl
@[simp] theorem unstage_regs (s : State) (i : Nat) : (unstage i s).regs = s.regs := rfl
@[simp] theorem unstage_reg (s : State) (i : Nat) (a : Nat) : (unstage i s).reg a = s.reg a := rfl
@[simp] theorem unstage_rd (s : State) (i : Nat) (f : Fld) : (unstage i s).rd f = s.rd f := rfl
@[simp] theorem unstage_flag (s : State) (i : Nat) (f : Fld) : (unstage i s).flag f = s.flag f := rfl
@[simp] theorem unstage_sec (s : State) (i : Nat) : (unstage i s).sec = s.sec := rfl
@[simp] theorem unstage_lcs (s : State) (i : Nat) : (unstage i s).lcs = s.lcs := rfl
@[simp] theorem unstage_isOff (s : State) (i : Nat) (a : Nat) : (unstage i s).isOff a = s.isOff a := rfl
@[simp] theorem unstage_portCause (s : State) (i j a : Nat) (w : Bool) : portCause (unstage i s) j a w = portCause s j a w := rfl
@[simp] theorem unstage_portLost (s : State) (i j : Nat) : portLost (unstage i s) j = portLost s j := rfl

/-! ### A replaced part as it reads -/

theorem getD_setIfInBounds {α : Type} {k : Nat} (v : Vector α k) (n m : Nat) (x d : α) :
    (v.setIfInBounds n x).getD m d = if n = m ∧ m < k then x else v.getD m d := by
  obtain ⟨a, ha⟩ := v
  subst ha
  simp only [Vector.getD, Vector.setIfInBounds_mk, Array.getD_eq_getD_getElem?, Array.getElem?_setIfInBounds]
  by_cases h : n = m
  · subst h
    by_cases hm : n < a.size <;> simp [hm]
  · simp [h]

theorem setPort_port_eq (s : State) (n : Nat) (x : PortState) (h : n < 32) : (s.setPort n x).port n = x := by
  simp only [State.setPort, State.port, getD_setIfInBounds, h, and_self, if_true]
theorem setPort_port_ne (s : State) (n m : Nat) (x : PortState) (h : m ≠ n) : (s.setPort n x).port m = s.port m := by
  simp only [State.setPort, State.port, getD_setIfInBounds, Ne.symm h, false_and, if_false]
theorem setHead_head_eq (s : State) (n : Nat) (x : HeadState) (h : n < 32) : (s.setHead n x).head n = x := by
  simp only [State.setHead, State.head, getD_setIfInBounds, h, and_self, if_true]
theorem setHead_head_ne (s : State) (n m : Nat) (x : HeadState) (h : m ≠ n) : (s.setHead n x).head m = s.head m := by
  simp only [State.setHead, State.head, getD_setIfInBounds, Ne.symm h, false_and, if_false]
theorem setStream_stream_eq (s : State) (n : Nat) (x : StreamState) (h : n < 128) : (s.setStream n x).stream n = x := by
  simp only [State.setStream, State.stream, getD_setIfInBounds, h, and_self, if_true]
theorem setStream_stream_ne (s : State) (n m : Nat) (x : StreamState) (h : m ≠ n) : (s.setStream n x).stream m = s.stream m := by
  simp only [State.setStream, State.stream, getD_setIfInBounds, Ne.symm h, false_and, if_false]
theorem setCond_cond_eq (s : State) (n : Nat) (x : CondState) (h : n < 128) : (s.setCond n x).cond n = x := by
  simp only [State.setCond, State.cond, getD_setIfInBounds, h, and_self, if_true]
theorem setCond_cond_ne (s : State) (n m : Nat) (x : CondState) (h : m ≠ n) : (s.setCond n x).cond m = s.cond m := by
  simp only [State.setCond, State.cond, getD_setIfInBounds, Ne.symm h, false_and, if_false]
theorem setReel_reel_eq (s : State) (n : Nat) (x : ReelIn) (h : n < 8) : (s.setReel n x).reel n = x := by
  simp only [State.setReel, State.reel, getD_setIfInBounds, h, and_self, if_true]
theorem setReel_reel_ne (s : State) (n m : Nat) (x : ReelIn) (h : m ≠ n) : (s.setReel n x).reel m = s.reel m := by
  simp only [State.setReel, State.reel, getD_setIfInBounds, Ne.symm h, false_and, if_false]
theorem setCore_core_eq (s : State) (n : Nat) (x : CoreState) (h : n < 7) : (s.setCore n x).core n = x := by
  simp only [State.setCore, State.core, getD_setIfInBounds, h, and_self, if_true]
theorem setCore_core_ne (s : State) (n m : Nat) (x : CoreState) (h : m ≠ n) : (s.setCore n x).core m = s.core m := by
  simp only [State.setCore, State.core, getD_setIfInBounds, Ne.symm h, false_and, if_false]
theorem setOsy_osyn_eq (s : State) (n : Nat) (x : OsyState) (h : n < 4) : (s.setOsy n x).osyn n = x := by
  simp only [State.setOsy, State.osyn, getD_setIfInBounds, h, and_self, if_true]
theorem setOsy_osyn_ne (s : State) (n m : Nat) (x : OsyState) (h : m ≠ n) : (s.setOsy n x).osyn m = s.osyn m := by
  simp only [State.setOsy, State.osyn, getD_setIfInBounds, Ne.symm h, false_and, if_false]

end Sys2Proof.Machine
end

