-- ==== Sys2Proof/Tests/Slice0.lean ====
section
/-!
SUPPORT. Tests: commands that `Instr.wf` refuses, words of the Kloko encoding written out from R254 to R263, single steps, and for
each statement states and operands that meet its hypotheses, clause by clause.
-/

namespace Sys2Proof.Tests

open Sys2Proof.Machine

set_option maxRecDepth 100000
set_option Elab.async false

/-- A state with fields set one after another. -/
def given (s : State) (fs : List (Fld × Nat)) : State := fs.foldl (fun s p => s.wr p.1 p.2) s

/-- A state with core `n` changed. -/
def onCore (s : State) (n : Nat) (f : CoreState → CoreState) : State := s.setCore n (f (s.core n))

/-- The answer is a next state with this property. -/
def nextIs (o : Host.Outcome State Fault Refusal) (p : State → Bool) : Bool :=
  match o with
  | .next t => p t
  | _ => false

/-- Core 0 runs, at address 0 with cleared registers. -/
def run0 : State := State.reset.wr (KCn_STAT_STATE 0) K_RUN

/-- A move from the word at P[0] to G[1]. -/
def mvLoad : Move := ⟨false, 1, 0, 1⟩

/-! ### Witnesses: the Kloko cores -/

theorem ready_of (s : State) (h : (mayIssue s 0 && s.coreState 0 == K_RUN && (s.core 0).out == [] && !(s.core 0).ldErr &&
    !(s.core 0).stErr && !imemBad s 0 (s.core 0).pc.toNat && !(s.core 0).stepping) = true) : Ready 0 s := by
  simp only [Bool.and_eq_true, Bool.not_eq_true', beq_iff_eq] at h
  obtain ⟨⟨⟨⟨⟨⟨h1, h2⟩, h3⟩, h4⟩, h5⟩, h6⟩, h7⟩ := h
  exact ⟨h1, h2, h3, ⟨h4, h5⟩, h6, h7⟩

theorem ready_run0 : Ready 0 run0 := ready_of run0 (by decide +kernel)

/-- The moves named are all allowed. -/
theorem moves_run0 : MovesOk 0 [mvLoad] none run0 ∧ MovesOk 0 [mvLoad] (some 2) run0 ∧ MovesOk 0 [mvLoad] (some 17) run0 := by
  refine ⟨?_, ?_, ?_⟩ <;> constructor <;> decide +kernel

theorem witness_KlokoAluResults : Ready 0 run0 ∧ MovesOk 0 [mvLoad] (some (2 : Fin 16).val) run0 ∧ MovesOk 0 [mvLoad] none run0 :=
  ⟨ready_run0, moves_run0.2.1, moves_run0.1⟩

theorem witness_KlokoImmResults : Ready 0 run0 := ready_run0
theorem witness_KlokoAccResults : Ready 0 run0 := ready_run0
theorem witness_KlokoAddrResults : Ready 0 run0 := ready_run0

theorem witness_KlokoMacResults : Ready 0 run0 ∧ MovesOk 0 (movesOf (some mvLoad) none) none run0 ∧
    MovesOk 0 (movesOf (some mvLoad) none) (some (16 + (1 : Fin 2).val)) run0 :=
  ⟨ready_run0, moves_run0.1, moves_run0.2.2⟩

/-- A good and a bad data word at address 0; registers 17 and 18 stand at the boundary. -/
def badWord : State := { run0 with memc := { run0.memc with double := [dmSlot 0 0] } }

theorem witness_KlokoLocalMemory : Ready 0 run0 ∧ Ready 0 badWord ∧ (17 : Fin 32).val < 18 ∧ 18 ≤ (18 : Fin 32).val ∧
    hasDouble (dmSlot 0 (((run0.core 0).ptr 0 + (0 : BitVec 15).toNat) % 32768)) 8 run0 = false ∧
    hasDouble (dmSlot 0 (0 : BitVec 15).toNat) 8 run0 = false ∧
    hasDouble (dmSlot 0 (((badWord.core 0).ptr 0 + (0 : BitVec 15).toNat) % 32768)) 8 badWord = true ∧
    hasDouble (dmSlot 0 (0 : BitVec 15).toNat) 8 badWord = true :=
  ⟨ready_run0, ready_of badWord (by decide +kernel), by decide +kernel⟩

/-- G[2] holds 4, so offsets 0 and 1 are aligned and not. -/
theorem witness_KlokoGlobalMemory : Ready 0 run0 ∧ sizeOf? (4 : Fin 8) = some 6 ∧ (15 : Fin 32).val < 16 ∧ 16 ≤ (16 : Fin 32).val ∧
    sizeOf? (5 : Fin 8) = none ∧ (3 : Fin 8).val = 3 ∧ (4 : Fin 8).val ≠ 3 ∧
    (((run0.core 0).gr (2 : Fin 16)).toNat + ((0 : BitVec 24).signExtend 32).toNat) % 2 ^ 32 % 4 = 0 ∧
    (((run0.core 0).gr (2 : Fin 16)).toNat + ((1 : BitVec 24).signExtend 32).toNat) % 2 ^ 32 % 4 ≠ 0 :=
  ⟨ready_run0, by decide +kernel⟩

/-- Accesses outstanding in core 0: a good load, a failed load, a failed store; the failed load of another block holds back the
store behind it. -/
def loadOut (cause : Nat) : GlobalAcc := { dest := some 1, value := 7, addr := 0, size := 4, cause := cause }
def storeOut : GlobalAcc := { dest := none, addr := 0, size := 4, cause := 1 }

/-- The first access of core 0 that a command would answer, where these are outstanding. -/
def answers (out : List GlobalAcc) (p : GlobalAcc → Bool) : Option GlobalAcc :=
  (unblocked [] ((onCore run0 0 fun c => { c with out := out }).core 0).out).find? p

theorem witness_KlokoAnswers :
    answers [loadOut 0] (fun x => x.dest.isSome && x.cause == 0) = some (loadOut 0) ∧ (loadOut 0).dest = some 1 ∧
    answers [loadOut 1, storeOut] (fun x => x.cause != 0) = some (loadOut 1) ∧
    answers [storeOut] (fun x => x.cause != 0) = some storeOut ∧ storeOut.dest = none ∧
    answers [storeOut, loadOut 0] (fun x => x.dest.isSome && x.cause == 0) = none ∧ answers [] (fun x => x.cause != 0) = none := by
  decide +kernel

/-- At the END of a loop, with full and empty return stacks, with Z set, and G[1] = 1. -/
def atEnd0 : State := onCore run0 0 fun c => { c with loops := [⟨0, 0, 1, false⟩] }
def fullRets : State := onCore run0 0 fun c => { c with rets := List.replicate 16 3 }
def oneG : State := onCore run0 0 fun c => c.setG 1 1

theorem witness_KlokoFlowResults : Ready 0 atEnd0 ∧ Ready 0 run0 ∧ Ready 0 fullRets ∧ Ready 0 oneG ∧
    atEnd (atEnd0.core 0) = true ∧ atEnd (run0.core 0) = false ∧
    condHolds (run0.core 0).st (1 : Fin 16) = true ∧ condHolds (run0.core 0).st (0 : Fin 16) = false ∧
    (run0.core 0).rets.length < 16 ∧ (run0.core 0).rets = [] ∧
    atEnd (fullRets.core 0) = false ∧ 16 ≤ (fullRets.core 0).rets.length ∧
    (fullRets.core 0).rets = 3 :: List.replicate 15 3 ∧
    atEnd (oneG.core 0) = false ∧ (oneG.core 0).gr (1 : Fin 16) - 1 = 0 ∧ (oneG.core 0).gr (0 : Fin 16) - 1 ≠ 0 :=
  ⟨ready_of atEnd0 (by decide +kernel), ready_run0, ready_of fullRets (by decide +kernel), ready_of oneG (by decide +kernel),
    by decide +kernel⟩

/-- Within a loop that ends at 8: an END of 8 lies in it and one of 9 outside.  Four loops are the most. -/
def inLoop : State := onCore run0 0 fun c => { c with loops := [⟨0, 8, 1, false⟩] }
def fourLoops : State := onCore run0 0 fun c => { c with loops := List.replicate 4 ⟨4, 8, 1, false⟩ }
def loopCore (left : Nat) : CoreState := { pc := 8, loops := [⟨4, 8, left, false⟩] }

theorem witness_KlokoLoops :
    Ready 0 inLoop ∧ Ready 0 fourLoops ∧ atEnd (inLoop.core 0) = false ∧ (inLoop.core 0).pc.toNat < (8 : BitVec 14).toNat ∧
    outsideLoop (inLoop.core 0) (8 : BitVec 14) = false ∧ (inLoop.core 0).loops.length < 4 ∧
    (0 : BitVec 14).toNat ≤ (inLoop.core 0).pc.toNat ∧ outsideLoop (inLoop.core 0) (9 : BitVec 14) = true ∧
    atEnd (fourLoops.core 0) = false ∧ (fourLoops.core 0).pc.toNat < (1 : BitVec 14).toNat ∧
    outsideLoop (fourLoops.core 0) (1 : BitVec 14) = false ∧ 4 ≤ (fourLoops.core 0).loops.length ∧
    ({} : CoreState).loops = [] ∧ (loopCore 2).loops = ⟨4, 8, 2, false⟩ :: [] ∧
    eligible (loopCore 2) ⟨4, 8, 2, false⟩ = true ∧ (8 : Nat) = (loopCore 2).pc.toNat ∧ 1 < (⟨4, 8, 2, false⟩ : LoopRec).left ∧
    eligible (loopCore 1) ⟨4, 8, 1, false⟩ = true ∧ (8 : Nat) = (loopCore 1).pc.toNat ∧ (⟨4, 8, 1, false⟩ : LoopRec).left ≤ 1 ∧
    eligible { loopCore 1 with st := setBitW 0 ST_EXL true } ⟨4, 8, 1, false⟩ = false ∧ (9 : Nat) ≠ (loopCore 1).pc.toNat :=
  ⟨ready_of inLoop (by decide +kernel), ready_of fourLoops (by decide +kernel), by decide +kernel⟩

theorem witness_KlokoSysResults : Ready 0 run0 ∧ readSpecial run0 0 (11 : Fin 32) = some 0 ∧ readSpecial run0 0 (12 : Fin 32) = none ∧
    writeSpecial (run0.core 0) (6 : Fin 32) ((run0.core 0).gr (0 : Fin 16)) = some { run0.core 0 with imask := 0 } ∧
    writeSpecial (run0.core 0) (7 : Fin 32) ((run0.core 0).gr (0 : Fin 16)) = none ∧
    (6 : BitVec 16).toNat % 8 < 7 ∧ (7 : BitVec 16).toNat % 8 = 7 :=
  ⟨ready_run0, by decide +kernel⟩

/-- NMI pending, alone and behind an error response; doorbell line 0 pending with IE 1. -/
def nmiDue : State := onCore run0 0 fun c => { c with nmi := true }
def errDue : State := onCore nmiDue 0 fun c => { c with ldErr := true }
def irqDue : State := onCore (run0.wr (KCn_DBELL_BITS 0) 1) 0 fun c => { c with imask := 0xFFFF, st := setBitW 0 ST_IE true }

theorem witness_KlokoExceptions : Ready 0 run0 ∧ atEnd (run0.core 0) = false ∧
    mayEnter State.reset 0 = false ∧
    mayEnter errDue 0 = true ∧ (errDue.core 0).nmi = true ∧ ((errDue.core 0).ldErr || (errDue.core 0).stErr) = true ∧
    mayEnter nmiDue 0 = true ∧ (nmiDue.core 0).ldErr = false ∧ (nmiDue.core 0).stErr = false ∧ (nmiDue.core 0).nmi = true ∧
    mayEnter irqDue 0 = true ∧ (irqDue.core 0).ldErr = false ∧ (irqDue.core 0).stErr = false ∧
    (irqDue.core 0).nmi = false ∧ (irqDue.core 0).stBit ST_IE = true ∧ (pendingLine irqDue 0).isSome = true ∧
    ((onCore run0 0 fun c => c.setSt ST_EXL true).core 0).stBit ST_EXL = true :=
  ⟨ready_run0, by decide +kernel⟩

theorem witness_KlokoFinishFrame : (0 : Nat) < 7 ∧ issuing (run0.coreState 0) = true ∧ (run0.core 0).ldErr = false ∧
    (run0.core 0).stErr = false ∧ (run0.core 0).causes = [] ∧ run0.flag (KCn_CTRL_HALTREQ 0) = false ∧
    run0.bit DBG_TRSRC_CORES 0 = false ∧ run0.wf = true := by decide +kernel

/-- A move of register 18; two moves into one register; a move of a bad word. -/
theorem witness_KlokoMoveFaults : Ready 0 run0 ∧ Ready 0 badWord ∧ badMoveReg [⟨false, 18, 0, 0⟩] = true ∧
    badMoveReg [mvLoad, mvLoad] = false ∧ badCombination [mvLoad, mvLoad] none = true ∧
    badMoveReg [mvLoad] = false ∧ badCombination [mvLoad] none = false ∧
    (doMoves 0 (badWord.core 0) [mvLoad] badWord).bad = some 0 :=
  ⟨ready_run0, ready_of badWord (by decide +kernel), by decide +kernel⟩

/-- ADD G2 = G0 + G1 of core 0, encoded. -/
theorem witness_KlokoStacks : (encodeKloko (.add 0 2 0 1 none)).isSome = true ∧ globalInstr (.add 0 2 0 1 none) = false ∧
    (run0.core 0).out = [] ∧ ∀ m : CoreId, (run0.core m).stacksOk = true := by decide +kernel
theorem witness_KlokoRoundTrip :
    (encodeKloko (.add 0 2 0 1 none)).bind (fun p => decodeKloko p.1 p.2) = some (.add 0 2 0 1 none) := by decide +kernel
/-! ### Witnesses: the sample links and the Clapper -/

/-- The reset state with fields set. -/
def with0 (fs : List (Fld × Nat)) : State := given State.reset fs

theorem witness_SampleLinkControl :
    -- SP_ENABLE: a port that is off, whose slots fit and do not
    State.reset.flag (SPn_CTRL_EN 31) = false ∧ (State.reset.port 31).stopping = false ∧
    slotsFit (State.reset.rd (SPn_CTRL_FMT 31)) (State.reset.rd (SPn_CTRL_SLOTRATE 31)) (State.reset.rd (SPn_SLOTMASK_ACTIVE 31))
      (State.reset.flag (SPn_CTRL_BAUD 31)) = true ∧
    (let s := with0 [(SPn_SLOTMASK_ACTIVE 31, 15)]
     s.flag (SPn_CTRL_EN 31) = false ∧ slotsFit (s.rd (SPn_CTRL_FMT 31)) (s.rd (SPn_CTRL_SLOTRATE 31)) (s.rd (SPn_SLOTMASK_ACTIVE 31))
      (s.flag (SPn_CTRL_BAUD 31)) = false) ∧
    -- SP_DISABLE: a link that is up, and one that is down
    (let s := with0 [(SPn_CTRL_EN 0, 1), (SPn_STAT_LINK_UP 0, 1)]
     s.flag (SPn_CTRL_EN 0) = true ∧ (s.clear (SPn_CTRL_EN 0)).flag (SPn_STAT_LINK_UP 0) = true) ∧
    (let s := with0 [(SPn_CTRL_EN 0, 1)]
     s.flag (SPn_CTRL_EN 0) = true ∧ (s.clear (SPn_CTRL_EN 0)).flag (SPn_STAT_LINK_UP 0) = false ∧ (s.port 0).recovering = false) ∧
    -- SP_CONFIG_WRITE: a format that changes while on, and while off; one that does not change
    (let s := with0 [(SPn_CTRL_EN 0, 1)]
     changesFormat s 0 0x300#48 = true ∧ s.flag (SPn_CTRL_EN 0) = true ∧ changesFormat s 0 (s.reg (SPn_CTRL 0)) = false) ∧
    (State.reset.flag (SPn_CTRL_EN 0) = false ∧ State.reset.flag (SPn_CTRL_BCEN 0) = false) ∧
    -- MASK_WRITE: pending; not pending; not fitting; and MASK_TIMEOUT
    (let s := with0 [(SPn_CTRL_EN 0, 1), (SPn_SLOTMASK_CHG_PEND 0, 1)]
     portOn s 0 = true ∧ s.flag (SPn_SLOTMASK_CHG_PEND 0) = true ∧ portOn State.reset 0 = false) ∧
    (let s := with0 [(SPn_CTRL_EN 0, 1)]
     s.flag (SPn_SLOTMASK_CHG_PEND 0) = false ∧
     slotsFit (s.rd (SPn_CTRL_FMT 0)) (s.rd (SPn_CTRL_SLOTRATE 0)) (1 : BitVec 4).toNat (s.flag (SPn_CTRL_BAUD 0)) = true ∧
     ((s.setPort 0 { s.port 0 with maskAt := some 0 }).port 0).maskAt = some 0 ∧
     slotsFit (s.rd (SPn_CTRL_FMT 0)) (s.rd (SPn_CTRL_SLOTRATE 0)) (15 : BitVec 4).toNat (s.flag (SPn_CTRL_BAUD 0)) = false) := by
  decide +kernel

/-- A frame at 1.2288 Gbaud as its code groups: the SOF pair and a header of slot 0 in format 1, with its CRC; `off` is added to the
CRC. -/
def frameOctets (off : Nat) : List LineOctet :=
  let h : List Byte := [0, 0, 1, 1, 0, 0, 0, 0, 0, 0, 1] ++ List.replicate 67 0
  let crc := toBE 2 ((crc16 h).toNat + off)
  [K28_5, K27_7] ++ (h ++ crc ++ List.replicate 1838 0).map fun b => ⟨b, false⟩
def frame (off : Nat) (inPlace : Bool) : RxFrame := ⟨(encodeLine false (frameOctets off)).1, inPlace, 0, []⟩
/-- The same without the SOF pair. -/
def noSof : RxFrame := ⟨(encodeLine false ((frameOctets 0).drop 1 ++ [⟨0, false⟩])).1, true, 0, []⟩

/-- Port 0 is on, hunting; up; and up but recovering. -/
def hunting : State := with0 [(SPn_CTRL_EN 0, 1), (SPn_CTRL_BAUD 0, 0), (SPn_SLOTMASK_ACTIVE 0, 1), (SPn_CTRL_FMT 0, 1),
  (SPn_STAT_DLY_SETTLE 0, 0)]
def linkedUp : State := hunting.wr (SPn_STAT_LINK_UP 0) 1
def recovering (s : State) (hunt : Nat) (stopping : Bool) : State :=
  s.setPort 0 { s.port 0 with recovering := true, hunt := hunt, stopping := stopping }

/-- A frame as port 0 reads it. -/
def line0 (s : State) (f : RxFrame) : LineFrame := (rxLine s 0 f).1

theorem witness_SampleLinkFrames :
    portOn State.reset 0 = false ∧ portOn hunting 0 = true ∧ portOn linkedUp 0 = true ∧
    (line0 hunting noSof).sof = false ∧ noSof.inPlace = true ∧
    (line0 hunting (frame 0 true)).sof = true ∧ rxCrcOk (line0 hunting (frame 0 true)) = true ∧
    rxCrcOk (line0 hunting (frame 1 true)) = false ∧ (frame 0 false).inPlace = false ∧ (frame 0 true).inPlace = true ∧
    hunting.flag (SPn_STAT_LINK_UP 0) = false ∧ linkedUp.flag (SPn_STAT_LINK_UP 0) = true ∧
    ((hunting.port 0).hunt + 1 < 8) ∧ 8 ≤ ((recovering hunting 7 false).port 0).hunt + 1 ∧
    (linkedUp.port 0).stopping = false ∧ ((recovering linkedUp 0 true).port 0).stopping = true ∧
    (linkedUp.port 0).recovering = false ∧
    (let s := recovering hunting 1 false
     portOn s 0 = true ∧ (s.port 0).recovering = true ∧ s.flag (SPn_STAT_LINK_UP 0) = false ∧ (s.port 0).stopping = false ∧
      0 < (s.port 0).hunt ∧ ((recovering hunting 0 false).port 0).hunt = 0) ∧
    (with0 [(SPn_CTRL_BCEN 0, 1)]).flag (SPn_CTRL_BCEN 0) = true := by decide +kernel

/-- A frame in place of a port whose link is up: it recovers or not, and it is good or not. -/
theorem witness_SampleLinkFrames_inPlace :
    (∀ p ∈ [(0, true), (1, false)],
      let s := recovering linkedUp 0 false
      let l := line0 s (frame p.1 true)
      let s1 := refreshOwd 0 (s.setPort 0 { s.port 0 with missing := 0 })
      let s2 := if rxCrcOk l then useHeader 0 0 l s1 else s1
      (s2.port 0).recovering = true ∧ (mutePriority s2 0 false l == 0) = p.2) ∧
    (let l := line0 linkedUp (frame 0 true)
     let s1 := refreshOwd 0 (linkedUp.setPort 0 { linkedUp.port 0 with missing := 0 })
     ((useHeader 0 0 l s1).port 0).recovering = false) := by decide +kernel

theorem witness_SampleLinkDelay : State.reset.wf = true ∧ State.reset.flag (SPn_STAT_DELAY_FAULT 0) = false ∧
    (let s := State.reset.wr (SPn_DLYCFG_FAULTN 0) 2
     s.wf = true ∧ s.flag (SPn_STAT_DELAY_FAULT 0) = false ∧ (s.port 0).bad + 1 < max (s.rd (SPn_DLYCFG_FAULTN 0)) 1) ∧
    (let s := State.reset.wr (SPn_DLYCFG_FAULTN 0) 0
     s.wf = true ∧ max (s.rd (SPn_DLYCFG_FAULTN 0)) 1 ≤ (s.port 0).bad + 1) := by decide +kernel

theorem witness_ClapperCommands :
    ({ State.reset with clapper := some ⟨0, 1⟩ } : State).clapper = some ⟨0, 1⟩ ∧ State.reset.clapper = none ∧
    State.reset.stamp SP_CLAPSEC SP_CLAPFRAC * 2 ^ 48 < State.reset.tb.now + 8 * State.reset.rate ∧
    (let s := State.reset.setReg SP_CLAPSEC 1
     s.clapper = none ∧ s.tb.now + 8 * s.rate ≤ s.stamp SP_CLAPSEC SP_CLAPFRAC * 2 ^ 48) := by decide +kernel

/-! ### Witnesses: the store, power, health -/

/-- A memory controller that tests banks 0 to 47; a full bank of repairs; a Chain command; a programming of OTP. -/
def marching : State := { State.reset with memc := { State.reset.memc with march := some (0, 47, true), marchCycles := 655360 } }
def fullBank : State := { State.reset with memc := { State.reset.memc with repairs := List.replicate 4 (47, 0) } }
def chaining (op : Nat) : State := { State.reset with nvs := { State.reset.nvs with chain := some { op := op, addr := 0, init := 6 } } }
def programming : State := { State.reset with nvs := { State.reset.nvs with otpProg := some (127, 1), otpAt := 0 } }
theorem witness_StoreCommands :
    State.reset.memc.double = [] ∧
    wordDue { State.reset with nvs := { State.reset.nvs with queue := [(0, 0)], wordTicks := 119 } } = true ∧
    ¬(5 : Init).val = 6 ∧ (6 : Init).val = 6 ∧ ((11 : Init).val = 6 ∨ (11 : Init).val = 10 ∨ (11 : Init).val = 11) ∧
    ¬((9 : Init).val = 6 ∨ (9 : Init).val = 10 ∨ (9 : Init).val = 11) ∧
    marching.memc.march.isSome = true ∧ (0 : Fin 64) < 1 ∧ 47 < (48 : Fin 64).val ∧
    State.reset.memc.march = none ∧ (0 : Fin 64) ≤ 47 ∧ (47 : Fin 64).val ≤ 47 ∧
    4 ≤ (repairsOf fullBank 47).length ∧ (repairsOf State.reset 47).length < 4 ∧
    programming.nvs.otpProg = some (127, 1) ∧ State.reset.nvs.otpProg = none ∧
    marching.memc.march = some (0, 47, true) ∧ marching.wf = true ∧ 655360 ≤ marching.memc.marchCycles ∧ State.reset.memc.marchCycles < 655360 ∧ marching.memc.bootMarch = false ∧
    (chaining 4).nvs.chain.isSome = true ∧ State.reset.nvs.chain = none ∧
    (chaining 4).nvs.chain = some { op := 4, addr := 0, init := 6 } ∧
    ({ op := 4, addr := 0, init := 6 } : ChainCmd).writing = none ∧ otpMay State.reset 68 1 = false ∧ otpMay State.reset 67 1 = true ∧ (5 : Nat) < 128 := by decide +kernel

/-- The bytes other than zero of the least image that passes its checks, with its CRC; it is in copy A of a chip with an
installer key. -/
def imageBytes : List (Nat × Byte) :=
  [(0, 0x4D), (1, 0x4B), (2, 0x43), (3, 0x48), (4, 1), (60, 0x7A), (61, 0x7C), (62, 0x2A), (63, 0x69), (2117, 1), (2120, 1), (2123, 1),
    (2128, 1), (2132, 1)]
def installed : State :=
  { chaining 2 with
    nvs := { (chaining 2).nvs with otp := (chaining 2).nvs.otp.setIfInBounds 13 1 }
    mem := imageBytes.map fun p => (copyAddr 0 + p.1, p.2) }

theorem witness_StoreCommands_lock : imageInForce installed = some (chainCopy installed 0) ∧ imageOk (chainCopy installed 0) = true ∧
    otpHash installed 3 ≠ 0 ∧ installed.nvs.chain = some { op := 2, addr := 0, init := 6 } := by decide +kernel
/-! ### Witnesses: power and health -/

def inPower (s : State) (p : Power) : State := { s with pwr := { s.pwr with power := p } }
def changing (vpg : Bool) : State := { State.reset with pwr := { State.reset.pwr with change := some { target := 1, former := 2, awaitVpg := vpg } } }
/-- The debug port holds a core. -/
def debugHeld : State := with0 [(SVU_DBG_LEVEL, 2), (KCn_STAT_STATE 0, K_HALTED)]
def unpowered : State := { State.reset with pwr := { State.reset.pwr with supplied := false } }
/-- The WAKE ball stands at its active level and is enabled; the alarm has come. -/
def wakeActive : State :=
  { with0 [(PWR_WAKEEN_WAKE, 1), (PWR_WAKECFG_WAKEPOL, 0)] with pwr := { State.reset.pwr with wakePin := true } }
def alarmActive0 : State := with0 [(PWR_WAKEEN_RTC, 1), (PWR_RTCALM_ALARM, 0)]

theorem witness_PowerCommands_level :
    (0 : Init).val ∉ [4, 5, 6, 10, 11] ∧ (4 : Init).val ∈ [4, 5, 6, 10, 11] ∧
    (2 : Fin 4).val = State.reset.level ∧ (1 : Fin 4).val ≠ debugHeld.level ∧ debugHalted debugHeld = true ∧
    debugHalted State.reset = false ∧ pwrBusy ((changing false).wr PWR_PERF_TARGET 0) = true ∧ (0 : Fin 4).val ≠ (changing false).level ∧
    pwrBusy (State.reset.wr PWR_PERF_TARGET 3) = false ∧ (3 : Fin 4).val = 3 ∧
    (let s := with0 [(PWR_STAT_LEVEL, 0), (CSH_BUDGET_USED, 384001)]
     (1 : Fin 4).val ≠ s.level ∧ debugHalted s = false ∧ pwrBusy (s.wr PWR_PERF_TARGET 1) = false ∧ levelFits (s.wr PWR_PERF_TARGET 1) 1 = false) ∧
    (let s1 := State.reset.wr PWR_PERF_TARGET 1
     pwrBusy s1 = false ∧ (1 : Fin 4).val < 3 ∧ levelFits s1 1 = true ∧ 1 < s1.level) ∧
    (let s1 := (with0 [(PWR_STAT_LEVEL, 0)]).wr PWR_PERF_TARGET 2
     pwrBusy s1 = false ∧ levelFits s1 2 = true ∧ s1.level < 2) ∧
    State.reset.pwr.change = none ∧ (changing true).pwr.change = some { target := 1, former := 2, awaitVpg := true } ∧
    (0 : Nat) + 6000 ≤ ({ changing true with ticks := 6000 } : State).ticks ∧ (changing true).ticks < 0 + 6000 := by decide +kernel

theorem witness_PowerCommands_state :
    (4 : Init).val ∉ [6, 10, 11] ∧ (11 : Init).val ∈ [6, 10, 11] ∧
    State.reset.pwr.power = powerOf 0 ∧ State.reset.pwr.power ≠ powerOf 1 ∧
    (inPower State.reset .exiting).pwr.power ≠ powerOf 0 ∧ pwrBusy (inPower State.reset .exiting) = true ∧
    pwrBusy (inPower State.reset .keeptime) = false ∧ (inPower State.reset .keeptime).pwr.power ≠ .active ∧
    (inPower State.reset .keeptime).pwr.power ≠ .standby ∧ (inPower State.reset .keeptime).pwr.power ≠ powerOf 3 ∧
    pwrBusy State.reset = false ∧ pwrBusy debugHeld = false ∧ debugHeld.pwr.power = .active ∧ debugHalted debugHeld = true ∧
    pwrBusy wakeActive = false ∧ wakeActive.pwr.power = .active ∧ debugHalted wakeActive = false ∧ (levelSource wakeActive).isSome = true ∧
    levelSource State.reset = none ∧
    (inPower State.reset .standby).pwr.power = .standby ∧ (inPower State.reset .standby).pwr.power ≠ powerOf 0 ∧
    pwrBusy (inPower State.reset .standby) = false := by decide +kernel

theorem witness_PowerCommands_entry :
    levelSource (standbySteps State.reset) = none ∧ levelSource (standbySteps wakeActive) = some 1 := by decide +kernel

/-- The cut-over of KEEPTIME and of DEEP, with and without a source that stands active. -/
theorem witness_PowerCommands_cutover :
    (∀ f, State.reset.pwr.power ≠ .entering 2 f) ∧ (∀ f, State.reset.pwr.power ≠ .entering 3 f) ∧
    (inPower State.reset (.entering 2 false)).pwr.power = .entering 2 false ∧
    (inPower State.reset (.entering 2 false)).pwr.supplied = true ∧
    levelSource (setPower .keeptime PS_ACTIVE (keeptimeBase (inPower State.reset (.entering 2 false)))) = none ∧
    levelSource (setPower .keeptime PS_ACTIVE (keeptimeBase (inPower wakeActive (.entering 2 true)))) = some 1 ∧
    (let k := coldBase true (inPower State.reset (.entering 3 false))
     levelSource { k with pwr := { k.pwr with power := .deep, coreEn := false } } = none) ∧
    (let k := coldBase true (inPower wakeActive (.entering 3 true))
     let d : State := { k with pwr := { k.pwr with power := .deep, coreEn := false } }
     levelSource d = some 1 ∧ d.pwr.supplied = true) := by decide +kernel

/-- The enables of the wakes, met and not met, in each power state. -/
theorem witness_PowerCommands_wakes :
    ¬(State.reset.flag PWR_WAKEEN_WAKE = true ∧ State.reset.flag PWR_WAKECFG_WAKEPOL ≠ State.reset.flag PWR_WAKECFG_WAKEPOL) ∧
    (wakeActive.flag PWR_WAKEEN_WAKE = true ∧ true ≠ wakeActive.flag PWR_WAKECFG_WAKEPOL) ∧ wakeActive.pwr.supplied = true ∧
    (let u : State := { alarmActive0 with pwr := { alarmActive0.pwr with supplied := false } }
     u.flag PWR_WAKEEN_RTC = true ∧ u.rd PWR_RTCALM_ALARM ≤ u.rd PWR_RTC_COUNT ∧ u.pwr.supplied = false ∧ levelSource u = some 2) ∧
    levelSource alarmActive0 = some 2 ∧ alarmActive0.flag PWR_WAKEEN_RTC = true ∧
    alarmActive0.rd PWR_RTCALM_ALARM ≤ alarmActive0.rd PWR_RTC_COUNT ∧ levelSource State.reset = none ∧
    State.reset.flag PWR_WAKEEN_I2C = false ∧ (with0 [(PWR_WAKEEN_I2C, 1)]).flag PWR_WAKEEN_I2C = true ∧
    (let s := with0 [(PWR_WAKEEN_EV0, 1), (PWR_WAKECFG_EV0EDGE, 0)]
     s.flag PWR_WAKEEN_EV0 = true ∧ s.rd PWR_WAKECFG_EV0EDGE = (if false then 1 else 0) ∧
      ¬(2 ≤ s.rd PWR_WAKECFG_EV0EDGE ∨ s.rd PWR_WAKECFG_EV0EDGE = (if true then 1 else 0))) ∧
    (let s := with0 [(PWR_WAKEEN_DBGREQ, 1)]
     s.flag PWR_WAKEEN_DBGREQ = true ∧ otpLcs s ≠ DEPLOYED) ∧
    ([Power.active, .exiting, .standby, .entering 2 false, .keeptime, .deep].map fun p =>
      let s := inPower wakeActive p
      (decide (s.pwr.power = p), s.flag PWR_WAKEEN_WAKE, s.pwr.supplied)) = List.replicate 6 (true, true, true) := by decide +kernel

theorem witness_PowerCommands_supplies : State.reset.pwr.supplied = true ∧ unpowered.pwr.supplied = false := by decide +kernel

/-- Core 0's watchdog counts; VDD_CORE at 720 mV keeps its limits, at 649 mV it is below the floor for the fourth time. -/
def dogOn : State := (with0 [(SAF_WDCFGn_EN 0, 1)]).setDog 0 { counting := true }
def samples (mv : BitVec 16) : Vector (BitVec 16) 6 := #v[mv, 900, 1200, 1800, 1800, 3300]
def fourth : State :=
  { State.reset with saf := { State.reset.saf with floorRun := 3, runs := State.reset.saf.runs.setIfInBounds 0 3 } }

theorem witness_HealthCommands :
    (1 : Init).val ≠ (0 : CoreId).val ∧ (6 : Init).val = (6 : CoreId).val ∧ (State.reset.saf.dogs.getD 6 {}).counting = false ∧
    (dogOn.saf.dogs.getD 0 {}).counting = true ∧ dogOn.flag (SAF_WDCFGn_EN 0) = true ∧ (dogOn.wr (SAF_WDCFGn_EN 0) 0).flag (SAF_WDCFGn_EN 0) = false ∧
    (let last := fun (count : Nat) => (dogOn.wr (KCn_STAT_STATE 0) K_RUN).setDog 0 { counting := true, period := 1, count := count }
     dogDue (last 599) 0 = true ∧ dogDue (last 598) 0 = false ∧ clocked (last 598) 0 = true) ∧
    hostOn State.reset = true ∧ hostOn fourth = true ∧
    hostOn ({ State.reset with pwr := { State.reset.pwr with power := .keeptime } } : State) = false ∧
    (let run := fun (s : State) (mv : BitVec 16) =>
       let each := ((List.range 6).zip ((samples mv).toList.map (·.toNat))).foldl supplySample s
       if (samples mv)[0].toNat < 650 then each.saf.floorRun + 1 else 0
     run State.reset 649 ≠ 4 ∧ run fourth 650 ≠ 4 ∧ run fourth 649 = 4) ∧
    (let bad := fun (s : State) (k m : Nat) => outOfLimits s k m = true ∧ ¬(k = 0 ∧ s.flag PWR_STAT_LEVELBUSY = true)
     (5 : Nat) < 6 ∧ ¬bad State.reset 5 3465 ∧ bad State.reset 5 3466 ∧ State.reset.saf.runs.getD 5 0 + 1 ≠ 4 ∧
      bad fourth 0 679 ∧ ¬bad (fourth.wr PWR_STAT_LEVELBUSY 1) 0 679 ∧ fourth.saf.runs.getD 0 0 + 1 = 4) ∧
    (let hot := fun (s : State) (t : Nat) => s.wr SAF_TEMP_T (t + t * 2 ^ 12 + t * 2 ^ 24 + t * 2 ^ 36)
     (hottest (List.replicate 4 0)).2 < signed 12 ((hot State.reset 0).rd SAF_TLIM_TCRIT) ∧
     signed 12 ((hot State.reset 2047).rd SAF_TLIM_TCRIT) ≤ (hottest (List.replicate 4 2047)).2 ∧
     (((hot State.reset 2047).wr SAF_STAT_TCRIT 1).wr SAF_STAT_THOT 1).flag SAF_STAT_THOT = true) ∧
    (let s3 := (logUnit 0x32 1 0 (2047 * 65536) ((State.reset.wr SAF_TEMP_T (2 ^ 48 / 2 - 1)).wr SAF_STAT_TWARN 1)).wr SAF_STAT_TCRIT 1
     s3.flag SAF_STAT_THOT = false ∧ (s3.wr SAF_CTRL_THERMSTBY 0).flag SAF_CTRL_THERMSTBY = false ∧
      (s3.wr SAF_CTRL_THERMSTBY 1).flag SAF_CTRL_THERMSTBY = true) ∧
    (3 : Init).val ∉ [4, 5, 6] ∧ (5 : Init).val ∈ [4, 5, 6] ∧ (13 : Init).val ≠ 14 ∧ State.reset.rd SVU_DBG_LEVEL = 0 ∧
    (let s := with0 [(SVU_DBG_LEVEL, 1)]
     1 ≤ s.rd SVU_DBG_LEVEL ∧ s.flag DBG_CTRL_TREN = false ∧ (s.typed DBG_CTRL 1#48).flag DBG_CTRL_TREN = true ∧
      (s.wr DBG_CTRL_TREN 1).flag DBG_CTRL_TREN = true) := by decide +kernel
/-! ### Witnesses: the host, the boot, EMP -/

/-- The links SPI, UART0, UART1 and I²C enabled. -/
def linksOn : State := with0 [(HST_CTRL_LINKEN, 15)]
def asleep : State := inPower State.reset .deep

theorem witness_HostCommands :
    (7 : Init).val ≥ 7 ∧ (6 : Init).val < 7 ∧ (2 : Fin 64).val < 3 ∧ 3 ≤ (3 : Fin 64).val ∧
    (let goes := fun (s : State) (v : Nat) => s.flag HST_PCISTAT_MSIXEN = true ∧ s.hst.mask = false ∧ s.flag HST_PCISTAT_BME = true ∧
       vectorMasked s v = false
     ¬goes State.reset 3 ∧ goes ((with0 [(HST_PCISTAT_MSIXEN, 1), (HST_PCISTAT_BME, 1)]).setByte (0x10151000 + 16 * 63 + 12) 1) 63) ∧
    State.reset.wf = true ∧ spiOn State.reset = false ∧ spiOn (with0 [(HST_BOOT_BOOTSEL, 1)]) = true ∧
    (0x9F : Byte).toNat ∉ [0x05, 0x02, 0x0B, 0x42, 0x4B] ∧ (3 : BitVec 10) ∉ [0, 2, 4] ∧
    (9 : Init).val ≠ 10 ∧ (10 : Init).val = 10 ∧ (6 : Init).val = 6 ∧ (5 : Init).val ≠ 6 ∧
    (1 ≤ (4096 : BitVec 13).toNat ∧ (4096 : BitVec 13).toNat ≤ 4096) ∧ ¬(1 ≤ (0 : BitVec 13).toNat ∧ (0 : BitVec 13).toNat ≤ 4096) ∧
    ¬(1 ≤ (4097 : BitVec 13).toNat ∧ (4097 : BitVec 13).toNat ≤ 4096) ∧
    State.reset.flag HST_MBIN_FULL = false ∧ State.reset.flag HST_MBOUT_FULL = false ∧
    (with0 [(HST_MBIN_FULL, 1)]).flag HST_MBIN_FULL = true ∧ (with0 [(HST_MBOUT_FULL, 1)]).flag HST_MBOUT_FULL = true ∧
    hostOn asleep = false ∧ hostOn State.reset = true ∧
    -- answers of BAR0 and of SPI
    (busRead 10 0 4 State.reset).1 = 0 ∧ (busRead 10 0x1FFFFFFC 4 State.reset).1 = DECERR ∧
    (busRead 10 0x05000000 4 (inPower State.reset .standby)).1 ≠ 0 ∧ (busRead 10 0x05000000 4 (inPower State.reset .standby)).1 ≠ DECERR ∧
    (busWrite 11 0 [1] (with0 [(HST_BOOT_BOOTSEL, 1)])).1 = 0 ∧ (busWrite 11 0x1FFFFFFC [1] (with0 [(HST_BOOT_BOOTSEL, 1)])).1 ≠ 0 ∧
    (busRead 11 0xFF (min 4 (256 - 0xFF % 256)) (with0 [(HST_BOOT_BOOTSEL, 1)])).1 = 0 ∧ (busRead 11 0x1FFFFFFC 4 (with0 [(HST_BOOT_BOOTSEL, 1)])).1 ≠ 0 := by decide +kernel

theorem witness_HostCommands_rings :
    rxLevel (with0 [(HST_Lj_RXWP_INDEX 0, 4096)]) 0 = 4096 ∧ rxLevel State.reset 0 ≠ 4096 ∧
    linkOn State.reset 0 = false ∧ linkOn linksOn 0 = true ∧ linkOn State.reset (1 + (1 : Fin 2).val) = false ∧
    linkOn linksOn (1 + (1 : Fin 2).val) = true ∧
    (let s : State := { State.reset with hst := { State.reset.hst with tod := #v[[0x24], []] } }
     s.hst.tod.getD 0 [] = 0x24 :: [] ∧ s.hst.tod.getD 1 [] = []) ∧
    i2cWakes linksOn = false ∧ i2cWakes State.reset = false ∧
    i2cWakes (inPower (with0 [(PWR_WAKEEN_I2C, 1)]) .keeptime) = true ∧ spiOn linksOn = false ∧ spiOn (linksOn.wr HST_BOOT_BOOTSEL 1) = true ∧
    linkOn (linksOn.wr HST_BOOT_BOOTSEL 1) 0 = true ∧ linkOn (with0 [(HST_BOOT_BOOTSEL, 1)]) 0 = false ∧
    txLevel State.reset 2 = 0 ∧ txLevel (linksOn.wr (HST_Lj_TXWP_INDEX 2) 1) 2 ≠ 0 ∧ linkOn State.reset 3 = false ∧ linkOn linksOn 3 = true ∧
    (5 : Init).val ≠ 6 ∧ 96 < (97 : BitVec 7).toNat ∧ (96 : BitVec 7).toNat ≤ 96 ∧
    todDue State.reset State.reset.ticks = false ∧
    (let p := fun (fs : List (Fld × Nat)) => ({ with0 fs with pls := { State.reset.pls with tod := [0] } } : State)
     todDue (p []) (p []).ticks = true ∧ (p []).flag TPE_TODCFG_EN = false ∧
      (p [(TPE_TODCFG_EN, 1)]).flag TPE_TODCFG_EN = true ∧ (p [(TPE_TODCFG_EN, 1)]).flag (HST_TODu_QUEUED 0) = false ∧
      hostOn (p [(TPE_TODCFG_EN, 1)]) = true ∧ (p [(TPE_TODCFG_EN, 1)]).rd TPE_TODCFG_UART = 0 ∧
      (p [(TPE_TODCFG_EN, 1), (HST_TODu_QUEUED 0, 1)]).flag (HST_TODu_QUEUED 0) = true) := by decide +kernel

/-- A character in the ring of UART1, with and without a string that is to start before the next one ends. -/
theorem witness_HostCommands_start :
    startNear (linksOn.wr (HST_Lj_TXWP_INDEX 2) 1) 1 = false ∧
    (let s := given linksOn [(HST_Lj_TXWP_INDEX 1, 1), (TPE_TODCFG_EN, 1), (HST_TODu_QUEUED 0, 1)]
     startNear { s with pls := { s.pls with tod := [1] } } 0 = true) := by decide +kernel

/-- An image of one segment of eight zero bytes at 0, with its hash. -/
def bootImg (dest : Nat) (hash : List Byte) : List Byte :=
  [0x4D, 0x4B, 0x49, 0x4D, 1, 0, 1, 0] ++ toLE 4 0 ++ toLE 4 8 ++ hash ++ List.replicate 16 0 ++ toLE 4 dest ++ toLE 4 8 ++
    List.replicate 256 0
/-- The hash of eight zero bytes. -/
def zeroHash : List Byte := toBE 32 0xaf5570f5a1810b7af78caf4bc70a660f0df51e42baf91d4de5b2328de0e83dfc

/-- An image staged and awaiting its check. -/
def staged (img : List Byte) (bad : Bool) : State :=
  { State.reset with
    mem := (img.zipIdx.filter fun p => p.1 != 0#8).map fun p => (STAGE + p.2, p.1)
    hst := { State.reset.hst with boot := some { len := img.length, src := 2, bad := bad } } }

def causeOf (s : State) : Nat :=
  match s.hst.boot with
  | some b =>
    let r := dmaRead 6 STAGE b.len s
    bootCause r.2.1 b.src (b.bad || r.1 != 0) r.2.2
  | none => 0

theorem witness_BootCommands :
    State.reset.clk.svOut = false ∧ State.reset.rd HST_BOOT_STATUS = BOOT_RUNNING ∧ State.reset.rd HST_BOOT_BOOTSEL = 0 ∧
    ({ State.reset with clk := { State.reset.clk with svOut := true } } : State).clk.svOut = true ∧ State.reset.memc.bootMarch = false ∧
    ({ State.reset with memc := { State.reset.memc with bootMarch := true } } : State).memc.bootMarch = true ∧
    ¬((9 : Init).val = 10 ∨ (9 : Init).val = 11) ∧ bootWaits State.reset = false ∧
    ((11 : Init).val = 10 ∨ (11 : Init).val = 11) ∧ bootWaits (with0 [(HST_BOOT_STATUS, BOOT_WAITHOST)]) = true ∧
    HST_BOOTGO_GO.of 0 ≠ 1 ∧
    ([327, 328, 16777216, 16777217].map fun n =>
      let v := HST_BOOTGO_GO.insert (HST_BOOTGO_LEN.insert 0 n) 1
      (HST_BOOTGO_GO.of v, HST_BOOTGO_LEN.of v)) = [(1, 327), (1, 328), (1, 16777216), (1, 16777217)] ∧
    State.reset.hst.boot = none ∧
    headerFits (bootImg 0 zeroHash) = true ∧ headerFits [] = false ∧ (bootImg 0 []).length ≠ 320 + payLen (bootImg 0 []) ∧
    (bootImg 0 zeroHash).length = 320 + payLen (bootImg 0 zeroHash) ∧
    ((segments (bootImg 0 zeroHash)).all fun x => segmentFits x.1 x.2) = true ∧
    ((segments (bootImg 0x01800000 zeroHash)).all fun x => segmentFits x.1 x.2) = false ∧
    State.reset.hst.nmeaAt ≠ some State.reset.sec ∧ State.reset.pls.tod = [] ∧
    svRuns State.reset = false ∧ svRuns { State.reset with hst := { State.reset.hst with ready := true } } = true := by decide +kernel

/-- The image passes, its hash fails, and it was not read. -/
theorem witness_BootCommands_check :
    causeOf (staged (bootImg 0 zeroHash) false) = 0 ∧ causeOf (staged (bootImg 0 (List.replicate 32 0)) false) = BF_HASH ∧
    causeOf (staged (bootImg 0 zeroHash) true) = BF_MEMORY := by decide +kernel

def svOn : State := { State.reset with hst := { State.reset.hst with ready := true } }
def romListens : State := with0 [(HST_BOOT_STATUS, BOOT_FAIL)]
theorem witness_EmpCommands :
    svRuns State.reset = false ∧ bootListens State.reset = false ∧ bootListens romListens = true ∧ (2 : Fin 5).val = 2 ∧
    svRuns romListens = false ∧ svRuns svOn = true ∧
    (({ svOn with hst := { svOn.hst with await := [(0, (empKey (.pwrLevel 0)).1, 1)] } } : State).hst.await.any
      fun a => a.2.1 == (empKey (.pwrLevel 0)).1) = true ∧
    (svOn.hst.await.any fun a => a.2.1 == (empKey .chainRead).1) = false ∧
    (empDo 0 .chainRead svOn).1.isSome = true ∧ (empDo 0 .sysReset svOn).1 = none ∧
    4082 < (List.replicate 4083 (0 : Byte)).length ∧ (List.replicate 4082 (0 : Byte)).length ≤ 4082 ∧
    0x1000000 < (0x1000000 : BitVec 32).toNat + 1 ∧ (0xFFFFFF : BitVec 32).toNat + [(0 : Byte)].length ≤ 0x1000000 ∧
    (dmaWrite 6 (STAGE + 0) [1] (stageProtect romListens)).1 = 0 := by decide +kernel

/-- A step of 0 is accepted and one of 1 ps before the time is set refused. -/
theorem witness_EmpCommands_step :
    (let w := fun (v : Word) => svWrites [(TB_STEP, v.toNat), (TB_CMD, (TB_CMD_STEP.insert 0 1).toNat)] svOn
     (w 0).1 = 0 ∧ (w 0).2.rd TB_COUNT_REFUSED = svOn.rd TB_COUNT_REFUSED ∧
     (w 1).1 = 0 ∧ (w 1).2.rd TB_COUNT_REFUSED ≠ svOn.rd TB_COUNT_REFUSED) := by decide +kernel

/-- A whole frame of CFG GET, the same with a spoilt CRC, and its first bytes. -/
def goodFrame : List Byte := empBytes 2 0 [0]
def badFrame : List Byte := goodFrame.set 10 ((goodFrame.getD 10 0) + 1)

/-- Bytes in the mailbox, and in the ring of SPI, of a device whose firmware runs. -/
def mailed (bs : List Byte) : State := ((svOn.wr HST_MBIN_FULL 1).wr HST_MBIN_LEN bs.length).setBytes 0x10152000 bs
def ringed (bs : List Byte) : State :=
  ((svOn.wr HST_CTRL_LINKEN 15).wr (HST_Lj_RXWP_INDEX 0) bs.length).setBytes (svOn.rd (HST_Lj_RXBASE_BASE 0) * 4096) bs
def mailRead (s : State) : List Byte :=
  let frame := (busRead 6 0x10152000 (s.rd HST_MBIN_LEN) s).2.1
  frame.drop (huntLen frame)
def ringRead (s : State) : List Byte :=
  let r := ringBytes 0 (rxLevel s 0) 0 s
  (skipJunk 0 r.1 r.2).1

theorem witness_EmpCommands_frames :
    served State.reset 0 = false ∧ served svOn 0 = true ∧ svOn.flag HST_MBIN_FULL = false ∧
    served (mailed goodFrame) 0 = true ∧ (mailed goodFrame).flag HST_MBIN_FULL = true ∧
    parseFrame (mailRead (mailed goodFrame)) = .whole 2 0 1 ∧ parseFrame (mailRead (mailed badFrame)) = .bad ∧
    parseFrame (mailRead (mailed (goodFrame.take 5))) = .partly ∧
    served (ringed goodFrame) 1 = true ∧ (0 : Nat) + 1 = (1 : Fin 5).val ∧
    (ringRead (ringed (1 :: goodFrame))).take 2 = [0xE7#8, 0x4B#8] ∧ parseFrame (ringRead (ringed goodFrame)) = .whole 2 0 1 ∧
    (ringRead (ringed badFrame)).take 2 = [0xE7#8, 0x4B#8] ∧ parseFrame (ringRead (ringed badFrame)) = .bad ∧
    (ringRead (ringed (goodFrame.take 5))).take 2 = [0xE7#8, 0x4B#8] ∧ parseFrame (ringRead (ringed (goodFrame.take 5))) = .partly ∧
    (ringRead (ringed (goodFrame.take 5))).head? = some 0xE7#8 ∧ (ringRead (ringed [1, 2])).take 2 ≠ [0xE7#8, 0x4B#8] ∧
    (ringRead (ringed [1, 2])).head? = none ∧
    (63 : Nat) < 64 ∧ empDefined 2 3 = false ∧ empDefined 2 2 = true ∧ empKey (.cfgGet 0) = (2, 0) := by decide +kernel
/-! ### Witnesses: conditioners, heads, channels -/

def aTag : Tag := { slate := 0, fcnt := 0, nsamp := 0 }
def aFrame (fmt : Nat) : StreamFrame := { tag := aTag, mode := none, rate := 0, fmt := fmt, area := [] }
def inputs (l : List StreamItem) : State := State.reset.setStream 127 { State.reset.stream 127 with input := l }
def condWith (f : CondState → CondState) : State := State.reset.setCond 127 (f (State.reset.cond 127))

theorem witness_ConditionerCommands :
    ((condWith fun c => { c with cur := some ⟨aTag, none, 0, [], [], [], []⟩ }).cond 127).cur.isSome = true ∧
    (State.reset.cond 127).cur = none ∧ (State.reset.stream 127).input = [] ∧
    ((inputs [.ends 3]).stream 127).input = .ends 3 :: [] ∧ ((inputs [.frame (aFrame 1)]).stream 127).input = .frame (aFrame 1) :: [] ∧
    (aFrame 1).fmt ≠ 0 ∧ ((inputs [.frame (aFrame 0), .frame (aFrame 0)]).stream 127).input = .frame (aFrame 0) :: .frame (aFrame 0) :: [] ∧
    ((inputs [.frame (aFrame 0), .ends 3]).stream 127).input = .frame (aFrame 0) :: .ends 3 :: [] ∧
    ((inputs [.frame (aFrame 0)]).stream 127).input = [.frame (aFrame 0)] ∧ (aFrame 0).fmt = 0 ∧
    ((condWith fun c => { c with blockLen := 1024 }).cond 127).blockLen = 1024 ∧
    ((condWith fun c => { c with blockLen := 1023 }).cond 127).blockLen < 1024 ∧
    1024 ≤ ((condWith fun c => { c with notchLen := 1024 }).cond 127).notchLen ∧
    (let s := condWith fun c => { c with agcLen := 1024 }
     1024 ≤ (s.cond 127).agcLen ∧ (s.wr (CNDn_CTRL_AGCMODE 127) 1).rd (CNDn_CTRL_AGCMODE 127) ≠ 0 ∧
      (s.wr (CNDn_CTRL_AGCMODE 127) 0).rd (CNDn_CTRL_AGCMODE 127) = 0) ∧ State.reset.wf = true := by decide +kernel

/-- Head 31 with its link up and its back-channel on, in a state. -/
def headIn (st : Nat) : State := with0 [(SPn_STAT_LINK_UP 31, 1), (SPn_CTRL_BCEN 31, 1), (FECn_STAT_STATE 31, st)]

theorem witness_HeadOperations :
    (∀ op ∈ [K_START, K_BANDCHG, K_REFORMAT, K_GAIN, K_STOP, K_RESTART, K_TLMPAGE, K_HEADRESET],
      opBusy State.reset 31 op 0 = true) ∧
    opBusy (headIn H_IDLE) 31 K_START 0 = false ∧ opBusy (headIn H_RUN) 31 K_BANDCHG 0 = false ∧
    opBusy (headIn H_RUN) 31 K_REFORMAT 0 = false ∧ opBusy (headIn H_SETTLE) 31 K_GAIN 0 = false ∧
    opBusy (headIn H_CAL) 31 K_STOP 0 = false ∧ opBusy (headIn H_FAULT) 31 K_RESTART 0 = false ∧
    opBusy (headIn H_IDLE) 31 K_TLMPAGE 255 = false ∧ opBusy (headIn H_CAL) 31 K_HEADRESET 0 = false ∧
    reformatFits (headIn H_RUN) 31 = true ∧ (headIn H_RUN).flag (SPn_SLOTMASK_CHG_PEND 31) = false ∧
    (let s := (headIn H_RUN).wr (SPn_SLOTMASK_CHG_PEND 31) 1
     reformatFits s 31 = true ∧ s.flag (SPn_SLOTMASK_CHG_PEND 31) = true ∧ opBusy s 31 K_REFORMAT 0 = false) ∧
    (let s := (headIn H_RUN).wr (SPn_SLOTMASK_ACTIVE 31) 15
     reformatFits s 31 = false ∧ opBusy s 31 K_REFORMAT 0 = false) := by decide +kernel

def headWith (st : Nat) (f : HeadState → HeadState) : State := (headIn st).setHead 31 (f ((headIn st).head 31))

theorem witness_HeadEvents :
    (let s := headWith H_CONFIG fun h => { h with out := some ⟨1, OP_CONFIG, 0, 0⟩, resends := 0 }
     cmdDue s 31 (max (s.rd (FECn_CTRL_CMDTO 31)) 1 * 9375) = true ∧
      (s.head 31).resends < (s.wr (FECn_CTRL_RETRY 31) 1).rd (FECn_CTRL_RETRY 31) ∧
      (s.wr (FECn_CTRL_RETRY 31) 0).rd (FECn_CTRL_RETRY 31) ≤ (s.head 31).resends) ∧
    (let s := headWith H_CAL fun h => { h with since := some 0 }
     (s.head 31).since = some 0 ∧ s.headState 31 = H_CAL ∧ (s.head 31).calAgain = false) ∧
    ((headWith H_CAL fun h => { h with calAgain := true }).head 31).calAgain = true ∧
    (let s := headWith H_SETTLE fun h => { h with since := some 0 }
     (s.head 31).since = some 0 ∧ s.headState 31 = H_SETTLE ∧ stopWaits s 31 = false) ∧
    (let x : HeldCmd := { kind := 0, id := 5 }
     ((headWith H_CAL fun h => { h with held := [x] }).head 31).held = x :: []) ∧
    routeBusy (with0 [(SEk_STAT_STATE 3, SE_HELD)]) 3 = true ∧ routeBusy (with0 [(REELk_STAT_STATE 7, REEL_RUN)]) 11 = true ∧
    routeBusy State.reset 11 = false := by decide +kernel

theorem witness_HeadEntersState : State.reset.wf = true ∧ (H_SETTLE = H_CONFIG ∨ H_SETTLE = H_CAL ∨ H_SETTLE = H_SETTLE) ∧
    (3 : Nat) < 4 ∧ (7 : Nat) < 8 ∧ (State.reset.head 31).held = [] := by decide +kernel

theorem witness_SchedulerCommands :
    cshPortOf 4 4 = true ∧ State.reset.ca.cmds = [] ∧
    (State.reset.ca.rsps.getD 4 []).length + State.reset.ca.reserved.getD 4 0 < 16 ∧
    (let s : State := { State.reset with ca := { State.reset.ca with cmds := List.replicate 16 ⟨4, 0⟩ } }
     16 ≤ (s.ca.cmds.filter fun x => x.port == 4).length ∧ ((s.ca.cmds.drop 1).filter fun x => x.port == 4).length < 16) ∧
    cshPortOf 4 5 = false := by decide +kernel

/-- A channel context that meets its rules: GPS L1 C/A, PRN 1, on stream 0; `mode` is STARTMODE. -/
def withCtx (s : State) (mode : Nat) : State :=
  (((s.setCtx 0 0 (2 ^ 48 * mode + 2 ^ 32 + 2 ^ 24)).setCtx 0 1 (1023 * 2 ^ 24 + 2 ^ 8)).setCtx 0 3 1)
def onStream (st : Nat) : State := with0 [(FECn_STAT_STATE 0, st), (SPn_SLOTMASK_ACTIVE 0, 1), (SPn_STAT_LINK_UP 0, 1)]
def ctxReady : State := withCtx (onStream 4) 0
/-- The charge of that channel. -/
def charge0 (s : State) : Nat := (8 >>> streamRate s (s.cfg 0).stream) * tapsEff (s.cfg 0).taps

theorem witness_StartChecks :
    bits 0 11 0 = 0 ∧ chanState (State.reset.setChanState 0 HELD) 0 ≠ FREE ∧ chanState (State.reset.setChanState 0 HELD) 0 ≠ STOPPED ∧
    chanState State.reset 0 = FREE ∧ chanState (State.reset.setChanState 0 STOPPED) 0 = STOPPED ∧ ctxOk State.reset 0 = false ∧
    (let s := withCtx State.reset 0
     ctxOk s 0 = true ∧ chanState s 0 = FREE ∧ streamReady s (s.cfg 0).stream = false ∧ headHolds s (s.cfg 0).stream = false) ∧
    (let s := withCtx (onStream 3) 0
     ctxOk s 0 = true ∧ streamReady s (s.cfg 0).stream = false ∧ headHolds s (s.cfg 0).stream = true) ∧
    ctxOk ctxReady 0 = true ∧ streamReady ctxReady (ctxReady.cfg 0).stream = true ∧
    clapHolds (ctxReady.wr (SPn_STAT_CLAP_HELD 0) 1) (ctxReady.cfg 0).stream = true ∧ clapHolds ctxReady (ctxReady.cfg 0).stream = false ∧
    (let s : State := { withCtx (onStream 4) 1 with tb := { State.reset.tb with now := 1 } }
     (s.cfg 0).startMode = 1 ∧ (s.ctx 0 7 % 2 ^ 48) * 2 ^ 96 + (s.ctx 0 6 % 2 ^ 48) * 2 ^ 48 < s.tb.now ∧ ctxOk s 0 = true ∧
      streamReady s (s.cfg 0).stream = true ∧ clapHolds s (s.cfg 0).stream = false) ∧
    (ctxReady.cfg 0).startMode = 0 ∧
    ctxReady.rd CSH_BUDGET_USED + charge0 ctxReady ≤ ctxReady.rd CSH_BUDGET_LIMIT ∧
    (let s := ctxReady.wr CSH_BUDGET_USED (ctxReady.rd CSH_BUDGET_LIMIT - charge0 ctxReady + 1)
     s.rd CSH_BUDGET_LIMIT < s.rd CSH_BUDGET_USED + charge0 s) ∧
    findEngine ctxReady (charge0 ctxReady) = some 0 ∧
    chanState (State.reset.setChanState 0 ACTIVE) 0 = ACTIVE ∧ chanState (State.reset.setChanState 0 HELD) 0 = HELD ∧
    chanState State.reset 0 ≠ ACTIVE ∧ chanState State.reset 0 ≠ HELD := by decide +kernel

/-- Every engine full. -/
theorem witness_StartChecks_full :
    (let s := given ctxReady ((List.range 128).map fun e => (CA_ENGe_CONTEXTS e, 32))
     findEngine s (charge0 s) = none ∧ clapHolds s (s.cfg 0).stream = false ∧ ctxOk s 0 = true ∧
      streamReady s (s.cfg 0).stream = true ∧ s.rd CSH_BUDGET_USED + charge0 s ≤ s.rd CSH_BUDGET_LIMIT) := by decide +kernel

/-- Channel 0 is ACTIVE and names ring 0. -/
def active0 : State := ((ctxReady.setChanState 0 ACTIVE).setChan 0 { next := some 0, charge := 1 })
def aid0 (hdr : Nat) : AidRec := ⟨hdr, 0, 0, 0, 0⟩
def aided (n hdr : Nat) (s : State) : State :=
  { s with ca := { s.ca with aids := s.ca.aids.setIfInBounds 6 (List.replicate n (aid0 hdr)) } }

theorem witness_ArrayCommands :
    chanState State.reset 0 ≠ ACTIVE ∧ chanState active0 0 = ACTIVE ∧ ((findFirst 0 active0).chan 0).next = some 0 ∧
    ((findFirst 0 active0).chan 0).endAt = none ∧
    (let s := with0 [(CA_RINGk_DB_TO 3, 1), (CA_RINGk_WP_WP 3, 1)]
     ringWaited s 3 600 = true ∧ ringWaited s 3 599 = false) ∧
    ringLevel State.reset 3 = 0 ∧ (with0 [(CA_RINGk_DB_TO 3, 0)]).rd (CA_RINGk_DB_TO 3) = 0 ∧
    (let s := with0 [(CA_RINGk_WP_WP 3, 4097)]
     let left := fun (v : Word) => (s.rd (CA_RINGk_WP_WP 3) + 65536 - v.toNat % 65536) % 65536
     4096 < left 0 ∧ left 1 ≤ 4096 ∧ 4096 < left 4098) ∧
    (let bad := fun (s : State) (v : Word) => v.toNat % 128 ≠ 0 ∨ 0x01800000 ≤ v.toNat % 2 ^ 32 ∨ ringNamed s 0 = true
     bad State.reset 127 ∧ bad State.reset 0x01800000 ∧ bad active0 0 ∧ ¬bad State.reset 0x017FFF80) ∧
    (let s := traceInit 4 0x04000000 true State.reset
     accessCause s 4 0x04000000 8 false true = 0) ∧
    (let s := traceInit 4 0x04000000 true active0
     accessCause s 4 0x04000000 8 false true = CTX_LOCKED) ∧
    bits 0 19 19 = 0 ∧ (bits (2 ^ 19 + 101 * 2 ^ 24) 19 19 = 1 ∧ ¬(1 ≤ bits (2 ^ 19 + 101 * 2 ^ 24) 30 24 ∧ bits (2 ^ 19 + 101 * 2 ^ 24) 30 24 ≤ 100)) ∧
    State.reset.ca.aids.getD 6 [] = [] ∧ (5 : Init) ≠ (6 : CoreId).val ∧ (6 : Init) = (6 : CoreId).val ∧ 64 ≤ ((aided 64 0 State.reset).ca.aids.getD 6 []).length ∧
    ((aided 63 0 State.reset).ca.aids.getD 6 []).length < 64 ∧ (aided 1 0 State.reset).ca.aids.getD 6 [] = aid0 0 :: [] ∧
    chanState ((aided 0 0 active0).wr (CA_AIDi_STAT_LEVEL 6) 0) (bits (aid0 0).hdr 11 0) = ACTIVE ∧
    chanState ((aided 0 0 State.reset).wr (CA_AIDi_STAT_LEVEL 6) 0) (bits (aid0 0).hdr 11 0) ≠ ACTIVE := by decide +kernel

theorem witness_ArrayCommands_codes :
    (let s := traceInit 4 0x05800000 true State.reset
     accessCause s 4 0x05800000 8 false true = 0) ∧
    (let s := traceInit 4 0x05800000 true (State.reset.wr (CGN_USEi_USE 0) 1)
     accessCause s 4 0x05800000 8 false true = CODE_LOCKED) ∧
    (with0 [(CGN_CRCRES_BUSY, 1)]).flag CGN_CRCRES_BUSY = true ∧ 255 < (255 : Fin 256).val + (1 : Fin 256).val ∧
    State.reset.flag CGN_CRCRES_BUSY = false ∧ (255 : Fin 256).val + (0 : Fin 256).val ≤ 255 ∧
    State.reset.cgn.check = none ∧
    ({ State.reset with cgn := { State.reset.cgn with check := some (0, 0) } } : State).cgn.check = some (0, 0) := by decide +kernel
/-! ### Witnesses: the search engine and Reel -/

/-- A plan of one spectrum: NNC 1, TCOH 1 ms, DSEL 4, N = 8,192, RLAGS 1, accumulators at 0; its words at 0x1000. -/
def planWords : List Nat := [1 + 2 ^ 8 * 13 + 2 ^ 13 * 4 + 2 ^ 16 + 2 ^ 32, 1, 0, 0, 0, 0, 0, 0, 1, 0, 0, 0, 0, 0, 0, 0]
def planned (st : Nat) : State :=
  ((given (with0 [(SEk_BASE_BASE 3, 64), (BRT_SEk_EN 3, 1)])
    [(FECn_STAT_STATE 0, st), (SPn_SLOTMASK_ACTIVE 0, 1), (SPn_STAT_LINK_UP 0, 1)])).setBytes 0x1000 (planWords.map (toLE 8)).flatten

/-- A plan held by a slot, with one spectrum at `base`; NNC is `nnc`. -/
def heldPlan (base nnc : Nat) : Plan :=
  { tag := 0, startMode := 0, nnc := nnc, tcoh := 1, dsel := 4, nlog := 0, rlags := 1, start := 0,
    descs := [{ kind := 1, psh := 0, excl := 0, codeLen := 0, codeId := 0, cgMode := 0, subc := 0, chipRate := 0, codePh0 := 0,
                dop0 := 0, fofs := 0, ndop := 1, dstep := 0, accBase := base }] }
def searching (st : Nat) (sl : SearchSlot) : State := (with0 [(SEk_STAT_STATE 3, st)]).setSlot 3 sl
def tapFrame : TapFrame := ⟨aTag, 0, [⟨⟨1, 1, false⟩, 0, 0⟩]⟩

theorem witness_SearchCommands :
    (with0 [(SEk_STAT_STATE 3, SE_WAIT)]).rd (SEk_STAT_STATE 3) ≠ SE_IDLE ∧ State.reset.rd (SEk_STAT_STATE 3) = SE_IDLE ∧
    State.reset.flag (BRT_SEk_EN 3) = false ∧
    (let s := with0 [(BRT_SEk_EN 3, 1)]
     let w := (readPlan (s.rd (SEk_BASE_BASE 3) * 64) s).1
     s.rd (SEk_STAT_STATE 3) = SE_IDLE ∧ s.flag (BRT_SEk_EN 3) = true ∧ planFault w (planOf w) (streamRate s 0) = some 0xFF) ∧
    (∀ p ∈ [(4, true, false), (3, false, true), (0, false, false)],
      let s := planned p.1
      let n := s.rd (BRT_SEk_STREAM 3)
      let r := readPlan (s.rd (SEk_BASE_BASE 3) * 64) s
      s.rd (SEk_STAT_STATE 3) = SE_IDLE ∧ s.flag (BRT_SEk_EN 3) = true ∧ planFault r.1 (planOf r.1) (streamRate s n) = none ∧
      streamReady r.2 n = p.2.1 ∧ headHolds r.2 n = p.2.2) ∧
    (with0 [(SEk_STAT_STATE 3, SE_WAIT)]).rd (SEk_STAT_STATE 3) ≠ SE_HELD := by decide +kernel

theorem witness_SearchCommands_blocks :
    (let s := searching SE_WAIT { plan := some (heldPlan 0 1), inbox := [tapFrame] }
     (s.slot 3).plan = some (heldPlan 0 1) ∧ s.rd (SEk_STAT_STATE 3) = SE_WAIT ∧ (heldPlan 0 1).startMode = 0 ∧
      (s.slot 3).inbox.isEmpty = false ∧ fromInstant 0 (s.slot 3).inbox = some [tapFrame]) ∧
    (let s := searching SE_RUN { plan := some { heldPlan 0 1 with nlog := 13 }, total := 3841 }
     seTurn s 3 = true ∧ seTurn (s.setSlot 2 { busy := some 0 }) 3 = false ∧ sePaused s = false ∧
      sePaused (s.wr PWR_STAT_LEVELBUSY 1) = true ∧ (seQualifies s 3).isSome = true ∧
      seQualifies (s.setSlot 3 { plan := some { heldPlan 0 1 with nlog := 13 } }) 3 = none) ∧
    (let s := searching SE_RUN { plan := some (heldPlan 0 1) }
     65536 < (heldPlan 0 1).n + otherN ((s.wr (SEk_STAT_STATE 2) SE_RUN).setSlot 2 { plan := some { heldPlan 0 1 with nlog := 16 } }) 3 ∧
      (heldPlan 0 1).n + otherN s 3 ≤ 65536 ∧
      (let p := { heldPlan 0 1 with startMode := 1 }
       p.startMode = 1 ∧ p.start * 2 ^ 48 < s.tb.now + 8 * s.rate)) ∧
    (∀ p ∈ [(0x1000, 1, false), (0x1000, 2, false), (0x07000000, 1, true)],
      let pl := heldPlan p.1 p.2.1
      let s := searching SE_RUN { plan := some pl, busy := some 0 }
      (s.slot 3).plan = some pl ∧ (s.slot 3).busy = some 0 ∧ (accBlock (s.rd (SEk_PROG_NSUM 3) == 0) s.freeCount pl (s.slot 3) 0
        { s with freeCount := s.freeCount + 1 }).1 = p.2.2 ∧ (s.count (SEk_PROG_NSUM 3)).rd (SEk_PROG_NSUM 3) = 1) ∧
    (let s := with0 [(SE_RPTDB_TO, 1), (SE_RPTWP_WP, 1)]
     rptWaited s 600 = true ∧ rptWaited s 599 = false) := by decide +kernel

def reelIn (st : Nat) (fs : List (Fld × Nat)) : State :=
  given (with0 [(BRT_REELk_EN 7, 1), (REELk_STAT_STATE 7, REEL_IDLE), (REELk_LEN_LEN 7, 1)])
    ([(FECn_STAT_STATE 0, st), (SPn_SLOTMASK_ACTIVE 0, 1), (SPn_STAT_LINK_UP 0, 1)] ++ fs)

theorem witness_ReelCommands :
    (let s := with0 [(REELk_STAT_STATE 7, REEL_RUN)]
     s.rd (REELk_STAT_STATE 7) ≠ REEL_IDLE ∧ s.rd (REELk_STAT_STATE 7) ≠ REEL_DONE ∧ s.rd (REELk_STAT_STATE 7) = REEL_RUN ∧
      s.rd (REELk_STAT_STATE 7) ≠ REEL_ARMED) ∧
    State.reset.rd (REELk_STAT_STATE 7) = REEL_IDLE ∧ State.reset.flag (BRT_REELk_EN 7) = false ∧
    (let bad := fun (s : State) => s.rd (REELk_LEN_LEN 7) = 0 ∨
       0x01800000 < s.rd (REELk_BASE_BASE 7) * 64 + (3 + s.rd (REELk_CTRL_PACK 7)) * s.rd (REELk_LEN_LEN 7)
     bad (reelIn 0 [(REELk_LEN_LEN 7, 0)]) ∧ ¬bad (reelIn 0 []) ∧ ¬bad (reelIn 3 []) ∧ ¬bad (reelIn 4 []) ∧
      bad (reelIn 0 [(REELk_LEN_LEN 7, 0x01800000 / 3 + 1)])) ∧
    streamReady (reelIn 0 []) 0 = false ∧ headHolds (reelIn 0 []) 0 = false ∧
    streamReady (reelIn 3 []) 0 = false ∧ headHolds (reelIn 3 []) 0 = true ∧
    streamReady (reelIn 4 []) 0 = true ∧ reelPast (reelIn 4 []) 7 = false ∧ reelPast (reelIn 4 [(REELk_CTRL_TRIG 7, 1)]) 7 = true ∧
    (reelIn 4 []).rd (BRT_REELk_STREAM 7) = 0 ∧ (reelIn 4 []).flag (BRT_REELk_EN 7) = true ∧
    (let s := (with0 [(REELk_STAT_STATE 7, REEL_ARMED)]).setReel 7 { inbox := [tapFrame] }
     s.rd (REELk_STAT_STATE 7) = REEL_ARMED ∧ reelTrig s 7 = 0 ∧ (s.reel 7).inbox.isEmpty = false) ∧
    (with0 [(REELk_STAT_STATE 7, REEL_HELD)]).rd (REELk_STAT_STATE 7) = REEL_HELD := by decide +kernel

/-! ### Witnesses: time, pulses, captures -/

/-- Initiator 6 owns the time base; the time is set. -/
def owned (fs : List (Fld × Nat)) : State := given (with0 [(TB_OWNERS_MASK, 2 ^ 6)]) fs
def timed (fs : List (Fld × Nat)) : State := owned ((TB_STAT_TIMESET, 1) :: fs)

theorem witness_TimeBaseCommands :
    (with0 [(TB_OWNERS_MASK, 2 ^ 6)]).bit TB_OWNERS_MASK 5 = false ∧ (owned []).bit TB_OWNERS_MASK 6 = true ∧
    (timed []).flag TB_STAT_TIMESET = true ∧ (owned []).flag TB_STAT_TIMESET = false ∧ (owned []).tb.load = none ∧
    ({ owned [] with tb := { (owned []).tb with load := some 0 } } : State).tb.load.isSome = true ∧
    (let ahead := fun (s : State) => (s.stamp TB_LOADSEC TB_LOADFRAC * 2 ^ 48 : Nat) - (s.tb.now : Int)
     ahead (owned []) < (8 * (owned []).rate : Nat) ∧
     ((8 * (owned []).rate : Nat) : Int) ≤ ahead ((owned []).setReg TB_LOADSEC 1)) ∧
    (owned []).rdS TB_STEP_STEP = 0 ∧ (owned [(TB_STEP_STEP, 1)]).rdS TB_STEP_STEP ≠ 0 ∧
    (timed [(TB_STEP_STEP, 2 ^ 48 - 1)]).rdS TB_STEP_STEP < 0 ∧
    (let limit := fun (s : State) => min (s.rd TB_STEPLIM_LIMIT) (10 ^ 12)
     (limit (timed [(TB_STEPLIM_LIMIT, 5), (TB_STEP_STEP, 6)]) : Int) < (timed [(TB_STEPLIM_LIMIT, 5), (TB_STEP_STEP, 6)]).rdS TB_STEP_STEP ∧
     (let s := timed [(TB_STEPLIM_LIMIT, 5), (TB_STEP_STEP, 5)]
      s.rdS TB_STEP_STEP = (5 : Nat) ∧ 5 ≤ limit s ∧ 5 + windowSum (s.ticks + 4) s.tb.history ≤ limit s ∧
       limit s < 5 + windowSum (s.ticks + 4) [⟨s.ticks + 4, 1⟩])) ∧
    (timed [(TB_SLEWRATE_RATE, 0)]).rd TB_SLEWRATE_RATE = 0 ∧
    (let s := timed [(TB_SLEWRATE_RATE, 1), (TB_SLEW_AMOUNT, 1)]
     s.rd TB_SLEWRATE_RATE ≠ 0 ∧ s.rdS TB_SLEW_AMOUNT ≠ 0 ∧ s.rd TB_SLEWRATE_RATE ≤ s.slewLimit ∧
      (s.wr TB_SLEW_AMOUNT 0).rdS TB_SLEW_AMOUNT = 0) ∧
    (let s := timed [(TB_SLEWRATE_RATE, 256001), (TB_SLEW_AMOUNT, 1)]
     s.slewLimit < s.rd TB_SLEWRATE_RATE ∧ s.wf = true) ∧
    (14073748835 : Int) < signed 48 (14073748836#48).toNat ∧ signed 48 (14073748835#48).toNat ≤ 14073748835 ∧
    signed 48 ((-14073748836 : BitVec 48)).toNat < -14073748835 ∧ -14073748835 ≤ signed 48 ((-14073748835 : BitVec 48)).toNat := by
  decide +kernel

def tbWith (f : TimeState → TimeState) : State := { State.reset with tb := f State.reset.tb }

theorem witness_TickCommands :
    unpowered.pwr.supplied = false ∧ State.reset.pwr.supplied = true ∧ asleep.pwr.supplied = true ∧ asleep.pwr.power = .deep ∧
    State.reset.pwr.power ≠ .deep ∧
    loadDue (tbWith fun t => { t with load := some 0 }) = true ∧ loadDue State.reset = false ∧
    stepDue (tbWith fun t => { t with steps := [⟨1, 0⟩] }) = true ∧ stepDue State.reset = false ∧
    slewDue (tbWith fun t => { t with slew := some ⟨1, 0⟩ }) = true ∧ slewDue State.reset = false ∧
    rampDue { (with0 [(TB_FREQ_FREQ, 1), (TB_STAT_RAMPING, 1)]) with tb := { State.reset.tb with rampLeft := 1 } } = true ∧ rampDue State.reset = false ∧
    leapDue State.reset = false ∧
    leapDue { with0 [(TB_UTCOFS_PEND, 1), (TB_LEAPSEC_SEC, 1)] with tb := { State.reset.tb with now := 2 ^ 96 - 1 } } = true ∧ switchDue State.reset = false ∧ switchDue (with0 [(CLK_STAT_STATE, C_SWITCH)]) = true ∧
    tbRuns State.reset = true ∧ leadingDue (with0 [(TPGn_STAT_STATE 15, T_ARMED), (SAF_STAT_CLKFAULT, 0)]) 15 = true ∧ leadingDue State.reset 15 = false ∧
    trailingDue ((with0 [(SAF_STAT_CLKFAULT, 0)]).setTpg 15 { trail := some 0, notBefore := 0 }) 15 = true ∧ trailingDue State.reset 15 = false ∧
    segmentDue State.reset 3 = false ∧ segmentDue ((with0 [(OSYn_CTRL_EN 3, 1), (OSYn_RAMPCTRL_STATE 3, 1)]).setOsy 3 { left := 1 }) 3 = true ∧
    (let s := { State.reset with pls := { State.reset.pls with tod := [1] } }
     todDue s (s.ticks + 1) = true ∧ todDue State.reset 1 = false) ∧
    (let s := State.reset.setEvc 7 { State.reset.evc 7 with cand := some ⟨0, 0, 0, false, false, false⟩ }
     filterDue s 7 4 = true ∧ filterDue s 7 3 = false) ∧
    (let s := { with0 [(EVCn_CTRL_EN 7, 1), (EVCn_CTRL_RANGEEN 7, 1), (EVCn_EXPSEC_SEC 7, 0)] with
       tb := { State.reset.tb with now := 1000 * 2 ^ 96 / 10 ^ 9 } }
     missDue s 7 = true ∧ missDue State.reset 7 = false) ∧
    dogDue ((with0 [(SAF_WDCFGn_EN 6, 1)]).setDog 6 { counting := true, period := 1, count := 599 }) 6 = true ∧ dogDue State.reset 6 = false ∧
    hostOn State.reset = true ∧ (with0 [(KCn_TIMER_COUNT 6, 1)]).rd (KCn_TIMER_COUNT 6) = 1 ∧
    State.reset.rd (KCn_TIMER_COUNT 6) ≠ 1 := by decide +kernel

theorem witness_TimeBaseAdvances : State.reset.wf = true ∧ State.reset.tb.load = none ∧ State.reset.tb.slew = none ∧
    State.reset.tb.slewNext = none ∧ State.reset.tb.refSwitch = false ∧
    State.reset.rdS TB_FREQ_FREQ = State.reset.rdS TB_FREQNOW_FREQ := by decide +kernel

/-- Initiator 4 owns generator 15 and capture unit 7. -/
def ownsTpg (fs : List (Fld × Nat)) : State :=
  given (with0 [(ownedFld (tpgUnit 15), 1), (ownerFld (tpgUnit 15), 4), (ownedFld (evcUnit 7), 1), (ownerFld (evcUnit 7), 4)]) fs
/-- Its width is 2^-8 s and its period half a second. -/
def widthOk : List (Fld × Nat) := [(TPGn_WIDTH_FRAC 15, 2 ^ 40), (TPGn_PERFRAC_FRAC 15, 2 ^ 47)]

theorem witness_PulseCommands :
    ¬ownerOf State.reset (tpgUnit 15) = some (4 : Init).val ∧ ownerOf (ownsTpg []) (tpgUnit 15) = some (4 : Init).val ∧
    (ownsTpg [(TPGn_STAT_STATE 15, T_ARMED)]).rd (TPGn_STAT_STATE 15) = T_ARMED ∧ (ownsTpg []).rd (TPGn_STAT_STATE 15) ≠ T_ARMED ∧
    tpgConfigOk (ownsTpg [(TPGn_WIDTH_FRAC 15, 0)]) 15 = false ∧ tpgConfigOk (ownsTpg widthOk) 15 = true ∧
    State.reset.tb.stepped = none ∧
    (let soon := fun (s : State) => (armNow s + (8 * s.rate : Nat) : Int)
     let s1 := fun (s : State) => s.setTpg 15 { s.tpg 15 with path := s.rd (TPGn_PATH_PATH 15) }
     let late := ownsTpg widthOk
     let ahead := late.setReg (TPGn_TGTSEC 15) 1
     firing (s1 late) 15 (tpgTarget late 15) < soon late ∧ soon ahead ≤ firing (s1 ahead) 15 (tpgTarget ahead 15) ∧
     isTrain late 15 = false ∧ isTrain (late.wr (TPGn_CTRL_MODE 15) 1) 15 = true ∧
     tpgConfigOk (late.wr (TPGn_CTRL_MODE 15) 1) 15 = true) ∧
    (((ownsTpg []).setTpg 15 { trail := some 0 }).tpg 15).trail.isSome = true ∧ ((ownsTpg []).tpg 15).trail = none := by decide +kernel

theorem witness_LeadingEdge : State.reset.wf = true ∧ isTrain State.reset 15 = false ∧
    (let s := with0 [(TPE_TODCFG_EN, 1), (TPE_TODCFG_TPG, 15)]
     s.wf = true ∧ isTrain s 15 = false ∧ s.flag TPE_TODCFG_EN = true ∧ s.rd TPE_TODCFG_TPG = (15 : Fin 16)) := by decide +kernel

theorem witness_UnitOwnership :
    (∀ o ∈ [ownedUnit 0, ownedUnit 23, pinUnit 0, pinUnit 47],
      ownerOf State.reset o = none ∧
      (let s := with0 [(ownedFld o, 1), (ownerFld o, 4)]
       ownerOf s o = some (4 : Init).val ∧ ownerOf s o ≠ some (5 : Init).val)) ∧
    (6 : Init).val = 6 ∧ ¬(5 : Init).val = 6 := by decide +kernel

def evcOn (fs : List (Fld × Nat)) : State := given (with0 [(EVCn_CTRL_EN 7, 1)]) fs
def evcWith (s : State) (f : EvcState → EvcState) : State := s.setEvc 7 (f (s.evc 7))
def cand7 : Transition := ⟨4, 0, 0, false, false, false⟩

theorem witness_CaptureCommands :
    (¬∃ b < 48, State.reset.rd (PMX_PINn_FUNC b) = 17 + (7 : Fin 8)) ∧
    (∃ b < 48, (evcOn [(PMX_PINn_FUNC 47, 24)]).rd (PMX_PINn_FUNC b) = 17 + (7 : Fin 8)) ∧
    evcPowered State.reset = true ∧ State.reset.flag (EVCn_CTRL_EN 7) = false ∧ (evcOn []).flag (EVCn_CTRL_EN 7) = true ∧
    ((evcWith (evcOn []) fun e => { e with cand := some cand7 }).evc 7).cand = some cand7 ∧ ((evcOn []).evc 7).cand = none ∧
    evcSelects (evcOn [(EVCn_CTRL_EDGE 7, 1)]) 7 false = false ∧ evcSelects (evcOn [(EVCn_CTRL_EDGE 7, 0)]) 7 false = true ∧
    (evcOn [(EVCn_CTRL_FILT 7, 0)]).rd (EVCn_CTRL_FILT 7) = 0 ∧ (evcOn [(EVCn_CTRL_FILT 7, 3)]).rd (EVCn_CTRL_FILT 7) ≠ 0 ∧
    (let s := evcWith (evcOn [(EVCn_CTRL_FILT 7, 3)]) fun e => { e with accepted := some 0 }
     (s.evc 7).accepted = some 0 ∧ cand7.tick < 0 + max (s.rd (EVCn_CTRL_FILT 7) + 2) 4) ∧
    (let s := { evcOn [(EVCn_CTRL_RANGEEN 7, 1)] with tb := { State.reset.tb with now := 1000 * 2 ^ 96 / 10 ^ 9 } }
     let w := spanOf s (tbTick s)
     emptyWindows (tbTick s) 7 w ≠ 0 ∧ emptyWindows State.reset 7 w = 0) ∧
    ownerOf (ownsTpg []) (evcUnit 7) = some (4 : Init).val ∧ ownerOf (ownsTpg []) (evcUnit 7) ≠ some (5 : Init).val ∧
    (let s := evcWith State.reset fun e => { e with queue := [⟨0, 0⟩], latched := [(4, ⟨0, 0⟩)] }
     (s.evc 7).queue = ⟨0, 0⟩ :: [] ∧ latchedCapture (s.evc 7) 4 = some ⟨0, 0⟩ ∧ latchedCapture (s.evc 7) 5 = none) := by decide +kernel
/-! ### Witnesses: clocks and Ethernet -/

theorem witness_RootClockCommands :
    (∀ st ∈ [C_SWITCH, C_RELOCK],
      let s := with0 [(CLK_STAT_STATE, st)]
      rootState s = C_SWITCH ∨ rootState s = C_RELOCK) ∧
    ¬(rootState State.reset = C_SWITCH ∨ rootState State.reset = C_RELOCK) ∧
    refState State.reset (1 - selected State.reset) ≠ R_VALID ∧
    (let s := with0 [(refFld 1, R_VALID), (CLK_STAT_ALTVALID, 1)]
     refState s (1 - selected s) = R_VALID ∧ s.flag CLK_STAT_ALTVALID = true) ∧
    refState State.reset 0 = R_ABSENT ∧ selected State.reset = 0 ∧ refState State.reset 1 = R_ABSENT ∧
    (let s := with0 [(refFld 1, R_PRESENT)]
     refState s (1 - selected s) ≠ R_ABSENT ∧ rootState s ≠ C_SWITCH ∧ s.wf = true ∧ refState s (1 : Fin 2) = R_PRESENT) ∧
    State.reset.clk.lost.getD 0 false = false ∧ (0 : Fin 2).val = selected State.reset ∧ (1 : Fin 2).val ≠ selected State.reset ∧
    ({ State.reset with clk := { State.reset.clk with lost := #v[true, false] } } : State).clk.lost.getD 0 false = true ∧
    State.reset.clk.lockedOnce = false ∧
    (let s : State := { with0 [(refFld 1, R_VALID)] with ticks := 600000000, clk := { State.reset.clk with lockedOnce := true } }
     s.clk.winFrom + 600000000 ≤ s.ticks ∧ ({ s with ticks := 599999999 } : State).ticks < s.clk.winFrom + 600000000 ∧
     refState s (1 - selected s) = R_VALID ∧ refState s (1 - selected s) ≠ R_ABSENT ∧ s.clk.lockedOnce = true ∧
      (let s1 := s.wrS CLK_REFCMP_YOTHER (2 ^ 47 - 1)
       max (s1.rd CLK_REFCFG_REFTOL) 1 * 2 ^ 48 < (2 ^ 47 - 1 : Int).natAbs * 10 ^ 6) ∧
      (let s1 := s.wrS CLK_REFCMP_YOTHER 0
       ¬(max (s1.rd CLK_REFCFG_REFTOL) 1 * 2 ^ 48 < (0 : Int).natAbs * 10 ^ 6))) ∧
    rootState (with0 [(CLK_STAT_STATE, C_LOCKED)]) = C_LOCKED ∧ rootState (with0 [(CLK_STAT_STATE, C_FROZEN)]) = C_FROZEN ∧
    (let s := with0 [(CLK_STAT_STATE, C_ACQUIRE), (refFld 0, R_VALID)]
     rootState s = C_ACQUIRE ∧ refState s (selected s) ≠ R_ABSENT) ∧ refState State.reset (selected State.reset) = R_ABSENT ∧ State.reset.clk.ticked = false ∧
    State.reset.flag SAF_STAT_CLKFAULT = true ∧ (with0 [(SAF_STAT_CLKFAULT, 0)]).flag SAF_STAT_CLKFAULT = false ∧
    (let held := fun (s : State) => refState s (1 : Fin 2) = R_PRESENT ∧ s.clk.presentAt.getD 1 0 + max (s.rd CLK_REFCFG_QUAL) 1 * 6000000 ≤ s.ticks
     let s := with0 [(refFld 1, R_PRESENT)]
     held { s with ticks := max (s.rd CLK_REFCFG_QUAL) 1 * 6000000 } ∧ ¬held { s with ticks := max (s.rd CLK_REFCFG_QUAL) 1 * 6000000 - 1 }) ∧
    ({ State.reset with clk := { State.reset.clk with since := some 0 } } : State).clk.since = some 0 ∧
    (let judges := fun (s : State) => refState s (1 - selected s) ≠ R_ABSENT ∧ s.clk.lockedOnce = true ∧ s.saf.freqFrom + 600000 ≤ s.ticks
     let s : State := { with0 [(refFld 1, R_PRESENT)] with clk := { State.reset.clk with lockedOnce := true } }
     judges { s with ticks := 600000 } ∧ ¬judges { s with ticks := 599999 }) ∧
    (let s := with0 [(refFld 0, R_VALID), (CLK_CTRL_AUTOSW, 0)]
     refState s (selected s) ≠ R_ABSENT ∧ rootState s ≠ C_SWITCH ∧ s.flag CLK_CTRL_AUTOSW = false ∧ s.wf = true) := by decide +kernel

theorem witness_ClockCommands_power :
    hostOn State.reset = true ∧ hostOn ({ State.reset with pwr := { State.reset.pwr with power := .deep } } : State) = false ∧
    State.reset.pwr.power ≠ .deep := by decide

theorem witness_ClockFaultStarts :
    (let s : State := { with0 [(SAF_STAT_CLKFAULT, 0)] with saf := { State.reset.saf with failing := 7 } }
     s.wf = true ∧ 0 < s.saf.failing ∧ s.saf.failing < 8 ∧ s.flag SAF_STAT_CLKFAULT = false) ∧
    (let s : State := { State.reset with saf := { State.reset.saf with failing := 1 } }
     s.wf = true ∧ 0 < s.saf.failing ∧ s.saf.failing < 8 ∧ s.flag SAF_STAT_CLKFAULT = true) := by decide +kernel

/-- Synthesiser 3 at 6,000 MHz (W = 60 at 100 MHz) with a band for it. -/
def osyAt (fs : List (Fld × Nat)) : State :=
  given (with0 [(OSYn_CTRL_MULT 3, 0), (OSYn_NINT_NINT 3, 60), (OSYn_NFRAC_NFRAC 3, 0)]) fs
def osyBanded : List (Fld × Nat) := [(OSYn_BANDk_VALID 3 0, 1), (OSYn_BANDk_FLO 3 0, 5975), (OSYn_BANDk_FHI 3 0, 6025)]
def osyWith (s : State) (f : OsyState → OsyState) : State := s.setOsy 3 (f (s.osyn 3))
/-- Output 1 divides by eight; its FRAC is 0 of `den`. -/
def divided (den : Nat) : State :=
  osyWith (osyAt [(OSYn_DIVj_INT 3 1, 8), (OSYn_FRACj_NUM 3 1, 0), (OSYn_FRACj_DEN 3 1, den)]) id

theorem witness_SynthesiserCommands :
    (osyAt [(OSYn_CTRL_EN 3, 1)]).flag (OSYn_CTRL_EN 3) = true ∧ (osyAt []).flag (OSYn_CTRL_EN 3) = false ∧
    (let f := fun (s : State) => pdMHz (s.rd (OSYn_CTRL_MULT 3)) * osyW s 3
     let inRange := fun (s : State) => 5600 * 2 ^ 48 ≤ f s ∧ f s ≤ 6600 * 2 ^ 48
     inRange (osyAt [(OSYn_NINT_NINT 3, 56)]) ∧ inRange (osyAt [(OSYn_NINT_NINT 3, 66)]) ∧
     ¬inRange (osyAt [(OSYn_NINT_NINT 3, 66), (OSYn_NFRAC_NFRAC 3, 1)]) ∧ inRange (osyAt osyBanded)) ∧
    osyBand (osyAt []) 3 0 (osyW (osyAt []) 3) = none ∧ osyBand (osyAt osyBanded) 3 0 (osyW (osyAt osyBanded) 3) = some 0 ∧
    (osyAt osyBanded).wf = true ∧ ((osyAt []).osyn 3).acquiring = false ∧
    (osyWith (osyAt []) fun x => { x with acquiring := true, relocking := true }).wf = true ∧
    ((osyWith (osyAt []) fun x => { x with acquiring := true, relocking := true }).osyn 3).acquiring = true ∧
    (osyAt []).flag (OSYn_STAT_LOCK 3) = false ∧ (osyAt [(OSYn_STAT_LOCK 3, 1)]).flag (OSYn_STAT_LOCK 3) = true ∧
    ((osyWith (osyAt []) fun x => { x with relocking := true }).osyn 3).relocking = true ∧
    (∀ p ∈ [(osyBanded, some 0), ([], none)],
      let s := osyAt ((OSYn_CTRL_EN 3, 1) :: p.1)
      let w := osyW s 3 * pdMHz (s.osyn 3).mult / pdMHz (s.rd (OSYn_CTRL_MULT 3))
      let s1 := ((s.wr (OSYn_NINT_NINT 3) (w / 2 ^ 48)).wr (OSYn_NFRAC_NFRAC 3) w).wr (OSYn_STAT_LOCK 3) 0
      (s.osyn 3).relocking = false ∧ osyBand s1 3 (s.rd (OSYn_CTRL_MULT 3)) w = p.2) ∧
    (osyAt [(oeFld 3 1, 1)]).flag (oeFld 3 1) = true ∧ (divided 1).flag (oeFld 3 1) = false ∧
    outputOk (divided 1) 3 1 ((divided 1).rd (fmtFld 3 1)) = true ∧ outputOk (divided 0) 3 1 ((divided 0).rd (fmtFld 3 1)) = false ∧
    (osyAt [(OSYn_RAMPCTRL_STATE 3, 1)]).rd (OSYn_RAMPCTRL_STATE 3) = 1 ∧ (osyAt []).rd (OSYn_RAMPCTRL_STATE 3) ≠ 1 ∧
    ((osyAt []).osyn 3).phMeas = none ∧ ((osyWith (osyAt []) fun x => { x with phMeas := some 1 }).osyn 3).phMeas = some 1 ∧
    (let s := osyWith (given (divided 1) [(OSYn_CTRL_EN 3, 1), (oeFld 3 1, 1)]) fun x =>
       { x with started := true, pads := #v[false, true], phMeas := some 1 }
     s.flag (OSYn_CTRL_EN 3) = true ∧ (outputDriven s 3 0 = true ∨ outputDriven s 3 1 = true) ∧ (edgeIn s 3 1).isSome = true ∧
      (phEdge s 3).isSome = true ∧ tbRuns s = true ∧
      edgeIn (osyWith s fun x => { x with starts := #v[0, 64 * 100000] }) 3 1 = none) ∧
    (let s := osyAt [(OSYn_CTRL_EN 3, 1)]
     s.flag (OSYn_CTRL_EN 3) = true ∧ ¬(outputDriven s 3 0 = true ∨ outputDriven s 3 1 = true) ∧ s.wf = true) ∧
    ((osyAt []).osyn 3).bandMeas = none ∧
    ((osyWith (osyAt []) fun x => { x with bandMeas := some (63, 0) }).osyn 3).bandMeas = some (63, 0) ∧
    (29999 < 0 + 30000 ∧ 0 + 30000 ≤ 30000) := by
  decide +kernel

def ethOn (fs : List (Fld × Nat)) : State := given (with0 [(ETHn_CTRL_EN 3, 1), (ETHn_STAT_LINK_UP 3, 1), (SAF_STAT_CLKFAULT, 0)]) fs

theorem witness_EthernetCommands :
    (ethOn []).flag (ETHn_CTRL_EN 3) = true ∧ State.reset.flag (ETHn_CTRL_EN 3) = false ∧
    modeOk (State.reset.rd (ETHn_CTRL_RATE 3)) (fecOf (State.reset.rd (ETHn_CTRL_FEC 3))) (State.reset.flag (ETHn_CTRL_AN 3)) = true ∧
    (let s := with0 [(ETHn_CTRL_RATE 3, 0), (ETHn_CTRL_FEC 3, 1)]
     modeOk (s.rd (ETHn_CTRL_RATE 3)) (fecOf (s.rd (ETHn_CTRL_FEC 3))) (s.flag (ETHn_CTRL_AN 3)) = false) ∧
    (ethOn [(ETHn_CTRL_REFSRC 3, 1)]).flag (ETHn_CTRL_REFSRC 3) = true ∧ (ethOn [(ETHn_CTRL_REFSRC 3, 0)]).flag (ETHn_CTRL_REFSRC 3) = false ∧
    (let s := ethOn [(ETHn_ESMC_TXEN 3, 1)]
     ethUp s 3 = true ∧ s.flag (ETHn_ESMC_TXEN 3) = true) ∧ ethUp State.reset 3 = false ∧ State.reset.eth.qlAt.getD 3 none = none ∧
    ({ State.reset with eth := { State.reset.eth with qlAt := State.reset.eth.qlAt.setIfInBounds 3 (some 1) } } : State).eth.qlAt.getD 3 none = some 1 ∧
    (with0 [(ETHn_ESMC_RXEN 3, 1)]).flag (ETHn_ESMC_RXEN 3) = true ∧ (with0 [(ETHn_ESMC_RXEN 3, 0)]).flag (ETHn_ESMC_RXEN 3) = false ∧
    (ethOn []).flag (ETHn_STAT_LINK_UP 3) = true ∧ State.reset.flag (ETHn_STAT_LINK_UP 3) = false ∧ State.reset.wf = true ∧
    (with0 [(ETHn_CTRL_EN 3, 1)]).flag (ETHn_STAT_LINK_UP 3) = false ∧ (ethOn []).ticks < (ethOn []).eth.rxfFrom.getD 3 0 + 600000000 ∧
    (ethOn []).eth.rxfFrom.getD 3 0 + 600000000 ≤ ({ ethOn [] with ticks := 600000000 } : State).ticks := by
  decide +kernel

/-- A Delay_Req of a source of zeros; grant 0 of port 3 is for it, with DRESP, and does not lapse at once. -/
def delayReq (multicast : Bool) : DelayReq :=
  { multicast := multicast, source := List.replicate 10 0, transport := 0, smac := 0, sip := [], dmac := 0, dip := [], seq := 0, corr := 0, tlv := .absent,
    fine := 0, beyond := false, frame := [] }
def granted : State := (ethOn []).setBytes ((ethOn []).rd ETH_GRTBASE_BASE * 16384) ([5, 3] ++ List.replicate 34 0 ++ [1])
def counted3 (s : State) : State := s.count (ETHn_CNTRX_DREQ 3)
def matched (s : State) (r : DelayReq) : Option Nat × State := grantMatch 3 r.source (authRx 3 r.tlv r.frame (counted3 s)).2

theorem witness_EthernetTraffic :
    State.reset.flag (ETHn_CTRL_EN 3) = false ∧ (ethOn [(ETHn_PTPCFG_ROLE 3, 1)]).flag (ETHn_PTPCFG_ROLE 3) = true ∧
    (ethOn []).flag (ETHn_PTPCFG_ROLE 3) = false ∧ ethUp State.reset 3 = false ∧ ethUp (ethOn []) 3 = true ∧
    (let s := ethOn [(SAF_STAT_CLKFAULT, 1)]
     ethUp s 3 = true ∧ (counted3 s).flag SAF_STAT_CLKFAULT = true) ∧
    (counted3 (ethOn [])).flag SAF_STAT_CLKFAULT = false ∧ (authRx 3 .absent [] (counted3 (ethOn []))).1 = some (false, false) ∧
    (authRx 3 .absent [] (ethOn [(ETHn_PTPCFG_AUTHMODE 3, 2)])).1 = none ∧
    (ethOn []).eth.queue.getD 3 [] = [] ∧ (ethOn []).flag SAF_STAT_CLKFAULT = false ∧ (ethOn []).flag (ETHn_STAT_LINK_UP 3) = true ∧
    (let s := ethOn [(ETHn_RXWP_INDEX 3, 256)]
     256 ≤ (s.rd (ETHn_RXWP_INDEX 3) + 65536 - s.rd (ETHn_RXRP_INDEX 3)) % 65536) ∧
    (ethOn []).rd (ETHn_TXRP_INDEX 3) = (ethOn []).rd (ETHn_TXWP_INDEX 3) ∧
    (let s := ethOn [(ETHn_TXWP_INDEX 3, 1)]
     s.rd (ETHn_TXRP_INDEX 3) ≠ s.rd (ETHn_TXWP_INDEX 3) ∧ s.wf = true ∧ ethUp s 3 = true) := by decide +kernel

/-- With a grant, with the multicast answer, and with neither. -/
theorem witness_EthernetTraffic_grants :
    (matched granted (delayReq false)).1 = some 0 ∧
    (let m := matched (ethOn [(ETHn_MCAST_DRESP 3, 1)]) (delayReq true)
     m.1 = none ∧ (delayReq true).multicast = true ∧ m.2.flag (ETHn_MCAST_DRESP 3) = true) ∧
    (delayReq false).multicast = false ∧ (matched (ethOn []) (delayReq false)).1 = none := by decide +kernel


/-- An exchange that ended in second 0 is kept in second 1, and as many as MINEX give an offset. -/
def exchange : PtpExchange := ⟨0, 0, 0, 0, 0, 0, true, false⟩
theorem witness_EthernetCommands_offset :
    (ethOn [(ETHn_PTPCFG_ROLE 3, 1)]).flag (ETHn_PTPCFG_ROLE 3) = true ∧ (ethOn []).flag (ETHn_PTPCFG_ROLE 3) = false ∧
    svRuns (ethOn []) = false ∧ bestExchange [] = none ∧
    (let s : State :=
      { ethOn [(ETHn_PTPCFG_ROLE 3, 1)] with tb := { State.reset.tb with now := 2 ^ 96 }, hst := { State.reset.hst with ready := true } }
     let kept := (List.replicate (ptpRx s).1 exchange).filter fun x => x.t2.toNat / 2 ^ 48 + 1 == s.sec
     svRuns s = true ∧ s.wf = true ∧ (bestExchange kept).isSome = true ∧ (ptpRx s).1 ≤ kept.length ∧ -2 ^ 47 ≤ offsetPs s 3 exchange ∧
      offsetPs s 3 exchange < 2 ^ 47) := by decide +kernel
/-! ### Witnesses: the interconnect and the cores' control -/

theorem witness_RegisterAccesses :
    isHostBuffer (0x10000000 + 8 * 204799) = false ∧ isHostBuffer (0x10000000 + 8 * 204799 + 4) = false ∧
    isHostBuffer 0x10000000 = false ∧ isHostBuffer 0x10000004 = false ∧
    slotCause (traceInit 14 0x10000000 true State.reset) 14 0x10000000 true ≠ 0 ∧
    slotCause (traceInit 4 0x10000000 true State.reset) 4 0x10000000 true = 0 ∧ (4 : Init).val ≠ 14 ∧
    slotCause (traceInit 14 0x10000004 true State.reset) 14 0x10000000 true ≠ 0 ∧
    slotCause (traceInit 4 0x10000004 true State.reset) 4 0x10000000 true = 0 ∧
    slotCause (traceInit 14 0x10000000 false State.reset) 14 0x10000000 false ≠ 0 ∧
    slotCause (traceInit 4 0x10000000 false State.reset) 4 0x10000000 false = 0 ∧
    readOwned (traceInit 4 0x10000000 false State.reset) 4 0x10000000 = true ∧
    -- the CONTROL register of page 15, which initiator 6 owns, and aiding port 0 of the first loop core
    (∀ a ∈ [CXE_KPn_CTRL 15, CA_AIDi_HDR 0],
      slotCause (traceInit 4 a false State.reset) 4 a false = 0 ∧ readOwned (traceInit 4 a false State.reset) 4 a = false ∧
      0x10000000 ≤ a ∧ a < 0x10000000 + 8 * 204800 ∧ isHostBuffer a = false ∧ isHostBuffer (a + 4) = false) := by decide +kernel

/-- The last word of shared memory; a word with a double error. -/
theorem witness_MemoryTransactions :
    (0x017FFFFC#32).toNat < 0x01800000 ∧ State.reset.wf = true ∧ (15 : Init).val ≠ 14 ∧ State.reset.bit DBG_TRSRC_INITS 15 = false ∧
    [(1 : Byte), 2, 3, 4].length ≤ 256 - (0x017FFFFC#32).toNat % 256 ∧ accessCause State.reset 15 0x017FFFFC 4 false true = 0 ∧
    accessCause State.reset 15 0x017FFFFC 4 true false = 0 ∧ atomicCause State.reset 15 0x017FFFFC = 0 ∧
    (let s : State := { State.reset with memc := { State.reset.memc with double := [0x017FFFF8] } }
     s.wf = true ∧ accessCause s 15 0x017FFFFC 4 true false ≠ 0) := by decide +kernel

def erred : State := icError 3 0x10 true OWNER State.reset

theorem witness_InterconnectCommands :
    atomicCause (traceInit 15 0x017FFFFC false State.reset) 15 0x017FFFFC = 0 ∧
    atomicCause (traceInit 15 0x017FFFFE false State.reset) 15 0x017FFFFE ≠ 0 ∧ (10 : Init).val ≠ 14 ∧
    State.reset.bus.errors = [] ∧ erred.bus.errors = ⟨0x10, 3, true, OWNER, false⟩ :: [] ∧ latchedError State.reset 3 = none ∧
    latchedError { erred with bus := { erred.bus with infoLatch := [(3, ⟨0x10, 3, true, OWNER, false⟩)] } } 3 =
      some ⟨0x10, 3, true, OWNER, false⟩ ∧
    mayFirewall State.reset 5 = false ∧ mayFirewall State.reset 6 = true ∧ (with0 [(IC_FWCTRL_LOCK, 1)]).flag IC_FWCTRL_LOCK = true ∧
    mayFirewall (with0 [(IC_FWCTRL_LOCK, 1)]) 6 = true ∧ State.reset.flag IC_FWCTRL_LOCK = false := by decide +kernel

/-- An image has passed; the debug level is D2; core 0 is in a state. -/
def booted (st : Nat) : State := with0 [(HST_BOOT_STATUS, BOOT_DONE), (SVU_DBG_LEVEL, 2), (KCn_STAT_STATE 0, st)]

theorem witness_CoreRunControl :
    State.reset.rd HST_BOOT_STATUS ≠ BOOT_DONE ∧ (booted K_RESET).rd HST_BOOT_STATUS = BOOT_DONE ∧
    (booted K_RESET).coreState 0 = K_RESET ∧ (booted K_RESET).flag (KCn_CTRL_HALTREQ 0) = false ∧ (booted K_RESET).wf = true ∧
    (booted K_STOPPED).coreState 0 = K_STOPPED ∧ (booted K_STOPPED).wf = true ∧ (booted K_FAULT).coreState 0 ≠ K_RESET ∧
    (booted K_FAULT).coreState 0 ≠ K_STOPPED ∧ State.reset.rd SVU_DBG_LEVEL < 2 ∧ 2 ≤ (booted K_RUN).rd SVU_DBG_LEVEL ∧
    slotCause State.reset 14 (KCn_CTRL 0) true ≠ 0 ∧ slotCause (booted K_RUN) 14 (KCn_CTRL 0) true = 0 ∧
    slotCause (inPower (booted K_RUN) .standby) 14 (KCn_CTRL 0) true = PWR_OFF ∧ slotCause (booted K_HALTED) 14 (KCn_CTRL 0) true = 0 ∧
    (let held := (booted K_RUN).put (KCn_CTRL_HALTREQ 0) true
     issuing (held.coreState 0) = true ∧ clocked held 0 = true ∧ ((booted K_RUN).core 0).out.any (·.dest.isSome) = false) ∧
    issuing (((booted K_FAULT).put (KCn_CTRL_HALTREQ 0) true).coreState 0) = false ∧
    ((onCore (booted K_RUN) 0 fun c => { c with out := [loadOut 0] }).core 0).out.any (·.dest.isSome) = true ∧
    (booted K_RUN).coreState 0 ≠ K_HALTED ∧ clocked (inPower (booted K_HALTED) .standby) 0 = false ∧
    (booted K_HALTED).coreState 0 = K_HALTED ∧ clocked (booted K_HALTED) 0 = true ∧
    (let s := (booted K_HALTED).setLE 0x02080000 6 0b001001011000000000000000000000000000000000000000
     decodeKloko 0 (BitVec.ofNat 48 (s.le (0x02080000 + 0x100000 * 0 + 8 * (s.core 0).pc.toNat) 6)) = none) ∧
    (decodeKloko 0 (BitVec.ofNat 48 ((booted K_HALTED).le (0x02080000 + 0x100000 * 0 + 8 * ((booted K_HALTED).core 0).pc.toNat) 6))).isSome =
      true := by decide +kernel
/-! ### Witnesses: the firmware -/

/-- SC0 is active and runs; the cores of `alive` are alive; the channel map is at 0x1000. -/
def timing (active alive : Nat) (fs : List (Fld × Nat)) : State :=
  (((given State.reset ([(KCn_STAT_STATE 4, K_RUN), (KCn_STAT_STATE 5, K_RUN)] ++ fs)).setLE 0x168 8 active).setLE 0x170 8 alive).setLE 0x48 8 0x1000
/-- Channel 0 has a state and an owner. -/
def mapped (st owner : Nat) : State := (timing 4 127 []).setLE 0x1000 4 (owner * 2 ^ 16 + st * 2 ^ 24)
/-- Adoption of ring 0 by loop core 1, from RP to WP. -/
def adopting (rp wp : Nat) (fs : List (Fld × Nat)) : State :=
  (timing 4 127 fs).setLE 0x178 8 (2 ^ 8 + rp * 2 ^ 16 + wp * 2 ^ 32)

theorem witness_LoopCoreFirmware :
    coreRuns State.reset 3 = false ∧ coreRuns (with0 [(KCn_STAT_STATE 3, K_RUN)]) 3 = true ∧
    (let s : State := { with0 [(KCn_STAT_STATE 3, K_RUN)] with ticks := 30000 }
     s.nav.kicked.getD 3 0 + 30000 ≤ s.ticks ∧ ({ s with ticks := 29999 } : State).ticks < s.nav.kicked.getD 3 0 + 30000) ∧
    activeRuns State.reset = false ∧
    activeRuns (mapped 1 3) = true ∧ mapByte (mapped 1 3) 0 3 = 1 ∧ mapByte (mapped 1 3) 0 2 < 4 ∧
    mapByte (mapped 1 3) 0 2 ≠ (2 : Fin 4).val ∧ activeRuns (mapped 3 0) = true ∧ mapByte (mapped 3 0) 0 3 = 3 ∧
    activeRuns (mapped 0 0) = true ∧ mapByte (mapped 0 0) 0 3 ≠ 1 ∧ mapByte (mapped 0 0) 0 3 ≠ 3 ∧
    State.reset.coreState 0 ≠ K_FAULT ∧
    (let s := timing 4 0 [(KCn_STAT_STATE 0, K_FAULT)]
     activeRuns s = true ∧ s.coreState 0 = K_FAULT ∧ adopter (clearAlive 4 0 s) 0 = none) ∧
    (let s := timing 4 127 [(KCn_STAT_STATE 0, K_FAULT)]
     activeRuns s = true ∧ s.coreState 0 = K_FAULT ∧ adopter (clearAlive 4 0 s) 0 = some 1) ∧
    handover State.reset = none ∧ handover (adopting 0 1 []) = some ⟨0, 1, 0, 1⟩ ∧ coreRuns (adopting 0 1 []) 1 = false ∧
    coreRuns (adopting 0 1 [(KCn_STAT_STATE 1, K_RUN)]) 1 = true ∧
    (let s := timing 4 127 [(KCn_STAT_STATE 5, K_FAULT)]
     s.coreState 5 = K_FAULT ∧ coreRuns s (9 - 5) = true ∧ activeCore s ≠ 5) ∧
    (let s := timing 5 127 [(KCn_STAT_STATE 5, K_FAULT)]
     s.coreState 5 = K_FAULT ∧ coreRuns s (9 - 5) = true ∧ activeCore s = 5) ∧
    (timing 4 127 []).coreState 4 ≠ K_FAULT := by decide +kernel

/-- The end of an adoption, with an active solution core that runs and without one. -/
theorem witness_LoopCoreFirmware_adoption :
    (let ended := fun (s : State) =>
       (releaseRecords 1 ((drainRing 1 0 true 0 0 ([], s)).1,
         coreWrite 1 0x178 0 (coreWrite 1 (CA_RINGk_RP 0) 0 (drainRing 1 0 true 0 0 ([], s)).2))).2
     let s := adopting 0 0 [(KCn_STAT_STATE 1, K_RUN)]
     handover s = some ⟨0, 1, 0, 0⟩ ∧ activeRuns (ended s) = true ∧ activeRuns (ended (s.setLE 0x168 8 6)) = false) := by decide +kernel

/-- An epoch of 10 ms has passed since the last solution: CONFIG is at 0x2000, and its words are in force. -/
def epochAt (active alive now : Nat) : State :=
  { takeConfig (((timing active alive []).setLE 0x60 8 0x2000).setLE 0x2000 8 10) with tb := { State.reset.tb with now := now * 2 ^ 96 / 1000 } }
/-- A capture at second 1, whose time of day has come; a model record whose CRC holds. -/
def captured : State :=
  let s := timing 4 127 []
  let s := s.setEvc 7 { s.evc 7 with queue := [⟨2 ^ 48, 128⟩] }
  { s with hst := { s.hst with evcTod := s.hst.evcTod.setIfInBounds 7 (some (1, 2 ^ 48)) } }
def held0 : State := timing 4 127 [(TB_TIMESTAT_HOLDOVER, 1)]

theorem witness_SolutionFirmware :
    activeRuns State.reset = false ∧ activeRuns (epochAt 4 127 100) = true ∧
    epochDue (epochAt 4 127 100) 4 = true ∧ epochDue (epochAt 4 127 0) 4 = false ∧
    activeCore State.reset ≠ 4 ∧ activeCore State.reset ≠ 5 ∧ activeCore (epochAt 5 127 100) = 5 ∧
    (let s := epochAt 4 127 100
     standbyCore s = 5 ∧ coreRuns s (standbyCore s) = true ∧ epochDue s (9 - 4) = true ∧ standbyCore s ≠ activeCore s) ∧
    (let s := epochAt 4 31 100
     standbyCore s = 4 ∧ coreRuns s (standbyCore s) = true ∧ epochDue s (9 - 4) = true ∧ standbyCore s = activeCore s) ∧
    State.reset.flag TB_TIMESTAT_HOLDOVER = false ∧ activeRuns held0 = true ∧ held0.flag TB_TIMESTAT_HOLDOVER = true ∧
    updateDue held0 = true ∧ updateDue { held0 with nav := { held0.nav with updated := some 0 } } = false ∧
    selected held0 = 0 ∧ imgLe (busRead 4 0x06380000 64 held0).2.1 60 4 ≠ crc32c ((busRead 4 0x06380000 64 held0).2.1.take 60) ∧
    (let s := held0.setLE 0x0638003C 4 (crc32c (List.replicate 60 0))
     let r := busRead 4 0x06380000 64 s
     r.1 = 0 ∧ imgLe r.2.1 60 4 = crc32c (r.2.1.take 60)) ∧
    (let x := fun (s : State) =>
       let r := readCaptures 4 7 (s.evc 7).queue.length s
       (pulseOffset r.1 (r.2.nav.ext.getD 7 {}) (r.2.hst.evcTod.getD 7 none)).offset
     x (timing 4 127 []) = none ∧ x captured = some 0) := by decide +kernel

/-! ### Witnesses: security -/

/-- An operation of page 6 with the priority 0: its W0 and its length. -/
def opOf (w0 len : Nat) : CxeOp := { page := 6, desc := 0x2000, words := some [w0, len, 0x1000, 0x3000, 0, 0, 0], prio := 0 }
def cxeWith (q run : List CxeOp) : State := { State.reset with cxe := { State.reset.cxe with queue := q, running := run } }

def jobbed (n : Nat) : State := { State.reset with svu := { State.reset.svu with jobs := List.replicate n (.desc 0) } }
def certOn : State := { State.reset with svu := { State.reset.svu with cert := true } }

theorem witness_EngineCommands :
    nextOp State.reset = none ∧ nextOp (cxeWith [opOf 11 8] []) = some (opOf 11 8) ∧ (opOf 11 8).op = 11 ∧ (opOf 11 8).op ≠ 12 ∧
    engineFree (cxeWith [opOf 11 8] [opOf 11 8]) (opOf 11 8).prio = false ∧ engineFree (cxeWith [opOf 11 8] []) (opOf 11 8).prio = true ∧
    (∀ code ∈ [1, 2, 3, 4, 5, 6, 7, 8, 9, 10, 11, 12, 13],
      let o := opOf code (2 ^ 24 + 1)
      let s := cxeWith [o] []
      nextOp s = some o ∧ o.op = code ∧ engineFree s o.prio = true ∧ s.cxe.queue.erase o = [] ∧ opCheck (cxeWith [] []) o ≠ 0) ∧
    opCheck (cxeWith [] []) (opOf 11 8) = 0 ∧ opCheck (cxeWith [] []) (opOf 12 8) = 0 ∧ opCheck (cxeWith [] []) (opOf 13 8) = 0 ∧
    (let s := given (cxeWith [] []) [(CXE_KPn_SLOTm_STATE 6 0, SL_READY), (CXE_KPn_SLOTm_OWNER 6 0, 6), (CXE_KPn_SLOTm_USAGE 6 0, 31)]
     opCheck s (opOf 1 8) = 0 ∧ opCheck s (opOf 2 8) = 0 ∧
     (∀ code ∈ [3, 4, 5, 6], opCheck s (opOf (code + 16 * 2 ^ 24) 8) = 0) ∧
     (∀ p ∈ [(7, 32), (8, 32), (9, 48), (10, 48)], opCheck (s.wr (CXE_KPn_SLOTm_TYPE 6 0) 4) (opOf (p.1 + p.2 * 2 ^ 24) 8) = 0)) ∧
    (cxeWith [] [opOf 11 8]).cxe.running = opOf 11 8 :: [] ∧ (cxeWith [] []).cxe.running = [] ∧
    ¬(1 ≤ (opOf 0 0).op ∧ (opOf 0 0).op ≤ 13) ∧ ¬(1 ≤ (opOf 14 0).op ∧ (opOf 14 0).op ≤ 13) ∧
    (14 : Init).val ∉ [4, 5, 6, 15] ∧ (15 : Init).val ∈ [4, 5, 6, 15] ∧ 8 ≤ (jobbed 8).svu.jobs.length ∧
    (jobbed 7).svu.jobs.length < 8 ∧ (jobbed 1).svu.jobs = .desc 0 :: [] ∧ (jobbed 1).svu.cert = false ∧ State.reset.svu.jobs = [] ∧
    certOn.svu.cert = true ∧ certOn.svu.before = false ∧
    ({ certOn with svu := { certOn.svu with before := true } } : State).svu.before = true := by decide +kernel

theorem witness_PageCommands :
    pageOwner State.reset 15 ≠ (5 : Init).val ∧ pageOwner State.reset 15 = (6 : Init).val ∧ pageOps State.reset 6 = 0 ∧
    pageOps (cxeWith [opOf 11 8] []) 6 ≠ 0 ∧ pageOwner (cxeWith [opOf 11 8] []) 6 = (6 : Init).val ∧
    (5 : Init).val ≠ 6 ∧ (6 : Init).val = 6 := by decide +kernel

/-- A request to a state, at 0x1000; a chip with a key and in a lifecycle state. -/
def request (target signer : Nat) : List Byte := List.replicate 12 0 ++ [BitVec.ofNat 8 target, BitVec.ofNat 8 signer] ++ List.replicate 66 0
def requested (lcs target signer : Nat) (row5 : BitVec 64) : State :=
  let s := (with0 [(SVU_LCS_LCS, lcs)]).setBytes 0x1000 (request target signer)
  { s with nvs := { s.nvs with otp := s.nvs.otp.setIfInBounds 5 row5 } }
theorem witness_LifecycleAndDebug :
    (5 : Init).val ≠ 6 ∧ (13 : Init).val ≠ 14 ∧ (3 : Init).val ≠ 4 ∧ (3 : Init).val ≠ 5 ∧ ((5 : Init).val = 4 ∨ (5 : Init).val = 5) ∧
    (cxeRead 0x1000 80 State.reset).1.isSome = true ∧ (cxeRead 0x03FFFFC0 80 State.reset).1 = none ∧
    lcTransition State.reset.lcs 2 = none ∧ lcTransition State.reset.lcs 1 = some false ∧
    otpHash (requested 0 1 0 0) 1 = 0 ∧ otpHash (requested 0 1 0 1) 1 ≠ 0 ∧
    lcTransition (requested 1 2 1 1).lcs 2 = some true ∧ lcTransition (requested 2 3 0 1).lcs 3 = some true ∧
    imgLe (request 2 1) 13 1 = 1 ∧ imgLe (request 2 2) 13 1 = 2 ∧ ¬(imgLe (request 3 0) 13 1 = 1 ∨ imgLe (request 3 0) 13 1 = 2) ∧
    (requested 0 1 0 0).svu.lc = none ∧
    (let s : State := { State.reset with svu := { State.reset.svu with lc := some ⟨2, request 2 1⟩ } }
     s.svu.lc = some ⟨2, request 2 1⟩ ∧ ¬(imgLe (request 2 1) 13 1 = 1 ∧ otpBit s 8 = true) ∧
      (let o : State := { s with nvs := { s.nvs with otp := s.nvs.otp.setIfInBounds 17 256 } }
       imgLe (request 2 1) 13 1 = 1 ∧ otpBit o 8 = true)) ∧
    certOn.svu.cert = true ∧ State.reset.svu.cert = false ∧ (0 : Fin 4).val = 0 ∧ (3 : Fin 4).val ≠ 0 ∧ State.reset.lcs = BLANK ∧
    (with0 [(SVU_LCS_LCS, 2)]).lcs ≠ BLANK ∧ (with0 [(SVU_LCS_LCS, 2)]).lcs ≠ RETURNED := by decide +kernel

theorem witness_LifecycleAndDebug_request :
    (match cxeRead 0x1000 80 (requested 0 1 0 1) with
     | (some b, s1) => (ofLE (b.take 8) == otpDevid s1 && imgLe b 8 4 == 0 && imgLe b 12 1 == 1 && imgLe b 14 2 == 0)
     | _ => false) = true ∧
    (match cxeRead 0x1000 80 (requested 1 2 2 1) with
     | (some b, s1) => (ofLE (b.take 8) == otpDevid s1 && imgLe b 8 4 == 0 && imgLe b 12 1 == 2 && imgLe b 14 2 == 0)
     | _ => false) = true ∧
    (match cxeRead 0x1000 80 (requested 0 1 0 1) with
     | (some b, _) => imgLe b 12 1 == 2
     | _ => false) = false := by decide +kernel

/-- A certificate for level 2 in the mailbox: level and signer stand in bits 0 to 15 of its third word. -/
theorem witness_LifecycleAndDebug_certificate :
    (let s := certOn.setReg (SVU_DBGMBk 2) (BitVec.ofNat 48 (2 + 2 ^ 8))
     let b := mailbox s
     s.svu.cert = true ∧ s.svu.before = false ∧ imgLe b 12 1 = 2 ∧ imgLe b 13 1 = 1 ∧ certFields s b = true ∧ ¬(imgLe b 13 1 = 1 ∧ otpBit s 8 = true) ∧
      1 ≤ imgLe b 12 1 ∧ imgLe b 12 1 ≤ (if s.lcs = PROVISIONED ∨ s.lcs = DEPLOYED then 2 else 3) ∧
      (let o : State := { s with nvs := { s.nvs with otp := s.nvs.otp.setIfInBounds 17 256 } }
       imgLe (mailbox o) 13 1 = 1 ∧ otpBit o 8 = true)) ∧
    certFields certOn (mailbox certOn) = false ∧ ¬(imgLe (mailbox certOn) 13 1 = 1 ∧ otpBit certOn 8 = true) := by decide +kernel

/-! ### The remaining statements -/

theorem witness_ReplicaBound : (15 : Int).natAbs ≤ 15 ∧ (-15 : Int).natAbs ≤ 15 ∧ (0 : Int).natAbs ≤ 15 := by decide

theorem witness_StepTakesFront :
    ({ State.reset with pending := [.tick, .pcieReset] } : State).pending = .tick :: [.pcieReset] ∧ State.reset.pending = [] := by
  decide

/-! ### Commands that are not well formed -/

/-- An epoch that decides on `n` requests. -/
def epochWith (n : Nat) : SolOut := ⟨0, List.replicate n .nothing, none⟩

/-- A loop-core output of zeros. -/
def loopZero : LoopOut := ⟨0, 0, 0, Vector.replicate 8 0, 0, 0, 0, 0, 0, false, false, false⟩

/-- A frame of `n` code groups. -/
def frameOf (n : Nat) : RxFrame := ⟨List.replicate n 0, true, 0, []⟩

/-- A Delay_Req whose source has `n` bytes. -/
def reqOf (n : Nat) : DelayReq := { delayReq true with source := List.replicate n 0 }

/-- A parent whose identity has `n` bytes. -/
def parentOf (n : Nat) : PtpParent := ⟨List.replicate n 0, 0, false, false⟩

theorem test_wf_transaction : (Instr.icTransaction 6 0 (.read 0)).wf = false ∧ (Instr.icTransaction 6 0 (.write [])).wf = false ∧
    (Instr.icTransaction 6 0 (.read 1)).wf = true := by decide

theorem test_wf_window : (Instr.coreWindowAccess 6 0 0 (.write [])).wf = false ∧ (Instr.coreWindowAccess 6 0 0 (.write [1])).wf = true := by
  decide

theorem test_wf_frame : (Instr.receiveFrame 0 (frameOf 1919)).wf = false ∧ (Instr.receiveFrame 0 (frameOf 1920)).wf = true ∧
    (Instr.receiveFrame 0 (frameOf 3840)).wf = true := by simp [Instr.wf, frameOf]

theorem test_wf_batch : (Instr.lcBatch 0 (List.replicate 4097 loopZero)).wf = false ∧ (Instr.lcBatch 0 [loopZero]).wf = true := by
  simp [Instr.wf]

theorem test_wf_adoption : (Instr.ringAdoption (List.replicate 4097 loopZero)).wf = false ∧ (Instr.ringAdoption []).wf = true := by
  simp [Instr.wf]

theorem test_wf_epoch : (Instr.solutionEpoch (epochWith 17)).wf = false ∧ (Instr.solutionEpoch (epochWith 16)).wf = true := by decide

theorem test_wf_standby : (Instr.standbyScEpoch [] [⟨0, [], .stop⟩]).wf = false ∧ (Instr.standbyScEpoch [] [⟨0, [1], .stop⟩]).wf = true := by decide

theorem test_wf_delayReq : (Instr.delayReqReceived 0 (reqOf 9)).wf = false ∧ (Instr.delayReqReceived 0 (reqOf 10)).wf = true := by
  decide

theorem test_wf_offset : (Instr.ptpSourceOffset 0 [] (parentOf 9) 0).wf = false ∧
    (Instr.ptpSourceOffset 0 [] (parentOf 10) 0).wf = true := by decide

theorem test_wf_pcie : (Instr.pcieRequest (.read 0 0)).wf = false ∧ (Instr.pcieRequest (.write 0 [])).wf = false ∧
    (Instr.pcieRequest (.config true true false)).wf = true := by decide

theorem test_wf_spi : (Instr.spiWrite 0 []).wf = false ∧ (Instr.spiWrite 0 [1]).wf = true := by decide

theorem test_wf_empFrame : (Instr.empFrame 0 (.cmd (.ptpGrants 0 [0]))).wf = false ∧
    (Instr.empFrame 0 (.cmd .sysReset)).wf = true := by decide

theorem test_wf_emp : (Instr.empPtpGrants 0 0 (List.replicate 63 0)).wf = false ∧
    (Instr.empPtpGrants 0 0 (List.replicate 64 0)).wf = true := by decide

theorem test_wf_keys : (Instr.certificateVerified (List.replicate 63 0)).wf = false ∧
    (Instr.certificateVerified (List.replicate 64 0)).wf = true ∧ (Instr.lifecycleRequestVerified []).wf = false ∧
    (Instr.lifecycleRequestVerified (List.replicate 64 0)).wf = true := by decide

/-- A request for a grant over IPv4 whose source has no address. -/
theorem test_wf_grant :
    (let g : GrantReq := { rxpid := List.replicate 10 0, transport := 1, mac := 0, ip := [], sync := true, log := 0, duration := 1 }
     (Instr.ethFrameReceived 0 (.grantRequest g) .absent 0 []).wf = false ∧
      (Instr.ethFrameReceived 0 (.grantRequest { g with ip := [1, 2, 3, 4] }) .absent 0 []).wf = true) := by decide

/-! ### Words of the Kloko encoding, written out from R254 to R263 -/

/-- Class 0 (R256): 000, OP 2, AD 1, X 3, Y 5, zeros, move 1 absent, move 2 a store (R255: EN, DIR, REG 16, PTR 4, MOD 3). -/
theorem test_word_mac : decodeKloko 0 0b000001010011010100000000000000000000111000010011 =
    some (.mac 0 1 3 5 none (some ⟨true, 16, 4, 3⟩)) := by decide

/-- Class 1 (R257): 001, OP 0x01, D 9, S1 10, S2 12, zeros, move 1 a load of G1 from P2 with MOD 1, zeros. -/
theorem test_word_add : decodeKloko 3 0b001000001100110101100000100000101001000000000000 =
    some (.add 3 9 10 12 (some ⟨false, 1, 2, 1⟩)) := by decide

/-- Class 2 (R258): 010, OP 0x02, D 7, S 8, IMM 0x80000001. -/
theorem test_word_addi : decodeKloko 0 0b010000100111100010000000000000000000000000000001 = some (.addi 0 7 8 0x80000001) := by decide

/-- Class 3 (R259): 011, OP 0x0C, AD 1, AS 0, G 0, N 37, zeros. -/
theorem test_word_asla : decodeKloko 0 0b011011001000001001010000000000000000000000000000 = some (.asla 0 1 0 0 37) := by decide

/-- Class 4, local (R260): 100, OP 0x0, REG 17, PTR 6, zeros, OFF -2. -/
theorem test_word_ldx : decodeKloko 0 0b100000010001110000000000000000000111111111111110 = some (.ldx 0 17 6 0x7FFE) := by decide

/-- Class 4, global (R260): 100, OP 0x4, REG 11, BASE 13, SIZE 3, SX 1, zeros, OFF 0x800003. -/
theorem test_word_ldg : decodeKloko 0 0b100010001011110101110000100000000000000000000011 = some (.ldg 0 11 13 3 true 0x800003) := by decide

/-- Class 5 (R261): 101, OP 0x09, N 5, KIND 0, G 0, zeros, IMM 0x4003. -/
theorem test_word_modp : decodeKloko 0 0b101010011010000000000000000000000100000000000011 = some (.modp 0 5 0 0 0x4003) := by decide

/-- Class 6 (R262): 110, OP 0x00, COND 7, G 0, COUNT 0, zeros, TARGET 0x3FFF. -/
theorem test_word_br : decodeKloko 0 0b110000000111000000000000000000000011111111111111 = some (.br 0 7 0 0 0x3FFF) := by decide

/-- Class 7 (R263): 111, OP 0x03, G 0, SPEC 0, zeros, ARG 0x0201. -/
theorem test_word_setm : decodeKloko 0 0b111000110000000000000000000000000000001000000001 = some (.setm 0 0 0 0x0201) := by decide

/-- The all-zero word is PMOV with no move (R254). -/
theorem test_word_zero : decodeKloko 6 0 = some (.pmov 6 none none) := by decide

/-- An opcode that its class does not list and a reserved field that is not zero spell no instruction (R254, R257, R260). -/
theorem test_word_illegal : decodeKloko 0 0b001001011000000000000000000000000000000000000000 = none ∧
    decodeKloko 0 0b100010000000000001100001000000000000000000000000 = none ∧
    decodeKloko 0 0b001000001000000000000001000000000000000000000000 = none := by decide

/-! ### Single steps -/

/-- With no command waiting the device idles. -/
theorem test_step_idle : step State.reset = .next State.reset := rfl

/-- A sum that wraps leaves C and Z set and V clear; a sum out of the signed range leaves V and N set (R219, R257). -/
theorem test_sums : setFlags 0 (addOut 0xFFFFFFFFFFFF 1 false) = 0b0101 ∧ setFlags 0 (addOut 0x7FFFFFFFFFFF 1 false) = 0b1010 := by decide

/-- ADDS saturates at the ends of the signed range (R257). -/
theorem test_saturates : (satOut (2 ^ 47)).value = 0x7FFFFFFFFFFF ∧ (satOut (-2 ^ 47 - 1)).value = 0x800000000000 := by decide

/-- CLS counts the leading bits equal to bit 47, less one (R257). -/
theorem test_cls : clsOf 0 = 47 ∧ clsOf 1 = 46 ∧ clsOf 0x7FFFFFFFFFFF = 0 ∧ clsOf 0xFFFFFFFFFFFF = 47 := by decide

/-- A shift to the right by 48 gives zero, and by 127 an arithmetic one gives the sign (R257). -/
theorem test_shifts : (shrOut 0xFFFFFFFFFFFF 48).value = 0 ∧ (sraOut 0x800000000000 127).value = 0xFFFFFFFFFFFF := by decide

/-- A step takes the front of the queue: a command of a core that does not issue changes nothing else (R264). -/
theorem test_step_queue : nextIs (step { State.reset with pending := [.add 0 0 1 2 none, .tick] })
    (fun t => t.pending.length == 1 && t.regs == State.reset.regs) = true := by decide

/-! ### Witnesses: signatures -/

/-- A request to DEPLOYED, or a certificate for level 2, of a device with the identity 0, signed under anchor 1: P-256 over the
SHA-256 of its 16 bytes with r = s. -/
def signer : List Byte :=
  toBE 64 0xD31DFCED702905E76CB51EF5849875B0AB44EEC544786D2A7EC598A7E2BDFD1691AA8E72A401A0B4D156A96C8DC40A3567A7310435962A3EA542C712ED9C1BED
def signedBytes : List Byte :=
  List.replicate 12 0 ++ [2, 1, 0, 0] ++
    toBE 64 0x29104FB216CD36E30E05A92096C6D09C6CF5BFFD7A2B9E8C9A052009D8973CAF29104FB216CD36E30E05A92096C6D09C6CF5BFFD7A2B9E8C9A052009D8973CAF
/-- Anchor 1 is the hash of the signer's key. -/
def anchored (s : State) : State :=
  let h : List (Nat × BitVec 64) := [(5, 0xb790df8c7d532d9f), (6, 0xc0267b2328ce42fa), (7, 0x4f4ade413a035593), (8, 0x2382d6e763ddb121)]
  { s with nvs := { s.nvs with otp := h.foldl (fun v p => v.setIfInBounds p.1 p.2) s.nvs.otp } }
/-- A certificate that waits in the mailbox. -/
def posted (b : List Byte) : State :=
  anchored ((List.range 14).foldl (fun s k => s.setReg (SVU_DBGMBk k) (BitVec.ofNat 48 (imgLe b (6 * k) 6))) certOn)

theorem witness_LifecycleAndDebug_signature : signedFields signer signedBytes (anchored State.reset) = V_VALID ∧
    signedFields signer signedBytes State.reset ≠ V_VALID := by decide +kernel

theorem witness_LifecycleAndDebug_signed :
    (mailbox (posted signedBytes)).take 80 = signedBytes ∧ certFields (posted signedBytes) (mailbox (posted signedBytes)) = true ∧
    (posted signedBytes).svu.cert = true ∧ (posted signedBytes).svu.before = false ∧
    imgLe (mailbox (posted signedBytes)) 12 1 = 2 := by decide +kernel

/-! ### Witnesses: accesses and the clauses of R450, R468, R473 and R504 -/

/-- The debug port in KEEPTIME, and on its way there. -/
theorem witness_portLost :
    portLost asleep 14 = true ∧ portLost (inPower State.reset (.entering 2 false)) 14 = true ∧ portLost State.reset 14 = false ∧
    portLost State.reset 4 = false ∧ portLost asleep 6 = false := by decide +kernel

/-- Unit 0 is free, initiator 4's and 5's; a pin is free and 7's: nothing refuses the write of the register, and no turn of it stands. -/
theorem witness_UnitOwnership_access :
    (∀ init ∈ [4, 6], ∀ o ∈ [ownedUnit 0, ownedUnit 23, pinUnit 0, pinUnit 47],
      let s := given State.reset [(ownedFld o, 1), (ownerFld o, 4)]
      portLost State.reset init = false ∧ portCause (unstage init State.reset) init o.reg true = 0 ∧ State.reset.pls.turns = [] ∧
      ownerOf State.reset o = none ∧ ownerOf s o = some 4 ∧ portLost s init = false ∧
      portCause (unstage init s) init o.reg true = 0 ∧ s.pls.turns = []) ∧
    portCause (unstage 14 State.reset) 14 (ownedUnit 0).reg true ≠ 0 := by decide +kernel

/-- A slot of page 0, which is another's; key page 0 of initiator 0 and a word outside the pages. -/
theorem witness_RegisterAccesses_pages :
    (let a := CXE_KPn_SLOTm 3 0
     slotCause (traceInit 4 a true State.reset) 4 a true = 0 ∧ pageMay (traceInit 4 a true State.reset) 4 a = false ∧
      slotCause (traceInit 6 a true State.reset) 6 a true = 0 ∧ pageMay (traceInit 6 a true State.reset) 6 a = true) ∧
    pageMay State.reset 4 0x10000000 = true ∧ (∀ k < 7, 0x10000000 ≠ KCn_CTRL k) := by decide +kernel

/-- A time-out of an access that a core has outstanding, and of one that it has not. -/
theorem witness_InterconnectCommands_timeout :
    (let x := loadOut 0
     (((onCore run0 0 fun c => { c with out := [x] }).core 0).out.find? fun y => y.addr == x.addr && y.dest.isNone == false) = some x) ∧
    (((run0.core 0).out.find? fun y => y.addr == 0 && y.dest.isNone == false) = none) := by decide +kernel

/-- DBG_LEVEL 0 keeps the debug port from KCn_CTRL. -/
theorem witness_CoreRunControl_debug :
    portCause (unstage 14 State.reset) 14 (KCn_CTRL 0) true ≠ 0 ∧ portCause (unstage 14 (booted K_RUN)) 14 (KCn_CTRL 0) true = 0 ∧
    portLost (booted K_RUN) 14 = false := by decide +kernel

/-! ### Witnesses: power, health, clocks -/

theorem witness_PowerCommands_ticks :
    (inPower State.reset (.entering 1 false)).pwr.power = .entering 1 false ∧
    levelSource (inPower State.reset (.entering 1 false)) = none ∧ levelSource (inPower wakeActive (.entering 1 false)) = some 1 ∧
    (inPower State.reset .exiting).pwr.power = .exiting ∧ wokeNow (inPower State.reset .exiting) = false ∧
    (let s : State := { State.reset with pwr := { State.reset.pwr with power := .exiting, wakeAt := some 0 } }
     wokeNow s = true ∧ s.pwr.power = .exiting) ∧
    (let cut := fun (s : State) (n : Nat) => ({ s with pwr := { s.pwr with power := .keeptime, switching := n } } : State)
     (cut State.reset 0).pwr.switching = 0 ∧ (cut State.reset 3).pwr.switching = 1 + 2 ∧
     levelSource (cut State.reset 1) = none ∧ levelSource (cut wakeActive 1) = some 1 ∧ 0 < (cut wakeActive 4).pwr.switching ∧
     (cut wakeActive 0).pwr.supplied = true ∧ (cut wakeActive 0).flag PWR_WAKEEN_WAKE = true) := by decide +kernel

/-- TWARN stands at 0 above its limit; TCRIT stands at 0 and at 1 while THOT does. -/
theorem witness_HealthCommands_temperature :
    (let hot := given State.reset [(SAF_TEMP_T, 2047 + 2047 * 2 ^ 12 + 2047 * 2 ^ 24 + 2047 * 2 ^ 36), (SAF_STAT_THOT, 1)]
     let crit := signed 12 (hot.rd SAF_TLIM_TCRIT)
     hostOn hot = true ∧ crit ≤ (hottest (tempList hot)).2 ∧ hot.flag SAF_STAT_TWARN = false ∧ hot.flag SAF_STAT_TCRIT = false ∧
      (hot.wr SAF_STAT_TCRIT 1).flag SAF_STAT_TCRIT = true ∧ (hot.wr SAF_STAT_TWARN 1).flag SAF_STAT_TWARN = true ∧
      ¬((hottest (tempList hot)).2 < signed 12 (hot.rd SAF_TLIM_TWARN)) ∧ (hot.wr SAF_STAT_TCRIT 1).flag SAF_STAT_THOT = true) := by decide +kernel

theorem witness_RootClockCommands_unlocked :
    (∀ st ∈ [C_ACQUIRE, C_FROZEN],
      let s := with0 [(CLK_STAT_STATE, st)]
      ((rootState s = C_ACQUIRE ∨ rootState s = C_FROZEN) ∧ s.clk.lockedOnce = false) ∧ refState s 0 = R_ABSENT ∧ selected s = 0 ∧
        s.pwr.power ≠ .deep) ∧
    ¬(rootState (with0 [(CLK_STAT_STATE, C_LOCKED)]) = C_ACQUIRE ∨ rootState (with0 [(CLK_STAT_STATE, C_LOCKED)]) = C_FROZEN) ∧
    asleep.pwr.power = .deep := by decide +kernel

/-! ### Witnesses: blocks whose work is counted out -/

theorem witness_StoreCommands_chain :
    (let w : State := { State.reset with nvs := { State.reset.nvs with chain := some { op := 1, addr := 0, init := 6, writing := some ([], true, 1) } } }
     w.nvs.chain = some { op := 1, addr := 0, init := 6, writing := some ([], true, 1) }) ∧
    (let c : ChainCmd := { op := 3, addr := 0, init := 6, read := some ([1], [2]) }
     (match signedEnd c State.reset with
      | (.waits, _) => true
      | _ => false) = true ∧ c.writing = none ∧ 1 ≤ c.op ∧ c.op ≤ 4 ∧
      (({ c with verdict := some V_INVALID } : ChainCmd).read = some ([1], [2]) ∧ V_INVALID ≠ V_VALID)) ∧
    (match commitEnd 0 (chaining 1) with
     | (.fails _, _) => true
     | _ => false) = true := by decide +kernel

/-- An interval without a sample ends once its millisecond has; one that has just begun does not. -/
theorem witness_ConditionerCommands_interval :
    statDue State.reset 0 = false ∧
    statDue { State.reset with tb := { State.reset.tb with now := 2 * 2 ^ 96 / 1000 + 1 } } 0 = true := by decide +kernel

theorem witness_ArrayCommands_crc :
    (let s : State := { State.reset with cgn := { check := some (0, 0), words := 63, ticks := 2 } }
     crcDue s = true ∧ s.cgn.check = some (0, 0) ∧ 64 * (0 + 1) ≤ s.cgn.words + 1 ∧ 2 ≤ s.cgn.ticks) ∧
    (let s : State := { State.reset with cgn := { check := some (0, 0), words := 62, ticks := 2 } }
     crcDue s = false ∧ ¬(64 * (0 + 1) ≤ s.cgn.words + 1)) ∧
    State.reset.cgn.ticks < 2 ∧ State.reset.cgn.check = none := by decide +kernel

theorem witness_EngineCommands_ends :
    (let s : State := { State.reset with cxe := { State.reset.cxe with icv := 1 } }
     0 < s.cxe.icv) ∧
    (∀ code ∈ [0, 14, 255],
      nextOp (cxeWith [opOf code 8] []) = some (opOf code 8) ∧ ¬(1 ≤ (opOf code 8).op ∧ (opOf code 8).op ≤ 13) ∧
      engineFree (cxeWith [opOf code 8] []) (opOf code 8).prio = true) ∧
    (cxeWith [] [opOf 11 8]).cxe.icv = 0 ∧ nextOp (cxeWith [] [opOf 11 8]) = none ∧
    (cxeWith [] [opOf 11 8]).cxe.running = opOf 11 8 :: [] ∧
    (∀ j ∈ [SvuJob.desc 0, .chain [] [] [], .root false [] [] [] false 0 []],
      ({ State.reset with svu := { State.reset.svu with jobs := [j] } } : State).svu.jobs = j :: []) ∧
    State.reset.svu.cert = false := by decide +kernel

/-! ### Witnesses: the host, Ethernet, the firmware -/

theorem witness_BootCommands_strings :
    todAhead State.reset = false ∧
    todAhead { with0 [(TPE_TODCFG_EN, 1)] with pls := { State.reset.pls with tod := [0] } } = true ∧
    linksOn.bit HST_CTRL_LINKEN 3 = true ∧ State.reset.memc.bootMarch = false := by decide +kernel

theorem witness_EmpCommands_arguments :
    17 < (18 : Byte).toNat ∧ (17 : Byte).toNat ≤ 17 ∧ cfgFits State.reset 0 11 = false ∧ 3 < (4 : Fin 8).val := by decide +kernel

/-- A mailbox that holds junk, a frame behind junk, and a spoilt frame. -/
theorem witness_EmpCommands_mail :
    mailFrame 20 [1, 2, 3] = (0, none) ∧ mailFrame 20 (1 :: goodFrame) = (0, some (2, 0)) ∧
    mailFrame 20 (badFrame ++ goodFrame) = (1, some (2, 0)) ∧ mailFrame 20 (goodFrame.take 5) = (1, none) := by decide +kernel

theorem witness_EthernetTraffic_negotiation :
    svRuns State.reset = false ∧ svRuns svOn = true ∧ svOn.flag (ETHn_PTPCFG_ROLE 3) = false ∧
    (svOn.wr (ETHn_PTPCFG_ROLE 3) 1).flag (ETHn_PTPCFG_ROLE 3) = true := by decide +kernel

/-- A request for Sync each 2^5 s is out of range. -/
theorem witness_EthernetTraffic_range :
    (let g : GrantReq := { rxpid := [], transport := 0, mac := 0, ip := [], sync := true, log := 5, duration := 1 }
     (g.sync = true ∧ 4 < signed 8 g.log.toNat) ∧ ¬(({ g with log := 4 } : GrantReq).sync = true ∧ 4 < signed 8 (4 : Byte).toNat)) := by
  decide +kernel

end Sys2Proof.Tests
end

section
/-!
PROOFS. Accesses of an initiator to a register slot (R13, R469, R504, R560 to R562).  What an error response leaves: the registers
that decide who may reach a slot, so that a refused write of KCn_CTRL by the debug port does not set STEP after all.
-/

namespace Sys2Proof.Machine

/-! ### What an error response leaves (R471, R472) -/

/-- The registers in which an error response that is not SEVERE is counted and logged, with those of a corrected log word. -/
def errorRegs : List Nat := [IC_STAT, IC_ERRCNT, SAF_LOGWP, MEM_ECC, MEM_STAT, MEM_ECCADDR]

/-- The second state has the power state of the first, and its registers but those of an error response. -/
structure ErrorFrame (s t : State) : Prop where
  pwr : t.pwr = s.pwr
  reg : ∀ a, a ∉ errorRegs → t.reg a = s.reg a

namespace ErrorFrame

theorem refl (s : State) : ErrorFrame s s := ⟨rfl, fun _ _ => rfl⟩

theorem trans {s t u : State} (h : ErrorFrame s t) (k : ErrorFrame t u) : ErrorFrame s u :=
  ⟨k.pwr.trans h.pwr, fun a ha => (k.reg a ha).trans (h.reg a ha)⟩

/-- A change of anything but the registers and the power state. -/
theorem of_eq {s t : State} (hp : t.pwr = s.pwr) (hr : t.regs = s.regs) : ErrorFrame s t :=
  ⟨hp, fun a _ => by simp only [State.reg, hr]⟩

theorem wr {s t : State} (h : ErrorFrame s t) {f : Fld} (v : Nat) (hf : f.reg ∈ errorRegs) : ErrorFrame s (t.wr f v) :=
  h.trans ⟨rfl, fun a ha => reg_wr_ne t f v a fun e => ha (e ▸ hf)⟩

theorem rd {s t : State} (h : ErrorFrame s t) {f : Fld} (hf : f.reg ∉ errorRegs) : t.rd f = s.rd f := by
  simp only [State.rd, h.reg _ hf]

theorem flag {s t : State} (h : ErrorFrame s t) {f : Fld} (hf : f.reg ∉ errorRegs) : t.flag f = s.flag f := by
  simp only [State.flag, h.rd hf]

end ErrorFrame

theorem setBytes_regs (l : List Byte) : ∀ (s : State) (a : Nat), (s.setBytes a l).regs = s.regs := by
  induction l with
  | nil => intros; rfl
  | cons x t ih => intro s a; rw [State.setBytes, ih, setByte_regs]

theorem setBytes_pwr (l : List Byte) : ∀ (s : State) (a : Nat), (s.setBytes a l).pwr = s.pwr := by
  induction l with
  | nil => intros; rfl
  | cons x t ih => intro s a; rw [State.setBytes, ih, setByte_pwr]

theorem setLE_errorFrame (s : State) (a n v : Nat) : ErrorFrame s (s.setLE a n v) :=
  .of_eq (setBytes_pwr _ s a) (setBytes_regs _ s a)

theorem clearErrors_errorFrame (a n : Nat) (s : State) : ErrorFrame s (clearErrors a n s) := .of_eq rfl rfl

theorem countCorr_errorFrame {a : Nat} (h : target a = .aon) (s : State) : ErrorFrame s (countCorr a s) := by
  simp only [countCorr, h, count_eq, raise_eq, clear_eq]
  exact ((((ErrorFrame.refl s).wr _ (by decide)).wr _ (by decide)).wr _ (by decide)).wr _ (by decide)

/-- A correction of words of AON RAM. -/
theorem correct_errorFrame {a n : Nat} (h : ∀ w ∈ wordsOf a n, target w = .aon) (s : State) : ErrorFrame s (correct a n s) := by
  unfold correct
  split
  · exact .refl s
  · refine List.foldlRecOn (motive := ErrorFrame s) _ _ (.of_eq rfl rfl) fun t ht w hw => ht.trans (countCorr_errorFrame (h w ?_) t)
    simpa using (List.mem_filter.mp hw).2

theorem target_aon {a : Nat} (h : 0x08000000 ≤ a ∧ a < 0x08010000) : target a = .aon := by
  unfold target
  simp only [h, and_self, if_true]
  repeat' rw [if_neg (by omega)]

/-- REPEAT of an entry of the fault log. -/
theorem raiseRepeat_errorFrame (k : Nat) (s : State) : ErrorFrame s (raiseRepeat (0x0800D800 + 32 * (k % 64) + 19) s) := by
  have hc := correct_errorFrame (a := 0x0800D800 + 32 * (k % 64) + 19) (n := 1) (s := s) fun w hw => by
    simp only [wordsOf, List.mem_map, List.mem_range] at hw
    obtain ⟨i, hi, rfl⟩ := hw
    exact target_aon (by omega)
  unfold raiseRepeat
  extract_lets t
  split
  · exact hc
  · exact hc.trans (setLE_errorFrame _ _ _ _)

/-- An event that is not SEVERE is not copied to the store: only the log's pointer changes among the registers. -/
theorem logEvent_errorFrame {sev : Nat} (h : sev ≠ 2) (code init unit data : Nat) (s : State) :
    ErrorFrame s (logEvent code sev init unit data s) := by
  unfold logEvent
  extract_lets wp merge now entry slot s1 s2 saf s3
  by_cases hm : merge = true
  · rw [if_pos hm]
    exact raiseRepeat_errorFrame _ s
  · rw [if_neg hm]
    have h1 : ErrorFrame s s1 := (clearErrors_errorFrame slot 32 s).trans (setLE_errorFrame _ slot 32 entry)
    have h2 : ErrorFrame s s2 := h1.wr (f := SAF_LOGWP_WP) _ (by decide)
    rw [if_neg h]
    clear_value s2
    exact h2.trans (.of_eq rfl rfl)

theorem icError_errorFrame (init a : Nat) (write : Bool) (cause : Nat) (s : State) : ErrorFrame s (icError init a write cause s) := by
  unfold icError
  extract_lets e bus logged dropped t sev
  have ht : ErrorFrame s t := by
    unfold t
    split
    · have hl : ErrorFrame s logged := .of_eq rfl rfl
      exact (hl.wr (f := IC_STAT_ERR) _ (by decide)).wr (f := IC_ERRCNT_LOGGED) _ (by decide)
    · have hd : ErrorFrame s dropped := .of_eq rfl rfl
      exact (hd.wr (f := IC_STAT_OVF) _ (by decide)).wr (f := IC_ERRCNT_DROPPED) _ (by decide)
  exact ht.trans (logEvent_errorFrame (by unfold sev; split <;> decide) _ _ _ _ _)

theorem unstage_errorFrame (init : Nat) (s : State) : ErrorFrame s (unstage init s) := .of_eq rfl rfl

theorem returned_errorFrame (c : Nat) (d : List Byte) (s : State) : ErrorFrame s (returned c d s) := .of_eq rfl rfl

/-- The registers of the 32 regions of the firewall are none of them. -/
theorem firewall_notMem_errorRegs {a : Nat} (h : 0x10100100 ≤ a ∧ a < 0x10100500) : a ∉ errorRegs := by
  simp only [errorRegs, IC_STAT, IC_ERRCNT, SAF_LOGWP, MEM_ECC, MEM_STAT, MEM_ECCADDR, List.mem_cons, List.not_mem_nil, or_false]
  omega

/-! ### Who may reach a slot is the same behind an error response -/

namespace ErrorFrame

variable {s t : State} (h : ErrorFrame s t)
include h

theorem fwHit {n : Nat} (hn : n < 32) (a : Nat) : Machine.fwHit t a n = Machine.fwHit s a n := by
  have hb : IC_FWn_BASE n ∉ errorRegs := firewall_notMem_errorRegs (by simp only [IC_FWn_BASE]; omega)
  have hl : IC_FWn_LIMIT n ∉ errorRegs := firewall_notMem_errorRegs (by simp only [IC_FWn_LIMIT]; omega)
  simp only [Machine.fwHit, h.flag (f := IC_FWn_BASE_EN n) hb, h.rd (f := IC_FWn_BASE_BASE n) hb,
    h.rd (f := IC_FWn_LIMIT_LIMIT n) hl]

theorem fwWord (a : Nat) : Machine.fwWord t a = Machine.fwWord s a := by
  have hfind : (List.range 32).find? (Machine.fwHit t a) = (List.range 32).find? (Machine.fwHit s a) :=
    List.find?_congr fun n hn => h.fwHit (List.mem_range.mp hn) a
  unfold Machine.fwWord
  rw [hfind]
  split
  next n hn =>
    have hn32 : n < 32 := List.mem_range.mp (List.mem_of_find?_eq_some hn)
    exact h.rd (f := IC_FWn_PERM_PERM n) (firewall_notMem_errorRegs (by simp only [IC_FWn_PERM_PERM, IC_FWn_PERM]; omega))
  next => exact h.rd (by decide)

theorem debugMay (a : Nat) (write : Bool) : Machine.debugMay t a write = Machine.debugMay s a write := by
  unfold Machine.debugMay; rw [h.rd (f := SVU_DBG_LEVEL) (by decide)]

theorem fwPermits (init a : Nat) (read write : Bool) : Machine.fwPermits t init a read write = Machine.fwPermits s init a read write := by
  simp only [Machine.fwPermits, fwExempt, h.fwWord, h.rd (f := SVU_DBG_LEVEL) (by decide)]

theorem isOff (a : Nat) : t.isOff a = s.isOff a := by
  unfold State.isOff; rw [h.pwr]

theorem portCause (init a : Nat) (write : Bool) : Machine.portCause t init a write = Machine.portCause s init a write := by
  unfold Machine.portCause
  rw [h.debugMay, h.fwPermits, h.isOff]

theorem slotCause (init a : Nat) (write : Bool) : Machine.slotCause t init a write = Machine.slotCause s init a write := by
  unfold Machine.slotCause mayTrace
  rw [h.portCause, h.rd (f := SVU_DBG_LEVEL) (by decide)]

end ErrorFrame

/-- A slot that an access found closed is closed behind its error response. -/
theorem slotCause_errorResponse (s : State) (init addr slot cause : Nat) (write : Bool) (d : List Byte) :
    slotCause (returned cause d (icError init addr write cause (unstage init s))) init slot write = slotCause s init slot write :=
  have h : ErrorFrame s (returned cause d (icError init addr write cause (unstage init s))) :=
    ((unstage_errorFrame init s).trans (icError_errorFrame init addr write cause _)).trans (returned_errorFrame cause d _)
  h.slotCause init slot write

/-! ### Bytes of a number -/

theorem length_toLE (n : Nat) : ∀ v, (toLE n v).length = n := by
  induction n with
  | zero => intro v; rfl
  | succ n ih => intro v; rw [toLE, List.length_cons, ih]

/-- `n` little-endian bytes hold a number modulo 2 ^ (8 n). -/
theorem ofLE_toLE (n : Nat) : ∀ v, ofLE (toLE n v) = v % 2 ^ (8 * n) := by
  induction n with
  | zero => intro v; simp [toLE, ofLE, Nat.mod_one]
  | succ n ih => intro v; rw [toLE, ofLE, ih, BitVec.toNat_ofNat, Nat.mul_succ, Nat.pow_add, Nat.mul_comm (2 ^ (8 * n)),
      Nat.mod_mul]

theorem ofLE_toLE_word (v : Word) : ofLE (toLE 6 v.toNat) = v.toNat := by
  rw [ofLE_toLE]; exact Nat.mod_eq_of_lt v.isLt

/-! ### An access within one slot is one piece (R560) -/

@[simp] theorem firstCause_zero (c : Nat) : firstCause c 0 = c := by
  unfold firstCause; split <;> simp_all

@[simp] theorem busWriteF_nil (init fuel a : Nat) (s : State) : busWriteF init fuel a [] s = (0, s) := by
  cases fuel <;> rfl

@[simp] theorem busReadF_zero (init fuel a : Nat) (s : State) : busReadF init fuel a 0 s = (0, [], s) := by
  cases fuel <;> rfl

section
variable {a : Nat} (hblock : inBlocks a = true) (hbuf : isHostBuffer a = false)
include hblock hbuf

theorem busWrite_slot (init : Nat) {b : List Byte} (hb : b ≠ []) (hlen : a % 8 + b.length ≤ 8) (s : State) :
    busWrite init a b s = regPieceWrite init a b s := by
  have hk : pieceLen a b.length = b.length := by simp only [pieceLen, hblock, if_true]; omega
  have hpiece : pieceWrite init a b s = regPieceWrite init a b s := by simp [pieceWrite, hblock, hbuf]
  rw [busWrite, busWriteF, if_neg (by simpa using hb)]
  simp only [hk, List.take_length, List.drop_length, hpiece, busWriteF_nil, firstCause_zero]

theorem busRead_slot (init : Nat) {n : Nat} (hn : n ≠ 0) (hlen : a % 8 + n ≤ 8) (s : State) :
    busRead init a n s = regPieceRead init a n s := by
  have hk : pieceLen a n = n := by simp only [pieceLen, hblock, if_true]; omega
  have hpiece : pieceRead init a n s = regPieceRead init a n s := by simp [pieceRead, hblock, hbuf]
  rw [busRead, busReadF, if_neg hn]
  simp only [hk, Nat.sub_self, hpiece, busReadF_zero, firstCause_zero, List.append_nil]

end

/-! ### What a slot answers -/

section
variable {init a : Nat} {s : State}

theorem slotWrite_word (v : Word) :
    slotWrite init a 0 (toLE 6 v.toNat) s = (blockCause init a v (unstage init s), regWrite init a v (unstage init s)) := by
  simp [slotWrite, slotWriteOf, length_toLE, ofLE_toLE_word]

theorem slotWrite_upper (hi : BitVec 32) :
    slotWrite init a 4 (toLE 4 hi.toNat) s =
      let u := unstage init s
      (0, { u with bus := { u.bus with staged := (init, a, hi.toNat % 65536) :: u.bus.staged } }) := by
  simp [slotWrite, slotWriteOf, length_toLE, ofLE_toLE]

theorem slotRead_lower :
    slotRead init a 0 4 s = ((toLE 8 (regImage init a s).1).take 4,
      latchHalf init a ((regImage init a s).1 / 2 ^ 32) (readEffect init a (regImage init a s).2)) := by
  simp [slotRead]

end

section
variable {init a slot : Nat} {s : State} (hslot : a / 8 * 8 = slot)
include hslot

theorem regPieceWrite_refused (bs : List Byte) (h : slotCause (traceInit init a true s) init slot true ≠ 0) :
    regPieceWrite init a bs s =
      (slotCause (traceInit init a true s) init slot true,
        icError init a true (slotCause (traceInit init a true s) init slot true) (unstage init (traceInit init a true s))) := by
  simp only [regPieceWrite, hslot, if_pos h]

theorem regPieceWrite_page (bs : List Byte) (h : slotCause (traceInit init a true s) init slot true = 0)
    (hp : pageMay (traceInit init a true s) init slot = false) :
    regPieceWrite init a bs s = (OWNER, pageViolation init slot true (unstage init (traceInit init a true s))) := by
  simp [regPieceWrite, hslot, h, hp]

theorem regPieceWrite_taken (bs : List Byte) (h : slotCause (traceInit init a true s) init slot true = 0)
    (hp : pageMay (traceInit init a true s) init slot = true) :
    regPieceWrite init a bs s = slotWrite init slot (a % 8) bs (traceInit init a true s) := by
  simp [regPieceWrite, hslot, h, hp]

theorem regPieceRead_refused (n : Nat)
    (h : slotCause (unstage init (traceInit init a false s)) init slot false ≠ 0) :
    regPieceRead init a n s =
      (slotCause (unstage init (traceInit init a false s)) init slot false, List.replicate n 0,
        icError init a false (slotCause (unstage init (traceInit init a false s)) init slot false)
          (unstage init (traceInit init a false s))) := by
  simp only [regPieceRead, hslot, if_pos h]

theorem regPieceRead_owned (n : Nat)
    (h : slotCause (unstage init (traceInit init a false s)) init slot false = 0)
    (ho : readOwned (unstage init (traceInit init a false s)) init slot = true) :
    regPieceRead init a n s =
      (0, slotRead init slot (a % 8) n (unstage init (traceInit init a false s))) := by
  simp [regPieceRead, hslot, h, ho]

theorem regPieceRead_foreign (n : Nat)
    (h : slotCause (unstage init (traceInit init a false s)) init slot false = 0)
    (ho : readOwned (unstage init (traceInit init a false s)) init slot = false) :
    regPieceRead init a n s =
      (OWNER, List.replicate n 0,
        if a / 65536 = 0x1012 then pageViolation init slot false (unstage init (traceInit init a false s))
        else icError init a false OWNER (unstage init (traceInit init a false s))) := by
  simp [regPieceRead, hslot, h, ho]

end

/-! ### Writes that do not set STEP (R253) -/

theorem slotPart_other {a slot : Nat} {b : List Byte} (hb : b.length ≤ 8) (ha : a % 8 = 0) (hs : slot % 8 = 0) (h : slot ≠ a) :
    slotPart a b slot = [] := by
  unfold slotPart
  split
  · rw [List.drop_eq_nil_of_le (by omega), List.take_nil]
  · rfl

theorem slotPart_self (a : Nat) {b : List Byte} (hb : b.length ≤ 8) : slotPart a b a = b := by
  simp [slotPart, List.take_of_length_le hb]

theorem KCn_CTRL_aligned (n : Nat) : KCn_CTRL n % 8 = 0 := by simp only [KCn_CTRL]; omega

section
variable {init a n : Nat} {b : List Byte} {t : State}

theorem setsStep_otherInit (h : init ≠ 14) : setsStep init a b t n = false := by
  simp [setsStep, h]

theorem setsStep_otherSlot (hb : b.length ≤ 8) (ha : a % 8 = 0) (h : KCn_CTRL n ≠ a) : setsStep init a b t n = false := by
  simp [setsStep, slotPart_other hb ha (KCn_CTRL_aligned n) h]

theorem setsStep_refused (hb : b.length ≤ 8) (ha : a % 8 = 0) (h : slotCause t init a true ≠ 0) : setsStep init a b t n = false := by
  by_cases hn : KCn_CTRL n = a
  · simp [setsStep, hn, h]
  · exact setsStep_otherSlot hb ha hn

theorem setsStep_word_clear {v : Word} (ha : a % 8 = 0) (hv : v.getLsbD 3 = false) :
    setsStep init a (toLE 6 v.toNat) t n = false := by
  have hb : (toLE 6 v.toNat).length ≤ 8 := by rw [length_toLE]; omega
  by_cases hn : KCn_CTRL n = a
  · have hbit : v.toNat.testBit 3 = false := hv
    simp [setsStep, hn, slotPart_self a hb, ofLE_toLE_word, hbit]
  · exact setsStep_otherSlot hb ha hn

end

/-- A write that sets STEP of no core is the write alone. -/
theorem accessBy_write {init a : Nat} {b : List Byte} {s : State} (hp : portLost s init = false)
    (h : ∀ n < 7, setsStep init a b (returned (busWrite init a b s).1 [] (busWrite init a b s).2) n = false) :
    accessBy init a (.write b) s = returned (busWrite init a b s).1 [] (busWrite init a b s).2 := by
  simp only [accessBy, hp, Bool.false_eq_true, if_false]
  refine List.foldlRecOn (motive := (· = returned (busWrite init a b s).1 [] (busWrite init a b s).2)) _ _ rfl ?_
  rintro t rfl n hn
  rw [h n (List.mem_range.mp hn), if_neg Bool.false_ne_true]

/-! ### The commands of a register slot -/

section
variable {init : Init} {addr : BitVec 32} {a : Nat} {s : State}

theorem exec_registerWrite (v : Word) :
    exec (.registerWrite init addr v) s = .next (accessBy init (addr.toNat / 8 * 8) (.write (toLE 6 v.toNat)) s) := rfl

theorem exec_halfWriteStage (hi : BitVec 32) :
    exec (.halfWriteStage init addr hi) s = .next (busShown init (addr.toNat / 8 * 8 + 4) (.write (toLE 4 hi.toNat)) s) := rfl

theorem exec_halfReadLatch :
    exec (.halfReadLatch init addr) s = .next (busShown init (addr.toNat / 8 * 8) (.read 4) s) := rfl

/-- What a debug port without power sends is lost (R450). -/
theorem slotCommands_lost (hp : portLost s init = true) (v : Word) (hi : BitVec 32) :
    exec (.registerWrite init addr v) s = .next s ∧ exec (.halfWriteStage init addr hi) s = .next s ∧
      exec (.halfReadLatch init addr) s = .next s := by
  rw [exec_registerWrite, exec_halfWriteStage, exec_halfReadLatch]
  simp only [accessBy, busShown, hp, if_true, and_self]

variable (haddr : addr.toNat = a) (ha : a % 8 = 0) (hlo : 0x10000000 ≤ a) (hhi : a < 0x10190000) (hp : portLost s init = false)
include haddr ha hlo hhi hp

theorem exec_registerWrite_slot (hbuf : isHostBuffer a = false) (v : Word) {c : Nat} {t : State}
    (hw : regPieceWrite init a (toLE 6 v.toNat) s = (c, t))
    (hstep : ∀ n < 7, setsStep init a (toLE 6 v.toNat) (returned c [] t) n = false) :
    exec (.registerWrite init addr v) s = .next (returned c [] t) := by
  have hb : busWrite init a (toLE 6 v.toNat) s = (c, t) := by
    rw [busWrite_slot (by simp [inBlocks, hlo, hhi]) hbuf _ (by simp [toLE]) (by simp [length_toLE, ha]), hw]
  rw [exec_registerWrite, haddr, Nat.div_mul_cancel (Nat.dvd_of_mod_eq_zero ha), accessBy_write hp (by rw [hb]; exact hstep), hb]

theorem exec_halfWriteStage_slot (hbuf : isHostBuffer (a + 4) = false) (hi : BitVec 32) :
    exec (.halfWriteStage init addr hi) s =
      .next (returned (regPieceWrite init (a + 4) (toLE 4 hi.toNat) s).1 [] (regPieceWrite init (a + 4) (toLE 4 hi.toNat) s).2) := by
  rw [exec_halfWriteStage, haddr, Nat.div_mul_cancel (Nat.dvd_of_mod_eq_zero ha)]
  simp only [busShown, hp, Bool.false_eq_true, if_false, busOp]
  rw [busWrite_slot (by simp [inBlocks]; omega) hbuf _ (by simp [toLE]) (by rw [length_toLE]; omega)]

theorem exec_halfReadLatch_slot (hbuf : isHostBuffer a = false) :
    exec (.halfReadLatch init addr) s =
      .next (returned (regPieceRead init a 4 s).1 (regPieceRead init a 4 s).2.1 (regPieceRead init a 4 s).2.2) := by
  rw [exec_halfReadLatch, haddr, Nat.div_mul_cancel (Nat.dvd_of_mod_eq_zero ha)]
  simp only [busShown, hp, Bool.false_eq_true, if_false, busOp]
  rw [busRead_slot (by simp [inBlocks, hlo, hhi]) hbuf _ (by decide) (by omega)]

end

/-- A slot of another's key page is no register of a core. -/
theorem KCn_CTRL_ne_of_page {s : State} {init a n : Nat} (h : pageMay s init a = false) (hn : n < 7) : KCn_CTRL n ≠ a := by
  have hpage : a / 65536 = 0x1012 := by
    simp only [pageMay, Bool.or_eq_false_iff, bne_eq_false_iff_eq] at h
    exact h.1
  simp only [KCn_CTRL]
  omega

/-- Settles O51: an access within a slot is one piece, whose branches are the clauses; a refused write by the debug port is refused
again when STEP is looked for, since its error response leaves the registers that refuse it. -/
theorem registerAccesses : Obligations.RegisterAccesses := by
  intro init slot v hi s a addr sw su sr hbuf hbuf4
  have ha : a % 8 = 0 := by unfold a; omega
  have hlo : 0x10000000 ≤ a := by unfold a; omega
  have hhi : a < 0x10190000 := by have := slot.isLt; unfold a; omega
  have haddr : addr.toNat = a := by unfold addr; rw [BitVec.toNat_ofNat]; omega
  have hslot : a / 8 * 8 = a := by omega
  have hslot4 : (a + 4) / 8 * 8 = a := by omega
  have hofs : (a + 4) % 8 = 4 := by omega
  have hlen : (toLE 6 v.toNat).length ≤ 8 := by rw [length_toLE]; omega
  refine ⟨fun hp => slotCommands_lost hp v hi, fun hp => ?_⟩
  have hwrite := fun {c t} => exec_registerWrite_slot haddr ha hlo hhi hp hbuf v (c := c) (t := t)
  have hstage := exec_halfWriteStage_slot haddr ha hlo hhi hp hbuf4 hi
  have hread := exec_halfReadLatch_slot haddr ha hlo hhi hp hbuf
  refine ⟨fun hc => ?_, fun hc hm => ?_, fun hc hm hs => ?_, fun hc => ?_, fun hc hm => ?_, fun hc hm => ?_, fun hc => ?_,
    fun hc ho => ?_, fun hc ho => ?_⟩
  · have hr : slotCause (returned (slotCause sw init a true) [] (icError init a true (slotCause sw init a true) (unstage init sw)))
        init a true ≠ 0 := by rwa [slotCause_errorResponse]
    exact hwrite (regPieceWrite_refused hslot _ hc) fun n _ => setsStep_refused hlen ha hr
  · exact hwrite (regPieceWrite_page hslot _ hc hm) fun n hn => setsStep_otherSlot hlen ha (KCn_CTRL_ne_of_page hm hn)
  · have hw : regPieceWrite init a (toLE 6 v.toNat) s = (blockCause init a v (unstage init sw), regWrite init a v (unstage init sw)) := by
      rw [regPieceWrite_taken hslot _ hc hm, ha, slotWrite_word]
    refine hwrite hw fun n hn => ?_
    rcases hs with hinit | hctrl | hbit
    · exact setsStep_otherInit hinit
    · exact setsStep_otherSlot hlen ha (hctrl n hn).symm
    · exact setsStep_word_clear ha hbit
  · rw [hstage, regPieceWrite_refused hslot4 _ hc]
  · rw [hstage, regPieceWrite_page hslot4 _ hc hm]
  · rw [hstage, regPieceWrite_taken hslot4 _ hc hm, hofs, slotWrite_upper]
  · rw [hread, regPieceRead_refused hslot _ hc]
    rfl
  · rw [hread, regPieceRead_owned hslot _ hc ho, ha, slotRead_lower]
  · rw [hread, regPieceRead_foreign hslot _ hc ho]
    rfl

end Sys2Proof.Machine

end

section
/-!
PROOFS. Enables, masks and configuration of a sample-link port (R35 to R45): what each write does in each of its cases.
-/

namespace Sys2Proof.Machine

/-! ### Enables and configuration of a port (R38, R41, R42) -/

section
variable {n : Nat} {s : State}

theorem spEnable_enabled (h : s.flag (SPn_CTRL_EN n) = true) : spEnable n s = s := by
  simp [spEnable, h]

theorem spEnable_fits (h : s.flag (SPn_CTRL_EN n) = false)
    (hfit : slotsFit (s.rd (SPn_CTRL_FMT n)) (s.rd (SPn_CTRL_SLOTRATE n)) (s.rd (SPn_SLOTMASK_ACTIVE n)) (s.flag (SPn_CTRL_BAUD n)) = true) :
    spEnable n s = portEnable n s := by
  simp [spEnable, h, hfit]

theorem spEnable_misfit (h : s.flag (SPn_CTRL_EN n) = false)
    (hfit : slotsFit (s.rd (SPn_CTRL_FMT n)) (s.rd (SPn_CTRL_SLOTRATE n)) (s.rd (SPn_SLOTMASK_ACTIVE n)) (s.flag (SPn_CTRL_BAUD n)) = false) :
    spEnable n s = s.wr (SPn_STAT_CFGERR n) 1 := by
  simp [spEnable, h, hfit]

theorem spDisable_disabled (h : s.flag (SPn_CTRL_EN n) = false) : spDisable n s = s := by
  simp [spDisable, h]

theorem spDisable_enabled (h : s.flag (SPn_CTRL_EN n) = true) : spDisable n s = portDisable n s := by
  simp [spDisable, h]

/-- A port with frames in progress goes on decoding to its boundary. -/
theorem portDisable_inProgress (h : (s.clear (SPn_CTRL_EN n)).flag (SPn_STAT_LINK_UP n) = true ∨ (s.port n).recovering = true) :
    portDisable n s = (s.wr (SPn_CTRL_EN n) 0).setPort n { s.port n with stopping := true } := by
  rcases h with h | h <;> simp_all [portDisable]

theorem portDisable_idle (hlink : (s.clear (SPn_CTRL_EN n)).flag (SPn_STAT_LINK_UP n) = false) (hrec : (s.port n).recovering = false) :
    portDisable n s = portStop n (s.wr (SPn_CTRL_EN n) 0) := by
  simp_all [portDisable]

theorem spCtrlWrite_refused {v : Word} (h : changesFormat s n v = true)
    (hon : s.flag (SPn_CTRL_EN n) = true ∨ s.flag (SPn_CTRL_BCEN n) = true) :
    spCtrlWrite n v s = s.wr (SPn_STAT_CFGERR n) 1 := by
  rcases hon with hon | hon <;> simp [spCtrlWrite, h, hon]

theorem spCtrlWrite_taken {v : Word}
    (h : changesFormat s n v = false ∨ (s.flag (SPn_CTRL_EN n) = false ∧ s.flag (SPn_CTRL_BCEN n) = false)) :
    spCtrlWrite n v s =
      let s0 := if (SPn_CTRL_BCEN n).of v = 0 then bcenFall n s else s
      let s1 := (s0.typed (SPn_CTRL n) v).wr (SPn_CTRL_EN n) (s.rd (SPn_CTRL_EN n))
      if (SPn_CTRL_EN n).of v = 1 then spEnable n s1 else spDisable n s1 := by
  rcases h with h | ⟨hen, hbc⟩
  · simp [spCtrlWrite, h]
  · simp [spCtrlWrite, hen, hbc]

/-! ### Masks of a port (R43 to R45) -/

variable {m : Nat}

theorem maskWrite_busy (hon : portOn s n = true) (hp : s.flag (SPn_SLOTMASK_CHG_PEND n) = true) :
    maskWrite n m s = s.wr (SPn_STAT_MASK_BUSY n) 1 := by
  simp [maskWrite, hon, hp]

theorem maskWrite_misfit (hfree : portOn s n = false ∨ s.flag (SPn_SLOTMASK_CHG_PEND n) = false)
    (hfit : slotsFit (s.rd (SPn_CTRL_FMT n)) (s.rd (SPn_CTRL_SLOTRATE n)) m (s.flag (SPn_CTRL_BAUD n)) = false) :
    maskWrite n m s = s.wr (SPn_STAT_CFGERR n) 1 := by
  rcases hfree with h | h <;> simp [maskWrite, h, hfit]

/-- A mask of an enabled port waits for its echo. -/
theorem maskWrite_waits (hon : portOn s n = true) (hp : s.flag (SPn_SLOTMASK_CHG_PEND n) = false)
    (hfit : slotsFit (s.rd (SPn_CTRL_FMT n)) (s.rd (SPn_CTRL_SLOTRATE n)) m (s.flag (SPn_CTRL_BAUD n)) = true) :
    maskWrite n m s = (((s.wr (SPn_SLOTMASK_MASK n) m).wr (SPn_SLOTMASK_PENDING n) m).wr (SPn_SLOTMASK_CHG_PEND n) 1).setPort n
      { s.port n with maskAt := some s.ticks } := by
  simp [maskWrite, hon, hp, hfit]

theorem maskWrite_off (hon : portOn s n = false)
    (hfit : slotsFit (s.rd (SPn_CTRL_FMT n)) (s.rd (SPn_CTRL_SLOTRATE n)) m (s.flag (SPn_CTRL_BAUD n)) = true) :
    maskWrite n m s = (s.wr (SPn_SLOTMASK_MASK n) m).wr (SPn_SLOTMASK_ACTIVE n) m := by
  simp [maskWrite, hon, hfit]

theorem maskDue_pending {w : Nat} (h : (s.port n).maskAt = some w) (t : Nat) :
    maskDue s n t = decide (w + max (s.rd (SPn_CTRL_MASKTO n)) 1 * frameTicks ≤ t) := by
  simp [maskDue, h]

end

/-! ### The commands that control a port -/

section
variable (n : Port) (s : State)

theorem exec_spEnable : exec (.spEnable n) s = .next (whenOn (SPn_CTRL n) (fun _ => spEnable n s) s) :=
  congrArg Host.Outcome.next (whenOn_const s _ (spEnable n))
theorem exec_spDisable : exec (.spDisable n) s = .next (whenOn (SPn_CTRL n) (fun _ => spDisable n s) s) :=
  congrArg Host.Outcome.next (whenOn_const s _ (spDisable n))
theorem exec_bcenEnable : exec (.bcenEnable n) s = .next (whenOn (SPn_CTRL n) (fun _ => s.wr (SPn_CTRL_BCEN n) 1) s) :=
  congrArg Host.Outcome.next (whenOn_const s _ fun s => s.raise (SPn_CTRL_BCEN n))
theorem exec_bcenDisable : exec (.bcenDisable n) s = .next (whenOn (SPn_CTRL n) (fun _ => bcenFall n s) s) :=
  congrArg Host.Outcome.next (whenOn_const s _ (bcenFall n))
theorem exec_spConfigWrite (v : Word) :
    exec (.spConfigWrite n v) s = .next (whenOn (SPn_CTRL n) (fun _ => spCtrlWrite n v s) s) :=
  congrArg Host.Outcome.next (whenOn_const s _ (spCtrlWrite n v))
theorem exec_maskWrite (m : BitVec 4) :
    exec (.maskWrite n m) s = .next (whenOn (SPn_SLOTMASK n) (fun _ => maskWrite n m.toNat s) s) :=
  congrArg Host.Outcome.next (whenOn_const s _ (maskWrite n m.toNat))
theorem exec_maskTimeout : exec (.maskTimeout n) s = .next (tickAt (maskDue · n ·) s) := rfl

end

/-- Settles O15: each command is its operation on a port with power, and the operation's cases are the clauses. -/
theorem sampleLinkControl : Obligations.SampleLinkControl := by
  intro n s fits t fresh ctl msk fall
  refine ⟨exec_bcenEnable n s, exec_bcenDisable n s, fun hen hfit => ?_, fun hen hfit => ?_, fun hen => ?_,
    fun hen => ⟨?_, fun hbusy => ?_, fun hlink hrec => ?_⟩, fun v hv hon => ?_,
    fun v hv => ⟨?_, exec_spEnable n s, exec_spDisable n s⟩,
    fun m => ⟨fun hon hp => ?_, fun hfree hfit => ?_, fun hon hp hfit => ?_, fun hon hfit => ?_⟩,
    exec_maskTimeout n s, fun w hw => maskDue_pending hw, rfl⟩
  · rw [exec_spEnable, spEnable_fits hen hfit]; rfl
  · rw [exec_spEnable, spEnable_misfit hen hfit]
  · rw [exec_spDisable, spDisable_disabled hen]
  · rw [exec_spEnable, spEnable_enabled hen]
  · rw [exec_spDisable, spDisable_enabled hen, portDisable_inProgress hbusy]
  · rw [exec_spDisable, spDisable_enabled hen, portDisable_idle hlink hrec]
  · rw [exec_spConfigWrite, spCtrlWrite_refused hv hon]
  · rw [exec_spConfigWrite, spCtrlWrite_taken hv]; rfl
  · rw [exec_maskWrite, maskWrite_busy hon hp]
  · rw [exec_maskWrite, maskWrite_misfit hfree hfit]
  · rw [exec_maskWrite, maskWrite_waits hon hp hfit]
  · rw [exec_maskWrite, maskWrite_off hon hfit]

end Sys2Proof.Machine

end

section
/-!
PROOFS. Receive frames, missing frames and back-channel frames of a sample link (R25 to R64): what a port does with each.
-/

namespace Sys2Proof.Machine

/-! ### A frame boundary (R42) -/

section
variable {n : Nat} {s : State}

theorem atBoundary_stopping (h : (s.port n).stopping = true) (next : State → State) : atBoundary n next s = portStop n s := by
  simp [atBoundary, h]

theorem atBoundary_running (h : (s.port n).stopping = false) (next : State → State) : atBoundary n next s = next s := by
  simp [atBoundary, h]

/-! ### Missing frames (R63, R64) -/

theorem frameMissing_off (h : portOn s n = false) : frameMissing n s = s := by
  simp [frameMissing, h]

theorem frameMissing_down (h : s.flag (SPn_STAT_LINK_UP n) = false) : frameMissing n s = s := by
  simp [frameMissing, h]

theorem frameMissing_up (hon : portOn s n = true) (hup : s.flag (SPn_STAT_LINK_UP n) = true) :
    frameMissing n s = atBoundary n (missFrame n) s := by
  simp [frameMissing, hon, hup]

theorem linkDownFrame_off (h : portOn s n = false) : linkDownFrame n s = s := by
  simp [linkDownFrame, h]

theorem linkDownFrame_idle (h : (s.port n).recovering = false ∨ s.flag (SPn_STAT_LINK_UP n) = true) : linkDownFrame n s = s := by
  rcases h with h | h <;> simp [linkDownFrame, h]

theorem linkDownFrame_recovering (hon : portOn s n = true) (hrec : (s.port n).recovering = true)
    (hup : s.flag (SPn_STAT_LINK_UP n) = false) : linkDownFrame n s = atBoundary n (downFrame n) s := by
  simp [linkDownFrame, hon, hrec, hup]

theorem downFrame_silent (h : (s.port n).hunt = 0) : downFrame n s = missingFrame n s := by
  simp [downFrame, h]

/-- The FCNT of the frames that count toward the link stays in its register. -/
theorem downFrame_hunting (h : 0 < (s.port n).hunt) :
    downFrame n s = (missingFrame n s).setReg (SPn_FCNT n) (s.reg (SPn_FCNT n)) := by
  simp [downFrame, h]

/-! ### Receive frames (R47 to R64) -/

theorem refreshOwd_port (n m : Nat) (s : State) : (refreshOwd n s).port m = s.port m := by
  unfold refreshOwd; split <;> rfl

/-- The state in which a port takes a frame: with the disparity that it leaves, and the one-way delay brought up to date. -/
def frameTaken (n : Nat) (f : RxFrame) (s : State) : State :=
  refreshOwd n (s.setPort n { s.port n with rxRd := some (rxLine s n f).2 })

theorem frameTaken_port (hn : n < 32) (f : RxFrame) :
    (frameTaken n f s).port n = { s.port n with rxRd := some (rxLine s n f).2 } := by
  rw [frameTaken, refreshOwd_port, setPort_port_eq _ _ _ hn]

variable {f : RxFrame}

theorem rxFrame_off (h : portOn s n = false) : rxFrame n f s = s := by
  simp [rxFrame, h]

theorem rxFrame_noSof (hon : portOn s n = true) (hsof : (rxLine s n f).1.sof = false) :
    rxFrame n f s = if f.inPlace then frameMissing n s else s := by
  simp [rxFrame, hon, hsof]

theorem rxFrame_stray (hon : portOn s n = true) (hsof : (rxLine s n f).1.sof = true)
    (hup : s.flag (SPn_STAT_LINK_UP n) = true) (hplace : f.inPlace = false) : rxFrame n f s = s := by
  simp [rxFrame, hon, hsof, hup, hplace]

theorem rxFrame_hunting (hon : portOn s n = true) (hsof : (rxLine s n f).1.sof = true)
    (hup : s.flag (SPn_STAT_LINK_UP n) = false) :
    rxFrame n f s = huntFrame n (s.tb.now + s.fineOf f.sub) f.inPlace (rxLine s n f).1 (frameTaken n f s) := by
  simp [rxFrame, hon, hsof, hup, frameTaken]

theorem rxFrame_up (hon : portOn s n = true) (hsof : (rxLine s n f).1.sof = true)
    (hup : s.flag (SPn_STAT_LINK_UP n) = true) (hplace : f.inPlace = true) :
    rxFrame n f s = atBoundary n (rxInPlace n (s.tb.now + s.fineOf f.sub) (rxLine s n f).1) (frameTaken n f s) := by
  simp [rxFrame, hon, hsof, hup, hplace, frameTaken]

variable {arr : Nat} {l : LineFrame} {inPlace : Bool}

theorem huntFrame_badCrc (h : rxCrcOk l = false) : huntFrame n arr inPlace l s = s.setPort n { s.port n with hunt := 0 } := by
  simp [huntFrame, h]

/-- The run of a hunting port with one more frame whose CRC passes: one that is not in place is the first of a new run. -/
def huntRun (n : Nat) (inPlace : Bool) (s : State) : Nat := if inPlace then (s.port n).hunt + 1 else 1

theorem huntFrame_counts (h : rxCrcOk l = true) (hrun : huntRun n inPlace s < 8) :
    huntFrame n arr inPlace l s =
      useHeader n arr l (showFcnt n (rxFcnt l) (s.setPort n { s.port n with hunt := huntRun n inPlace s })) := by
  have hrun' : ¬ 8 ≤ huntRun n inPlace s := by omega
  unfold huntRun at hrun' ⊢
  simp only [huntFrame, h, Bool.not_true, Bool.false_eq_true, if_false, if_neg hrun']

theorem huntFrame_linksUp (h : rxCrcOk l = true) (hrun : 8 ≤ huntRun n inPlace s) :
    huntFrame n arr inPlace l s = rxInPlace n arr l (linkUp n (s.setPort n { s.port n with hunt := huntRun n inPlace s })) := by
  unfold huntRun at hrun ⊢
  simp only [huntFrame, h, Bool.not_true, Bool.false_eq_true, if_false, if_pos hrun]

/-- A port that takes a frame in place, before it looks at it: the run of missing ones is over. -/
def frameFound (n : Nat) (s : State) : State := s.setPort n { s.port n with missing := 0 }

/-- The same with the header used, where its CRC passes. -/
def headerUsed (n arr : Nat) (l : LineFrame) (s : State) : State :=
  if rxCrcOk l then useHeader n arr l (frameFound n s) else frameFound n s

theorem rxInPlace_eq : rxInPlace n arr l s =
    if ((headerUsed n arr l s).port n).recovering && mutePriority (headerUsed n arr l s) n false l == 0 then
      recoverFrame n (slateOf (frameFound n s) n arr) l (headerUsed n arr l s)
    else takeFrame n (slateOf (frameFound n s) n arr) (!(frameFound n s).flag (SPn_STAT_HEAD_LOCK n)) l (headerUsed n arr l s) := rfl

theorem rxInPlace_rejoins (hrec : ((headerUsed n arr l s).port n).recovering = true)
    (hgood : mutePriority (headerUsed n arr l s) n false l = 0) :
    rxInPlace n arr l s = recoverFrame n (slateOf (frameFound n s) n arr) l (headerUsed n arr l s) := by
  rw [rxInPlace_eq, if_pos (by simp [hrec, hgood])]

theorem rxInPlace_takes
    (h : ((headerUsed n arr l s).port n).recovering = false ∨ mutePriority (headerUsed n arr l s) n false l ≠ 0) :
    rxInPlace n arr l s = takeFrame n (slateOf (frameFound n s) n arr) (!(frameFound n s).flag (SPn_STAT_HEAD_LOCK n)) l
      (headerUsed n arr l s) := by
  rw [rxInPlace_eq, if_neg]
  rcases h with h | h <;> simp [h]

end

/-! ### The commands of a frame -/

section
variable (n : Port) (s : State)

theorem exec_receiveFrame (f : RxFrame) : exec (.receiveFrame n f) s = .next (rxFrame n f s) := rfl
theorem exec_frameMissing : exec (.frameMissing n) s = .next (frameMissing n s) := rfl
theorem exec_linkdownMutedFrame : exec (.linkdownMutedFrame n) s = .next (linkDownFrame n s) := rfl
theorem exec_backchannelFrame :
    exec (.backchannelFrame n) s = .next (tickAt (fun s _ => !entering s && markerDue s n s.tb.now (tbTick s).tb.now) s) := rfl
theorem exec_spSlatefracRead (init : Init) :
    exec (.spSlatefracRead init n) s = .next (asAccess init (SPn_SLATEFRAC n) false
      (fun s => latchSec init (SPn_SLATESEC n) (s.reg (SPn_SLATESEC n)).toNat s) s) := rfl

end

/-- Settles O16: a frame is taken in a state that keeps what the port counts and awaits, so each clause is a case of the operation. -/
theorem sampleLinkFrames : Obligations.SampleLinkFrames := by
  intro n s f l arr s0 h hunting up
  have hport : (frameTaken n f s).port n = { s.port n with rxRd := some (rxLine s n f).2 } := frameTaken_port n.isLt f
  have hrun : huntRun n f.inPlace (frameTaken n f s) = h := by rw [huntRun, hport]
  refine ⟨fun hoff => ⟨?_, ?_, ?_⟩, fun hon hsof => ?_, fun hon hsof hup hplace => ?_,
    fun hon hsof hdown => ⟨fun hcrc => ?_, fun hcrc hfew => ?_, fun hcrc hmany => ?_⟩,
    fun hon hsof hup hplace => ⟨fun hstop => ?_, fun hstop => ?_⟩, ⟨rxInPlace_rejoins, rxInPlace_takes⟩, fun _ hdown => ?_,
    fun hon hup => ⟨fun hstop => ?_, fun hstop => ?_⟩, fun _ hidle => ?_,
    fun hon hrec hdown => ⟨fun hstop => ?_, fun hstop hsilent => ?_, fun hstop hhunt => ?_⟩, exec_backchannelFrame n s,
    fun hbc => ?_, exec_spSlatefracRead n s⟩
  · rw [exec_receiveFrame, rxFrame_off hoff]
  · rw [exec_frameMissing, frameMissing_off hoff]
  · rw [exec_linkdownMutedFrame, linkDownFrame_off hoff]
  · rw [exec_receiveFrame, rxFrame_noSof hon hsof, exec_frameMissing]
    split <;> rfl
  · rw [exec_receiveFrame, rxFrame_stray hon hsof hup hplace]
  · rw [exec_receiveFrame, rxFrame_hunting hon hsof hdown, huntFrame_badCrc hcrc]; rfl
  · rw [exec_receiveFrame, rxFrame_hunting hon hsof hdown, huntFrame_counts hcrc (hrun ▸ hfew), hrun]; rfl
  · rw [exec_receiveFrame, rxFrame_hunting hon hsof hdown, huntFrame_linksUp hcrc (hrun ▸ hmany), hrun]; rfl
  · rw [exec_receiveFrame, rxFrame_up hon hsof hup hplace, atBoundary_stopping (by rw [hport]; exact hstop)]; rfl
  · rw [exec_receiveFrame, rxFrame_up hon hsof hup hplace, atBoundary_running (by rw [hport]; exact hstop)]; rfl
  · rw [exec_frameMissing, frameMissing_down hdown]
  · rw [exec_frameMissing, frameMissing_up hon hup, atBoundary_stopping hstop]
  · rw [exec_frameMissing, frameMissing_up hon hup, atBoundary_running hstop]; rfl
  · rw [exec_linkdownMutedFrame, linkDownFrame_idle hidle]
  · rw [exec_linkdownMutedFrame, linkDownFrame_recovering hon hrec hdown, atBoundary_stopping hstop]
  · rw [exec_linkdownMutedFrame, linkDownFrame_recovering hon hrec hdown, atBoundary_running hstop, downFrame_silent hsilent]
  · rw [exec_linkdownMutedFrame, linkDownFrame_recovering hon hrec hdown, atBoundary_running hstop, downFrame_hunting hhunt]
  · unfold bcFrame
    refine (if_neg (by simp [hbc])).trans ?_
    rfl

end Sys2Proof.Machine

end

section
/-!
PROOFS. The Clapper (R66 to R69): what ARM, DISARM and the firing do.
-/

namespace Sys2Proof.Machine

section
variable {s : State}

/-! ### Arming and disarming (R66, R69) -/

theorem clapArm_busy (h : s.clapper.isSome = true) : clapArm s = s.wr SP_CLAPSTAT_BUSY 1 := by
  simp [clapArm, h]

theorem clapArm_past (hfree : s.clapper = none) (h : s.stamp SP_CLAPSEC SP_CLAPFRAC * 2 ^ 48 < s.tb.now + 8 * s.rate) :
    clapArm s = s.wr SP_CLAPSTAT_PAST 1 := by
  have hpast : s.stamp SP_CLAPSEC SP_CLAPFRAC * 2 ^ 48 < s.tb.now + s.ticksOf 8 := h
  unfold clapArm
  rw [if_neg (by simp [hfree])]
  exact if_pos hpast

theorem clapArm_armed (hfree : s.clapper = none) (h : s.tb.now + 8 * s.rate ≤ s.stamp SP_CLAPSEC SP_CLAPFRAC * 2 ^ 48) :
    clapArm s = holdPorts (s.rd SP_CLAPMASK_PORTS)
      (({ s with clapper := some ⟨s.stamp SP_CLAPSEC SP_CLAPFRAC, s.rd SP_CLAPMASK_PORTS⟩ } : State).wr SP_CLAPSTAT_ARMED 1) := by
  have hahead : ¬ s.stamp SP_CLAPSEC SP_CLAPFRAC * 2 ^ 48 < s.tb.now + s.ticksOf 8 := Nat.not_lt.mpr h
  unfold clapArm
  rw [if_neg (by simp [hfree])]
  exact if_neg hahead

/-! ### The firing (R68) -/

theorem clapFire_disarmed (h : s.clapper = none) : clapFire s = s := by
  simp [clapFire, h]

theorem clapDue_disarmed (h : s.clapper = none) (now : Nat) : clapDue s now = false := by
  simp [clapDue, h]

theorem clapDue_armed {c : Clapper} (h : s.clapper = some c) (now : Nat) : clapDue s now = decide (c.tc * 2 ^ 48 ≤ now) := by
  simp [clapDue, h]

/-- The ports of a Clapper. -/
def clapPorts (c : Clapper) : List Nat := (List.range 32).filter fun n => c.ports >>> n % 2 == 1

/-- A port is up and without delay fault. -/
def clapReady (s : State) (n : Nat) : Bool := s.flag (SPn_STAT_LINK_UP n) && !s.flag (SPn_STAT_DELAY_FAULT n)

/-- The Clapper is no longer armed and has fired, and the ports that missed it are reported. -/
def clapFired (c : Clapper) (s : State) : State :=
  ((({ s with clapper := none } : State).wr SP_CLAPSTAT_ARMED 0).wr SP_CLAPSTAT_FIRED 1).wr SP_CLAPMISS_PORTS
    (((clapPorts c).filter fun n => !clapReady s n).foldl (fun a n => a + 2 ^ n) 0)

theorem clapFire_armed {c : Clapper} (h : s.clapper = some c) :
    clapFire s = reelClapper c.tc
      (((clapPorts c).filter (clapReady (clapFired c s))).foldl (fun s n => clapRelease c.tc n s) (clapFired c s)) := by
  unfold clapFire
  rw [h]
  rfl

end

/-! ### The commands of the Clapper -/

section
variable (s : State)

theorem exec_clapperArm : exec .clapperArm s = .next (whenOn SP_CLAPCTRL (fun _ => clapArm s) s) :=
  congrArg Host.Outcome.next (whenOn_const s _ clapArm)
theorem exec_clapperDisarm : exec .clapperDisarm s = .next (whenOn SP_CLAPCTRL (fun _ => clapDisarm s) s) :=
  congrArg Host.Outcome.next (whenOn_const s _ clapDisarm)
theorem exec_clapperFire : exec .clapperFire s = .next (tickAt (fun s _ => clapDue s (tbTick s).tb.now) s) := rfl

end

/-- Settles O18: ARM by the branches of its checks, and the firing as the release of each ready port in turn. -/
theorem clapperCommands : Obligations.ClapperCommands := by
  intro s tc ctl
  refine ⟨fun hbusy => ?_, fun hfree hpast => ?_, fun hfree hahead => ?_, exec_clapperDisarm s, exec_clapperFire s,
    fun hfree => ⟨clapFire_disarmed hfree, clapDue_disarmed hfree⟩, fun c hc => ⟨clapDue_armed hc, clapFire_armed hc⟩⟩
  · rw [exec_clapperArm, clapArm_busy hbusy]
  · rw [exec_clapperArm, clapArm_past hfree hpast]
  · rw [exec_clapperArm, clapArm_armed hfree hahead]

end Sys2Proof.Machine

end

section
/-!
PROOFS. The operations of head control (R99, R106 to R108): what each operation does where it is refused, queued, or replaces what
waits.
-/

namespace Sys2Proof.Machine

/-! ### The operations of a head -/

section
variable {n op page : Nat} {s : State}

/-- The commands of an operation wait behind what is queued. -/
def opQueued (n op page : Nat) (s : State) : State :=
  s.setHead n { s.head n with queue := (s.head n).queue ++ opCmds s n op page }

/-- The commands of an operation replace what is queued, but for a STOP or HEADRESET of another kind. -/
def opReplaces (n op page : Nat) (s : State) : State :=
  s.setHead n { s.head n with queue := waitingStops (s.head n) op ++ opCmds s n op page, awaitIdle := false }

theorem fecOp_busy (hlo : op ≠ 0) (hhi : op ≤ K_HEADRESET) (h : opBusy s n op page = true) :
    fecOp n op page s = s.wr (FECn_STAT_BUSY n) 1 := by
  have hop : ¬ (op = 0 ∨ K_HEADRESET < op) := by omega
  simp [fecOp, hop, h]

/-- An operation that its state, the other transitions, the link and the back-channel allow, by its kind. -/
theorem fecOp_allowed (hlo : op ≠ 0) (hhi : op ≤ K_HEADRESET) (h : opBusy s n op page = false) :
    fecOp n op page s =
      if op = K_REFORMAT ∧ !reformatFits s n then s.wr (FECn_STAT_CFGERR n) 1
      else if op = K_REFORMAT ∧ s.flag (SPn_SLOTMASK_CHG_PEND n) then s.wr (FECn_STAT_BUSY n) 1
      else if op = K_STOP ∨ op = K_HEADRESET then stopEnters n (opReplaces n op page s)
      else if op = K_START ∨ op = K_BANDCHG ∨ op = K_REFORMAT then headEnter n H_CONFIG 0 (opQueued n op page s)
      else opQueued n op page s := by
  have hop : ¬ (op = 0 ∨ K_HEADRESET < op) := by omega
  rw [fecOp, if_neg hop, if_neg (by simp [h])]
  rfl

/-- START and BANDCHG enter CONFIG with their commands queued. -/
theorem fecOp_configures (hop : op = K_START ∨ op = K_BANDCHG) (h : opBusy s n op page = false) :
    fecOp n op page s = headEnter n H_CONFIG 0 (opQueued n op page s) := by
  rcases hop with rfl | rfl <;> exact fecOp_allowed (by decide) (by decide) h

theorem fecOp_reformat_misfit (h : opBusy s n K_REFORMAT page = false) (hfit : reformatFits s n = false) :
    fecOp n K_REFORMAT page s = s.wr (FECn_STAT_CFGERR n) 1 := by
  rw [fecOp_allowed (by decide) (by decide) h, if_pos (by simp [hfit])]

theorem fecOp_reformat_pending (h : opBusy s n K_REFORMAT page = false) (hfit : reformatFits s n = true)
    (hp : s.flag (SPn_SLOTMASK_CHG_PEND n) = true) : fecOp n K_REFORMAT page s = s.wr (FECn_STAT_BUSY n) 1 := by
  rw [fecOp_allowed (by decide) (by decide) h, if_neg (by simp [hfit]), if_pos ⟨rfl, hp⟩]

theorem fecOp_reformat_configures (h : opBusy s n K_REFORMAT page = false) (hfit : reformatFits s n = true)
    (hp : s.flag (SPn_SLOTMASK_CHG_PEND n) = false) :
    fecOp n K_REFORMAT page s = headEnter n H_CONFIG 0 (opQueued n K_REFORMAT page s) := by
  rw [fecOp_allowed (by decide) (by decide) h, if_neg (by simp [hfit]), if_neg (by simp [hp]), if_neg (by decide),
    if_pos (by decide)]

theorem fecOp_queues (hop : op = K_GAIN ∨ op = K_RESTART ∨ op = K_TLMPAGE) (h : opBusy s n op page = false) :
    fecOp n op page s = opQueued n op page s := by
  rcases hop with rfl | rfl | rfl <;> exact fecOp_allowed (by decide) (by decide) h

/-- STOP and HEADRESET replace what waits, and a STOP enters IDLE where no command is outstanding. -/
theorem fecOp_replaces (hop : op = K_STOP ∨ op = K_HEADRESET) (h : opBusy s n op page = false) :
    fecOp n op page s = stopEnters n (opReplaces n op page s) := by
  rcases hop with rfl | rfl <;> exact fecOp_allowed (by decide) (by decide) h

end

/-! ### The commands of head control -/

section
variable (n : Port) (s : State)

theorem exec_fecStart : exec (.fecStart n) s = .next (whenOn (FECn_CMD n) (fun _ => fecOp n K_START 0 s) s) :=
  congrArg Host.Outcome.next (whenOn_const s _ (fecOp n K_START 0))
theorem exec_fecBandchg : exec (.fecBandchg n) s = .next (whenOn (FECn_CMD n) (fun _ => fecOp n K_BANDCHG 0 s) s) :=
  congrArg Host.Outcome.next (whenOn_const s _ (fecOp n K_BANDCHG 0))
theorem exec_fecReformat : exec (.fecReformat n) s = .next (whenOn (FECn_CMD n) (fun _ => fecOp n K_REFORMAT 0 s) s) :=
  congrArg Host.Outcome.next (whenOn_const s _ (fecOp n K_REFORMAT 0))
theorem exec_fecGain : exec (.fecGain n) s = .next (whenOn (FECn_CMD n) (fun _ => fecOp n K_GAIN 0 s) s) :=
  congrArg Host.Outcome.next (whenOn_const s _ (fecOp n K_GAIN 0))
theorem exec_fecStop : exec (.fecStop n) s = .next (whenOn (FECn_CMD n) (fun _ => fecOp n K_STOP 0 s) s) :=
  congrArg Host.Outcome.next (whenOn_const s _ (fecOp n K_STOP 0))
theorem exec_fecRestart : exec (.fecRestart n) s = .next (whenOn (FECn_CMD n) (fun _ => fecOp n K_RESTART 0 s) s) :=
  congrArg Host.Outcome.next (whenOn_const s _ (fecOp n K_RESTART 0))
theorem exec_fecTlmpage (page : Byte) :
    exec (.fecTlmpage n page) s = .next (whenOn (FECn_CMD n) (fun _ => fecOp n K_TLMPAGE page.toNat s) s) :=
  congrArg Host.Outcome.next (whenOn_const s _ (fecOp n K_TLMPAGE page.toNat))
theorem exec_fecHeadreset : exec (.fecHeadreset n) s = .next (whenOn (FECn_CMD n) (fun _ => fecOp n K_HEADRESET 0 s) s) :=
  congrArg Host.Outcome.next (whenOn_const s _ (fecOp n K_HEADRESET 0))

end

/-- Settles O31: each command is its operation, which is refused, queued or put in the place of what waits. -/
theorem headOperations : Obligations.HeadOperations := by
  intro n page s h added on kept replaced busy
  refine ⟨fun hb => ?_, fun hb => ?_, fun hb => ?_, fun hb => ?_, fun hb => ?_, fun hb => ?_, fun hb => ?_, fun hb => ?_,
    fun hb hpage => ?_, fun hb hpage => ?_, fun hb hpage => ⟨fun hfit => ?_, fun hfit hp => ?_, fun hfit hp => ?_⟩,
    fun hb hpage => ?_, fun hb hpage => ?_, fun hb hpage => ?_, fun hb => ?_, fun hb hpage => ?_⟩
  · rw [exec_fecStart, fecOp_busy (by decide) (by decide) hb]
  · rw [exec_fecBandchg, fecOp_busy (by decide) (by decide) hb]
  · rw [exec_fecReformat, fecOp_busy (by decide) (by decide) hb]
  · rw [exec_fecGain, fecOp_busy (by decide) (by decide) hb]
  · rw [exec_fecStop, fecOp_busy (by decide) (by decide) hb]
  · rw [exec_fecRestart, fecOp_busy (by decide) (by decide) hb]
  · rw [exec_fecTlmpage, fecOp_busy (by decide) (by decide) hb]
  · rw [exec_fecHeadreset, fecOp_busy (by decide) (by decide) hb]
  · rw [exec_fecStart, fecOp_configures (.inl rfl) hb]; subst hpage; rfl
  · rw [exec_fecBandchg, fecOp_configures (.inr rfl) hb]; subst hpage; rfl
  · rw [exec_fecReformat, fecOp_reformat_misfit hb hfit]
  · rw [exec_fecReformat, fecOp_reformat_pending hb hfit hp]
  · rw [exec_fecReformat, fecOp_reformat_configures hb hfit hp]; subst hpage; rfl
  · rw [exec_fecGain, fecOp_queues (.inl rfl) hb]; subst hpage; rfl
  · rw [exec_fecStop, fecOp_replaces (.inl rfl) hb]; subst hpage; rfl
  · rw [exec_fecRestart, fecOp_queues (.inr (.inl rfl)) hb]; subst hpage; rfl
  · rw [exec_fecTlmpage, fecOp_queues (.inr (.inr rfl)) hb]; rfl
  · rw [exec_fecHeadreset, fecOp_replaces (.inr rfl) hb]; subst hpage; rfl

end Sys2Proof.Machine

end

section
/-!
PROOFS. Fields written one after another, and the loop reset of a conditioner (R97): what it leaves in the conditioner and in the
registers.
-/

namespace Sys2Proof.Machine

/-! ### Fields of a register -/

/-- A field of fixed bits lies in its register. -/
theorem Fld.ok_mk {r hi lo : Nat} (h : decide (lo ≤ hi + 1 ∧ hi < 48) = true) : (Fld.mk r hi lo).ok := by
  simp only [decide_eq_true_eq] at h
  simp only [Fld.ok, Fld.width]
  omega

theorem rd_lt (s : State) (f : Fld) : s.rd f < 2 ^ f.width := Nat.mod_lt _ (Nat.two_pow_pos _)

/-- A number that a field holds reads back as it was written. -/
theorem rd_wr_fits {s : State} {f : Fld} {v : Nat} (hf : f.ok) (h : s.wf = true) (hv : v < 2 ^ f.width) : (s.wr f v).rd f = v := by
  rw [rd_wr_eq s f v hf h, Nat.mod_eq_of_lt hv]

/-- Writes of fields one after another leave the registers of other fields. -/
theorem foldl_wr_reg (f : Nat → Fld) (v : State → Nat → Nat) {a : Nat} (l : List Nat) (h : ∀ k ∈ l, a ≠ (f k).reg) (s : State) :
    (l.foldl (fun s k => s.wr (f k) (v s k)) s).reg a = s.reg a :=
  List.foldlRecOn (motive := fun t => t.reg a = s.reg a) l _ rfl fun t ht k hk => (reg_wr_ne t _ _ _ (h k hk)).trans ht

theorem foldl_wr_wf (f : Nat → Fld) (v : State → Nat → Nat) (l : List Nat) {s : State} (h : s.wf = true) :
    (l.foldl (fun s k => s.wr (f k) (v s k)) s).wf = true :=
  List.foldlRecOn (motive := fun t => t.wf = true) l _ h fun t ht _ _ => wr_wf t _ _ ht

/-! ### The loop reset of a conditioner (R97) -/

section
variable {n : Nat} {s : State}

/-- The loops of a conditioner at their start: an ADAPT notch goes on adapting from CFREQ, every other is out of the path. -/
def loopsReset (n : Nat) (s : State) : CondState :=
  let c := s.cond n
  { c with
    dcI := 0, dcQ := 0, mean := none, blockSum := 0, blockLen := 0,
    notches := Vector.ofFn fun k =>
      { mode := if (c.notches.getD k {}).mode = 2 then 2 else 0, centre := signed 24 (s.rd (CNDn_NCTLk_CFREQ n k)) },
    notchLen := 0, notchChg := c.notchChg || c.notches.toList.any (·.inPath), agcSum := 0, agcLen := 0 }

/-- The state of a loop reset whose DC estimates and gain show it. -/
def levelsReset (n : Nat) (s : State) : State :=
  let t := ((s.setCond n (loopsReset n s)).wr (CNDn_DC_DCI n) 0).wr (CNDn_DC_DCQ n) 0
  t.wr (CNDn_GAIN_GAIN n) (t.rd (CNDn_GAIN_MAN n))

theorem condReset_eq : condReset n s = ((List.range 4).foldl
    (fun s k => s.wr (CNDn_NFRQk_FREQ n k) (s.rd (CNDn_NCTLk_CFREQ n k))) (levelsReset n s)).wr (CNDn_STAT_ENGAGED n) 0 := rfl

@[simp] theorem condReset_mem : (condReset n s).mem = s.mem := rfl

theorem condReset_cond_same (h : n < 128) : (condReset n s).cond n = loopsReset n s := setCond_cond_eq s n (loopsReset n s) h

theorem condReset_cond_other {m : Nat} (h : m ≠ n) : (condReset n s).cond m = s.cond m := setCond_cond_ne s n m (loopsReset n s) h

theorem levelsReset_wf (h : s.wf = true) : (levelsReset n s).wf = true := wr_wf _ _ _ (wr_wf _ _ _ (wr_wf _ _ _ h))

theorem condReset_wf (h : s.wf = true) : (condReset n s).wf = true :=
  wr_wf _ _ _ (foldl_wr_wf _ _ _ (levelsReset_wf h))

/-- The centres and ENGAGED leave the registers of the levels. -/
theorem condReset_reg_levels {a : Nat} (hs : a ≠ CNDn_STAT n) (hf : ∀ k < 4, a ≠ CNDn_NFRQk n k) :
    (condReset n s).reg a = (levelsReset n s).reg a := by
  rw [condReset_eq, reg_wr_ne _ _ _ _ hs]
  exact foldl_wr_reg _ _ _ (fun k hk => hf k (List.mem_range.mp hk)) _

/-- A loop reset leaves the registers beyond those of the conditioner. -/
theorem condReset_reg_beyond {a : Nat} (h : CNDn_CTRL n + 0x200 ≤ a) : (condReset n s).reg a = s.reg a := by
  unfold CNDn_CTRL at h
  have hstat : a ≠ CNDn_STAT n := by unfold CNDn_STAT; omega
  have hfreq : ∀ k < 4, a ≠ CNDn_NFRQk n k := fun k hk => by unfold CNDn_NFRQk; omega
  have hdc : a ≠ CNDn_DC n := by unfold CNDn_DC; omega
  have hgain : a ≠ CNDn_GAIN n := by unfold CNDn_GAIN; omega
  calc (condReset n s).reg a = (levelsReset n s).reg a := condReset_reg_levels hstat hfreq
    _ = _ := reg_wr_ne _ _ _ _ hgain
    _ = _ := reg_wr_ne _ _ _ _ hdc
    _ = s.reg a := reg_wr_ne _ _ _ _ hdc

end

end Sys2Proof.Machine

end

section
/-!
PROOFS. The commands of a conditioner (R79 to R97): how it takes the items of its stream, and the ends of its blocks and of its
statistics interval.
-/

namespace Sys2Proof.Machine

/-! ### The items of a stream (R79, R85) -/

section
variable {n : Nat} {s : State}

theorem conditionFrame_continues {f : CurFrame} (h : (s.cond n).cur = some f) : conditionFrame n s = condContinue n s := by
  simp [conditionFrame, h]

theorem conditionFrame_idle (h : (s.cond n).cur = none) (hin : (s.stream n).input = []) : conditionFrame n s = s := by
  simp [conditionFrame, h, hin]

theorem conditionFrame_ends {cause : Nat} {rest : List StreamItem} (h : (s.cond n).cur = none)
    (hin : (s.stream n).input = .ends cause :: rest) :
    conditionFrame n s = condEnds n cause (s.setStream n { s.stream n with input := rest }) := by
  simp [conditionFrame, h, hin]

/-- A D1 frame waits for the item after it. -/
theorem conditionFrame_waits {f : StreamFrame} (h : (s.cond n).cur = none) (hin : (s.stream n).input = [.frame f]) (hfmt : f.fmt = 0) :
    conditionFrame n s = s := by
  simp [conditionFrame, h, hin, hfmt]

theorem conditionFrame_last {f : StreamFrame} (h : (s.cond n).cur = none) (hin : (s.stream n).input = [.frame f]) (hfmt : f.fmt ≠ 0) :
    conditionFrame n s = condContinue n (condBegin n f false [] (s.setStream n { s.stream n with input := [] })) := by
  simp [conditionFrame, h, hin]

theorem conditionFrame_beforeFrame {f g : StreamFrame} {rest : List StreamItem} (h : (s.cond n).cur = none)
    (hin : (s.stream n).input = .frame f :: .frame g :: rest) : conditionFrame n s =
      condContinue n (condBegin n f (isEdge g) g.area (s.setStream n { s.stream n with input := .frame g :: rest })) := by
  simp [conditionFrame, h, hin]

theorem conditionFrame_beforeEnd {f : StreamFrame} {cause : Nat} {rest : List StreamItem} (h : (s.cond n).cur = none)
    (hin : (s.stream n).input = .frame f :: .ends cause :: rest) : conditionFrame n s =
      condContinue n (condBegin n f true [] (s.setStream n { s.stream n with input := .ends cause :: rest })) := by
  simp [conditionFrame, h, hin]

/-! ### The ends of blocks (R87, R89 to R91) -/

theorem blankerBlock_partial (h : (s.cond n).blockLen < 1024) : blankerBlock n s = s := if_pos h

theorem blankerBlock_complete (h : 1024 ≤ (s.cond n).blockLen) : blankerBlock n s =
    s.setCond n { s.cond n with mean := some (s.cond n).blockSum, blockSum := 0, blockLen := 0 } := if_neg (Nat.not_lt.mpr h)

theorem notchBlock_partial (h : (s.cond n).notchLen < 1024) : notchBlock n s = s := if_pos h

/-- The notches after the ends of a block, and after their clashes. -/
def notchesEnded (n : Nat) (s : State) : State :=
  let t := [(0, 1), (0, 2), (0, 3), (1, 2), (1, 3), (2, 3)].foldl (notchClash n) ((List.range 4).foldl (notchEnd n) s)
  t.setCond n { t.cond n with notchLen := 0 }

theorem notchBlock_complete (h : 1024 ≤ (s.cond n).notchLen) :
    notchBlock n s = (notchesEnded n s).wr (CNDn_STAT_ENGAGED n) (engaged ((notchesEnded n s).cond n)) :=
  if_neg (Nat.not_lt.mpr h)

theorem agcBlock_partial (h : (s.cond n).agcLen < 1024) : agcBlock n s = s := if_pos h

/-- A complete block of the AGC, by its mode. -/
theorem agcBlock_complete (h : 1024 ≤ (s.cond n).agcLen) : agcBlock n s =
    let t := s.setCond n { s.cond n with agcSum := 0, agcLen := 0 }
    if s.rd (CNDn_CTRL_AGCMODE n) ≠ 0 then t
    else t.wr (CNDn_GAIN_GAIN n) (agcGain (s.rd (CNDn_GAIN_GAIN n)) (max (s.rd (CNDn_AGC_MAGTGT n)) 1) (s.rd (CNDn_AGC_SH n))
      ((s.cond n).agcSum / (2 * (s.cond n).agcLen))) := if_neg (Nat.not_lt.mpr h)

theorem agcBlock_manual (h : 1024 ≤ (s.cond n).agcLen) (hmode : s.rd (CNDn_CTRL_AGCMODE n) ≠ 0) :
    agcBlock n s = s.setCond n { s.cond n with agcSum := 0, agcLen := 0 } := by
  rw [agcBlock_complete h]
  exact if_pos hmode

theorem agcBlock_auto (h : 1024 ≤ (s.cond n).agcLen) (hmode : s.rd (CNDn_CTRL_AGCMODE n) = 0) : agcBlock n s =
    (s.setCond n { s.cond n with agcSum := 0, agcLen := 0 }).wr (CNDn_GAIN_GAIN n)
      (agcGain (s.rd (CNDn_GAIN_GAIN n)) (max (s.rd (CNDn_AGC_MAGTGT n)) 1) (s.rd (CNDn_AGC_SH n))
        ((s.cond n).agcSum / (2 * (s.cond n).agcLen))) := by
  rw [agcBlock_complete h]
  exact if_neg (not_not.mpr hmode)

/-! ### The end of a statistics interval (R93, R94) -/

theorem statEnd_within (h : statDue s n = false) : statEnd n s = s := if_pos (by simp [h])

/-- The millisecond of an interval that ends. -/
def statMsec (n : Nat) (s : State) : Nat := if (s.cond n).seen = 0 then s.tb.now * 1000 / 2 ^ 96 - 1 else (s.cond n).msec

/-- The powers of an interval of a conditioner, and the counts of its blanker, as their registers show them. -/
def powersShown (n : Nat) (c : CondState) (s : State) : State :=
  let t := (s.wr (CNDn_STPWR_PRE n) (c.preSum / c.preLen)).wr (CNDn_STPWR_POST n) (c.postSum / c.postLen)
  (t.wr (CNDn_STBLANK_BLANKED n) c.blanked).wr (CNDn_STBLANK_ZCOUNT n) c.zeros

/-- The clips, the gain and the peak of an interval as their registers show them. -/
def peaksShown (n : Nat) (c : CondState) (msec : Nat) (s : State) : State :=
  let t := ((s.wr (CNDn_STCLIP_CLIP n) c.clips).wr (CNDn_STCLIP_NENG n) (engaged c)).wr (CNDn_STCLIP_GAIN n)
    (s.rd (CNDn_GAIN_GAIN n))
  (t.wr (CNDn_STPEAK_PEAK n) c.peak).wr (CNDn_STPEAK_SEQ n) msec

/-- A conditioner at the start of an interval. -/
def statFresh (c : CondState) (msec : Nat) : CondState :=
  { c with msec := msec, seen := 0, preSum := 0, preLen := 0, postSum := 0, postLen := 0, peak := 0, blanked := 0,
           zeros := 0, clips := 0 }

/-- An interval has ended: its statistics are shown and a fresh one begins. -/
def statShown (n : Nat) (s : State) : State :=
  ((peaksShown n (s.cond n) (statMsec n s) (powersShown n (s.cond n) s)).wr (CNDn_STAT_STATRDY n) 1).setCond n
    (statFresh (s.cond n) (statMsec n s))

/-- The end of an interval raises INTF at a low gain. -/
theorem statEnd_due (h : statDue s n = true) : statEnd n s =
    if (statShown n s).rd (CNDn_GAIN_GAIN n) < (statShown n s).rd (CNDn_AGC_GAINLO n) then (statShown n s).wr (CNDn_STAT_INTF n) 1
    else statShown n s := by
  unfold statEnd
  rw [if_neg (by simp [h])]
  rfl

theorem powersShown_wf {c : CondState} (h : s.wf = true) : (powersShown n c s).wf = true := by
  unfold powersShown
  exact wr_wf _ _ _ (wr_wf _ _ _ (wr_wf _ _ _ (wr_wf _ _ _ h)))

theorem peaksShown_wf {c : CondState} {msec : Nat} (h : s.wf = true) : (peaksShown n c msec s).wf = true := by
  unfold peaksShown
  exact wr_wf _ _ _ (wr_wf _ _ _ (wr_wf _ _ _ (wr_wf _ _ _ (wr_wf _ _ _ h))))

theorem peaksShown_reg {c : CondState} {msec a : Nat} (hclip : a ≠ CNDn_STCLIP n) (hpeak : a ≠ CNDn_STPEAK n) :
    (peaksShown n c msec s).reg a = s.reg a := by
  unfold peaksShown
  rw [reg_wr_ne _ _ _ _ hpeak, reg_wr_ne _ _ _ _ hpeak, reg_wr_ne _ _ _ _ hclip, reg_wr_ne _ _ _ _ hclip, reg_wr_ne _ _ _ _ hclip]

/-- The clips, the peak and STATRDY leave the registers of the powers and the blanker. -/
theorem statShown_reg {a : Nat} (hclip : a ≠ CNDn_STCLIP n) (hpeak : a ≠ CNDn_STPEAK n) (hstat : a ≠ CNDn_STAT n) :
    (statShown n s).reg a = (powersShown n (s.cond n) s).reg a := by
  rw [statShown, setCond_reg, reg_wr_ne _ _ _ _ hstat, peaksShown_reg hclip hpeak]

theorem statShown_ready (h : s.wf = true) : (statShown n s).rd (CNDn_STAT_STATRDY n) = 1 := by
  rw [statShown, setCond_rd]
  exact rd_wr_fits (Fld.ok_mk rfl) (peaksShown_wf (powersShown_wf h)) (show 1 < 2 ^ 1 by decide)

theorem statShown_wf (h : s.wf = true) : (statShown n s).wf = true := by
  rw [statShown, setCond_wf]
  exact wr_wf _ _ _ (peaksShown_wf (powersShown_wf h))

/-- INTF apart, the end of an interval leaves what is shown. -/
theorem statEnd_reg (h : statDue s n = true) {a : Nat} (ha : a ≠ CNDn_STAT n) : (statEnd n s).reg a = (statShown n s).reg a := by
  rw [statEnd_due h]
  split
  · exact reg_wr_ne _ _ _ _ ha
  · rfl

theorem statEnd_mem (h : statDue s n = true) : (statEnd n s).mem = s.mem := by
  rw [statEnd_due h]
  split <;> rfl

theorem statEnd_cond (hn : n < 128) (h : statDue s n = true) : (statEnd n s).cond n = statFresh (s.cond n) (statMsec n s) := by
  have hshown : (statShown n s).cond n = statFresh (s.cond n) (statMsec n s) := setCond_cond_eq _ _ _ hn
  rw [statEnd_due h]
  split
  · exact hshown
  · exact hshown

/-- The registers of the powers and the blanker show them behind the end of an interval. -/
theorem statEnd_rd (h : statDue s n = true) {f : Fld} (hf : f.reg = CNDn_STPWR n ∨ f.reg = CNDn_STBLANK n) :
    (statEnd n s).rd f = (powersShown n (s.cond n) s).rd f := by
  have hne : f.reg ≠ CNDn_STCLIP n ∧ f.reg ≠ CNDn_STPEAK n ∧ f.reg ≠ CNDn_STAT n := by
    simp only [CNDn_STPWR, CNDn_STBLANK, CNDn_STCLIP, CNDn_STPEAK, CNDn_STAT] at hf ⊢
    omega
  obtain ⟨hclip, hpeak, hstat⟩ := hne
  simp only [State.rd, statEnd_reg h hstat, statShown_reg hclip hpeak hstat]

theorem statEnd_ready (hwf : s.wf = true) (h : statDue s n = true) : (statEnd n s).flag (CNDn_STAT_STATRDY n) = true := by
  have hrd : (statEnd n s).rd (CNDn_STAT_STATRDY n) = 1 := by
    rw [statEnd_due h]
    split
    · rw [rd_wr_disjoint _ _ _ _ (Fld.ok_mk rfl) (statShown_wf hwf) (.inl (Nat.le_of_ble_eq_true rfl)), statShown_ready hwf]
    · exact statShown_ready hwf
  simp [State.flag, hrd]

theorem stblank_ne_stpwr (n : Nat) : CNDn_STPWR n ≠ CNDn_STBLANK n := by unfold CNDn_STPWR CNDn_STBLANK; omega

variable {c : CondState}

theorem powersShown_pre (h : s.wf = true) :
    (powersShown n c s).rd (CNDn_STPWR_PRE n) = c.preSum / c.preLen % 2 ^ (CNDn_STPWR_PRE n).width := by
  unfold powersShown
  rw [rd_wr_ne _ _ _ _ (stblank_ne_stpwr n), rd_wr_ne _ _ _ _ (stblank_ne_stpwr n),
    rd_wr_disjoint _ _ _ _ (Fld.ok_mk rfl) (wr_wf _ _ _ h) (.inr (Nat.le_of_ble_eq_true rfl)), rd_wr_eq _ _ _ (Fld.ok_mk rfl) h]

theorem powersShown_post (h : s.wf = true) :
    (powersShown n c s).rd (CNDn_STPWR_POST n) = c.postSum / c.postLen % 2 ^ (CNDn_STPWR_POST n).width := by
  unfold powersShown
  rw [rd_wr_ne _ _ _ _ (stblank_ne_stpwr n), rd_wr_ne _ _ _ _ (stblank_ne_stpwr n), rd_wr_eq _ _ _ (Fld.ok_mk rfl) (wr_wf _ _ _ h)]

theorem powersShown_blanked (h : s.wf = true) :
    (powersShown n c s).rd (CNDn_STBLANK_BLANKED n) = c.blanked % 2 ^ (CNDn_STBLANK_BLANKED n).width := by
  have hwf := wr_wf _ (CNDn_STPWR_POST n) (c.postSum / c.postLen) (wr_wf _ (CNDn_STPWR_PRE n) (c.preSum / c.preLen) h)
  unfold powersShown
  rw [rd_wr_disjoint _ _ _ _ (Fld.ok_mk rfl) (wr_wf _ _ _ hwf) (.inr (Nat.le_of_ble_eq_true rfl)), rd_wr_eq _ _ _ (Fld.ok_mk rfl) hwf]

end

/-! ### What a loop reset shows (R97) -/

section
variable {n : Nat} {s : State}

theorem condReset_rd_engaged (h : s.wf = true) : (condReset n s).rd (CNDn_STAT_ENGAGED n) = 0 := by
  rw [condReset_eq]
  exact rd_wr_fits (Fld.ok_mk rfl) (foldl_wr_wf _ _ _ (levelsReset_wf h)) (Nat.two_pow_pos _)

theorem condReset_rd_levels {f : Fld} (hf : f.reg = CNDn_DC n ∨ f.reg = CNDn_GAIN n) : (condReset n s).rd f = (levelsReset n s).rd f := by
  have hne : f.reg ≠ CNDn_STAT n ∧ ∀ k < 4, f.reg ≠ CNDn_NFRQk n k := by
    simp only [CNDn_DC, CNDn_GAIN, CNDn_STAT, CNDn_NFRQk] at hf ⊢
    exact ⟨by omega, fun k _ => by omega⟩
  simp only [State.rd, condReset_reg_levels hne.1 hne.2]

theorem dc_ne_gain (n : Nat) : CNDn_DC n ≠ CNDn_GAIN n := by unfold CNDn_DC CNDn_GAIN; omega

theorem levelsReset_dcI (h : s.wf = true) : (levelsReset n s).rd (CNDn_DC_DCI n) = 0 := by
  have hwf : (s.setCond n (loopsReset n s)).wf = true := h
  unfold levelsReset
  rw [rd_wr_ne _ _ _ _ (dc_ne_gain n),
    rd_wr_disjoint _ _ _ _ (Fld.ok_mk rfl) (wr_wf _ _ _ hwf) (.inl (Nat.le_of_ble_eq_true rfl)),
    rd_wr_fits (Fld.ok_mk rfl) hwf (Nat.two_pow_pos _)]

theorem levelsReset_dcQ (h : s.wf = true) : (levelsReset n s).rd (CNDn_DC_DCQ n) = 0 := by
  have hwf : (s.setCond n (loopsReset n s)).wf = true := h
  unfold levelsReset
  rw [rd_wr_ne _ _ _ _ (dc_ne_gain n), rd_wr_fits (Fld.ok_mk rfl) (wr_wf _ _ _ hwf) (Nat.two_pow_pos _)]

/-- GAIN goes to MAN, which the DC estimates leave. -/
theorem levelsReset_gain (h : s.wf = true) : (levelsReset n s).rd (CNDn_GAIN_GAIN n) = s.rd (CNDn_GAIN_MAN n) := by
  have hwf : (s.setCond n (loopsReset n s)).wf = true := h
  unfold levelsReset
  rw [rd_wr_fits (f := CNDn_GAIN_GAIN n) (Fld.ok_mk rfl) (wr_wf _ _ _ (wr_wf _ _ _ hwf)) (rd_lt _ (CNDn_GAIN_MAN n)),
    rd_wr_ne _ _ _ _ (dc_ne_gain n).symm, rd_wr_ne _ _ _ _ (dc_ne_gain n).symm, setCond_rd]

theorem loopsReset_notch (k : Fin 4) : (loopsReset n s).notches.getD k {} =
    { mode := if ((s.cond n).notches.getD k {}).mode = 2 then 2 else 0, centre := signed 24 (s.rd (CNDn_NCTLk_CFREQ n k)) } := by
  simp [loopsReset, Vector.getD]

end

/-! ### The commands -/

section
variable (n : Stream) (s : State)

theorem exec_conditionFrame : exec (.conditionFrame n) s = .next (conditionFrame n s) := rfl
theorem exec_blankerBlock : exec (.blankerBlock n) s = .next (blankerBlock n s) := rfl
theorem exec_notchBlock : exec (.notchBlock n) s = .next (notchBlock n s) := rfl
theorem exec_agcBlock : exec (.agcBlock n) s = .next (agcBlock n s) := rfl
theorem exec_statIntervalEnd : exec (.statIntervalEnd n) s = .next (statEnd n s) := rfl
theorem exec_condSoftrst : exec (.condSoftrst n) s = .next (whenOn (CNDn_CTRL n) (fun _ => condReset n s) s) :=
  congrArg Host.Outcome.next (whenOn_const s _ (condReset n))

end

/-- Settles O30: each command is its operation, whose cases are the clauses; the statistics and the loop reset are read back from
the registers that they write. -/
theorem conditionerCommands : Obligations.ConditionerCommands := by
  intro n s c
  refine ⟨fun f hcur => ?_, fun hcur hin => ?_, fun cause rest hcur hin => ?_, fun f rest hcur hin hfmt hrest => ?_,
    fun f g rest hcur hin => ?_, fun f cause rest hcur hin => ?_, fun f hcur hin hfmt => ?_, fun hlen => ?_, fun hlen => ?_,
    fun hlen => ?_, fun hlen => ?_, fun hlen => ?_, fun hlen hmode => ?_, fun hlen hmode => ?_, fun hdue => ?_,
    fun hdue => ⟨statEnd n s, exec_statIntervalEnd n s, statEnd_mem hdue, statEnd_cond n.isLt hdue,
      fun hwf => ⟨?_, ?_, ?_, statEnd_ready hwf hdue⟩⟩,
    condReset n s, exec_condSoftrst n s, condReset_mem, ?_, ?_, ?_, fun k => ?_,
      fun hwf => ⟨?_, ?_, ?_, condReset_rd_engaged hwf⟩⟩
  · rw [exec_conditionFrame, conditionFrame_continues hcur]
  · rw [exec_conditionFrame, conditionFrame_idle hcur hin]
  · rw [exec_conditionFrame, conditionFrame_ends hcur hin]
  · subst hrest
    rw [exec_conditionFrame, conditionFrame_last hcur hin hfmt]
  · rw [exec_conditionFrame, conditionFrame_beforeFrame hcur hin]
  · rw [exec_conditionFrame, conditionFrame_beforeEnd hcur hin]
  · rw [exec_conditionFrame, conditionFrame_waits hcur hin hfmt]
  · rw [exec_blankerBlock, blankerBlock_complete hlen]
  · rw [exec_blankerBlock, blankerBlock_partial hlen]
  · rw [exec_notchBlock, notchBlock_partial hlen]
  · rw [exec_agcBlock, agcBlock_partial hlen]
  · rw [exec_notchBlock, notchBlock_complete hlen]; rfl
  · rw [exec_agcBlock, agcBlock_manual hlen hmode]
  · rw [exec_agcBlock, agcBlock_auto hlen hmode]; rfl
  · rw [exec_statIntervalEnd, statEnd_within hdue]
  · rw [statEnd_rd hdue (.inl rfl), powersShown_pre hwf]
  · rw [statEnd_rd hdue (.inl rfl), powersShown_post hwf]
  · rw [statEnd_rd hdue (.inr rfl), powersShown_blanked hwf]
  · rw [condReset_cond_same n.isLt]; rfl
  · rw [condReset_cond_same n.isLt]; rfl
  · rw [condReset_cond_same n.isLt]; rfl
  · rw [condReset_cond_same n.isLt]; exact loopsReset_notch k
  · rw [condReset_rd_levels (.inl rfl), levelsReset_dcI hwf]
  · rw [condReset_rd_levels (.inl rfl), levelsReset_dcQ hwf]
  · rw [condReset_rd_levels (.inr rfl), levelsReset_gain hwf]

end Sys2Proof.Machine

end

section
/-!
PROOFS. The states of a head (R97, R106, R111): what entering each of them leaves in the head's registers, its queue and the loops
of its conditioners.
-/

namespace Sys2Proof.Machine

/-! ### Entering SETTLE resets four conditioners -/

section
variable {n : Nat} {s : State}

/-- The loop resets of the four streams of a head. -/
def headLoopsReset (n : Nat) (s : State) : State := (List.range 4).foldl (fun s k => condReset (4 * n + k) s) s

theorem headLoopsReset_rd (hn : n < 32) {f : Fld} (h : 0x10090000 ≤ f.reg) : (headLoopsReset n s).rd f = s.rd f := by
  have hreg : (headLoopsReset n s).reg f.reg = s.reg f.reg := by
    unfold headLoopsReset
    refine List.foldlRecOn (motive := fun t : State => t.reg f.reg = s.reg f.reg) _ _ rfl fun t ht k hk => ?_
    have hk4 : k < 4 := List.mem_range.mp hk
    have hbeyond : CNDn_CTRL (4 * n + k) + 0x200 ≤ f.reg := by unfold CNDn_CTRL; omega
    exact (condReset_reg_beyond hbeyond).trans ht
  simp only [State.rd, hreg]

/-- A property that a reset gives a conditioner holds of each of a list of conditioners that are reset. -/
theorem foldl_condReset_cond {P : CondState → Prop} (hP : ∀ m s, m < 128 → P ((condReset m s).cond m)) {m : Nat} (hm : m < 128) :
    ∀ (l : List Nat) (s : State), m ∈ l ∨ P (s.cond m) → P ((l.foldl (fun s i => condReset i s) s).cond m) := by
  intro l
  induction l with
  | nil => intro s h; simpa using h
  | cons i t ih =>
    intro s h
    apply ih
    by_cases hi : m = i
    · exact .inr (hi ▸ hP m s hm)
    · rw [condReset_cond_other hi]
      simpa [hi] using h

theorem headLoopsReset_cond {P : CondState → Prop} (hP : ∀ m s, m < 128 → P ((condReset m s).cond m)) (hn : n < 32) {k : Nat}
    (hk : k < 4) : P ((headLoopsReset n s).cond (4 * n + k)) := by
  have h : headLoopsReset n s = ((List.range 4).map (4 * n + ·)).foldl (fun s i => condReset i s) s := by
    rw [List.foldl_map]; rfl
  rw [h]
  exact foldl_condReset_cond hP (by omega) _ s (.inl (by simpa using hk))

end

/-! ### The states of a head (R106) -/

section
variable {n st cause : Nat} {s : State}

theorem FECn_STAT_beyond (n : Nat) : 0x10090000 ≤ FECn_STAT n := by unfold FECn_STAT; omega

/-- A head stands in a state, before what the state does: its registers show it, and its queue and its counts are those of the state. -/
def headStands (n st cause : Nat) (s : State) : State :=
  let t := (s.wr (FECn_STAT_STATE n) st).wr (FECn_STAT_FCAUSE n) (if st = H_FAULT then cause else 0)
  t.setHead n { s.head n with
    queue := if st = H_CAL then (s.head n).queue else (s.head n).queue.filter fun c => c.kind != K_CALRETRY, calAgain := false,
    since := if st = H_CAL ∨ st = H_SETTLE then some s.ticks else none }

theorem headStands_head (hn : n < 32) : (headStands n st cause s).head n = { s.head n with
    queue := if st = H_CAL then (s.head n).queue else (s.head n).queue.filter fun c => c.kind != K_CALRETRY, calAgain := false,
    since := if st = H_CAL ∨ st = H_SETTLE then some s.ticks else none } := setHead_head_eq _ _ _ hn

theorem headStands_wf (h : s.wf = true) : (headStands n st cause s).wf = true := wr_wf _ _ _ (wr_wf _ _ _ h)

theorem headStands_state (h : s.wf = true) (hst : st < 8) : (headStands n st cause s).headState n = st :=
  (rd_wr_disjoint _ _ _ _ (Fld.ok_mk rfl) (wr_wf _ _ _ h) (.inl (Nat.le_of_ble_eq_true rfl))).trans (rd_wr_fits (Fld.ok_mk rfl) h hst)

theorem headStands_cause (h : s.wf = true) (hc : st = H_FAULT → cause < 16) :
    (headStands n st cause s).rd (FECn_STAT_FCAUSE n) = if st = H_FAULT then cause else 0 := by
  refine rd_wr_fits (Fld.ok_mk rfl) (wr_wf _ _ _ h) (show _ < 2 ^ 4 from ?_)
  split
  · exact hc ‹_›
  · decide

theorem headEnter_config_or_cal (hst : st = H_CONFIG ∨ st = H_CAL) : headEnter n st cause s = headStands n st cause s := by
  rcases hst with rfl | rfl <;> rfl

theorem headEnter_settle : headEnter n H_SETTLE cause s = headLoopsReset n (headStands n H_SETTLE cause s) := rfl

/-- What entering CONFIG, CAL or SETTLE does beyond that is in other blocks. -/
theorem headEnter_rd (hn : n < 32) (hst : st = H_CONFIG ∨ st = H_CAL ∨ st = H_SETTLE) {f : Fld} (h : 0x10090000 ≤ f.reg) :
    (headEnter n st cause s).rd f = (headStands n st cause s).rd f := by
  rcases hst with rfl | rfl | rfl
  · rw [headEnter_config_or_cal (.inl rfl)]
  · rw [headEnter_config_or_cal (.inr rfl)]
  · rw [headEnter_settle, headLoopsReset_rd hn h]

theorem headEnter_state (hn : n < 32) (h : s.wf = true) (hst : st = H_CONFIG ∨ st = H_CAL ∨ st = H_SETTLE) :
    (headEnter n st cause s).headState n = st := by
  have hst8 : st < 8 := by rcases hst with rfl | rfl | rfl <;> decide
  exact (headEnter_rd hn hst (FECn_STAT_beyond n)).trans (headStands_state h hst8)

/-- The cause is that of FAULT alone. -/
theorem headEnter_cause (hn : n < 32) (h : s.wf = true) (hst : st = H_CONFIG ∨ st = H_CAL ∨ st = H_SETTLE) :
    (headEnter n st cause s).rd (FECn_STAT_FCAUSE n) = 0 := by
  have hne : st ≠ H_FAULT := by rcases hst with rfl | rfl | rfl <;> decide
  rw [headEnter_rd hn hst (FECn_STAT_beyond n), headStands_cause h (absurd · hne), if_neg hne]

/-- A head that faults, with its command and the rest of its transition dropped. -/
def faultKeeps (n : Nat) (s : State) : State :=
  s.setHead n { s.head n with
    queue := (s.head n).queue.filter fun c => c.kind == K_STOP || c.kind == K_HEADRESET, out := none, due := false, awaitIdle := false }

/-- A head that faults, before what it has held fails. -/
def faultStands (n cause : Nat) (s : State) : State :=
  (takeHeld n ((headStands n H_FAULT cause (faultKeeps n s)).wr (FECn_STAT_FAULT n) 1)).2

theorem headFault_eq : headFault n cause s =
    ((headStands n H_FAULT cause (faultKeeps n s)).head n).held.foldl (fun s x => failHeld n x s) (faultStands n cause s) := rfl

theorem headFault_noneHeld (hn : n < 32) (h : (s.head n).held = []) : headFault n cause s = faultStands n cause s := by
  have hheld : ((headStands n H_FAULT cause (faultKeeps n s)).head n).held = [] := by
    rw [headStands_head hn, faultKeeps, setHead_head_eq _ _ _ hn]
    exact h
  rw [headFault_eq, hheld, List.foldl_nil]

/-- FAULT and HELD leave the other fields of the head's status. -/
theorem faultStands_rd (h : s.wf = true) {hi lo : Nat} (hlo : 3 ≤ lo) (hhi : lo ≤ hi) (hhi' : hi < 24) :
    (faultStands n cause s).rd ⟨FECn_STAT n, hi, lo⟩ = (headStands n H_FAULT cause (faultKeeps n s)).rd ⟨FECn_STAT n, hi, lo⟩ := by
  have hwf : (headStands n H_FAULT cause (faultKeeps n s)).wf = true := headStands_wf h
  have hfault : (FECn_STAT_FAULT n).lo + (FECn_STAT_FAULT n).width ≤ lo := hlo
  have hheld : lo + (hi + 1 - lo) ≤ (FECn_STAT_HELD n).lo := show lo + (hi + 1 - lo) ≤ 24 by omega
  exact (rd_wr_disjoint _ _ _ _ (Fld.ok_mk rfl) (wr_wf _ _ _ hwf) (.inl hheld)).trans
    (rd_wr_disjoint _ _ _ _ (Fld.ok_mk rfl) hwf (.inr hfault))

theorem faultStands_state (h : s.wf = true) : (faultStands n cause s).headState n = H_FAULT :=
  (faultStands_rd h (by decide) (by decide) (by decide)).trans (headStands_state h (by decide))

theorem faultStands_cause (h : s.wf = true) (hc : cause < 16) : (faultStands n cause s).rd (FECn_STAT_FCAUSE n) = cause :=
  (faultStands_rd h (by decide) (by decide) (by decide)).trans ((headStands_cause h fun _ => hc).trans (if_pos rfl))

theorem faultStands_fault (h : s.wf = true) : (faultStands n cause s).flag (FECn_STAT_FAULT n) = true := by
  have hwf : (headStands n H_FAULT cause (faultKeeps n s)).wf = true := headStands_wf h
  have hrd : (faultStands n cause s).rd (FECn_STAT_FAULT n) = 1 :=
    (rd_wr_disjoint _ _ _ _ (Fld.ok_mk rfl) (wr_wf _ _ _ hwf) (.inl (Nat.le_of_ble_eq_true rfl))).trans
      (rd_wr_fits (Fld.ok_mk rfl) hwf (show 1 < 2 ^ 1 by decide))
  simp [State.flag, hrd]

theorem faultStands_head (hn : n < 32) : (faultStands n cause s).head n = { s.head n with
    queue := ((s.head n).queue.filter fun c => c.kind == K_STOP || c.kind == K_HEADRESET).filter fun c => c.kind != K_CALRETRY,
    out := none, due := false, awaitIdle := false, calAgain := false, since := none, held := [] } := by
  have hstands := headStands_head (st := H_FAULT) (cause := cause) (s := faultKeeps n s) hn
  rw [faultKeeps, setHead_head_eq _ _ _ hn] at hstands
  refine (setHead_head_eq _ _ _ hn).trans ?_
  rw [wr_head, faultKeeps, hstands]
  rfl

end

/-- Settles O33: entering a state first writes the head's registers, and what follows leaves them: the loop resets of SETTLE write
the conditioners' registers alone, and a FAULT with nothing held other bits of the status. -/
theorem headEntersState : Obligations.HeadEntersState := by
  intro n s hwf
  refine ⟨fun st cause hst => ⟨headEnter_state n.isLt hwf hst, headEnter_cause n.isLt hwf hst⟩, fun cause k hk => ?_,
    fun cause hc hheld => ?_⟩
  · rw [headEnter_settle]
    refine headLoopsReset_cond (P := fun c => c.mean = none ∧ c.dcI = 0) (fun m t hm => ?_) n.isLt hk
    rw [condReset_cond_same hm]
    exact ⟨rfl, rfl⟩
  · rw [headFault_noneHeld n.isLt hheld, faultStands_head n.isLt]
    refine ⟨faultStands_state hwf, faultStands_cause hwf (by omega), faultStands_fault hwf, rfl, fun c hc => ?_⟩
    have hkept := (List.mem_filter.mp (List.mem_filter.mp hc).1).2
    simpa using hkept

end Sys2Proof.Machine

end

section
/-!
PROOFS. The time-outs of a head (R103, R106, R111) and the writes of its routes (R114).
-/

namespace Sys2Proof.Machine

/-! ### When a time-out is due, and what it does -/

section
variable {n : Nat} {s : State}

theorem sinceDue_same {w st : Nat} (h : (s.head n).since = some w) (hst : s.headState n = st) (periods t : Nat) :
    sinceDue s n st periods t = decide (w + periods * frameTicks ≤ t) := by
  simp [sinceDue, h, hst]

/-- The frame periods of a state count in no other. -/
theorem sinceDue_other {st : Nat} (hst : s.headState n ≠ st) (periods t : Nat) : sinceDue s n st periods t = false := by
  unfold sinceDue
  split <;> simp [hst]

theorem fecTimeout_resends (h : (s.head n).resends < s.rd (FECn_CTRL_RETRY n)) : fecTimeout n s =
    s.setHead n { s.head n with due := !(s.head n).lost, sentAt := s.ticks, resends := (s.head n).resends + 1 } :=
  if_neg (Nat.not_le.mpr h)

theorem fecTimeout_faults (h : s.rd (FECn_CTRL_RETRY n) ≤ (s.head n).resends) :
    fecTimeout n s = stopEnters n (headFault n FC_NOACK s) := if_pos h

theorem fecCalLimit_again (h : (s.head n).calAgain = false) : fecCalLimit n s = s.setHead n { s.head n with
    calAgain := true, since := some s.ticks, queue := (s.head n).queue ++ [⟨K_CALRETRY, OP_CAL, 0, 0⟩] } := by
  simp [fecCalLimit, h]

theorem fecCalLimit_faults (h : (s.head n).calAgain = true) : fecCalLimit n s = headFault n FC_CALFAIL s := by
  simp [fecCalLimit, h]

theorem fecSettled_runs (h : stopWaits s n = false) : fecSettled n s =
    s.setHead n { s.head n with since := none, queue := (s.head n).queue ++ [⟨K_SETTLE, OP_RUN, 0, 0⟩] } := by
  simp [fecSettled, h]

theorem heldTimeout_oldest {x : HeldCmd} {rest : List HeldCmd} (h : (s.head n).held = x :: rest) : heldTimeout n s =
    failHeld n x ((s.setHead n { s.head n with held := rest }).wr (FECn_STAT_HELD n) (s.rd (FECn_STAT_HELD n) - 1)) := by
  simp [heldTimeout, h]

variable {k : Nat}

theorem routeWrite_busy (h : routeBusy s k = true) (v : Word) : routeWrite k v s = s.wr BRT_STAT_ROUTE_BUSY 1 := by
  simp [routeWrite, h]

theorem routeWrite_taken (h : routeBusy s k = false) (v : Word) : routeWrite k v s = s.typed (routeReg k) v := by
  simp [routeWrite, h]

end

/-! ### The commands -/

section
variable (n : Port) (s : State)

theorem exec_cmdTimeout : exec (.cmdTimeout n) s = .next (tickAt (cmdDue · n ·) s) := rfl
theorem exec_callimExpiry : exec (.callimExpiry n) s = .next (tickAt (calDue · n ·) s) := rfl
theorem exec_settleExpiry : exec (.settleExpiry n) s = .next (tickAt (settleDue · n ·) s) := rfl
theorem exec_heldCmdTimeout : exec (.heldCmdTimeout n) s = .next (tickAt (heldDue · n ·) s) := rfl
theorem exec_brtRouteWrite (k : Fin 12) (v : Word) :
    exec (.brtRouteWrite k v) s = .next (whenOn (routeReg k) (fun _ => routeWrite k v s) s) :=
  congrArg Host.Outcome.next (whenOn_const s _ (routeWrite k v))

end

/-- Settles O32: the time-outs are ticks with their condition due, and each condition and each effect is a branch of its operation. -/
theorem headEvents : Obligations.HeadEvents := by
  intro n s h
  refine ⟨exec_cmdTimeout n s, exec_callimExpiry n s, exec_settleExpiry n s, exec_heldCmdTimeout n s, fun t => rfl,
    fun t w hw hst => ⟨sinceDue_same hw hst _ t, sinceDue_other (by rw [hst]; decide) _ t⟩,
    fun t w hw hst => ⟨sinceDue_same hw hst _ t, sinceDue_other (by rw [hst]; decide) _ t⟩, fecTimeout_resends, fecTimeout_faults,
    fecCalLimit_again, fecCalLimit_faults, fecSettled_runs, fun x rest => heldTimeout_oldest,
    fun k v => ⟨fun hbusy => ?_, fun hfree => ?_⟩⟩
  · rw [exec_brtRouteWrite, routeWrite_busy hbusy, ← whenOn_const s _ (fun s => s.wr BRT_STAT_ROUTE_BUSY 1)]
  · rw [exec_brtRouteWrite, routeWrite_taken hfree, ← whenOn_const s _ (fun s => s.typed (routeReg k) v)]

end Sys2Proof.Machine

end

section
/-!
PROOFS. The checks of a channel start and the other commands of the scheduler (R140 to R143).
-/

namespace Sys2Proof.Machine

section
variable {port cmd : Nat} {s : State}

/-! ### The checks of a start before its stream is ready (R110, R140) -/

theorem evalStart_busy (hfree : chanState s (bits cmd 11 0) ≠ FREE) (hstop : chanState s (bits cmd 11 0) ≠ STOPPED) :
    evalStart port cmd s = startFails port cmd R_BUSY s := if_pos ⟨hfree, hstop⟩

/-- A start of a channel that does not run goes on to the check of its context. -/
theorem evalStart_badCtx (hidle : chanState s (bits cmd 11 0) = FREE ∨ chanState s (bits cmd 11 0) = STOPPED)
    (hctx : ctxOk s (bits cmd 11 0) = false) : evalStart port cmd s = startFails port cmd R_BADCTX s := by
  have hnot : ¬(chanState s (bits cmd 11 0) ≠ FREE ∧ chanState s (bits cmd 11 0) ≠ STOPPED) := by tauto
  rw [evalStart, if_neg hnot, if_pos (by simp [hctx])]

/-- A start of a channel that does not run, with a context that meets its rules, by what its stream and its head are in. -/
theorem evalStart_goodCtx (hidle : chanState s (bits cmd 11 0) = FREE ∨ chanState s (bits cmd 11 0) = STOPPED)
    (hctx : ctxOk s (bits cmd 11 0) = true) : evalStart port cmd s =
      let c := bits cmd 11 0
      let n := (s.cfg c).stream
      if streamReady s n then startReady port cmd c s
      else if headHolds s n then
        refreshUse (holdCmd (n / 4) { kind := 0, id := c, port := port, word := cmd }
          (((s.setChan c { charge := 0, slot := 32, engine := 128 }).setChanState c HELD).count CSH_COUNT_HELD))
      else startFails port cmd R_HNR s := by
  have hnot : ¬(chanState s (bits cmd 11 0) ≠ FREE ∧ chanState s (bits cmd 11 0) ≠ STOPPED) := by tauto
  rw [evalStart, if_neg hnot, if_neg (by simp [hctx])]

theorem evalStart_headNotReady (hidle : chanState s (bits cmd 11 0) = FREE ∨ chanState s (bits cmd 11 0) = STOPPED)
    (hctx : ctxOk s (bits cmd 11 0) = true) (hready : streamReady s (s.cfg (bits cmd 11 0)).stream = false)
    (hholds : headHolds s (s.cfg (bits cmd 11 0)).stream = false) : evalStart port cmd s = startFails port cmd R_HNR s := by
  rw [evalStart_goodCtx hidle hctx]
  exact (if_neg (by simp [hready])).trans (if_neg (by simp [hholds]))

theorem evalStart_held (hidle : chanState s (bits cmd 11 0) = FREE ∨ chanState s (bits cmd 11 0) = STOPPED)
    (hctx : ctxOk s (bits cmd 11 0) = true) (hready : streamReady s (s.cfg (bits cmd 11 0)).stream = false)
    (hholds : headHolds s (s.cfg (bits cmd 11 0)).stream = true) : evalStart port cmd s =
      let c := bits cmd 11 0
      refreshUse (holdCmd ((s.cfg c).stream / 4) { kind := 0, id := c, port := port, word := cmd }
        (((s.setChan c { charge := 0, slot := 32, engine := 128 }).setChanState c HELD).count CSH_COUNT_HELD)) := by
  rw [evalStart_goodCtx hidle hctx]
  exact (if_neg (by simp [hready])).trans (if_pos hholds)

theorem evalStart_ready (hidle : chanState s (bits cmd 11 0) = FREE ∨ chanState s (bits cmd 11 0) = STOPPED)
    (hctx : ctxOk s (bits cmd 11 0) = true) (hready : streamReady s (s.cfg (bits cmd 11 0)).stream = true) :
    evalStart port cmd s = startReady port cmd (bits cmd 11 0) s := by
  rw [evalStart_goodCtx hidle hctx]
  exact if_pos hready

/-! ### The checks of a start whose stream is ready (R124, R140) -/

variable {c : Nat}

/-- The instant of a timed start has passed. -/
def startPast (s : State) (c : Nat) : Prop :=
  (s.cfg c).startMode = 1 ∧ (s.ctx c 7 % 2 ^ 48) * 2 ^ 96 + (s.ctx c 6 % 2 ^ 48) * 2 ^ 48 < s.tb.now

theorem startReady_clapHold (hclap : clapHolds s (s.cfg c).stream = true) :
    startReady port cmd c s = startFails port cmd R_CLAPHOLD s := if_pos hclap

theorem startReady_past (hclap : clapHolds s (s.cfg c).stream = false) (hpast : startPast s c) :
    startReady port cmd c s = startFails port cmd R_PAST s := by
  rw [startReady, if_neg (by simp [hclap])]
  exact if_pos hpast

/-- A start that meets neither CLAPHOLD nor PAST, by the budget and then by the engine. -/
theorem startReady_inTime (hclap : clapHolds s (s.cfg c).stream = false) (hpast : ¬startPast s c) : startReady port cmd c s =
    if s.rd CSH_BUDGET_LIMIT < s.rd CSH_BUDGET_USED + chargeOf s (s.cfg c) then startFails port cmd R_BUDGET s
    else match findEngine s (chargeOf s (s.cfg c)) with
      | none => startFails port cmd R_NOENGINE s
      | some e => postRsp port cmd R_OK (admitChan c (chargeOf s (s.cfg c)) e s) := by
  rw [startReady, if_neg (by simp [hclap])]
  exact if_neg hpast

theorem startReady_overBudget (hclap : clapHolds s (s.cfg c).stream = false) (hpast : ¬startPast s c)
    (hover : s.rd CSH_BUDGET_LIMIT < s.rd CSH_BUDGET_USED + chargeOf s (s.cfg c)) :
    startReady port cmd c s = startFails port cmd R_BUDGET s := by
  rw [startReady_inTime hclap hpast, if_pos hover]

theorem startReady_noEngine (hclap : clapHolds s (s.cfg c).stream = false) (hpast : ¬startPast s c)
    (hroom : s.rd CSH_BUDGET_USED + chargeOf s (s.cfg c) ≤ s.rd CSH_BUDGET_LIMIT) (he : findEngine s (chargeOf s (s.cfg c)) = none) :
    startReady port cmd c s = startFails port cmd R_NOENGINE s := by
  rw [startReady_inTime hclap hpast, if_neg (Nat.not_lt.mpr hroom), he]

theorem startReady_admitted (hclap : clapHolds s (s.cfg c).stream = false) (hpast : ¬startPast s c)
    (hroom : s.rd CSH_BUDGET_USED + chargeOf s (s.cfg c) ≤ s.rd CSH_BUDGET_LIMIT) {e : Nat}
    (he : findEngine s (chargeOf s (s.cfg c)) = some e) :
    startReady port cmd c s = postRsp port cmd R_OK (admitChan c (chargeOf s (s.cfg c)) e s) := by
  rw [startReady_inTime hclap hpast, if_neg (Nat.not_lt.mpr hroom), he]

/-! ### STOP (R142) -/

theorem evalStop_active (h : chanState s (bits cmd 11 0) = ACTIVE) :
    evalStop port cmd s = postRsp port cmd R_OK (stopChannel (bits cmd 11 0) 1 s) := if_pos h

theorem evalStop_held (h : chanState s (bits cmd 11 0) = HELD) :
    evalStop port cmd s = postRsp port cmd R_OK (cancelHeld (bits cmd 11 0) s) := by
  have hactive : chanState s (bits cmd 11 0) ≠ ACTIVE := by rw [h]; decide
  rw [evalStop, if_neg hactive, if_pos h]

theorem evalStop_notActive (hactive : chanState s (bits cmd 11 0) ≠ ACTIVE) (hheld : chanState s (bits cmd 11 0) ≠ HELD) :
    evalStop port cmd s = postRsp port cmd R_NOTACTIVE s := by
  rw [evalStop, if_neg hactive, if_neg hheld]

end

/-- Settles O35: the checks are the branches of the start in their order, before and after its stream is ready. -/
theorem startChecks : Obligations.StartChecks := by
  intro port cmd s c n charge past
  refine ⟨evalStart_busy, fun hidle => ⟨evalStart_badCtx hidle, evalStart_headNotReady hidle, evalStart_held hidle,
    fun hctx hready => ?_⟩, evalStop_active, evalStop_held, evalStop_notActive, rfl, rfl⟩
  rw [evalStart_ready hidle hctx hready]
  exact ⟨startReady_clapHold, startReady_past, startReady_overBudget, fun hclap hpast hroom =>
    ⟨startReady_noEngine hclap hpast hroom, fun e => startReady_admitted hclap hpast hroom⟩⟩

end Sys2Proof.Machine

end

section
/-!
PROOFS. The commands of the channel scheduler's ports: how a port takes, queues or ignores a command, and what the scheduler does
with one that waits alone (R137 to R143, R157).
-/

namespace Sys2Proof.Machine

/-! ### Accesses that do the same -/

/-- An access does the same by two meanings that agree behind the discarded half. -/
theorem asAccess_congr {s : State} {init : Nat} {f g : State → State} (h : f (unstage init s) = g (unstage init s)) (a : Nat)
    (write : Bool) : asAccess init a write f s = asAccess init a write g s := by
  rw [asAccess_const, h, ← asAccess_const]

/-- A command without an initiator does the same by two meanings that agree on the state. -/
theorem whenOn_congr {s : State} {f g : State → State} (h : f s = g s) (a : Nat) : whenOn a f s = whenOn a g s := by
  rw [whenOn_const, h, ← whenOn_const]

theorem guardW_allowed {ok : Bool} (h : ok = true) (init a cause : Nat) (f : State → State) (s : State) :
    guardW ok init a cause f s = f s := if_pos h

theorem guardW_refused {ok : Bool} (h : ok = false) (init a cause : Nat) (f : State → State) (s : State) :
    guardW ok init a cause f s = icError init a true cause s := if_neg (by simp [h])

/-! ### Evaluating a command leaves the commands that wait -/

@[simp] theorem setRing_ca (c ring : Nat) (s : State) : (setRing c ring s).ca = s.ca := rfl
@[simp] theorem refreshUse_ca (s : State) : (refreshUse s).ca = s.ca := rfl
@[simp] theorem holdCmd_ca (n : Nat) (x : HeldCmd) (s : State) : (holdCmd n x s).ca = s.ca := rfl
@[simp] theorem postRsp_cmds (port cmd result : Nat) (s : State) : (postRsp port cmd result s).ca.cmds = s.ca.cmds := rfl
@[simp] theorem admitChan_cmds (c charge e : Nat) (s : State) : (admitChan c charge e s).ca.cmds = s.ca.cmds := rfl
@[simp] theorem stopChannel_cmds (c cause : Nat) (s : State) : (stopChannel c cause s).ca.cmds = s.ca.cmds := rfl
@[simp] theorem unhold_cmds (c : Nat) (s : State) : (unhold c s).ca.cmds = s.ca.cmds := rfl
@[simp] theorem unholdHead_ca (n c : Nat) (s : State) : (unholdHead n c s).ca = s.ca := rfl

@[simp] theorem startFails_cmds (port cmd result : Nat) (s : State) : (startFails port cmd result s).ca.cmds = s.ca.cmds := by
  unfold startFails
  split_ifs <;> rfl

theorem startReady_cmds (port cmd c : Nat) (s : State) : (startReady port cmd c s).ca.cmds = s.ca.cmds := by
  unfold startReady
  extract_lets cfg charge instant
  split_ifs
  · exact startFails_cmds ..
  · exact startFails_cmds ..
  · exact startFails_cmds ..
  · cases findEngine s charge with
    | none => exact startFails_cmds ..
    | some e => rw [postRsp_cmds, admitChan_cmds]

theorem evalStart_cmds (port cmd : Nat) (s : State) : (evalStart port cmd s).ca.cmds = s.ca.cmds := by
  unfold evalStart
  extract_lets c n
  split_ifs
  · exact startFails_cmds ..
  · exact startFails_cmds ..
  · exact startReady_cmds ..
  · rw [refreshUse_ca, holdCmd_ca]
    rfl
  · exact startFails_cmds ..

theorem cancelHeld_cmds (c : Nat) (s : State) : (cancelHeld c s).ca.cmds = s.ca.cmds := by
  unfold cancelHeld
  extract_lets n
  cases (s.head n).held.find? fun x => x.kind == 0 && x.id == c with
  | none => exact unhold_cmds ..
  | some x => rw [postRsp_cmds, unhold_cmds, unholdHead_ca]

theorem evalStop_cmds (port cmd : Nat) (s : State) : (evalStop port cmd s).ca.cmds = s.ca.cmds := by
  unfold evalStop
  extract_lets c
  split_ifs
  · rw [postRsp_cmds, stopChannel_cmds]
  · rw [postRsp_cmds, cancelHeld_cmds]
  · exact postRsp_cmds ..

theorem evalRemap_cmds (port cmd : Nat) (s : State) : (evalRemap port cmd s).ca.cmds = s.ca.cmds := rfl

theorem foldl_setRing_ca (ring : Nat) (l : List Nat) (s : State) : (l.foldl (fun s c => setRing c ring s) s).ca = s.ca :=
  List.foldlRecOn (motive := fun t : State => t.ca = s.ca) l _ rfl fun _ ht _ _ => ht

theorem evalRingMove_cmds (port cmd : Nat) (s : State) : (evalRingMove port cmd s).ca.cmds = s.ca.cmds := by
  rw [evalRingMove, postRsp_cmds, foldl_setRing_ca]

theorem evalCmd_cmds (x : CshCmd) (s : State) : (evalCmd x s).ca.cmds = s.ca.cmds := by
  unfold evalCmd
  extract_lets t
  split
  · exact evalStart_cmds ..
  · exact evalStop_cmds ..
  · exact evalRemap_cmds ..
  · exact evalRingMove_cmds ..

/-! ### The scheduler runs -/

section
variable {s : State}

theorem runCsh_idle (h : s.ca.cmds = []) (fuel : Nat) : runCsh fuel s = s := by
  cases fuel with
  | zero => rfl
  | succ fuel => simp [runCsh, h]

theorem cshRun_idle (h : s.ca.cmds = []) : cshRun s = s := runCsh_idle h _

/-- A command that waits alone is evaluated where its port has room, and nothing is left to take. -/
theorem cshRun_alone {x : CshCmd} (h : s.ca.cmds = [x]) (hroom : hasRoom s x.port = true) :
    cshRun s = evalCmd x { s with ca := { s.ca with cmds := [] } } := by
  have htaken : runCsh 2 s = runCsh 1 (evalCmd x { s with ca := { s.ca with cmds := [] } }) := by simp [runCsh, h, hroom]
  rw [cshRun, h]
  exact htaken.trans (runCsh_idle (evalCmd_cmds _ _) 1)

/-! ### A write of a command register (R137) -/

variable {init port : Nat} {v : Word}

theorem cshWrite_foreign (hport : cshPortOf init port = false) :
    cshWrite init port v s = icError init (CSH_CMDj port) true OWNER s := guardW_refused hport ..

section
variable (hport : cshPortOf init port = true) (hop : 1 ≤ bits v.toNat 35 32 ∧ bits v.toNat 35 32 ≤ 4)
include hport hop

theorem cshWrite_queues (hfree : (s.ca.cmds.filter fun x => x.port == port).length < 16) :
    cshWrite init port v s = cshRun { s with ca := { s.ca with cmds := s.ca.cmds ++ [⟨port, v.toNat⟩] } } := by
  rw [cshWrite, guardW_allowed hport]
  exact (if_neg (by omega)).trans (if_pos hfree)

theorem cshWrite_full (hfull : 16 ≤ (s.ca.cmds.filter fun x => x.port == port).length) :
    cshWrite init port v s = s.wr CSH_STAT_CMDOVF 1 := by
  rw [cshWrite, guardW_allowed hport]
  exact (if_neg (by omega)).trans (if_neg (Nat.not_lt.mpr hfull))

/-- A command that a port takes at once: nothing waits behind it, and its response has its entry. -/
theorem cshWrite_alone (hcmds : s.ca.cmds = []) (hroom : hasRoom s port = true) :
    cshWrite init port v s = evalCmd ⟨port, v.toNat⟩ { s with ca := { s.ca with cmds := [] } } := by
  rw [cshWrite_queues hport hop (by simp [hcmds])]
  exact cshRun_alone (by simp [hcmds]) hroom

end

end

/-! ### The words of the four commands (R157) -/

section
variable {op tag chan new from_ : Nat} (hop : op < 16) (hchan : chan < 4096) (hnew : new < 4) (hfrom : from_ < 4)
include hop hchan hnew hfrom

theorem bits_cshWord_op : bits (tag * 2 ^ 40 + op * 2 ^ 32 + new * 2 ^ 14 + from_ * 2 ^ 12 + chan) 35 32 = op := by
  rw [bits, Nat.shiftRight_eq_div_pow]
  omega

theorem cshWord_toNat (htag : tag < 256) :
    (cshWord op tag chan new from_).toNat = tag * 2 ^ 40 + op * 2 ^ 32 + new * 2 ^ 14 + from_ * 2 ^ 12 + chan := by
  rw [cshWord, BitVec.toNat_ofNat]
  exact Nat.mod_eq_of_lt (by omega)

theorem cshWord_op (htag : tag < 256) : bits (cshWord op tag chan new from_).toNat 35 32 = op := by
  rw [cshWord_toNat hop hchan hnew hfrom htag, bits_cshWord_op hop hchan hnew hfrom]

end

/-! ### A command by its operation -/

section
variable {port : Nat} {s : State}

/-- The scheduler takes the only command, and one entry of its port's responses is reserved (R138). -/
def onlyTaken (port : Nat) (s : State) : State :=
  { s with ca := { s.ca with cmds := [], reserved := s.ca.reserved.setIfInBounds port (s.ca.reserved.getD port 0 + 1) } }

/-- The operation of a command word that is evaluated alone, behind its reservation. -/
theorem evalCmd_start {w : Nat} (h : bits w 35 32 = 1) :
    evalCmd ⟨port, w⟩ { s with ca := { s.ca with cmds := [] } } = evalStart port w (onlyTaken port s) := by
  simp only [evalCmd, h, onlyTaken]

theorem evalCmd_stop {w : Nat} (h : bits w 35 32 = 2) :
    evalCmd ⟨port, w⟩ { s with ca := { s.ca with cmds := [] } } = evalStop port w (onlyTaken port s) := by
  simp only [evalCmd, h, onlyTaken]

theorem evalCmd_remap {w : Nat} (h : bits w 35 32 = 3) :
    evalCmd ⟨port, w⟩ { s with ca := { s.ca with cmds := [] } } = evalRemap port w (onlyTaken port s) := by
  simp only [evalCmd, h, onlyTaken]

theorem evalCmd_ringMove {w : Nat} (h : bits w 35 32 = 4) :
    evalCmd ⟨port, w⟩ { s with ca := { s.ca with cmds := [] } } = evalRingMove port w (onlyTaken port s) := by
  simp only [evalCmd, h, onlyTaken]

end

/-! ### The commands -/

section
variable (init : Init) (port : Fin 8) (tag : Byte) (chan : Chan) (from_ new : Fin 4) (s : State)

/-- What a write of a command word to a port's register does. -/
def portWritten (init : Init) (port : Fin 8) (v : Word) (s : State) : State :=
  asAccess init (CSH_CMDj port) true (cshWrite init port v) s

theorem exec_cshStart : exec (.cshStart init port tag chan) s = .next (portWritten init port (cshWord 1 tag.toNat chan 0 0) s) := rfl
theorem exec_cshStop : exec (.cshStop init port tag chan) s = .next (portWritten init port (cshWord 2 tag.toNat chan 0 0) s) := rfl
theorem exec_cshRemap :
    exec (.cshRemap init port tag chan new) s = .next (portWritten init port (cshWord 3 tag.toNat chan new 0) s) := rfl
theorem exec_cshRingmove :
    exec (.cshRingmove init port tag from_ new) s = .next (portWritten init port (cshWord 4 tag.toNat 0 new from_) s) := rfl
theorem exec_cshRspRead : exec (.cshRspRead port) s = .next (whenOn (CSH_RSPj port) (fun _ => rspRead port s) s) :=
  congrArg Host.Outcome.next (whenOn_const s _ (rspRead port))

end

section
variable {init : Init} {port : Fin 8} {v : Word} {s : State}

theorem portWritten_foreign (hport : cshPortOf init port = false) :
    portWritten init port v s = asAccess init (CSH_CMDj port) true (icError init (CSH_CMDj port) true OWNER) s :=
  asAccess_congr (s := s) (cshWrite_foreign hport) _ _

variable (hport : cshPortOf init port = true) (hop : 1 ≤ bits v.toNat 35 32 ∧ bits v.toNat 35 32 ≤ 4)
include hport hop

theorem portWritten_queues (hfree : (s.ca.cmds.filter fun x => x.port == port.val).length < 16) :
    portWritten init port v s = asAccess init (CSH_CMDj port) true
      (fun s => cshRun { s with ca := { s.ca with cmds := s.ca.cmds ++ [⟨port, v.toNat⟩] } }) s :=
  asAccess_congr (cshWrite_queues (s := unstage init s) hport hop hfree) _ _

theorem portWritten_full (hfull : 16 ≤ (s.ca.cmds.filter fun x => x.port == port.val).length) :
    portWritten init port v s = asAccess init (CSH_CMDj port) true (·.wr CSH_STAT_CMDOVF 1) s :=
  asAccess_congr (cshWrite_full (s := unstage init s) hport hop hfull) _ _

/-- A write that the port takes at once does the operation of its word. -/
theorem portWritten_alone (hcmds : s.ca.cmds = []) (hroom : hasRoom s port = true) {f : State → State}
    (hf : ∀ t : State, evalCmd ⟨port, v.toNat⟩ { t with ca := { t.ca with cmds := [] } } = f t) :
    portWritten init port v s = asAccess init (CSH_CMDj port) true f s :=
  asAccess_congr ((cshWrite_alone (s := unstage init s) hport hop hcmds hroom).trans (hf _)) _ _

end

/-- Settles O34: each command is the write of its word to the port's register, and what the write meets decides what it does. -/
theorem schedulerCommands : Obligations.SchedulerCommands := by
  intro init port tag chan from_ new s cmd taken word
  have htag : tag.toNat < 256 := tag.isLt
  have hstart := cshWord_op (op := 1) (by decide) chan.isLt (by decide : 0 < 4) (by decide : 0 < 4) htag
  have hstop := cshWord_op (op := 2) (by decide) chan.isLt (by decide : 0 < 4) (by decide : 0 < 4) htag
  have hremap := cshWord_op (op := 3) (by decide) chan.isLt new.isLt (by decide : 0 < 4) htag
  have hmove := cshWord_op (op := 4) (by decide) (by decide : 0 < 4096) new.isLt from_.isLt htag
  simp only [exec_cshStart, exec_cshStop, exec_cshRemap, exec_cshRingmove]
  refine ⟨fun hport hcmds hroom => ?_, fun hport hfree => ?_, fun hport hfull => ?_, fun hport => ?_,
    exec_cshRspRead port s, fun hcmds => cshRun_idle hcmds⟩
  · have hroom' : hasRoom s port = true := decide_eq_true hroom
    have alone := fun {v : Word} hop {f : State → State} hf =>
      congrArg done (portWritten_alone (v := v) (f := f) hport hop hcmds hroom' hf)
    refine ⟨alone (by omega) fun t => ?_, alone (by omega) fun t => ?_, alone (by omega) fun t => ?_, alone (by omega) fun t => ?_⟩
    · rw [evalCmd_start hstart, cshWord_toNat (by decide) chan.isLt (by decide) (by decide) htag]
      rfl
    · rw [evalCmd_stop hstop, cshWord_toNat (by decide) chan.isLt (by decide) (by decide) htag]
      rfl
    · rw [evalCmd_remap hremap, cshWord_toNat (by decide) chan.isLt new.isLt (by decide) htag]
      rfl
    · rw [evalCmd_ringMove hmove, cshWord_toNat (by decide) (by decide) new.isLt from_.isLt htag]
      rfl
  · have queues := fun (v : Word) hop => congrArg done (portWritten_queues (v := v) hport hop hfree)
    exact ⟨queues _ (by omega), queues _ (by omega), queues _ (by omega), queues _ (by omega)⟩
  · have full := fun (v : Word) hop => congrArg done (portWritten_full (v := v) hport hop hfull)
    exact ⟨full _ (by omega), full _ (by omega), full _ (by omega), full _ (by omega)⟩
  · have foreign := fun (v : Word) => congrArg done (portWritten_foreign (v := v) (s := s) hport)
    exact ⟨foreign _, foreign _, foreign _, foreign _⟩

end Sys2Proof.Machine

end

section
/-!
PROOFS. The blocks of an engine, the dump rings, the writes of contexts and of the code RAM, the ports of aiding, and the check
engine (R121, R127, R144, R148 to R150, R172, R174).
-/

namespace Sys2Proof.Machine

/-! ### A channel's next block (R121, R144) -/

section
variable {c : Nat} {s : State}

theorem engineBlock_notActive (h : chanState s c ≠ ACTIVE) : engineBlock c s = s := if_pos h

/-- The sample before which a channel's next block ends: 256 on, and no later than what its stream has delivered or ends with. -/
def blockEnd (c k : Nat) (s : State) : Nat :=
  let st := s.stream (s.cfg c).stream
  min (k + 256) (min (match (s.chan c).endAt with | some e => e.1 | none => st.count) st.count)

theorem engineBlock_awaits (h : chanState s c = ACTIVE) (hnext : ((findFirst c s).chan c).next = none) :
    engineBlock c s = findFirst c s := by
  rw [engineBlock, if_neg (not_not_intro h)]
  simp only [hnext]

theorem engineBlock_correlates (h : chanState s c = ACTIVE) {k : Nat} (hnext : ((findFirst c s).chan c).next = some k) :
    engineBlock c s =
      let s1 := findFirst c s
      let hi := blockEnd c k s1
      let w := loadWork s1 c
      stopAtEnd c hi (finishWork c (stepRange s1 c (s1.cfg c) false k hi (s1.stream (s1.cfg c).stream).window
        { w with run := { w.run with next := some (max k hi) } }) s1) := by
  rw [engineBlock, if_neg (not_not_intro h)]
  simp only [hnext, blockEnd]
  cases ((findFirst c s).chan c).endAt <;> rfl

end

/-! ### The rings (R148) -/

section
variable {k : Nat} {s : State} {v : Word}

theorem ringWaited_iff (t : Nat) : ringWaited s k t = true ↔
    0 < ringLevel s k ∧ s.rd (CA_RINGk_DB_TO k) ≠ 0 ∧ s.ca.rpAt.getD k 0 + s.rd (CA_RINGk_DB_TO k) * usTicks ≤ t := by
  simp [ringWaited, and_assoc]

theorem ringDoorbell_iff : ringDoorbell s k = true ↔
    max (s.rd (CA_RINGk_DB_THR k)) 1 ≤ ringLevel s k ∨ ringWaited s k s.ticks = true := by
  rw [ringDoorbell, Bool.or_eq_true, decide_eq_true_eq]

theorem ringRpWrite_beyond (h : 4096 < (s.rd (CA_RINGk_WP_WP k) + 65536 - v.toNat % 65536) % 65536) :
    ringRpWrite k v s = s.wr CA_STAT_CFGERR 1 := if_pos h

theorem ringRpWrite_within (h : (s.rd (CA_RINGk_WP_WP k) + 65536 - v.toNat % 65536) % 65536 ≤ 4096) : ringRpWrite k v s =
    let s1 := s.typed (CA_RINGk_RP k) v
    { s1 with ca := { s1.ca with rpAt := s1.ca.rpAt.setIfInBounds k s1.ticks } } := if_neg (Nat.not_lt.mpr h)

theorem ringBaseWrite_bad (h : v.toNat % 128 ≠ 0 ∨ 0x01800000 ≤ v.toNat % 2 ^ 32 ∨ ringNamed s k = true) :
    ringBaseWrite k v s = s.wr CA_STAT_CFGERR 1 := if_pos h

theorem ringBaseWrite_taken (h : ¬(v.toNat % 128 ≠ 0 ∨ 0x01800000 ≤ v.toNat % 2 ^ 32 ∨ ringNamed s k = true)) :
    ringBaseWrite k v s = s.typed (CA_RINGk_BASE k) v := if_neg h

end

/-! ### Writes of a memory (R127, R172) -/

section
variable {init a n : Nat} {bs : List Byte} {s : State} (hn : bs.length = n)
include hn

theorem memWrite_lands (h : accessCause (traceInit init a true s) init a n false true = 0) :
    (memWrite init a bs s).2 = landWrite a bs (traceInit init a true s) := by
  subst hn
  exact congrArg Prod.snd (if_pos h)

theorem memWrite_refused {cause : Nat} (h : accessCause (traceInit init a true s) init a n false true = cause) (hcause : cause ≠ 0) :
    (memWrite init a bs s).2 = icError init a true cause (refusedWrite a n cause (traceInit init a true s)) := by
  subst hn h
  exact congrArg Prod.snd (if_neg hcause)

end

/-! ### Aiding (R149, R150) -/

section
variable {i : CoreId} {v : Word} {s : State}

/-- HDR of a port is written by its own initiator alone, and commits a record. -/
theorem caWrite_hdr (init : Nat) : caWrite init (CA_AIDi_HDR i) v s =
    guardW (init == i.val) init (CA_AIDi_HDR i) OWNER (aidCommit i v) s := by
  have hi := i.isLt
  have hoff : CA_AIDi_HDR i - 0x100B0000 = 0x420 + 0x40 * i.val := by rw [CA_AIDi_HDR]; omega
  have hport : (0x420 + 0x40 * i.val - 0x400) / 0x40 = i.val := by omega
  rw [caWrite, hoff]
  simp only [hport, if_true]
  exact if_pos (by omega)

theorem aidCommit_full (h : 64 ≤ (s.ca.aids.getD i []).length) : aidCommit i v s =
    ((s.count (CA_AIDi_CNT_DROPS i)).wr (CA_AIDi_STAT_OVF i) 1).wr CA_STAT_AIDOVF 1 := if_pos h

/-- A record that sets the coherent count sets none that is allowed. -/
def badNcoh (v : Word) : Prop := bits v.toNat 19 19 = 1 ∧ ¬(1 ≤ bits v.toNat 30 24 ∧ bits v.toNat 30 24 ≤ 100)

theorem badNcoh_iff : (bits v.toNat 19 19 == 1 && !within 1 100 (bits v.toNat 30 24)) = true ↔ badNcoh v := by
  simp only [badNcoh, within, Bool.and_eq_true, beq_iff_eq, Bool.not_eq_true', Bool.and_eq_false_iff, decide_eq_false_iff_not,
    not_and_or]

theorem aidCommit_badCount (h : (s.ca.aids.getD i []).length < 64) (hbad : badNcoh v) : aidCommit i v s =
    (s.count (CA_AIDi_CNT_DROPS i)).wr CA_STAT_AIDOVF 1 :=
  (if_neg (Nat.not_le.mpr h)).trans (if_pos (badNcoh_iff.mpr hbad))

/-- A port's queue with a record behind it. -/
def aidQueued (i : CoreId) (v : Word) (s : State) : State :=
  let q := s.ca.aids.getD i []
  ({ s with ca := { s.ca with aids := s.ca.aids.setIfInBounds i (q ++ [⟨v.toNat, (s.reg (CA_AIDi_CARR i)).toNat,
    (s.reg (CA_AIDi_CODE i)).toNat, (s.reg (CA_AIDi_CADJ i)).toNat, (s.reg (CA_AIDi_KADJ i)).toNat⟩]) } } : State).wr
      (CA_AIDi_STAT_LEVEL i) (q.length + 1)

theorem aidCommit_taken (h : (s.ca.aids.getD i []).length < 64) (hgood : ¬badNcoh v) : aidCommit i v s = aidQueued i v s :=
  (if_neg (Nat.not_le.mpr h)).trans (if_neg (badNcoh_iff.not.mpr hgood))

theorem aidTransfer_empty (h : s.ca.aids.getD i [] = []) : aidTransfer i s = s := by
  simp [aidTransfer, h]

/-- The state whose aiding port has given away its oldest record. -/
def aidRest (i : CoreId) (rest : List AidRec) (s : State) : State :=
  ({ s with ca := { s.ca with aids := s.ca.aids.setIfInBounds i rest } } : State).wr (CA_AIDi_STAT_LEVEL i) rest.length

theorem aidTransfer_oldest {r : AidRec} {rest : List AidRec} (h : s.ca.aids.getD i [] = r :: rest) : aidTransfer i s =
    if chanState (aidRest i rest s) (bits r.hdr 11 0) = ACTIVE then mergeAiding r (aidRest i rest s)
    else ((aidRest i rest s).count (CA_AIDi_CNT_NOTACT i)).wr (CA_AIDi_STAT_NOTACT i) 1 := by
  rw [aidTransfer, h]
  rfl

end

/-! ### The check engine (R174) -/

section
variable {first count : Nat} {s : State}

theorem crcCheck_refused (h : s.flag CGN_CRCRES_BUSY = true ∨ 255 < first + count) :
    crcCheck first count s = s.wr CGN_STAT_CFGERR 1 := if_pos (by simpa using h)

theorem crcCheck_starts (hidle : s.flag CGN_CRCRES_BUSY = false) (hfits : first + count ≤ 255) : crcCheck first count s =
    (({ s with cgn := { check := some (first, count) } } : State).wr CGN_CRCRES_BUSY 1).wr CGN_CRCRES_DONE 0 :=
  if_neg (by simpa [hidle] using hfits)

theorem crcTick_idle (h : s.cgn.check = none) : crcTick s = s := by simp [crcTick, h]
theorem crcDue_idle (h : s.cgn.check = none) : crcDue s = false := by simp [crcDue, h]

variable (hrun : s.cgn.check = some (first, count))
include hrun

theorem crcDue_iff : crcDue s = true ↔ 64 * (count + 1) ≤ s.cgn.words + 1 ∧ 2 ≤ s.cgn.ticks := by
  simp only [crcDue, hrun, Bool.and_eq_true, decide_eq_true_eq]
  omega

theorem crcTick_between (h : s.cgn.ticks < 2) : crcTick s = { s with cgn := { s.cgn with ticks := s.cgn.ticks + 1 } } := by
  simp only [crcTick, hrun]
  exact if_pos (by omega)

/-- The CRC over the words read so far and the one that is next, as it stands. -/
def crcNext (first : Nat) (s : State) : BitVec 32 :=
  (s.bytes (0x05800000 + 512 * first + 8 * s.cgn.words) 8).foldl crc32cByte s.cgn.crc

theorem crcTick_word (h : 2 ≤ s.cgn.ticks) : crcTick s = if crcDue s then crcDone (crcNext first s) s
    else { s with cgn := { s.cgn with words := s.cgn.words + 1, crc := crcNext first s, ticks := 0 } } := by
  simp only [crcTick, hrun]
  exact if_neg (by omega)

theorem crcTick_reads (h : 2 ≤ s.cgn.ticks) (hmore : ¬64 * (count + 1) ≤ s.cgn.words + 1) : crcTick s =
    { s with cgn := { s.cgn with words := s.cgn.words + 1, crc := crcNext first s, ticks := 0 } } := by
  rw [crcTick_word hrun h, if_neg (by rw [crcDue_iff hrun]; exact fun hdue => hmore hdue.1)]

theorem crcTick_ends (h : 2 ≤ s.cgn.ticks) (hlast : 64 * (count + 1) ≤ s.cgn.words + 1) :
    crcTick s = crcDone (crcNext first s) s := by
  rw [crcTick_word hrun h, if_pos ((crcDue_iff hrun).mpr ⟨hlast, h⟩)]

end

/-! ### The commands -/

section
variable (s : State)

theorem exec_engineBlock (c : Chan) : exec (.engineBlock c) s = .next (engineBlock c s) := rfl
theorem exec_ringDbTimeout (k : Fin 4) :
    exec (.ringDbTimeout k) s = .next (tickAt (fun s t => !ringWaited s k s.ticks && ringWaited s k t) s) := rfl
theorem exec_ringRpWrite (k : Fin 4) (v : Word) :
    exec (.ringRpWrite k v) s = .next (whenOn (CA_RINGk_RP k) (fun _ => ringRpWrite k v s) s) :=
  congrArg Host.Outcome.next (whenOn_const s _ (ringRpWrite k v))
theorem exec_ringBaseWrite (k : Fin 4) (v : Word) :
    exec (.ringBaseWrite k v) s = .next (whenOn (CA_RINGk_BASE k) (fun _ => ringBaseWrite k v s) s) :=
  congrArg Host.Outcome.next (whenOn_const s _ (ringBaseWrite k v))
theorem exec_contextWrite (init : Init) (c : Chan) (w : Fin 32) (v : BitVec 64) :
    exec (.contextWrite init c w v) s = .next (memWrite init (0x04000000 + 256 * c.val + 8 * w.val) (toLE 8 v.toNat) s).2 := rfl
theorem exec_codeRamWrite (init : Init) (w : Fin 16384) (v : BitVec 64) :
    exec (.codeRamWrite init w v) s = .next (memWrite init (0x05800000 + 8 * w.val) (toLE 8 v.toNat) s).2 := rfl
theorem exec_aidingCommit (init : Init) (i : CoreId) (v : Word) :
    exec (.aidingCommit init i v) s =
      .next (asAccess init (CA_AIDi_HDR i) true (guardW (init.val == i.val) init (CA_AIDi_HDR i) OWNER (aidCommit i v)) s) :=
  congrArg Host.Outcome.next (asAccess_congr (caWrite_hdr init) _ _)
theorem exec_aidingTransfer (i : CoreId) : exec (.aidingTransfer i) s = .next (aidTransfer i s) := rfl
theorem exec_cgnCrcCheck (first count : Fin 256) :
    exec (.cgnCrcCheck first count) s = .next (whenOn CGN_CRCCMD (crcCheck first count) s) := rfl
theorem exec_cgnCrcDone : exec .cgnCrcDone s = .next (tickAt (fun s _ => crcDue s) s) := rfl

end

/-- Settles O36: each command is its operation, or a write of the operation's register, and the operation's cases are the clauses. -/
theorem arrayCommands : Obligations.ArrayCommands := by
  intro s
  refine ⟨fun c h => ?_, fun c h hnext => ?_, fun c k h => ?_, fun k => ?_, fun init c w v => ?_, fun init i v => ?_, fun i h => ?_,
    fun i r rest h => ?_, fun init w v => ?_, fun first count => ?_, exec_cgnCrcDone s, fun h => ⟨crcTick_idle h, crcDue_idle h⟩,
    fun first count hrun => ⟨crcDue_iff hrun, crcTick_between hrun, crcTick_reads hrun, crcTick_ends hrun⟩⟩
  · rw [exec_engineBlock, engineBlock_notActive h]
  · rw [exec_engineBlock, engineBlock_awaits h hnext]
  · intro s1 hnext
    rw [exec_engineBlock, engineBlock_correlates h hnext]
    rfl
  · refine ⟨exec_ringDbTimeout s k, ringWaited_iff, ringDoorbell_iff, fun v => ?_⟩
    rw [exec_ringRpWrite, exec_ringBaseWrite]
    exact ⟨fun h => by rw [ringRpWrite_beyond h], fun h => by rw [ringRpWrite_within h], fun h => by rw [ringBaseWrite_bad h],
      fun h => by rw [ringBaseWrite_taken h]⟩
  · rw [exec_contextWrite]
    exact ⟨fun h => congrArg done (memWrite_lands (length_toLE 8 _) h),
      fun h => congrArg done (memWrite_refused (length_toLE 8 _) h (by decide))⟩
  · intro q hdr bad
    rw [exec_aidingCommit]
    refine ⟨fun h => congrArg done (asAccess_congr (guardW_refused (by simpa using h) ..) _ _), fun h hfull => ?_,
      fun h hfree hbad => ?_, fun h hfree hgood => ?_⟩
    all_goals refine congrArg done (asAccess_congr ((guardW_allowed (by simpa using h) ..).trans ?_) _ _)
    · exact aidCommit_full (s := unstage init s) hfull
    · exact aidCommit_badCount (s := unstage init s) hfree hbad
    · exact aidCommit_taken (s := unstage init s) hfree hgood
  · rw [exec_aidingTransfer, aidTransfer_empty h]
  · rw [exec_aidingTransfer, aidTransfer_oldest h]
    exact ⟨fun hact => congrArg done (if_pos hact), fun hact => congrArg done (if_neg hact)⟩
  · rw [exec_codeRamWrite]
    exact ⟨fun h => congrArg done (memWrite_lands (length_toLE 8 _) h),
      fun h => congrArg done (memWrite_refused (length_toLE 8 _) h (by decide))⟩
  · rw [exec_cgnCrcCheck]
    exact ⟨fun h => congrArg done (whenOn_congr (crcCheck_refused h) _),
      fun hidle hfits => congrArg done (whenOn_congr (crcCheck_starts hidle hfits) _)⟩

end Sys2Proof.Machine

end

section
/-!
PROOFS. The bounds of a replica value, of a sample after carrier wipe-off and of one product (R132, R158 to R163).
-/

namespace Sys2Proof.Machine

/-! ### Sums of two products -/

section
variable {x y a b : Int} {B K : Nat} (hx : x.natAbs ≤ B) (hy : y.natAbs ≤ B) (hab : a.natAbs + b.natAbs ≤ K)
include hx hy hab

theorem natAbs_mul_add_mul_le : (x * a + y * b).natAbs ≤ B * K :=
  calc (x * a + y * b).natAbs
    _ ≤ x.natAbs * a.natAbs + y.natAbs * b.natAbs := by simpa only [Int.natAbs_mul] using Int.natAbs_add_le (x * a) (y * b)
    _ ≤ B * a.natAbs + B * b.natAbs := by gcongr
    _ = B * (a.natAbs + b.natAbs) := (Nat.mul_add ..).symm
    _ ≤ B * K := Nat.mul_le_mul_left B hab

theorem natAbs_mul_sub_mul_le : (x * a - y * b).natAbs ≤ B * K := by
  rw [sub_eq_add_neg, ← neg_mul]
  exact natAbs_mul_add_mul_le hx (y.natAbs_neg.trans_le hy) hab

end

/-! ### The carrier (R132) -/

theorem cosOf_mod (m : Nat) : cosOf (m % 64) = cosOf m := by rw [cosOf, Nat.mod_mod, cosOf]

theorem sinOf_mod (m : Nat) : sinOf (m % 64) = sinOf m := by rw [sinOf, Nat.mod_add_mod, sinOf]

theorem natAbs_cosOf_add_natAbs_sinOf_le (m : Nat) : (cosOf m).natAbs + (sinOf m).natAbs ≤ 10 := by
  have table : ∀ m < 64, (cosOf m).natAbs + (sinOf m).natAbs ≤ 10 := by decide
  simpa only [cosOf_mod, sinOf_mod] using table (m % 64) (Nat.mod_lt m (by decide))

/-! ### Chips (R159, R162, R163) -/

@[simp] theorem natAbs_chipOf (b : Bool) : (chipOf b).natAbs = 1 := by cases b <;> rfl

theorem natAbs_primaryChip_le (s : State) (c : ChanCfg) (i : Nat) : (primaryChip s c i).natAbs ≤ 1 := by
  unfold primaryChip
  split_ifs <;> simp

@[simp] theorem natAbs_secondaryChipAt (s : State) (sel start i : Nat) : (secondaryChipAt s sel start i).natAbs = 1 := by
  unfold secondaryChipAt
  split_ifs <;> simp

/-! ### The replica (R160) -/

section
variable {s : State} {c : ChanCfg} (p j : Nat)

/-- A binary or multiplexed BOC value is the chip, a zero chip where L2CM is silent, times a subcarrier of at most 4. -/
theorem replica_real (h : c.subc ≠ 5) : ∃ chip sub : Int, chip.natAbs ≤ 1 ∧ sub.natAbs ≤ 4 ∧ replica s c p j = (chip * sub, 0) := by
  rw [replica, if_neg h]
  refine ⟨_, _, ?chip, ?sub, rfl⟩
  case chip =>
    rw [Int.natAbs_mul, natAbs_secondaryChipAt, mul_one]
    exact natAbs_primaryChip_le ..
  case sub =>
    split
    · decide
    all_goals split_ifs <;> decide

/-- The AltBOC value is formed of two chips, each with its secondary chip, and one of the eight steps of the subcarrier. -/
theorem replica_altBoc (h : c.subc = 5) : ∃ (ca cb : Int) (k : Nat), ca.natAbs = 1 ∧ cb.natAbs = 1 ∧ k < 8 ∧
    replica s c p j = ((ca + cb) / 2 * altC k, -((ca - cb) / 2 * altS k)) := by
  rw [replica, if_pos h]
  exact ⟨_, _, _, by simp [Int.natAbs_mul], by simp [Int.natAbs_mul], Nat.mod_lt _ (by decide), rfl⟩

end

theorem natAbs_altC_le : ∀ k < 8, (altC k).natAbs ≤ 4 := by decide

theorem natAbs_altS_le : ∀ k < 8, (altS k).natAbs ≤ 4 := by decide

/-- Equal chips leave the real part alone and opposite chips the imaginary part, so the two never add. -/
theorem natAbs_altBoc_le {ca cb : Int} {k : Nat} (ha : ca.natAbs = 1) (hb : cb.natAbs = 1) (hk : k < 8) :
    ((ca + cb) / 2 * altC k).natAbs + (-((ca - cb) / 2 * altS k)).natAbs ≤ 4 := by
  have hC := natAbs_altC_le k hk
  have hS := natAbs_altS_le k hk
  obtain rfl | rfl : ca = 1 ∨ ca = -1 := by omega
  all_goals obtain rfl | rfl : cb = 1 ∨ cb = -1 := by omega
  · simpa using hC
  · simpa using hS
  · simpa using hS
  · simpa using hC

theorem natAbs_replica_le (s : State) (c : ChanCfg) (p j : Nat) :
    (replica s c p j).1.natAbs + (replica s c p j).2.natAbs ≤ 4 := by
  by_cases h : c.subc = 5
  · obtain ⟨ca, cb, k, ha, hb, hk, hr⟩ := replica_altBoc (s := s) p j h
    rw [hr]
    exact natAbs_altBoc_le ha hb hk
  · obtain ⟨chip, sub, hchip, hsub, hr⟩ := replica_real (s := s) p j h
    rw [hr]
    simpa [Int.natAbs_mul] using Nat.mul_le_mul hchip hsub

/-- Settles O25: wipe-off and product are each a sum of two products, of factors within 15 and 10 and within 150 and 4. -/
theorem replicaBound : Obligations.ReplicaBound := by
  intro s c p j m xi xq hi hq r re im
  have hr : r.1.natAbs + r.2.natAbs ≤ 4 := natAbs_replica_le s c p j
  have hcarr := natAbs_cosOf_add_natAbs_sinOf_le m
  have hre : re.natAbs ≤ 150 := natAbs_mul_add_mul_le hi hq hcarr
  have him : im.natAbs ≤ 150 := natAbs_mul_sub_mul_le hq hi hcarr
  exact ⟨hr, hre, him, natAbs_mul_sub_mul_le hre him hr, natAbs_mul_add_mul_le hre him ((Nat.add_comm ..).trans_le hr)⟩

end Sys2Proof.Machine

end

section
/-!
PROOFS. The slots of the search engine: starts, aborts, the grid origin, blocks and the report doorbell (R181 to R194).
-/

namespace Sys2Proof.Machine

/-! ### START (R181, R184, R186) -/

section
variable {k : Nat} {s : State}

theorem seStart_busy (h : s.rd (SEk_STAT_STATE k) ≠ SE_IDLE) : seStart k s = s.wr (SEk_STAT_RESULT k) RES_BUSY := if_pos h

theorem seStart_noRoute (hidle : s.rd (SEk_STAT_STATE k) = SE_IDLE) (hroute : s.flag (BRT_SEk_EN k) = false) :
    seStart k s = s.wr (SEk_STAT_RESULT k) RES_NOROUTE :=
  (if_neg (not_not_intro hidle)).trans (if_pos (by simp [hroute]))

/-- The state `t` whose slot has taken the plan of the words `w` for a stream and its rate. -/
def planTaken (k : Nat) (w : List Nat) (n rate : Nat) (t : State) : State :=
  let blocks := ((planOf w).descs.map fun d => if d.kind = 0 then blocksOf (descCfg d) else []).flatten
  refreshUse (t.setSlot k { plan := some (planOf w), blocks := blocks, stream := n, rate := rate })

section
variable {r : List Nat × State} {n rate : Nat} (hidle : s.rd (SEk_STAT_STATE k) = SE_IDLE)
  (hroute : s.flag (BRT_SEk_EN k) = true) (hread : readPlan (s.rd (SEk_BASE_BASE k) * 64) s = r)
  (hn : s.rd (BRT_SEk_STREAM k) = n) (hrate : streamRate s n = rate)
include hidle hroute hread hn hrate

theorem seStart_badPlan {d : Nat} (hplan : planFault r.1 (planOf r.1) rate = some d) :
    seStart k s = (r.2.wr (SEk_STAT_BADDESC k) d).wr (SEk_STAT_RESULT k) RES_BADPLAN := by
  obtain ⟨w, t⟩ := r
  simp only [seStart, hread, hn, hrate, hplan]
  exact (if_neg (not_not_intro hidle)).trans (if_neg (by simp [hroute]))

variable (hplan : planFault r.1 (planOf r.1) rate = none)
include hplan

/-- A start whose plan meets the rules, by what its stream and its head are in. -/
theorem seStart_goodPlan : seStart k s =
    if streamReady r.2 n then seReady k (planTaken k r.1 n rate r.2)
    else if headHolds r.2 n then
      holdCmd (n / 4) { kind := 1, id := k } ((planTaken k r.1 n rate r.2).wr (SEk_STAT_STATE k) SE_HELD)
    else (refreshUse ((planTaken k r.1 n rate r.2).setSlot k {})).wr (SEk_STAT_RESULT k) RES_HNR := by
  obtain ⟨w, t⟩ := r
  simp only [seStart, hread, hn, hrate, hplan]
  exact (if_neg (not_not_intro hidle)).trans (if_neg (by simp [hroute]))

theorem seStart_ready (hready : streamReady r.2 n = true) : seStart k s = seReady k (planTaken k r.1 n rate r.2) := by
  rw [seStart_goodPlan hidle hroute hread hn hrate hplan, if_pos hready]

theorem seStart_held (hready : streamReady r.2 n = false) (hholds : headHolds r.2 n = true) : seStart k s =
    holdCmd (n / 4) { kind := 1, id := k } ((planTaken k r.1 n rate r.2).wr (SEk_STAT_STATE k) SE_HELD) := by
  rw [seStart_goodPlan hidle hroute hread hn hrate hplan, if_neg (by simp [hready]), if_pos hholds]

theorem seStart_headNotReady (hready : streamReady r.2 n = false) (hholds : headHolds r.2 n = false) : seStart k s =
    (refreshUse ((planTaken k r.1 n rate r.2).setSlot k {})).wr (SEk_STAT_RESULT k) RES_HNR := by
  rw [seStart_goodPlan hidle hroute hread hn hrate hplan, if_neg (by simp [hready]), if_neg (by simp [hholds])]

end

/-! ### The checks of a start whose stream is ready, on a slot with a plan (R186) -/

section
variable {p : Plan} (hplan : (s.slot k).plan = some p)
include hplan

theorem seReady_noBuffer (hfull : 65536 < p.n + otherN s k) : seReady k s = seDrop k RES_NOBUF s := by
  simp only [seReady, hplan]
  exact if_pos hfull

variable (hroom : p.n + otherN s k ≤ 65536)
include hroom

theorem seReady_past (hpast : p.startMode = 1 ∧ p.start * 2 ^ 48 < s.tb.now + 8 * s.rate) :
    seReady k s = seDrop k RES_PAST s := by
  simp only [seReady, hplan]
  exact (if_neg (Nat.not_lt.mpr hroom)).trans (if_pos hpast)

theorem seReady_waits (hahead : ¬(p.startMode = 1 ∧ p.start * 2 ^ 48 < s.tb.now + 8 * s.rate)) : seReady k s =
    let sl := s.slot k
    let s1 := s.setSlot k { sl with rate := streamRate s sl.stream, behind := itemsBehind s sl.stream }
    awaitStream sl.stream (((s1.wr (SEk_STAT_STATE k) SE_WAIT).wr (SEk_STAT_RESULT k) RES_OK).setReg (SEk_PROG k) 0) := by
  simp only [seReady, hplan]
  exact (if_neg (Nat.not_lt.mpr hroom)).trans (if_neg hahead)

end

/-! ### ABORT (R191) -/

theorem seAbort_idle (h : s.rd (SEk_STAT_STATE k) = SE_IDLE) : seAbort k s = s := if_pos h

theorem seAbort_busy (h : s.rd (SEk_STAT_STATE k) ≠ SE_IDLE) (hbusy : (s.slot k).busy.isSome = true) :
    seAbort k s = s.setSlot k { s.slot k with aborting := true } := (if_neg h).trans (if_pos hbusy)

/-- A plan without a block in the datapath ends at once. -/
theorem seAbort_stops (h : s.rd (SEk_STAT_STATE k) ≠ SE_IDLE) (hbusy : (s.slot k).busy = none) :
    seAbort k s = seStop k RES_ABORTED s := (if_neg h).trans (if_neg (by simp [hbusy]))

theorem seStop_unheld (h : s.rd (SEk_STAT_STATE k) ≠ SE_HELD) (result : Nat) : seStop k result s = seIdle k result s :=
  congrArg (seIdle k result) (if_neg h)

/-- A held plan is withdrawn from its head before it ends. -/
theorem seStop_held (h : s.rd (SEk_STAT_STATE k) = SE_HELD) (result : Nat) : seStop k result s =
    let n := (s.slot k).stream / 4
    let s1 := s.setHead n { s.head n with held := (s.head n).held.filter fun x => !(x.kind == 1 && x.id == k) }
    seIdle k result (s1.wr (FECn_STAT_HELD n) (s1.rd (FECn_STAT_HELD n) - 1)) :=
  congrArg (seIdle k result) (if_pos h)

/-! ### The grid origin (R187) -/

theorem seOrigin_noPlan (h : (s.slot k).plan = none) : seOrigin k s = s := by simp only [seOrigin, h]

theorem seOrigin_notWaiting (h : s.rd (SEk_STAT_STATE k) ≠ SE_WAIT) : seOrigin k s = s := by
  cases hplan : (s.slot k).plan with
  | none => exact seOrigin_noPlan hplan
  | some p =>
    simp only [seOrigin, hplan]
    exact if_pos h

/-- The frames of a waiting slot from its plan's start on: all of them, or those from the start instant. -/
def startFrames (p : Plan) (inbox : List TapFrame) : Option (List TapFrame) :=
  if p.startMode = 0 then (if inbox.isEmpty then none else some inbox) else fromInstant p.start inbox

section
variable {p : Plan} (hplan : (s.slot k).plan = some p) (hwait : s.rd (SEk_STAT_STATE k) = SE_WAIT)
include hplan hwait

theorem seOrigin_before (h : startFrames p (s.slot k).inbox = none) :
    seOrigin k s = s.setSlot k { s.slot k with inbox := [] } := by
  unfold startFrames at h
  simp only [seOrigin, hplan, h]
  exact if_neg (not_not_intro hwait)

theorem seOrigin_runs {fs : List TapFrame} (h : startFrames p (s.slot k).inbox = some fs) : seOrigin k s =
    (({ s with se := { s.se with dirty := true } } : State).setSlot k
      (fs.foldl (seIngest p) { s.slot k with inbox := [] })).wr (SEk_STAT_STATE k) SE_RUN := by
  unfold startFrames at h
  simp only [seOrigin, hplan, h]
  exact if_neg (not_not_intro hwait)

end

/-! ### Blocks (R188 to R190, R192) -/

theorem seBlock_notTaken
    (h : sePaused s = true ∨ seTurn s k = false ∨ (s.slot k).plan = none ∨ seQualifies s k = none) : seBlock k s = s := by
  unfold seBlock
  split_ifs with hwaits
  · rfl
  · rcases h with h | h | h | h
    · simp [h] at hwaits
    · simp [h] at hwaits
    · simp only [h]
    · simp only [h]
      cases (s.slot k).plan <;> rfl

theorem seBlock_taken {p : Plan} {q : Nat} (hplan : (s.slot k).plan = some p) (hq : seQualifies s k = some q)
    (hrun : sePaused s = false) (hturn : seTurn s k = true) : seBlock k s =
      let sl := s.slot k
      let s1 := ((s.countSat (SEk_PROG_NSKIP k) (q - sl.nextBlock)).wr (SEk_PROG_BLOCK k) q).setSlot k
        { sl with busy := some q, nextBlock := q + 1, block := blockSamples p sl q, left := transforms p * transformCycles p }
      { s1 with se := { s1.se with last := k } } := by
  simp only [seBlock, hplan, hq]
  exact if_neg (by simp [hrun, hturn])

/-- What the transforms of block `q` accumulate: whether a write got an error response, the saturated bins, the state. -/
def blockPowers (k : Nat) (p : Plan) (q : Nat) (s : State) : Bool × List (Nat × Nat) × State :=
  accBlock (s.rd (SEk_PROG_NSUM k) == 0) s.freeCount p (s.slot k) q { s with freeCount := s.freeCount + 1 }

/-- The state whose slot has summed block `q`. -/
def blockSummed (k : Nat) (p : Plan) (q : Nat) (s : State) : State :=
  seSum k q (blockPowers k p q s).2.1 (blockPowers k p q s).2.2

section
variable {p : Plan} {q : Nat} (hplan : (s.slot k).plan = some p) (hbusy : (s.slot k).busy = some q)
include hplan hbusy

/-- The end of a block: an error response ends the plan, and so does the last of its blocks. -/
theorem seBlockComplete_block : seBlockComplete k s =
    if (blockPowers k p q s).1 then seIdle k RES_FWERR (blockPowers k p q s).2.2
    else if (blockSummed k p q s).rd (SEk_PROG_NSUM k) = p.nnc then seEndWith k RES_OK false (blockSummed k p q s)
    else blockSummed k p q s := by
  simp only [seBlockComplete, hplan, hbusy]
  rfl

theorem seBlockComplete_refused (herr : (blockPowers k p q s).1 = true) :
    seBlockComplete k s = seIdle k RES_FWERR (blockPowers k p q s).2.2 := by
  rw [seBlockComplete_block hplan hbusy, if_pos herr]

variable (herr : (blockPowers k p q s).1 = false)
include herr

theorem seBlockComplete_last (hlast : (blockSummed k p q s).rd (SEk_PROG_NSUM k) = p.nnc) :
    seBlockComplete k s = seEndWith k RES_OK false (blockSummed k p q s) := by
  rw [seBlockComplete_block hplan hbusy, if_neg (by simp [herr]), if_pos hlast]

theorem seBlockComplete_more (hmore : (blockSummed k p q s).rd (SEk_PROG_NSUM k) ≠ p.nnc) :
    seBlockComplete k s = blockSummed k p q s := by
  rw [seBlockComplete_block hplan hbusy, if_neg (by simp [herr]), if_neg hmore]

end

theorem seSum_plan {p : Plan} (hplan : (s.slot k).plan = some p) (q : Nat) (sats : List (Nat × Nat)) : seSum k q sats s =
    let sl := s.slot k
    let first := s.rd (SEk_PROG_NSUM k) == 0
    let zs := sl.block.foldl (fun a x => a + x.zs) 0
    let tref := match sl.block with | x :: _ => x.time / (2 ^ p.dsel * sampleRate sl.rate) | [] => 0
    (s.setSlot k { sl with
      busy := none, block := [], left := 0,
      marks := sl.marks ||| sl.block.foldl (fun a x => a ||| x.marks) 0 ||| (if 0 < zs then 1 else 0),
      muted := sl.muted + zs, sats := sl.sats ++ sats, tref := if first then tref else sl.tref,
      refBlock := if first then q else sl.refBlock }).count (SEk_PROG_NSUM k) := by
  simp only [seSum, hplan]
  cases (s.slot k).block <;> rfl

/-! ### The report doorbell (R194) -/

theorem rptWaited_iff (t : Nat) : rptWaited s t = true ↔
    0 < rptLevel s ∧ s.rd SE_RPTDB_TO ≠ 0 ∧ s.se.rpAt + s.rd SE_RPTDB_TO * usTicks ≤ t := by
  simp [rptWaited, and_assoc]

end

/-! ### The commands -/

section
variable (k : Fin 4) (s : State)

theorem exec_seStart : exec (.seStart k) s = .next (whenOn (SEk_CMD k) (fun _ => seStart k s) s) :=
  congrArg Host.Outcome.next (whenOn_const s _ (seStart k))
theorem exec_seAbort : exec (.seAbort k) s = .next (whenOn (SEk_CMD k) (fun _ => seAbort k s) s) :=
  congrArg Host.Outcome.next (whenOn_const s _ (seAbort k))
theorem exec_seGridOrigin : exec (.seGridOrigin k) s = .next (seOrigin k s) := rfl
theorem exec_seBlock : exec (.seBlock k) s = .next (seBlock k s) := rfl
theorem exec_seBlockComplete : exec (.seBlockComplete k) s = .next (tickAt (fun s _ => seBlockDue s k) s) := rfl
theorem exec_seRptDbTimeout :
    exec .seRptDbTimeout s = .next (tickAt (fun s t => !rptWaited s s.ticks && rptWaited s t) s) := rfl

end

/-- Settles O37: each command is its operation on the slot or the tick of its event, and the operations' cases are the clauses. -/
theorem searchCommands : Obligations.SearchCommands := by
  intro k s sl st cmd
  refine ⟨fun h => ?_, fun hidle hroute => ?_, fun hidle hroute => ?_,
    fun p hplan => ⟨seReady_noBuffer hplan, seReady_past hplan, seReady_waits hplan⟩,
    fun hidle => ?_, fun hst hbusy => ?_, fun hst hheld hbusy => ?_, fun hheld hbusy => ?_, fun h => ?_, fun p hplan hwait => ?_,
    fun h => ?_, fun p q hplan hq hrun hturn => ?_, exec_seBlockComplete k s,
    fun p q hplan hbusy => ⟨seBlockComplete_refused hplan hbusy, seBlockComplete_last hplan hbusy, seBlockComplete_more hplan hbusy⟩,
    fun p q sats hplan => seSum_plan hplan q sats, exec_seRptDbTimeout s, rptWaited_iff⟩
  · rw [exec_seStart, seStart_busy h]
  · rw [exec_seStart, seStart_noRoute hidle hroute]
  · rw [exec_seStart]
    refine ⟨fun d hbad => ?_, fun hgood => ⟨fun hready => ?_, fun hready hholds => ?_, fun hready hholds => ?_⟩⟩
    · rw [seStart_badPlan hidle hroute rfl rfl rfl hbad]
    · rw [seStart_ready hidle hroute rfl rfl rfl hgood hready]; rfl
    · rw [seStart_held hidle hroute rfl rfl rfl hgood hready hholds]; rfl
    · rw [seStart_headNotReady hidle hroute rfl rfl rfl hgood hready hholds]; rfl
  · rw [exec_seAbort, seAbort_idle hidle]
  · rw [exec_seAbort, seAbort_busy hst hbusy]
  · rw [exec_seAbort, seAbort_stops hst hbusy, seStop_unheld hheld]
  · have hst : s.rd (SEk_STAT_STATE k) ≠ SE_IDLE := ne_of_eq_of_ne hheld (by decide)
    rw [exec_seAbort, seAbort_stops hst hbusy, seStop_held hheld]
  · rw [exec_seGridOrigin]
    exact congrArg done (h.elim seOrigin_noPlan seOrigin_notWaiting)
  · rw [exec_seGridOrigin]
    exact ⟨fun h => congrArg done (seOrigin_before hplan hwait h), fun fs h => congrArg done (seOrigin_runs hplan hwait h)⟩
  · rw [exec_seBlock, seBlock_notTaken h]
  · rw [exec_seBlock, seBlock_taken hplan hq hrun hturn]

end Sys2Proof.Machine

end

section
/-!
PROOFS. The inputs of Reel: arming, stopping, the trigger and the latched time stamps (R203 to R206, R311).
-/

namespace Sys2Proof.Machine

section
variable {k : Nat} {s : State}

/-! ### ARM (R203, R204) -/

theorem reelArm_busy (hidle : s.rd (REELk_STAT_STATE k) ≠ REEL_IDLE) (hdone : s.rd (REELk_STAT_STATE k) ≠ REEL_DONE) :
    reelArm k s = s.wr (REELk_STAT_RESULT k) RES_BUSY := if_pos ⟨hidle, hdone⟩

/-- The configuration of an input asks for no sample, or for one past the end of shared memory. -/
def badReelCfg (k : Nat) (s : State) : Prop :=
  s.rd (REELk_LEN_LEN k) = 0 ∨ 0x01800000 < s.rd (REELk_BASE_BASE k) * 64 + (3 + s.rd (REELk_CTRL_PACK k)) * s.rd (REELk_LEN_LEN k)

section
variable (hst : s.rd (REELk_STAT_STATE k) = REEL_IDLE ∨ s.rd (REELk_STAT_STATE k) = REEL_DONE)
include hst

theorem reelArm_noRoute (hroute : s.flag (BRT_REELk_EN k) = false) : reelArm k s = s.wr (REELk_STAT_RESULT k) RES_NOROUTE :=
  (if_neg (by tauto)).trans (if_pos (by simp [hroute]))

variable (hroute : s.flag (BRT_REELk_EN k) = true)
include hroute

theorem reelArm_badCfg (hcfg : badReelCfg k s) : reelArm k s = s.wr (REELk_STAT_RESULT k) RES_BADCFG :=
  (if_neg (by tauto)).trans ((if_neg (by simp [hroute])).trans (if_pos hcfg))

variable (hcfg : ¬badReelCfg k s)
include hcfg

/-- An arming with a good configuration, by what its stream and its head are in. -/
theorem reelArm_goodCfg : reelArm k s =
    let n := s.rd (BRT_REELk_STREAM k)
    let s1 := s.setReel k { stream := n }
    if streamReady s n then if reelPast s k then s.wr (REELk_STAT_RESULT k) RES_PAST else reelReady k s1
    else if headHolds s n then holdCmd (n / 4) { kind := 2, id := k } (s1.wr (REELk_STAT_STATE k) REEL_HELD)
    else s.wr (REELk_STAT_RESULT k) RES_HNR :=
  (if_neg (by tauto)).trans ((if_neg (by simp [hroute])).trans (if_neg hcfg))

variable {n : Nat} (hn : s.rd (BRT_REELk_STREAM k) = n)
include hn

theorem reelArm_headNotReady (hready : streamReady s n = false) (hholds : headHolds s n = false) :
    reelArm k s = s.wr (REELk_STAT_RESULT k) RES_HNR := by
  simp [reelArm_goodCfg hst hroute hcfg, hn, hready, hholds]

theorem reelArm_held (hready : streamReady s n = false) (hholds : headHolds s n = true) : reelArm k s =
    holdCmd (n / 4) { kind := 2, id := k } ((s.setReel k { stream := n }).wr (REELk_STAT_STATE k) REEL_HELD) := by
  simp [reelArm_goodCfg hst hroute hcfg, hn, hready, hholds]

theorem reelArm_past (hready : streamReady s n = true) (hpast : reelPast s k = true) :
    reelArm k s = s.wr (REELk_STAT_RESULT k) RES_PAST := by
  simp [reelArm_goodCfg hst hroute hcfg, hn, hready, hpast]

theorem reelArm_ready (hready : streamReady s n = true) (hpast : reelPast s k = false) :
    reelArm k s = reelReady k (s.setReel k { stream := n }) := by
  simp [reelArm_goodCfg hst hroute hcfg, hn, hready, hpast]

end

theorem reelPast_setReel (j : Nat) (x : ReelIn) : reelPast (s.setReel j x) k = reelPast s k := rfl

/-- An input that names its stream and meets the last check waits for its trigger. -/
theorem reelReady_armed (hk : k < 8) (n : Nat) (hpast : reelPast s k = false) :
    reelReady k (s.setReel k { stream := n }) =
      let t := (((s.setReel k { stream := n }).wr (REELk_STAT_STATE k) REEL_ARMED).wr (REELk_STAT_RESULT k) RES_OK).setReg
        (REELk_COUNT k) 0
      t.setReel k { stream := n, behind := itemsBehind t n, trigAt := if reelTrig t k = 1 then some (reelTrigAt t k) else none } := by
  simp only [reelReady, reelPast_setReel, hpast, Bool.false_eq_true, if_false, setReg_reel, wr_reel, setReel_reel_eq s k _ hk]

/-! ### STOP (R205) -/

theorem reelStop_idle (h : s.rd (REELk_STAT_STATE k) = REEL_IDLE ∨ s.rd (REELk_STAT_STATE k) = REEL_DONE) : reelStop k s = s := by
  rcases h with h | h <;> simp [reelStop, h, REEL_IDLE, REEL_HELD, REEL_ARMED, REEL_RUN, REEL_DONE]

theorem reelStop_running (h : s.rd (REELk_STAT_STATE k) = REEL_RUN) :
    reelStop k s = s.setReel k { s.reel k with stopping := true } := if_pos h

theorem reelStop_armed (h : s.rd (REELk_STAT_STATE k) = REEL_ARMED) : reelStop k s = reelDone k RES_ABORTED s := by
  simp [reelStop, h, REEL_ARMED, REEL_RUN]

theorem reelStop_held (h : s.rd (REELk_STAT_STATE k) = REEL_HELD) : reelStop k s =
    let m := (s.reel k).stream / 4
    let s2 := s.setHead m { s.head m with held := (s.head m).held.filter fun x => !(x.kind == 2 && x.id == k) }
    reelDone k RES_ABORTED (s2.wr (FECn_STAT_HELD m) (s2.rd (FECn_STAT_HELD m) - 1)) := by
  simp [reelStop, h, REEL_HELD, REEL_ARMED, REEL_RUN]

/-! ### The trigger (R204) -/

theorem reelTrigger_notArmed (h : s.rd (REELk_STAT_STATE k) ≠ REEL_ARMED) : reelTrigger k s = s := if_pos h

/-- The delivered frames of an input from its trigger on: all of them under SOFTWARE, else those from the trigger instant. -/
def triggerFrames (k : Nat) (s : State) : Option (List TapFrame) :=
  let x := s.reel k
  if reelTrig s k = 0 then (if x.inbox.isEmpty then none else some x.inbox)
  else match x.trigAt with | none => none | some w => fromInstant w x.inbox

/-- The input enters RUN at the first of the frames, which is whole where it is delivered whole. -/
def captureFrom (k : Nat) (f : TapFrame) (rest : List TapFrame) (s : State) : State :=
  let x := s.reel k
  let own := fun (g : TapFrame) => g.samples.find? (ownSample g.tag)
  rest.foldl (fun s g => reelFrame k true g s) (reelFrame k (x.inbox.any fun g => g.tag == f.tag && own g == own f) f
    ((s.setReel k { x with inbox := [] }).wr (REELk_STAT_STATE k) REEL_RUN))

section
variable (h : s.rd (REELk_STAT_STATE k) = REEL_ARMED)
include h

/-- An armed input by its frames from the trigger on. -/
theorem reelTrigger_armed : reelTrigger k s =
    match triggerFrames k s with
    | none => s.setReel k { s.reel k with inbox := [] }
    | some [] => s
    | some (f :: rest) => captureFrom k f rest s := by
  simp only [reelTrigger, beq_iff_eq]
  exact if_neg (not_not_intro h)

theorem reelTrigger_before (hframes : triggerFrames k s = none) :
    reelTrigger k s = s.setReel k { s.reel k with inbox := [] } := by
  rw [reelTrigger_armed h, hframes]

theorem reelTrigger_noFrame (hframes : triggerFrames k s = some []) : reelTrigger k s = s := by
  rw [reelTrigger_armed h, hframes]

theorem reelTrigger_captures {f : TapFrame} {rest : List TapFrame} (hframes : triggerFrames k s = some (f :: rest)) :
    reelTrigger k s = captureFrom k f rest s := by
  rw [reelTrigger_armed h, hframes]

end

end

/-! ### The commands -/

section
variable (k : Fin 8) (s : State)

theorem exec_reelArm : exec (.reelArm k) s = .next (whenOn (REELk_CMD k) (fun _ => reelArm k s) s) :=
  congrArg Host.Outcome.next (whenOn_const s _ (reelArm k))
theorem exec_reelStop : exec (.reelStop k) s = .next (whenOn (REELk_CMD k) (fun _ => reelStop k s) s) :=
  congrArg Host.Outcome.next (whenOn_const s _ (reelStop k))
theorem exec_reelTrigger : exec (.reelTrigger k) s = .next (reelTrigger k s) := rfl
theorem exec_reelFracRead (init : Init) (last : Bool) : exec (.reelFracRead init k last) s =
    let sec := if last then REELk_TLASTSEC k else REELk_TFIRSTSEC k
    .next (asAccess init (sec + 8) false (fun s => latchSec init sec (s.reg sec).toNat s) s) := rfl

end

/-- Settles O38: each command is its operation on the input, or the latch of its access, and the operations' cases are the clauses. -/
theorem reelCommands : Obligations.ReelCommands := by
  intro k s st n badCfg cmd result s1
  refine ⟨fun hidle hdone => ?_, fun hst hroute => ?_, fun hst hroute => ?_, fun h => ?_, fun h => ?_, fun h => ?_, fun h => ?_,
    fun h => ?_, fun h => ?_, exec_reelFracRead k s⟩
  · rw [exec_reelArm, reelArm_busy hidle hdone]
  · rw [exec_reelArm, reelArm_noRoute hst hroute]
  · rw [exec_reelArm]
    refine ⟨fun hbad => ?_, fun hgood hready hholds => ?_, fun hgood hready hholds => ?_, fun hgood hready hpast => ?_,
      fun hgood hready hpast => ?_⟩
    · rw [reelArm_badCfg hst hroute hbad]
    · rw [reelArm_headNotReady hst hroute hgood rfl hready hholds]
    · rw [reelArm_held hst hroute hgood rfl hready hholds]
    · rw [reelArm_past hst hroute hgood rfl hready hpast]
    · rw [reelArm_ready hst hroute hgood rfl hready hpast, reelReady_armed k.isLt _ hpast]
  · rw [exec_reelStop, reelStop_idle h]
  · rw [exec_reelStop, reelStop_running h]
  · rw [exec_reelStop, reelStop_armed h]
  · rw [exec_reelStop, reelStop_held h]
  · rw [exec_reelTrigger, reelTrigger_notArmed h]
  · rw [exec_reelTrigger]
    exact ⟨fun hf => congrArg done (reelTrigger_before h hf), fun hf => congrArg done (reelTrigger_noFrame h hf),
      fun f rest hf => congrArg done (reelTrigger_captures h hf)⟩

end Sys2Proof.Machine

end

section
/-!
PROOFS. The work of the loop cores: batches and kicks (R272, R273), handovers (R278), migration and adoption (R302, R303, R305), and the
failure of a solution core (R307).
-/

namespace Sys2Proof.Machine

section
variable {k : Nat} {s : State}

/-! ### Batches and kicks (R272, R273) -/

theorem lcBatch_idle (h : coreRuns s k = false) (outs : List LoopOut) : lcBatch k outs s = s := if_pos (by simp [h])

theorem lcBatch_runs (h : coreRuns s k = true) (outs : List LoopOut) : lcBatch k outs s =
    let rp := s.rd (CA_RINGk_RP_RP k)
    let wp := s.rd (CA_RINGk_WP_WP k)
    let d := (drainRing k k false ((wp + 65536 - rp) % 65536) rp (releaseRecords k (outs, s))).2
    kickSelf k (signalCore k 5 (signalCore k 4 (coreWrite k (CA_RINGk_RP k) wp d))) := if_neg (by simp [h])

/-- The kick timer does nothing on a core that does not run, and before 50 µs have passed. -/
theorem execKickTimer_early {k : Fin 4} (h : coreRuns s k = false ∨ s.ticks < s.nav.kicked.getD k 0 + 30000) :
    execLcWatchdogKickTimer k s = .next s := by
  have hdue : (coreRuns s k && kickDue s k) = false := by
    rcases h with hruns | hticks
    · rw [hruns, Bool.false_and]
    · rw [Bool.and_eq_false_iff]
      exact .inr (decide_eq_false (Nat.not_le.mpr hticks))
  rw [execLcWatchdogKickTimer, hdue]
  rfl

theorem execKickTimer_due {k : Fin 4} (h : coreRuns s k = true) (hdue : s.nav.kicked.getD k 0 + 30000 ≤ s.ticks) :
    execLcWatchdogKickTimer k s = .next (kickSelf k s) := by
  have hkick : kickDue s k = true := decide_eq_true hdue
  rw [execLcWatchdogKickTimer, h, hkick]
  rfl

/-! ### Handovers (R278) -/

variable {c q tag : Nat}

/-- An order reads what waits at the port, writes the command, and looks at the last response that it reads then. -/
theorem cshOrder_eq (a : Nat) (w : Word) (s : State) : cshOrder a w s =
    let r := readRsps a 33 0 (cshWrite a a w (readRsps a 33 0 s).2)
    (r.1 == rspWord w.toNat R_OK, r.2) := by
  rw [cshOrder]

theorem plannedHandover_idle (h : activeRuns s = false) : plannedHandover c q tag s = s := by
  rw [plannedHandover]
  exact if_pos (by simp [h])

/-- The active solution core runs: what a handover does follows from the entry of the channel. -/
theorem plannedHandover_active (h : activeRuns s = true) : plannedHandover c q tag s =
    let a := activeCore s
    let p := mapByte s c 2
    if mapByte s c 3 = M_OWNED ∧ p < 4 ∧ p ≠ q then
      let r := cshOrder a (cshWord 3 tag c q 0) (mapSet a c [(3, M_HANDOVER), (9, q)] s)
      if r.1 then signalCore a q (signalCore a p r.2) else mapSet a c [(3, M_OWNED)] r.2
    else if mapByte s c 3 = M_RELEASED then mapSet a c [(2, mapByte s c 9), (3, M_OWNED)] s
    else s := by
  simp only [plannedHandover, h, Bool.not_true, Bool.false_eq_true, if_false]

/-- A handover of an owned channel begins with its REMAP, and is taken back where that is refused. -/
theorem plannedHandover_owned (h : activeRuns s = true) (howned : mapByte s c 3 = M_OWNED) (hp : mapByte s c 2 < 4)
    (hq : mapByte s c 2 ≠ q) : plannedHandover c q tag s =
      let a := activeCore s
      let r := cshOrder a (cshWord 3 tag c q 0) (mapSet a c [(3, M_HANDOVER), (9, q)] s)
      if r.1 then signalCore a q (signalCore a (mapByte s c 2) r.2) else mapSet a c [(3, M_OWNED)] r.2 :=
  (plannedHandover_active h).trans (if_pos ⟨howned, hp, hq⟩)

theorem plannedHandover_released (h : activeRuns s = true) (hreleased : mapByte s c 3 = M_RELEASED) :
    plannedHandover c q tag s = mapSet (activeCore s) c [(2, mapByte s c 9), (3, M_OWNED)] s := by
  have hnot : mapByte s c 3 ≠ M_OWNED := by rw [hreleased]; decide
  exact (plannedHandover_active h).trans ((if_neg fun hc => hnot hc.1).trans (if_pos hreleased))

/-- An entry that is neither ready to leave its core nor released stays as it is. -/
theorem plannedHandover_stays (h : activeRuns s = true) (hbegin : mapByte s c 3 ≠ M_OWNED ∨ 4 ≤ mapByte s c 2 ∨ mapByte s c 2 = q)
    (hreleased : mapByte s c 3 ≠ M_RELEASED) : plannedHandover c q tag s = s := by
  have hnot : ¬(mapByte s c 3 = M_OWNED ∧ mapByte s c 2 < 4 ∧ mapByte s c 2 ≠ q) := by omega
  exact (plannedHandover_active h).trans ((if_neg hnot).trans (if_neg hreleased))

/-! ### Migration and adoption (R302, R303, R305) -/

theorem lcMigration_stays (h : activeRuns s = false ∨ s.coreState k ≠ K_FAULT) : lcMigration k tag s = s := by
  rw [lcMigration]
  exact if_pos (by simpa using h)

theorem lcMigration_alone (h : activeRuns s = true) (hfault : s.coreState k = K_FAULT)
    (halone : adopter (clearAlive (activeCore s) k s) k = none) :
    lcMigration k tag s = clearAlive (activeCore s) k s := by
  simp only [lcMigration, h, hfault, halone, Bool.not_true, Bool.false_eq_true, ne_eq, not_true_eq_false, or_self, if_false]

theorem lcMigration_moves (h : activeRuns s = true) (hfault : s.coreState k = K_FAULT) {j : Nat}
    (hj : adopter (clearAlive (activeCore s) k s) k = some j) : lcMigration k tag s =
      let a := activeCore s
      let r := cshOrder a (cshWord 4 tag 0 j k) (clearAlive a k s)
      if r.1 = false then r.2
      else signalCore a j (coreWrite a 0x178
        (k + j * 2 ^ 8 + r.2.rd (CA_RINGk_RP_RP k) * 2 ^ 16 + r.2.rd (CA_RINGk_WP_WP k) * 2 ^ 32) r.2) := by
  simp only [lcMigration, h, hfault, hj, Bool.not_true, Bool.false_eq_true, ne_eq, not_true_eq_false, or_self, if_false,
    Bool.not_eq_true']

/-- The adopter consumes what the failed core's ring holds. -/
def drainFailed (x : Handover) (outs : List LoopOut) (s : State) : List LoopOut × State :=
  drainRing x.adopter x.failed true ((x.wp + 65536 - x.rp) % 65536) x.rp (outs, s)

/-- The adopter ends an adoption once the ring is drained: RP stands at WP, HANDOVER is cleared, and what the adopter held is processed. -/
def endDrain (x : Handover) (d : List LoopOut × State) : State :=
  (releaseRecords x.adopter (d.1, coreWrite x.adopter 0x178 0 (coreWrite x.adopter (CA_RINGk_RP x.failed) x.wp d.2))).2

/-- The active solution core hands the entries over and plans the handovers that spread the channels. -/
def passEntries (x : Handover) (t : State) : State :=
  let mine := (List.range 4096).filter fun c => mapByte t c 2 == x.failed && mapByte t c 3 == M_OWNED
  let u := (List.range 4096).foldl (adoptEntry (activeCore t) x.failed x.adopter 0) t
  { u with nav := { u.nav with migrated := some u.ticks, moves := u.nav.moves ++ spread u x.adopter mine } }

variable (outs : List LoopOut)

theorem ringAdoption_none (h : handover s = none) : ringAdoption outs s = s := by
  rw [ringAdoption, h]

variable {x : Handover} (h : handover s = some x)
include h

theorem ringAdoption_idle (hruns : coreRuns s x.adopter = false) : ringAdoption outs s = s := by
  simp only [ringAdoption, h, hruns, Bool.not_false, if_true]

/-- The adopter runs: it drains the ring, and a solution core that runs then hands the entries over. -/
theorem ringAdoption_runs (hruns : coreRuns s x.adopter = true) : ringAdoption outs s =
    let t := endDrain x (drainFailed x outs s)
    if !activeRuns t then t else passEntries x t := by
  rw [ringAdoption, h]
  refine (if_neg (by simp [hruns])).trans ?_
  unfold drainFailed
  generalize drainRing x.adopter x.failed true ((x.wp + 65536 - x.rp) % 65536) x.rp (outs, s) = d
  obtain ⟨outs', s'⟩ := d
  unfold endDrain
  dsimp only
  generalize releaseRecords _ _ = r
  obtain ⟨outs'', t⟩ := r
  rfl

theorem ringAdoption_drains (hruns : coreRuns s x.adopter = true) (hidle : activeRuns (endDrain x (drainFailed x outs s)) = false) :
    ringAdoption outs s = endDrain x (drainFailed x outs s) :=
  (ringAdoption_runs outs h hruns).trans (if_pos (by simp [hidle]))

theorem ringAdoption_passes (hruns : coreRuns s x.adopter = true) (hactive : activeRuns (endDrain x (drainFailed x outs s)) = true) :
    ringAdoption outs s = passEntries x (endDrain x (drainFailed x outs s)) :=
  (ringAdoption_runs outs h hruns).trans (if_neg (by simp [hactive]))

end

/-! ### The failure of a solution core (R307) -/

section
variable {failed : Nat} {s : State}

theorem scFailover_stays (h : s.coreState failed ≠ K_FAULT ∨ coreRuns s (9 - failed) = false) : scFailover failed s = s :=
  if_pos (by simpa using h)

/-- The survivor becomes active where the failed core was, and clears it from ALIVE. -/
theorem scFailover_survives (h : s.coreState failed = K_FAULT) (hruns : coreRuns s (9 - failed) = true) : scFailover failed s =
    clearAlive (9 - failed) failed (if activeCore s = failed then
        let t := coreWrite (9 - failed) 0x168 (9 - failed) s
        { t with nav := { t.nav with
            filter := t.nav.filter.setIfInBounds 0 (t.nav.filter.getD 1 0), epoch := #v[t.nav.epoch.getD 1 0, t.nav.epoch.getD 0 0] } }
      else s) := if_neg (by simp [h, hruns])

end

/-! ### The commands -/

section
variable (k q : Fin 4) (c : Chan) (tag : Byte) (outs : List LoopOut) (second : Bool) (s : State)

theorem exec_lcBatch : exec (.lcBatch k outs) s = .next (lcBatch k outs s) := rfl
theorem exec_lcWatchdogKickTimer : exec (.lcWatchdogKickTimer k) s = execLcWatchdogKickTimer k s := rfl
theorem exec_plannedHandover : exec (.plannedHandover c q tag) s = .next (plannedHandover c q tag.toNat s) := rfl
theorem exec_lcMigration : exec (.lcMigration k tag) s = .next (lcMigration k tag.toNat s) := rfl
theorem exec_ringAdoption : exec (.ringAdoption outs) s = .next (ringAdoption outs s) := rfl
theorem exec_scFailover : exec (.scFailover second) s = .next (scFailover (if second then 5 else 4) s) := rfl

end

/-- Settles O55: each command is its operation, and each clause is the branch of the operation that its hypotheses choose. -/
theorem loopCoreFirmware : Obligations.LoopCoreFirmware := by
  intro k q c tag outs second s a p kicked
  refine ⟨fun hidle => ⟨?_, execKickTimer_early (.inl hidle)⟩,
    fun hruns => ⟨?_, execKickTimer_due hruns, fun hearly => execKickTimer_early (.inr hearly)⟩,
    fun hidle => ⟨?_, ?_⟩, cshOrder_eq a, fun hactive howned hp hq => ?_, fun hactive hreleased => ?_,
    fun hactive hbegin hreleased => ?_, fun hstate => ?_, fun hactive hfault => ⟨fun halone => ?_, fun j hj => ?_⟩,
    fun hnone => ?_, fun x hx => ⟨fun hidle => ?_, fun hruns => ?_⟩,
    fun hstays => ?_, fun hfault hruns hother => ?_, fun hfault hruns hfailed => ?_⟩
  · rw [exec_lcBatch, lcBatch_idle hidle]
  · rw [exec_lcBatch, lcBatch_runs hruns]
    rfl
  · rw [exec_plannedHandover, plannedHandover_idle hidle]
  · rw [exec_lcMigration, lcMigration_stays (.inl hidle)]
  · rw [exec_plannedHandover, plannedHandover_owned hactive howned hp hq]
    exact ⟨fun hok => congrArg done (if_pos hok), fun hrefused => congrArg done (if_neg (ne_true_of_eq_false hrefused))⟩
  · rw [exec_plannedHandover, plannedHandover_released hactive hreleased]
    rfl
  · rw [exec_plannedHandover, plannedHandover_stays hactive hbegin hreleased]
  · rw [exec_lcMigration, lcMigration_stays (.inr hstate)]
  · rw [exec_lcMigration, lcMigration_alone hactive hfault halone]
  · rw [exec_lcMigration, lcMigration_moves hactive hfault hj]
  · rw [exec_ringAdoption, ringAdoption_none outs hnone]
  · rw [exec_ringAdoption, ringAdoption_idle outs hx hidle]
  · intro d t
    have ht : endDrain x (drainFailed x outs s) = t := rfl
    clear_value t
    subst ht
    rw [exec_ringAdoption]
    exact ⟨fun hidle => congrArg done (ringAdoption_drains outs hx hruns hidle),
      fun hactive => congrArg done (ringAdoption_passes outs hx hruns hactive)⟩
  · rw [exec_scFailover, scFailover_stays hstays]
  · rw [exec_scFailover, scFailover_survives hfault hruns, if_neg hother]
  · rw [exec_scFailover, scFailover_survives hfault hruns, if_pos hfailed]

end Sys2Proof.Machine

end

section
/-!
PROOFS. The work of the solution cores: the epochs of the active one and of the standby (R285, R287, R289, R299, R307), the frequency in
holdover (R336), and the offsets of external pulses (R357).
-/

namespace Sys2Proof.Machine

section
variable {s : State}

/-! ### The epoch of the active solution core (R285, R299, R331 to R334) -/

/-- What the steering does, by the source that is selected: with none nothing is decided, and the model of the reference is read. -/
theorem steerEpoch_eq (a : Nat) (s : State) : steerEpoch a s =
    let src := selectSource s
    let r := if src = 0 then holdRecord a s else (none, s)
    let t := noteSigma src r.1 (holdSet a src r.1 r.2)
    let d := if src = 0 then (Steer.continue, 0) else decision t src
    let u := if src = 0 then timestatWrite a src (validReq t src r.1 0) t
      else timestatWrite a src (validReq t src r.1 (remAfter t d)) (steer a d t)
    (src, d.1, if d.1 = .continue then 0 else d.2, if src = 0 then u else steerFreq a u) := by
  by_cases h : selectSource s = 0
  · simp only [steerEpoch, h, if_true]
  · simp only [steerEpoch, h, if_false]

/-- The work of an epoch after the steering: the record, the model, the loads, the handovers and the requests. -/
def endEpoch (a te : Nat) (o : SolOut) (f : Fix) (e : Nat × Steer × Int × State) : State :=
  let t := writeSolution a te e.1 f e.2.2.1 (e.2.1 == .step) (trustReq a f e.2.2.2)
  let u := learn a e.1 (shed a o.tag.toNat (f.used.map (·.sat)) (measureLoads t))
  serveRequests a o.tag.toNat o.grants (runMoves o.tag.toNat u)

theorem solutionEpoch_stays {o : SolOut} (h : activeRuns s = false ∨ epochDue s (activeCore s) = false) : solutionEpoch o s = s := by
  rw [solutionEpoch]
  exact if_pos (by simpa using h)

/-- An epoch that is due: the rings are taken in `t`, `f` are the estimates, the sources are counted in `u`; the steering and what
follows from it come then. -/
theorem solutionEpoch_due (o : SolOut) (h : activeRuns s = true) (hdue : epochDue s (activeCore s) = true) {t u : State} {f : Fix}
    (ht : t = takeRings (activeCore s) (epochInstant s) (takeConfig s))
    (hf : f = fuse t (t.nav.filter.getD 0 0) (epochInstant s) (epochRecs t (activeCore s)))
    (hu : u = takeUtc (activeCore s) o.utc
      ((List.range 4).foldl ptpSource (gnssSource f (setTracking (activeCore s) (epochInstant s) (takeFix f t))))) :
    solutionEpoch o s = endEpoch (activeCore s) (epochInstant s) o f (steerEpoch (activeCore s) u) := by
  simp only [solutionEpoch, h, hdue, Bool.not_true, Bool.or_self, Bool.false_eq_true, if_false, ← ht, ← hf, ← hu, endEpoch]

/-! ### The epoch of the standby, or of the survivor in its place (R287, R289, R307) -/

variable {blocks : List OsnmaBlock} {reqs : List ChanPost}

theorem standbyEpoch_stays (h : (activeCore s ≠ 4 ∧ activeCore s ≠ 5) ∨ coreRuns s (standbyCore s) = false) :
    standbyEpoch blocks reqs s = s := by
  rw [standbyEpoch]
  exact if_pos (by simpa using h)

/-- The active core is a solution core, and the core that does the standby's work runs. -/
def standbyRuns (s : State) : Prop := (activeCore s = 4 ∨ activeCore s = 5) ∧ coreRuns s (standbyCore s) = true

theorem standbyEpoch_runs (h : standbyRuns s) : standbyEpoch blocks reqs s =
    let a := activeCore s
    let n := standbyCore s
    let te := epochInstant s
    let t := osnmaBlocks blocks s
    if !epochDue s (9 - a) then t
    else if n = a then
      let t1 := takeConfig { t with nav := { t.nav with epoch := t.nav.epoch.setIfInBounds (scIndex (9 - a)) te } }
      writeSats n te (testEpoch n te true t1)
    else
      let t1 := takeRings n te (takeConfig t)
      let f := fuse t1 (t1.nav.filter.getD 1 0) te (epochRecs t1 n)
      let t2 := { t1 with nav := { t1.nav with filter := t1.nav.filter.setIfInBounds 1 f.filter } }
      postRequests n reqs (writeSats n te (testEpoch n te false (aidAll n te f.rate t2))) := by
  obtain ⟨hactive, hruns⟩ := h
  have hsc : (activeCore s == 4 || activeCore s == 5) = true := by simpa using hactive
  rw [standbyEpoch]
  exact if_neg (by simp [hsc, hruns])

theorem standbyEpoch_early (h : standbyRuns s) (hdue : epochDue s (9 - activeCore s) = false) :
    standbyEpoch blocks reqs s = osnmaBlocks blocks s :=
  (standbyEpoch_runs h).trans (if_pos (by simp [hdue]))

/-- The survivor runs the consistency test alone. -/
theorem standbyEpoch_survivor (h : standbyRuns s) (hdue : epochDue s (9 - activeCore s) = true) (hsame : standbyCore s = activeCore s) :
    standbyEpoch blocks reqs s =
      let n := standbyCore s
      let te := epochInstant s
      let t := osnmaBlocks blocks s
      writeSats n te (testEpoch n te true
        (takeConfig { t with nav := { t.nav with epoch := t.nav.epoch.setIfInBounds (5 - activeCore s) te } })) := by
  have hindex : scIndex (9 - activeCore s) = 5 - activeCore s := by unfold scIndex; omega
  rw [← hindex]
  exact (standbyEpoch_runs h).trans ((if_neg (by simp [hdue])).trans (if_pos hsame))

/-- The standby posts its aiding before it runs the test. -/
theorem standbyEpoch_standby (h : standbyRuns s) (hdue : epochDue s (9 - activeCore s) = true) (hother : standbyCore s ≠ activeCore s) :
    standbyEpoch blocks reqs s =
      let n := standbyCore s
      let te := epochInstant s
      let t1 := takeRings n te (takeConfig (osnmaBlocks blocks s))
      let f := fuse t1 (t1.nav.filter.getD 1 0) te (epochRecs t1 n)
      let t2 := { t1 with nav := { t1.nav with filter := t1.nav.filter.setIfInBounds 1 f.filter } }
      postRequests n reqs (writeSats n te (testEpoch n te false (aidAll n te f.rate t2))) :=
  (standbyEpoch_runs h).trans ((if_neg (by simp [hdue])).trans (if_neg hother))

/-! ### The frequency in holdover (R336) -/

theorem holdoverUpdate_stays (h : activeRuns s = false ∨ s.flag TB_TIMESTAT_HOLDOVER = false ∨ updateDue s = false) :
    holdoverUpdate s = s := by
  rw [holdoverUpdate]
  exact if_pos (by simpa [or_assoc] using h)

/-- A read of a model, with its cause, its bytes and the state after it, was answered with a model whose CRC holds. -/
def modelHolds (r : Nat × List Byte × State) : Prop := r.1 = 0 ∧ imgLe r.2.1 60 4 = crc32c (r.2.1.take 60)

section
variable {a : Nat} {r : Nat × List Byte × State} (hr : r = busRead a (0x06380000 + 64 * selected s) 64 s)
include hr

theorem holdRecord_model (h : modelHolds r) : holdRecord a s = (some r.2.1, r.2.2) := by
  have hgood : ¬(r.1 ≠ 0 ∨ imgLe r.2.1 60 4 ≠ crc32c (r.2.1.take 60)) := by simpa [modelHolds] using h
  simp only [holdRecord, ← hr, if_neg hgood]

theorem holdRecord_none (h : ¬modelHolds r) : holdRecord a s = (none, r.2.2) := by
  have hbad : r.1 ≠ 0 ∨ imgLe r.2.1 60 4 ≠ crc32c (r.2.1.take 60) := not_and_or.mp h
  simp only [holdRecord, ← hr, if_pos hbad]

end

section
variable (hruns : activeRuns s = true) (hhold : s.flag TB_TIMESTAT_HOLDOVER = true) (hdue : updateDue s = true)
variable {r : Nat × List Byte × State} (hr : r = busRead (activeCore s) (0x06380000 + 64 * selected s) 64 s)
include hruns hhold hdue hr

/-- A model that cannot be read leaves the frequency as it is. -/
theorem holdoverUpdate_none (h : ¬modelHolds r) : holdoverUpdate s = r.2.2 := by
  rw [holdoverUpdate, if_neg (by simp [hruns, hhold, hdue]), holdRecord_none hr h]

/-- The frequency follows the model at the present second and temperature. -/
theorem holdoverUpdate_model (h : modelHolds r) : holdoverUpdate s =
    let temp := if imgLe r.2.1 7 1 = 1 then r.2.2.hst.boardTemp else signed 12 (r.2.2.rd SAF_TEMP_T % 4096)
    let y := modelY r.2.1 ((r.2.2.sec : Int) - imgLe r.2.1 0 6) (temp - signed 16 (imgLe r.2.1 28 2))
    coreWrite (activeCore s) TB_FREQ (unsigned 48 (-y)) { r.2.2 with nav := { r.2.2.nav with updated := some r.2.2.ticks } } := by
  rw [holdoverUpdate, if_neg (by simp [hruns, hhold, hdue]), holdRecord_model hr h]
  rfl

end

/-! ### External pulses (R357) -/

/-- The pulse of the second is noted, and its time of day is used up. -/
def notePulse (n : Nat) (x : ExtSource) (s : State) : State :=
  { s with nav := { s.nav with ext := s.nav.ext.setIfInBounds n x },
           hst := { s.hst with evcTod := s.hst.evcTod.setIfInBounds n none } }

/-- The source of unit `n` after a second with such a pulse. -/
def pulseSource (s : State) (n : Nat) (x : ExtSource) : SrcRun :=
  match x.offset with
  | some o => srcOffset s (srcAt s (n + 5)) (toPs48 o)
  | none => srcMissed s (srcAt s (n + 5))

theorem extPulse_stays {n : Nat} (h : activeRuns s = false) : extPulse n s = s := by
  rw [extPulse]
  exact if_pos (by simp [h])

/-- The captures `r` of the unit are read, and with the time of day they give the pulse `x` of the second. -/
theorem extPulse_runs {n : Nat} (h : activeRuns s = true) {r : List Capture × State} {x : ExtSource}
    (hr : r = readCaptures (activeCore s) n (s.evc n).queue.length s)
    (hx : x = pulseOffset r.1 (r.2.nav.ext.getD n {}) (r.2.hst.evcTod.getD n none)) :
    extPulse n s = srcSet (n + 5) (pulseSource (notePulse n x r.2) n x) (notePulse n x r.2) := by
  rw [extPulse, if_neg (by simp [h]), ← hr]
  subst hx
  rfl

theorem srcSet_at (s : State) {k : Nat} (hk : k < 13) (r : SrcRun) : (srcSet k r s).nav.srcs.getD k {} = r := by
  simp only [srcSet, getD_setIfInBounds, hk, and_self, if_true]

theorem notePulse_ext (s : State) {n : Nat} (hn : n < 8) (x : ExtSource) : (notePulse n x s).nav.ext.getD n {} = x := by
  simp only [notePulse, getD_setIfInBounds, hn, and_self, if_true]

theorem notePulse_evcTod (s : State) {n : Nat} (hn : n < 8) (x : ExtSource) : (notePulse n x s).hst.evcTod.getD n none = none := by
  simp only [notePulse, getD_setIfInBounds, hn, and_self, if_true]

end

/-! ### The commands -/

section
variable (o : SolOut) (blocks : List OsnmaBlock) (reqs : List ChanPost) (u : Fin 8) (s : State)

theorem exec_solutionEpoch : exec (.solutionEpoch o) s = .next (solutionEpoch o s) := rfl
theorem exec_standbyScEpoch : exec (.standbyScEpoch blocks reqs) s = .next (standbyEpoch blocks reqs s) := rfl
theorem exec_holdoverFreqUpdate : exec .holdoverFreqUpdate s = .next (holdoverUpdate s) := rfl
theorem exec_extPulseOffset : exec (.extPulseOffset u) s = .next (extPulse u s) := rfl

end

/-- Settles O56: each command is its operation; the epoch goes by whether a source is selected, and the standby's by whether the
standby or the survivor runs it. -/
theorem solutionFirmware : Obligations.SolutionFirmware := by
  intro o blocks reqs u s a te
  refine ⟨fun hidle => ⟨?_, ?_, ?_⟩, fun hearly => ?_, fun hruns hdue => ?_, ⟨fun hstays => ?_, fun hactive hruns => ?_⟩,
    fun hstays => ?_, fun hruns hhold hdue => ?_, fun hruns => ?_⟩
  · rw [exec_solutionEpoch, solutionEpoch_stays (.inl hidle)]
  · rw [exec_holdoverFreqUpdate, holdoverUpdate_stays (.inl hidle)]
  · rw [exec_extPulseOffset, extPulse_stays hidle]
  · rw [exec_solutionEpoch, solutionEpoch_stays (.inr hearly)]
  · intro s1 f s2
    have hepoch : solutionEpoch o s = endEpoch a te o f (steerEpoch a s2) := solutionEpoch_due o hruns hdue (t := s1) rfl rfl rfl
    clear_value s2 f
    rw [exec_solutionEpoch, hepoch, steerEpoch_eq]
    rfl
  · rw [exec_standbyScEpoch, standbyEpoch_stays hstays]
  · rw [exec_standbyScEpoch]
    have hstandby : standbyRuns s := ⟨hactive, hruns⟩
    refine ⟨fun hearly => ?_, fun hdue hsame => ?_, fun hdue hother => ?_⟩
    · rw [standbyEpoch_early hstandby hearly]
    · rw [standbyEpoch_survivor hstandby hdue hsame]
    · rw [standbyEpoch_standby hstandby hdue hother]
  · rw [exec_holdoverFreqUpdate, holdoverUpdate_stays (.inr hstays)]
  · intro r
    have hr : r = busRead (activeCore s) (0x06380000 + 64 * selected s) 64 s := rfl
    clear_value r
    rw [exec_holdoverFreqUpdate]
    exact ⟨fun hbad => congrArg done (holdoverUpdate_none hruns hhold hdue hr (not_and_or.mpr hbad)),
      fun hread hcrc => congrArg done (holdoverUpdate_model hruns hhold hdue hr ⟨hread, hcrc⟩)⟩
  · intro r x
    have hpulse : extPulse u s = srcSet (u + 5) (pulseSource (notePulse u x r.2) u x) (notePulse u x r.2) :=
      extPulse_runs hruns rfl rfl
    clear_value x r
    rw [exec_extPulseOffset, hpulse]
    refine ⟨_, rfl, rfl, rfl, notePulse_evcTod r.2 u.isLt x, notePulse_ext r.2 u.isLt x, fun v hv => ?_, fun hnone => ?_⟩
    · rw [srcSet_at _ (by omega), pulseSource, hv]
      rfl
    · rw [srcSet_at _ (by omega), pulseSource, hnone]
      rfl

end Sys2Proof.Machine

end

section
/-!
PROOFS. The commands that steer the time base (R314 to R326): who may give them, and what each request does in each of its cases.
-/

namespace Sys2Proof.Machine

/-! ### Requests: loads and steps (R317, R318, R325) -/

section
variable {init : Nat} {s : State}

/-- How far the loaded value lies ahead of the counter (R325). -/
def loadAhead (s : State) : Int := (s.stamp TB_LOADSEC TB_LOADFRAC * 2 ^ 48 : Nat) - (s.tb.now : Int)

theorem tbLoadReq_alreadySet (h : s.flag TB_STAT_TIMESET = true ∨ s.tb.load.isSome = true) :
    tbLoadReq init s = tbRefuse 0 ALREADYSET init (toPs (loadAhead s)) s := if_pos (by simpa using h)

section
variable (hset : s.flag TB_STAT_TIMESET = false) (hload : s.tb.load = none)
include hset hload

theorem tbLoadReq_backward (h : loadAhead s < (8 * s.rate : Nat)) :
    tbLoadReq init s = tbRefuse 0 BACKWARD init (toPs (loadAhead s)) s :=
  (if_neg (by simp [hset, hload])).trans (if_pos h)

theorem tbLoadReq_accepted (h : ((8 * s.rate : Nat) : Int) ≤ loadAhead s) :
    tbLoadReq init s = { s with tb := { s.tb with load := some (s.stamp TB_LOADSEC TB_LOADFRAC) } } :=
  (if_neg (by simp [hset, hload])).trans (if_neg (Int.not_lt.mpr h))

end

theorem tbStepReq_zero (h : s.rdS TB_STEP_STEP = 0) : tbStepReq init s = s := if_pos h

theorem tbStepReq_notSet (h : s.rdS TB_STEP_STEP ≠ 0) (hset : s.flag TB_STAT_TIMESET = false) :
    tbStepReq init s = tbRefuse 1 NOTSET init (s.rdS TB_STEP_STEP) s :=
  (if_neg h).trans (if_pos (by simp [hset]))

section
variable (hset : s.flag TB_STAT_TIMESET = true)
include hset

theorem tbStepReq_backward (h : s.rdS TB_STEP_STEP < 0) :
    tbStepReq init s = tbRefuse 1 BACKWARD init (s.rdS TB_STEP_STEP) s :=
  (if_neg (by omega)).trans ((if_neg (by simp [hset])).trans (if_pos h))

/-- A step forward of a time base that is set meets STEP_LIMIT first (R317). -/
theorem tbStepReq_overLimit (h : (s.stepLimit : Int) < s.rdS TB_STEP_STEP) :
    tbStepReq init s = tbRefuse 1 LIMIT init (s.rdS TB_STEP_STEP) s :=
  (if_neg (by omega)).trans ((if_neg (by simp [hset])).trans ((if_neg (by omega)).trans (if_pos h)))

/-- A step within the limit is a matter of the window alone (R317). -/
theorem tbStepReq_within {ps : Nat} (hstep : s.rdS TB_STEP_STEP = ps) (hpos : 0 < ps) (hlimit : ps ≤ s.stepLimit) :
    tbStepReq init s = if s.stepLimit < ps + windowSum (s.ticks + 4) s.tb.history then tbRefuse 1 WINDOW init (s.rdS TB_STEP_STEP) s
    else { s with tb := { s.tb with
      steps := s.tb.steps ++ [⟨s.ticks + 4, ps⟩], history := ⟨s.ticks + 4, ps⟩ :: s.tb.history } } := by
  have hnat : (s.rdS TB_STEP_STEP).toNat = ps := by omega
  have hwindow : tbStepReq init s = _ :=
    (if_neg (by omega)).trans ((if_neg (by simp [hset])).trans ((if_neg (by omega)).trans (if_neg (by omega))))
  rw [hwindow, hnat]
  rfl

end

/-! ### Requests: slews (R321 to R324) -/

theorem tbSlewReq_notSet (hset : s.flag TB_STAT_TIMESET = false) :
    tbSlewReq init s = tbRefuse 2 NOTSET init (s.rdS TB_SLEW_AMOUNT) s := if_pos (by simp [hset])

section
variable (hset : s.flag TB_STAT_TIMESET = true)
include hset

theorem tbSlewReq_badRate (hrate : s.rd TB_SLEWRATE_RATE = 0) :
    tbSlewReq init s = tbRefuse 2 BADRATE init (s.rdS TB_SLEW_AMOUNT) s :=
  (if_neg (by simp [hset])).trans (if_pos hrate)

section
variable (hrate : s.rd TB_SLEWRATE_RATE ≠ 0)
include hrate

/-- A slew by nothing is a SLEWSTOP (R321). -/
theorem tbSlewReq_zero (hzero : s.rdS TB_SLEW_AMOUNT = 0) : tbSlewReq init s = tbSlewStopReq s :=
  (if_neg (by simp [hset])).trans ((if_neg hrate).trans (if_pos hzero))

theorem tbSlewReq_amount (hamount : s.rdS TB_SLEW_AMOUNT ≠ 0) : tbSlewReq init s =
    (let t := if s.slewLimit < s.rd TB_SLEWRATE_RATE then s.wr TB_STAT_SLEW_CLAMP 1 else s
     { t with tb := { t.tb with slewNext := some ⟨min (s.rd TB_SLEWRATE_RATE) t.slewLimit, psOfS (s.rdS TB_SLEW_AMOUNT)⟩ } }) :=
  (if_neg (by simp [hset])).trans ((if_neg hrate).trans (if_neg hamount))

theorem tbSlewReq_within (hamount : s.rdS TB_SLEW_AMOUNT ≠ 0) (hlimit : s.rd TB_SLEWRATE_RATE ≤ s.slewLimit) :
    tbSlewReq init s =
      { s with tb := { s.tb with slewNext := some ⟨s.rd TB_SLEWRATE_RATE, psOfS (s.rdS TB_SLEW_AMOUNT)⟩ } } := by
  simp only [tbSlewReq_amount hset hrate hamount, if_neg (Nat.not_lt.mpr hlimit), Nat.min_eq_left hlimit]

end

/-- A rate above the limit is clamped to it, and the clamp shows (R322). -/
theorem tbSlewReq_clamped (hamount : s.rdS TB_SLEW_AMOUNT ≠ 0) (hlimit : s.slewLimit < s.rd TB_SLEWRATE_RATE) :
    tbSlewReq init s = { s.wr TB_STAT_SLEW_CLAMP 1 with
      tb := { s.tb with slewNext := some ⟨s.slewLimit, psOfS (s.rdS TB_SLEW_AMOUNT)⟩ } } := by
  have hsame : (s.wr TB_STAT_SLEW_CLAMP 1).slewLimit = s.slewLimit := by
    rw [State.slewLimit, State.slewLimit, rd_wr_ne _ _ _ _ (by decide)]
  simp only [tbSlewReq_amount hset (Nat.ne_of_gt (Nat.zero_lt_of_lt hlimit)) hamount, if_pos hlimit, hsame,
    Nat.min_eq_right (Nat.le_of_lt hlimit), wr_tb]

end

/-! ### Requests: the frequency (R314) -/

theorem tbFreqReq_outOfRange {v : Word} (h : (14073748835 : Int) < signed 48 v.toNat ∨ signed 48 v.toNat < -14073748835) :
    tbFreqReq init v s = tbRefuse 3 RANGE init (signed 48 v.toNat) s := if_pos h

/-- A frequency in range is stored, and RAMPING says whether FREQNOW differs from it; the rest is the grid of its ramp. -/
theorem tbFreqReq_inRange {v : Word} (hmax : signed 48 v.toNat ≤ 14073748835) (hmin : -14073748835 ≤ signed 48 v.toNat) :
    ∃ left, tbFreqReq init v s =
      (let t := (s.setReg TB_FREQ v).put TB_STAT_RAMPING ((s.setReg TB_FREQ v).rd TB_FREQNOW_FREQ != v.toNat)
       { t with tb := { t.tb with rampLeft := left } }) :=
  ⟨_, if_neg (not_or.mpr ⟨Int.not_lt.mpr hmax, Int.not_lt.mpr hmin⟩)⟩

end

/-! ### A flag as it was written -/

theorem flag_wr {s : State} {f : Fld} (hf : f.ok) (hbit : f.width = 1) (h : s.wf = true) (b : Bool) :
    (s.wr f (if b then 1 else 0)).flag f = b := by
  rw [State.flag, rd_wr_fits hf h (by rw [hbit]; cases b <;> decide)]
  cases b <;> rfl

/-! ### An initiator's access -/

/-- A write of a steering register: the request is made for an initiator that TB_OWNERS names, and refused otherwise (R326). -/
def steers (init : Init) (a : Nat) (request : State → State) (s : State) : State :=
  asAccess init a true (fun s => guardW (s.mayTime init) init a OWNER request s) s

section
variable {init : Init} {a : Nat} {f g : State → State} {s : State}

theorem steers_foreign (h : s.bit TB_OWNERS_MASK init = false) :
    steers init a f s = asAccess init a true (fun s => icError init a true OWNER s) s :=
  asAccess_congr (guardW_refused (ok := (unstage init s).mayTime init) h ..) _ _

theorem steers_owner (h : s.bit TB_OWNERS_MASK init = true) (hfg : f (unstage init s) = g (unstage init s)) :
    steers init a f s = asAccess init a true g s :=
  asAccess_congr ((guardW_allowed (ok := (unstage init s).mayTime init) h ..).trans hfg) _ _

end

section
variable (init : Init) (f : Word) (s : State)

theorem exec_tbLoad : exec (.tbLoad init) s = .next (steers init TB_CMD (tbLoadReq init) s) := rfl
theorem exec_tbStep : exec (.tbStep init) s = .next (steers init TB_CMD (tbStepReq init) s) := rfl
theorem exec_tbSlew : exec (.tbSlew init) s = .next (steers init TB_CMD (tbSlewReq init) s) := rfl
theorem exec_tbSlewstop : exec (.tbSlewstop init) s = .next (steers init TB_CMD tbSlewStopReq s) := rfl
theorem exec_tbFreqWrite : exec (.tbFreqWrite init f) s = .next (steers init TB_FREQ (tbFreqReq init f) s) := rfl
theorem exec_tbFracRead : exec (.tbFracRead init) s = .next (asAccess init TB_FRAC false (tbFracRead init) s) := rfl

end

/-- Settles O39: each command is the access that its request makes, and each clause is the branch of the request that its hypotheses
choose behind the discarded half. -/
theorem timeBaseCommands : Obligations.TimeBaseCommands := by
  intro init f s step amount rate load ahead set limit freq cmd frq
  have foreign (h : s.bit TB_OWNERS_MASK init = false) (a : Nat) (request : State → State) :=
    congrArg done (steers_foreign (a := a) (f := request) h)
  refine ⟨fun h => ⟨foreign h _ _, foreign h _ _, foreign h _ _, foreign h _ _, foreign h _ _⟩, fun howner => ?_,
    exec_tbFracRead init s⟩
  have owner {a : Nat} {request g : State → State} (h : request (unstage init s) = g (unstage init s)) :=
    congrArg done (steers_owner (a := a) howner h)
  let u := unstage init s
  refine ⟨fun h => owner (tbLoadReq_alreadySet (s := u) h), fun hset hload h => owner (tbLoadReq_backward (s := u) hset hload h),
    fun hset hload h => owner (tbLoadReq_accepted (s := u) hset hload h), fun h => owner (tbStepReq_zero (s := u) h),
    fun h hset => owner (tbStepReq_notSet (s := u) h hset), fun h hset => owner (tbStepReq_backward (s := u) hset h),
    fun h hset => owner (tbStepReq_overLimit (s := u) hset h), fun ps hstep hpos hlimit hset => ?_,
    fun hset => owner (tbSlewReq_notSet (s := u) hset), fun hset hrate => owner (tbSlewReq_badRate (s := u) hset hrate),
    fun hset hrate hzero => (owner (tbSlewReq_zero (s := u) hset hrate hzero)).trans (owner rfl).symm,
    fun hset hrate hamount hlimit => owner (tbSlewReq_within (s := u) hset hrate hamount hlimit),
    fun hset hamount hlimit hwf => ?_, owner rfl, fun h => owner (tbFreqReq_outOfRange (s := u) h), fun hmax hmin hwf => ?_⟩
  · have hwithin := tbStepReq_within (init := init) (s := u) hset hstep hpos hlimit
    exact ⟨fun hover => owner (hwithin.trans (if_pos hover)), fun hfits => owner (hwithin.trans (if_neg (Nat.not_lt.mpr hfits)))⟩
  · have hclamped := tbSlewReq_clamped (init := init) (s := u) hset hamount hlimit
    exact ⟨_, owner hclamped, rfl, flag_wr (Fld.ok_mk rfl) rfl (s := u) hwf true, rfl⟩
  · obtain ⟨left, hstored⟩ := tbFreqReq_inRange (init := init) (s := u) hmax hmin
    refine ⟨_, owner hstored, ?_, rfl, flag_wr (Fld.ok_mk rfl) rfl (setReg_wf u TB_FREQ f hwf) _, fun a hfreq hstat => ?_⟩
    · exact (reg_wr_ne _ _ _ _ (by decide)).trans (reg_setReg_eq u _ _ hwf)
    · exact (reg_wr_ne _ _ _ _ hstat).trans (reg_setReg_ne u _ hfreq)

end Sys2Proof.Machine

end

section
/-!
PROOFS. A tick of the time base with no change but steps (R309, R313, R318): what each part of the tick leaves of the counter, of the
steps that wait and of the registers of TB_RATE.
-/

namespace Sys2Proof.Machine

section
variable {s : State}

/-! ### Before the sum: ramp, reference switch and slew -/

theorem rampTick_settled (h : s.rdS TB_FREQ_FREQ = s.rdS TB_FREQNOW_FREQ) : rampTick s = s := if_pos h

theorem refSwitchTick_none (h : s.tb.refSwitch = false) : refSwitchTick s = s := if_pos (by simp [h])

/-- With no slew in progress and none waiting, only a SLEWSTOP that waits is taken (R324). -/
theorem slewInForce_none (hslew : s.tb.slew = none) (hnext : s.tb.slewNext = none) :
    slewInForce s = { s with tb := { s.tb with slew := none, slewStop := false, slewNext := none } } := by
  simp [slewInForce, hslew, hnext]

theorem slewTick_none (h : s.tb.slew = none) :
    slewTick s = (0, ({ s with tb := { s.tb with s := 0 } } : State).wr TB_STAT_SLEWING 0) := by
  simp [slewTick, h]

/-! ### TB_RATE (R313) -/

/-- The increment shows in two registers alone. -/
theorem rate_congr {t : State} (hhigh : t.reg TB_RATEH = s.reg TB_RATEH) (hlow : t.reg TB_RATEL = s.reg TB_RATEL) :
    t.rate = s.rate := by
  simp only [State.rate, State.rd, TB_RATEH_RATE, TB_RATEL_RATE, hhigh, hlow]

/-- The increment that R313 computes from FREQNOW and the slew term. -/
def nextRate (s : State) : Nat := ((NOM : Int) + nomShare (s.rdS TB_FREQNOW_FREQ + s.tb.s)).toNat

/-- An increment of 96 bits reads back from its two registers. -/
theorem setRate_rate (hwf : s.wf = true) (hfits : nextRate s < 2 ^ 96) : (setRate s).rate = nextRate s := by
  have hlow : (setRate s).rd TB_RATEL_RATE = nextRate s % 2 ^ 48 := rd_wr_eq _ _ _ (Fld.ok_mk rfl) (wr_wf _ _ _ hwf)
  have hhigh : (setRate s).rd TB_RATEH_RATE = nextRate s / 2 ^ 48 :=
    (rd_wr_ne _ _ _ _ (by decide)).trans (rd_wr_fits (Fld.ok_mk rfl) hwf (Nat.div_lt_of_lt_mul hfits))
  rw [State.rate, hlow, hhigh]
  omega

/-- A number of 48 bits in two's complement. -/
theorem rdS_freqNow_bounds : -2 ^ 47 ≤ s.rdS TB_FREQNOW_FREQ ∧ s.rdS TB_FREQNOW_FREQ < 2 ^ 47 := by
  have hlt : s.rd TB_FREQNOW_FREQ < 2 ^ 48 := rd_lt s TB_FREQNOW_FREQ
  have hwidth : TB_FREQNOW_FREQ.width = 48 := rfl
  rw [State.rdS, signed, hwidth]
  split <;> omega

/-- Without a slew the increment lies between half and three halves of NOM. -/
theorem nextRate_fits (h : s.tb.s = 0) : nextRate s < 2 ^ 96 := by
  obtain ⟨hmin, hmax⟩ := rdS_freqNow_bounds (s := s)
  rw [nextRate, nomShare, h, NOM]
  omega

/-! ### The counter and the steps (R309, R318) -/

section
variable (extra : Int) (step n : Nat)

theorem advance_ticks (h : s.tb.load = none) : (advance extra step n s).ticks = s.ticks := by
  simp only [advance, h]
  split <;> rfl

theorem advance_now (h : s.tb.load = none) :
    (advance extra step n s).tb.now = ((s.tb.now : Int) + s.rate + extra + step).toNat % 2 ^ 144 := by
  simp only [advance, h]
  split <;> rfl

theorem advance_steps (h : s.tb.load = none) : (advance extra step n s).tb.steps = s.tb.steps := by
  simp only [advance, h]
  split <;> rfl

/-- The counter's advance leaves every register but the status, the stamp of the last step and the counts. -/
theorem advance_reg (h : s.tb.load = none) {a : Nat} (hstat : a ≠ TB_STAT) (hsec : a ≠ TB_STEPATSEC) (hfrac : a ≠ TB_STEPATFRAC)
    (hcount : a ≠ TB_COUNT) : (advance extra step n s).reg a = s.reg a := by
  simp only [advance, h]
  split
  · rfl
  · rw [count_eq, raise_eq, reg_wr_ne _ _ _ _ hcount, reg_wr_ne _ _ _ _ hstat, State.setStamp, reg_setReg_ne _ _ hfrac,
      reg_setReg_ne _ _ hsec]
    rfl

end

theorem leapTick_tb : (leapTick s).tb = s.tb := by
  unfold leapTick
  split <;> rfl

theorem leapTick_ticks : (leapTick s).ticks = s.ticks := by
  unfold leapTick
  split <;> rfl

theorem leapTick_reg {a : Nat} (hstat : a ≠ TB_STAT) (hutc : a ≠ TB_UTCOFS) : (leapTick s).reg a = s.reg a := by
  unfold leapTick
  split
  · rw [raise_eq, clear_eq, reg_wr_ne _ _ _ _ hstat, reg_wr_ne _ _ _ _ hutc, reg_wr_ne _ _ _ _ hutc]
  · rfl

/-! ### The tick -/

/-- The state at a tick without ramp, reference switch and slew, where TB_RATE is computed. -/
def unsteered (s : State) : State :=
  ({ s with ticks := s.ticks + 1, tb := { s.tb with slew := none, slewStop := false, slewNext := none, s := 0 } } : State).wr
    TB_STAT_SLEWING 0

/-- A tick with no change but steps: TB_RATE is computed, the steps due are taken, and the counter advances. -/
theorem tbTick_unsteered (hslew : s.tb.slew = none) (hnext : s.tb.slewNext = none) (href : s.tb.refSwitch = false)
    (hfreq : s.rdS TB_FREQ_FREQ = s.rdS TB_FREQNOW_FREQ) :
    tbTick s = (let d := stepsDue (setRate (unsteered s)); leapTick (advance 0 d.1 d.2.1 d.2.2)) := by
  have hramp : rampTick { s with ticks := s.ticks + 1 } = { s with ticks := s.ticks + 1 } := rampTick_settled hfreq
  have hswitch : refSwitchTick { s with ticks := s.ticks + 1 } = { s with ticks := s.ticks + 1 } := refSwitchTick_none href
  have hforce := slewInForce_none (s := { s with ticks := s.ticks + 1 }) hslew hnext
  simp only [tbTick, hramp, hswitch, hforce]
  rw [slewTick_none (by rfl)]
  rfl

theorem unsteered_wf (h : s.wf = true) : (unsteered s).wf = true := wr_wf _ _ _ h

theorem unsteered_freqNow : (unsteered s).rdS TB_FREQNOW_FREQ = s.rdS TB_FREQNOW_FREQ :=
  congrArg (signed _) (rd_wr_ne _ _ _ _ (by decide))

/-- The increment of R313 with no slew term. -/
theorem unsteered_nextRate :
    nextRate (unsteered s) = ((132046937523773895989 : Int) + 132046937523773895989 * s.rdS TB_FREQNOW_FREQ / 2 ^ 48).toNat := by
  have hslew : (unsteered s).tb.s = 0 := rfl
  rw [nextRate, unsteered_freqNow, hslew, Int.add_zero]
  rfl

theorem setRate_unsteered_rate (h : s.wf = true) : (setRate (unsteered s)).rate = nextRate (unsteered s) :=
  setRate_rate (unsteered_wf h) (nextRate_fits rfl)

/-- What the advance does at a tick at which no load waits: the registers of TB_RATE and the steps that wait stay. -/
theorem leapTick_advance (h : s.tb.load = none) (sum n : Nat) :
    (leapTick (advance 0 sum n s)).ticks = s.ticks ∧ (leapTick (advance 0 sum n s)).rate = s.rate ∧
      (leapTick (advance 0 sum n s)).tb.now = (s.tb.now + s.rate + sum) % 2 ^ 144 ∧
      (leapTick (advance 0 sum n s)).tb.steps = s.tb.steps := by
  refine ⟨?_, rate_congr ?_ ?_, ?_, ?_⟩
  · rw [leapTick_ticks, advance_ticks _ _ _ h]
  · rw [leapTick_reg (by decide) (by decide), advance_reg _ _ _ h (by decide) (by decide) (by decide) (by decide)]
  · rw [leapTick_reg (by decide) (by decide), advance_reg _ _ _ h (by decide) (by decide) (by decide) (by decide)]
  · rw [leapTick_tb, advance_now _ _ _ h]
    have hsum : ((s.tb.now : Int) + s.rate + 0 + sum).toNat = s.tb.now + s.rate + sum := by omega
    rw [hsum]
  · rw [leapTick_tb, advance_steps _ _ _ h]

end

/-- Settles O41: TB_RATE is computed with no slew term, and the advance adds it and the steps due and touches neither its registers
nor the steps that wait. -/
theorem timeBaseAdvances : Obligations.TimeBaseAdvances := by
  intro s hwf hload hslew hnext href hfreq r due
  have hrate : (setRate (unsteered s)).rate = r := (setRate_unsteered_rate hwf).trans unsteered_nextRate
  obtain ⟨hticks, hkeeps, hnow, hsteps⟩ := leapTick_advance (s := (stepsDue (setRate (unsteered s))).2.2) hload
    (stepsDue (setRate (unsteered s))).1 (stepsDue (setRate (unsteered s))).2.1
  rw [tbTick_unsteered hslew hnext href hfreq]
  refine ⟨hticks, hkeeps.trans hrate, hnow.trans ?_, hsteps⟩
  exact congrArg (fun x => (s.tb.now + x + _) % 2 ^ 144) hrate

end Sys2Proof.Machine

end

section
/-!
PROOFS. The commands that name what a tick does (R309): each of them is the tick where its event is due.
-/

namespace Sys2Proof.Machine

section
variable {s : State}

theorem deviceTick_unsupplied (h : s.pwr.supplied = false) : deviceTick s = s := if_pos (by simp [h])

/-- A tick of the device with supply: the time base out of DEEP, the always-on counter, the transition under way and the polls. -/
theorem deviceTick_supplied (h : s.pwr.supplied = true) :
    deviceTick s = (let t := powerTick (rtcTick (if s.pwr.power = .deep then deepTick s else tick s))
      if svRuns t || !t.hst.await.isEmpty then empPoll t else t) := if_neg (by simp [h])

end

/-! ### The commands -/

section
variable (g : Fin 16) (u : Fin 4) (e : Fin 8) (core : CoreId) (s : State)

theorem exec_tick : exec .tick s = .next (deviceTick s) := rfl
theorem exec_loadTakeEffect : exec .loadTakeEffect s = .next (tickIf (loadDue s) s) := rfl
theorem exec_stepTick : exec .stepTick s = .next (tickIf (stepDue s) s) := rfl
theorem exec_slewEnd : exec .slewEnd s = .next (tickIf (slewDue s) s) := rfl
theorem exec_freqRampMove : exec .freqRampMove s = .next (tickIf (rampDue s) s) := rfl
theorem exec_leapApply : exec .leapApply s = .next (tickIf (leapDue s) s) := rfl
theorem exec_tpgLeadingEdge : exec (.tpgLeadingEdge g) s = .next (tickIf (tbRuns s && leadingDue s g) s) := rfl
theorem exec_tpgTrailingEdge : exec (.tpgTrailingEdge g) s = .next (tickIf (tbRuns s && trailingDue s g) s) := rfl
theorem exec_rampSegmentEnd : exec (.rampSegmentEnd u) s = .next (tickIf (tbRuns s && segmentDue s u) s) := rfl
theorem exec_osyPhaseCapture : exec (.osyPhaseCapture u) s = .next (tickIf (tbRuns s && (phEdge s u).isSome) s) := rfl
theorem exec_kcTimerExpiry :
    exec (.kcTimerExpiry core) s = .next (tickIf (tbRuns s && hostOn s && s.rd (KCn_TIMER_COUNT core) == 1) s) := rfl
theorem exec_watchdogExpiry : exec (.watchdogExpiry core) s = .next (tickIf (tbRuns s && hostOn s && dogDue s core) s) := rfl
theorem exec_todStringStart : exec .todStringStart s = .next (tickIf (tbRuns s && hostOn s && todDue s (s.ticks + 1)) s) := rfl
theorem exec_evcCapture : exec (.evcCapture e) s = .next (tickIf (tbRuns s && filterDue s e (s.ticks + 1)) s) := rfl
theorem exec_evcWindowMiss : exec (.evcWindowMiss e) s = .next (tickIf (tbRuns s && missDue s e) s) := rfl
theorem exec_refSwitchTick : exec .refSwitchTick s =
    .next (if switchDue s then deviceTick { s with tb := { s.tb with refSwitch := true } } else s) := rfl

end

/-- Settles O40: each command is the tick where its event is due, and the tick is the one that its supply allows. -/
theorem tickCommands : Obligations.TickCommands := by
  intro g u e core s polled ticked names on
  have hticked (t : State) : deviceTick t = ticked t := by
    cases h : t.pwr.supplied with
    | false => exact (deviceTick_unsupplied h).trans (if_neg (by simp [h])).symm
    | true => exact (deviceTick_supplied h).trans (if_pos h).symm
  have named {due : Bool} {c : Instr} (h : exec c s = .next (tickIf due s)) : names due c := by
    rw [tickIf, hticked] at h
    exact h
  exact ⟨named (exec_tick s), named (exec_loadTakeEffect s), named (exec_stepTick s), named (exec_slewEnd s),
    named (exec_freqRampMove s), named (exec_leapApply s), named (exec_tpgLeadingEdge g s), named (exec_tpgTrailingEdge g s),
    named (exec_rampSegmentEnd u s), named (exec_osyPhaseCapture u s), named (exec_kcTimerExpiry core s),
    named (exec_watchdogExpiry core s), named (exec_todStringStart s), named (exec_evcCapture e s), named (exec_evcWindowMiss e s),
    fun hdue => by rw [exec_refSwitchTick, if_pos hdue, hticked], fun hnone => by rw [exec_refSwitchTick, if_neg (by simp [hnone])]⟩

end Sys2Proof.Machine

end

section
/-!
PROOFS. The leading edge of a pulse (R343, R347, R351, R361): the registers that show it, the pulse that it begins, and the delay of
the time-of-day string that is paired with it.
-/

namespace Sys2Proof.Machine

section
variable {n : Nat} {s : State}

theorem setTpg_tpg_eq (s : State) (x : TpgState) (h : n < 16) : (s.setTpg n x).tpg n = x := by
  simp only [State.setTpg, State.tpg, getD_setIfInBounds, h, and_self, if_true]

theorem setTpg_mode (s : State) (m : Nat) (x : TpgState) : isTrain (s.setTpg n x) m = isTrain s m := setTpg_flag ..

/-- What shows a leading edge: the stamp of its emission, EDGE, the count of edges and LEVEL. -/
def edgeShown (n last : Nat) (s : State) : State :=
  (((s.setStamp (TPGn_LASTSEC n) (TPGn_LASTFRAC n) last).raise (TPGn_STAT_EDGE n)).count (TPGn_COUNT_EDGES n)).raise (TPGn_STAT_LEVEL n)

/-- The pulse of a width that a leading edge begins. -/
def pulseBegun (s : State) (n width : Nat) : TpgState :=
  { s.tpg n with trail := some (tpgNext s n + width), trailPath := (s.tpg n).path, last := some (tpgNext s n) }

/-- The instant of the emission that leaves `f` fine steps after a tick of value `tick`, in 2^-48 s. -/
def emission (s : State) (n tick f : Nat) : Nat := (tick + f * s.rate / 256 + s.fineOf (s.tpg n).path) / 2 ^ 48

/-! ### The registers that show an edge -/

section
variable {last a : Nat}

/-- Behind the stamp an edge writes STAT and COUNT alone. -/
theorem edgeShown_stamp (hstat : a ≠ TPGn_STAT n) (hcount : a ≠ TPGn_COUNT n) :
    (edgeShown n last s).reg a = (s.setStamp (TPGn_LASTSEC n) (TPGn_LASTFRAC n) last).reg a := by
  rw [edgeShown, raise_eq, raise_eq, count_eq, reg_wr_ne _ _ _ _ hstat, reg_wr_ne _ _ _ _ hcount, reg_wr_ne _ _ _ _ hstat]

theorem edgeShown_other (h : a ∉ [TPGn_LASTSEC n, TPGn_LASTFRAC n, TPGn_STAT n, TPGn_COUNT n]) :
    (edgeShown n last s).reg a = s.reg a := by
  simp only [List.mem_cons, List.not_mem_nil, or_false, not_or] at h
  obtain ⟨hsec, hfrac, hstat, hcount⟩ := h
  rw [edgeShown_stamp hstat hcount, State.setStamp, reg_setReg_ne _ _ hfrac, reg_setReg_ne _ _ hsec]

theorem edgeShown_lastSec (hwf : s.wf = true) : (edgeShown n last s).reg (TPGn_LASTSEC n) = BitVec.ofNat 48 (last / 2 ^ 48) := by
  rw [edgeShown_stamp (by simp [TPGn_LASTSEC, TPGn_STAT]) (by simp [TPGn_LASTSEC, TPGn_COUNT]), State.setStamp,
    reg_setReg_ne _ _ (by simp [TPGn_LASTSEC, TPGn_LASTFRAC]), reg_setReg_eq _ _ _ hwf]

theorem edgeShown_lastFrac (hwf : s.wf = true) : (edgeShown n last s).reg (TPGn_LASTFRAC n) = BitVec.ofNat 48 last := by
  rw [edgeShown_stamp (by simp [TPGn_LASTFRAC, TPGn_STAT]) (by simp [TPGn_LASTFRAC, TPGn_COUNT]), State.setStamp,
    reg_setReg_eq _ _ _ (setReg_wf _ _ _ hwf)]

theorem setStamp_wf (sec frac v : Nat) (hwf : s.wf = true) : (s.setStamp sec frac v).wf = true :=
  setReg_wf _ _ _ (setReg_wf _ _ _ hwf)

theorem edgeShown_level (hwf : s.wf = true) : (edgeShown n last s).flag (TPGn_STAT_LEVEL n) = true :=
  flag_wr (Fld.ok_mk rfl) rfl (wr_wf _ _ _ (wr_wf _ _ _ (setStamp_wf _ _ _ hwf))) true

/-- EDGE lies in bits of STAT that LEVEL leaves. -/
theorem edgeShown_edge (hwf : s.wf = true) : (edgeShown n last s).flag (TPGn_STAT_EDGE n) = true := by
  have hstamped := setStamp_wf (TPGn_LASTSEC n) (TPGn_LASTFRAC n) last hwf
  have hbelow : (TPGn_STAT_EDGE n).lo + (TPGn_STAT_EDGE n).width ≤ (TPGn_STAT_LEVEL n).lo := Nat.le_add_left 1 9
  have hok : (TPGn_STAT_LEVEL n).ok := Fld.ok_mk rfl
  rw [State.flag, edgeShown, raise_eq, raise_eq, count_eq,
    rd_wr_disjoint _ _ _ _ hok (wr_wf _ _ _ (wr_wf _ _ _ hstamped)) (.inl hbelow),
    rd_wr_ne _ _ _ _ (by simp [TPGn_STAT_EDGE, TPGn_COUNT_EDGES, TPGn_STAT, TPGn_COUNT])]
  exact flag_wr (Fld.ok_mk rfl) rfl hstamped true

theorem edgeShown_mode : isTrain (edgeShown n last s) n = isTrain s n := by
  have hctrl : (edgeShown n last s).reg (TPGn_CTRL n) = s.reg (TPGn_CTRL n) :=
    edgeShown_other (by simp [TPGn_CTRL, TPGn_LASTSEC, TPGn_LASTFRAC, TPGn_STAT, TPGn_COUNT])
  simp only [isTrain, State.flag, State.rd, TPGn_CTRL_MODE, hctrl]

theorem edgeShown_width : tpgWidth (edgeShown n last s) n = tpgWidth s n := by
  have hwidth : (edgeShown n last s).reg (TPGn_WIDTH n) = s.reg (TPGn_WIDTH n) :=
    edgeShown_other (by simp [TPGn_WIDTH, TPGn_LASTSEC, TPGn_LASTFRAC, TPGn_STAT, TPGn_COUNT])
  simp only [tpgWidth, State.rd, TPGn_WIDTH_FRAC, hwidth]

/-- The configuration of the pairing is none of a generator's registers. -/
theorem edgeShown_todcfg (hn : n < 16) : (edgeShown n last s).reg TPE_TODCFG = s.reg TPE_TODCFG := by
  apply edgeShown_other
  simp only [TPE_TODCFG, TPGn_LASTSEC, TPGn_LASTFRAC, TPGn_STAT, TPGn_COUNT, List.mem_cons, List.not_mem_nil, or_false]
  omega

end

/-! ### The delay of the paired string (R351) -/

section
variable {k f : Nat}

theorem todArm_reg (a : Nat) : (todArm n k f s).reg a = s.reg a := by
  unfold todArm
  split_ifs <;> rfl

theorem todArm_mode (m : Nat) : isTrain (todArm n k f s) m = isTrain s m := by
  simp only [isTrain, State.flag, State.rd, todArm_reg]

theorem todArm_tpg (m : Nat) : (todArm n k f s).tpg m = s.tpg m := by
  unfold todArm
  split_ifs <;> rfl

theorem todArm_paired (hen : s.flag TPE_TODCFG_EN = true) (htpg : s.rd TPE_TODCFG_TPG = n) :
    (todArm n k f s).pls.tod = s.pls.tod ++ [k + 600 * s.rd TPE_TODCFG_DELAY + if f = 0 then 0 else 1] := by
  rw [todArm, if_pos ⟨hen, htpg⟩]

end

/-! ### The edge of a one-shot -/

/-- A leading edge shows, begins its pulse and starts the delay of a paired string; a train goes on to its next target. -/
theorem leadingEdge_eq {k tick f : Nat} : leadingEdge n k tick f s =
    (let t := edgeShown n (emission s n tick f) s
     let u := todArm n k f (t.setTpg n (pulseBegun s n (tpgWidth t n)))
     if isTrain u n then setNext n (tpgNext s n + tpgPeriod u n) u else u) := by
  unfold leadingEdge edgeShown emission pulseBegun
  rfl

/-- The edge of a one-shot leaves its next target. -/
theorem leadingEdge_oneShot {k tick f : Nat} (h : isTrain s n = false) :
    leadingEdge n k tick f s = todArm n k f ((edgeShown n (emission s n tick f) s).setTpg n (pulseBegun s n (tpgWidth s n))) := by
  have htrain (last : Nat) (x : TpgState) : isTrain (todArm n k f ((edgeShown n last s).setTpg n x)) n = false := by
    rw [todArm_mode, setTpg_mode, edgeShown_mode, h]
  rw [leadingEdge_eq, ← edgeShown_width]
  exact if_neg (ne_true_of_eq_false (htrain _ _))

end

/-- Settles O43: the registers that show the edge are written one after another behind their stamp, and neither the pulse that it begins
nor the delay of the paired string touches a register. -/
theorem leadingEdge_leaves : Obligations.LeadingEdge := by
  intro n k tick f s hwf honeshot t last
  have ht : t = todArm n k f ((edgeShown n last s).setTpg n (pulseBegun s n (tpgWidth s n))) := leadingEdge_oneShot honeshot
  have hreg (a : Nat) : t.reg a = (edgeShown n last s).reg a := by rw [ht, todArm_reg, setTpg_reg]
  have hflag (g : Fld) : t.flag g = (edgeShown n last s).flag g := by simp only [State.flag, State.rd, hreg]
  refine ⟨(hflag _).trans (edgeShown_level hwf), (hflag _).trans (edgeShown_edge hwf), (hreg _).trans (edgeShown_lastSec hwf),
    (hreg _).trans (edgeShown_lastFrac hwf), (hreg _).trans (edgeShown_other ?_), (hreg _).trans (edgeShown_other ?_), ?_,
    fun hen hpair => ?_⟩
  · simp [TPGn_NEXTSEC, TPGn_LASTSEC, TPGn_LASTFRAC, TPGn_STAT, TPGn_COUNT]
  · simp [TPGn_NEXTFRAC, TPGn_LASTSEC, TPGn_LASTFRAC, TPGn_STAT, TPGn_COUNT]
  · rw [ht, todArm_tpg, setTpg_tpg_eq _ _ n.isLt]
    rfl
  · have hcfg (g : Fld) (hg : g.reg = TPE_TODCFG) : ((edgeShown n last s).setTpg n (pulseBegun s n (tpgWidth s n))).rd g = s.rd g := by
      rw [setTpg_rd, State.rd, hg, edgeShown_todcfg n.isLt, ← hg, ← State.rd]
    rw [ht, todArm_paired ((congrArg (· == 1) (hcfg _ rfl)).trans hen) ((hcfg _ rfl).trans hpair), hcfg _ rfl]
    rfl

end Sys2Proof.Machine

end

section
/-!
PROOFS. ARM, DISARM and the latched reads of a pulse generator (R345 to R347, R359).
-/

namespace Sys2Proof.Machine

section
variable {init n : Nat} {o : Owned} {s : State}

/-! ### Who may write (R359) -/

theorem owns_owner (h : ownerOf s o = some init) : owns s init o = true := beq_iff_eq.mpr h

theorem owns_foreign (h : ownerOf s o ≠ some init) : owns s init o = false := beq_eq_false_iff_ne.mpr h

/-- A write of CMD is guarded by the ownership of the generator. -/
theorem tpgWrite_cmd (v : Word) : tpgWrite init n (TPGn_CMD n) v s = guardW (owns s init (tpgUnit n)) init (TPGn_CMD n) OWNER
    (tpgCmd n ((TPGn_CMD_ARM n).of v = 1) ((TPGn_CMD_DISARM n).of v = 1)) s := by
  have howner : TPGn_CMD n ≠ TPGn_OWNER n := by simp [TPGn_CMD, TPGn_OWNER]
  have hpath : TPGn_CMD n ≠ TPGn_PATH n := by simp [TPGn_CMD, TPGn_PATH]
  simp only [tpgWrite, if_neg howner, if_neg hpath, if_true]

theorem tpgWrite_foreign (h : ownerOf s (tpgUnit n) ≠ some init) (v : Word) :
    tpgWrite init n (TPGn_CMD n) v s = icError init (TPGn_CMD n) true OWNER s := by
  rw [tpgWrite_cmd, guardW_refused (owns_foreign h)]

theorem tpgWrite_arm (h : ownerOf s (tpgUnit n) = some init) : tpgWrite init n (TPGn_CMD n) 1 s = tpgArm n s := by
  have harm : (TPGn_CMD_ARM n).of 1 = 1 := rfl
  have hdisarm : (TPGn_CMD_DISARM n).of 1 = 0 := rfl
  rw [tpgWrite_cmd, guardW_allowed (owns_owner h), harm, hdisarm]
  simp [tpgCmd]

theorem tpgWrite_disarm (h : ownerOf s (tpgUnit n) = some init) : tpgWrite init n (TPGn_CMD n) 2 s = tpgDisarm n s := by
  have harm : (TPGn_CMD_ARM n).of 2 = 0 := by simp [Fld.of, TPGn_CMD_ARM, Fld.width]
  have hdisarm : (TPGn_CMD_DISARM n).of 2 = 1 := by simp [Fld.of, TPGn_CMD_DISARM, Fld.width]
  rw [tpgWrite_cmd, guardW_allowed (owns_owner h), harm, hdisarm]
  simp [tpgCmd]

/-! ### ARM (R345) -/

/-- The path in force at the check of a new target is that of PATH. -/
def pathTaken (n : Nat) (s : State) : State := s.setTpg n { s.tpg n with path := s.rd (TPGn_PATH_PATH n) }

/-- The first instant at which a target may fire: 8 ticks ahead. -/
def soonest (s : State) : Int := armNow s + (8 * s.rate : Nat)

theorem tpgArm_busy (h : s.rd (TPGn_STAT_STATE n) = T_ARMED) : tpgArm n s = s.wr (TPGn_STAT_BUSY n) 1 := if_pos h

section
variable (hstate : s.rd (TPGn_STAT_STATE n) ≠ T_ARMED)
include hstate

theorem tpgArm_badConfig (hcfg : tpgConfigOk s n = false) : tpgArm n s = s.wr (TPGn_STAT_CFGERR n) 1 := by
  rw [tpgArm, if_neg hstate, hcfg]
  rfl

variable (hcfg : tpgConfigOk s n = true)
include hcfg

theorem tpgArm_checked : tpgArm n s =
    if soonest s ≤ firing (pathTaken n s) n (tpgTarget s n) then tpgArmed n (tpgTarget s n) s
    else if isTrain s n then
      (tpgArmed n (tpgTarget s n + alignK (pathTaken n s) n (tpgTarget s n) (soonest s) * tpgPeriod s n) s).wr (TPGn_STAT_LATE_ALIGNED n) 1
    else logUnit 0x51 0 n (n + tpgTarget s n % 2 ^ 48 * 2 ^ 16) (s.wr (TPGn_STAT_PAST n) 1) := by
  have hgood : ¬(!tpgConfigOk s n) = true := by simp [hcfg]
  unfold tpgArm soonest pathTaken
  rw [if_neg hstate, if_neg hgood]
  rfl

theorem tpgArm_inTime (h : soonest s ≤ firing (pathTaken n s) n (tpgTarget s n)) : tpgArm n s = tpgArmed n (tpgTarget s n) s := by
  rw [tpgArm_checked hstate hcfg, if_pos h]

theorem tpgArm_lateTrain (h : firing (pathTaken n s) n (tpgTarget s n) < soonest s) (htrain : isTrain s n = true) : tpgArm n s =
    (tpgArmed n (tpgTarget s n + alignK (pathTaken n s) n (tpgTarget s n) (soonest s) * tpgPeriod s n) s).wr
      (TPGn_STAT_LATE_ALIGNED n) 1 := by
  rw [tpgArm_checked hstate hcfg, if_neg (Int.not_le.mpr h), if_pos htrain]

theorem tpgArm_lateOneShot (h : firing (pathTaken n s) n (tpgTarget s n) < soonest s) (htrain : isTrain s n = false) :
    tpgArm n s = logUnit 0x51 0 n (n + tpgTarget s n % 2 ^ 48 * 2 ^ 16) (s.wr (TPGn_STAT_PAST n) 1) := by
  rw [tpgArm_checked hstate hcfg, if_neg (Int.not_le.mpr h), if_neg (ne_true_of_eq_false htrain)]

end

/-! ### DISARM (R346) -/

theorem tpgDisarm_inPulse (h : (s.tpg n).trail.isSome = true) : tpgDisarm n s = s.setTpg n { s.tpg n with disarm := true } := if_pos h

theorem tpgDisarm_atOnce (h : (s.tpg n).trail = none) : tpgDisarm n s = s.wr (TPGn_STAT_STATE n) T_IDLE := if_neg (by simp [h])

theorem armNow_unstepped (h : s.tb.stepped = none) : armNow s = s.tb.now := by simp only [armNow, h]

end

section
variable (init : Init) (n : Fin 16) (s : State)

theorem exec_tpgArm : exec (.tpgArm init n) s = .next (asAccess init (TPGn_CMD n) true (tpgWrite init n (TPGn_CMD n) 1) s) := rfl

theorem exec_tpgDisarm : exec (.tpgDisarm init n) s = .next (asAccess init (TPGn_CMD n) true (tpgWrite init n (TPGn_CMD n) 2) s) := rfl

theorem exec_tpgNextlastFracRead (last : Bool) : exec (.tpgNextlastFracRead init n last) s =
    .next (let sec := if last then TPGn_LASTSEC n else TPGn_NEXTSEC n
      asAccess init (sec + 8) false (fun s => latchSec init sec (s.reg sec).toNat s) s) := rfl

end

/-- Settles O42: the owner's write is ARM or DISARM behind the discarded half, whose branches are the clauses. -/
theorem pulseCommands : Obligations.PulseCommands := by
  intro init n last s mine st tgt s1 cmd soon
  have access {f g : State → State} (h : f (unstage init s) = g (unstage init s)) :
      (.next (asAccess init (TPGn_CMD n) true f s) : Host.Outcome State Fault Refusal) = .next (cmd g) :=
    congrArg _ (asAccess_congr h _ _)
  refine ⟨fun hforeign => ⟨access (tpgWrite_foreign (s := unstage init s) hforeign _),
    access (tpgWrite_foreign (s := unstage init s) hforeign _)⟩, fun howner => ?_, armNow_unstepped,
    exec_tpgNextlastFracRead init n s last⟩
  have arm {g : State → State} (h : tpgArm n (unstage init s) = g (unstage init s)) : exec (.tpgArm init n) s = .next (cmd g) :=
    access ((tpgWrite_arm (s := unstage init s) howner).trans h)
  have disarm {g : State → State} (h : tpgDisarm n (unstage init s) = g (unstage init s)) :
      exec (.tpgDisarm init n) s = .next (cmd g) :=
    access ((tpgWrite_disarm (s := unstage init s) howner).trans h)
  let u := unstage init s
  exact ⟨fun hstate => arm (tpgArm_busy (s := u) hstate), fun hstate hcfg => arm (tpgArm_badConfig (s := u) hstate hcfg),
    fun hstate hcfg => ⟨fun h => arm (tpgArm_inTime (s := u) hstate hcfg h),
      fun h htrain => arm (tpgArm_lateTrain (s := u) hstate hcfg h htrain),
      fun h htrain => arm (tpgArm_lateOneShot (s := u) hstate hcfg h htrain)⟩,
    fun h => disarm (tpgDisarm_inPulse (s := u) h), fun h => disarm (tpgDisarm_atOnce (s := u) h)⟩

end Sys2Proof.Machine

end

section
/-!
PROOFS. The ownership of generators, capture units and pins (R358, R359): what the first write of an OWNER register in a CLK_PER
cycle leaves.
-/

namespace Sys2Proof.Machine

section
variable {init w : Nat} {o : Owned} {frel rel claim : Bool} {s : State}

/-- No write of the OWNER register came before in the present CLK_PER cycle. -/
def firstOfCycle (s : State) (o : Owned) : Prop := ∀ t ∈ s.pls.turns, t.reg = o.reg → t.cycle ≠ s.ticks / 3

/-- The turn of an OWNER register in the present cycle, with its writes, as the unit's owner stands. -/
def turnWith (s : State) (o : Owned) (ws : List OwnerBits) : Turn := ⟨o.reg, s.ticks / 3, ownerOf s o, ws⟩

theorem turnOf_first (h : firstOfCycle s o) : turnOf s o = turnWith s o [] := by
  have hnone : (s.pls.turns.find? fun t => t.reg == o.reg && t.cycle == s.ticks / 3) = none := by
    rw [List.find?_eq_none]
    intro t ht
    simpa using h t ht
  rw [turnOf, hnone]
  rfl

/-! ### The owner that one write leaves -/

theorem winner_claim : (turnWith s o [⟨init, false, false, true⟩]).winner = (ownerOf s o).or (some init) := rfl

/-- Of two claims of a free unit in one cycle the lower initiator's stands. -/
theorem winner_twoClaims (r c a b : Nat) :
    Turn.winner ⟨r, c, none, [⟨a, false, false, true⟩, ⟨b, false, false, true⟩]⟩ = some (min a b) := rfl

theorem winner_release : (turnWith s o [⟨init, false, true, false⟩]).winner =
    if ownerOf s o = some init then none else ownerOf s o := by
  simp [Turn.winner, Turn.released, Turn.freed, turnWith]

theorem winner_forceRelease : (turnWith s o [⟨init, true, false, false⟩]).winner = if init = 6 then none else ownerOf s o := by
  simp [Turn.winner, Turn.released, Turn.freed, turnWith]

/-! ### What the write does beside it -/

/-- The first write of a cycle displaces no claim. -/
theorem displace_first (now : Option Nat) (t : State) : displace o (turnWith s o []) now t = t := by
  unfold displace
  split
  · exact if_neg (by simp [turnWith])
  · rfl

/-- The state with the write kept and the owner that it leaves. -/
def ownerKept (o : Owned) (w : OwnerBits) (s : State) : State :=
  setOwner o (turnWith s o [w]).winner (keepTurn (turnWith s o [w]) s)

/-- A claim by one that does not own the unit then is refused and logged. -/
def claimJudged (o : Owned) (w : OwnerBits) (now : Option Nat) (s : State) : State :=
  match now with
  | some v => if w.claim && v != w.init then refuseClaim o w.init v s else s
  | none => s

theorem claimJudged_none (now : Option Nat) : claimJudged o ⟨init, frel, rel, false⟩ now s = s := by
  cases now <;> rfl

theorem forceRelease_none (t : Turn) (hw : ¬(frel = true ∧ init = 6)) : forceRelease o t ⟨init, frel, rel, claim⟩ s = s := by
  unfold forceRelease
  split
  · exact if_neg (by simpa using hw)
  · rfl

theorem ownerWrite_first (h : firstOfCycle s o) : ownerWrite init o frel rel claim s =
    (let w : OwnerBits := ⟨init, frel, rel, claim⟩
     let now := (turnWith s o [w]).winner
     let t := claimJudged o w now (forceRelease o (turnWith s o []) w (ownerKept o w s))
     if partRefused (turnWith s o []) w now then refuseWrite init o.reg OWNER t else t) := by
  simp only [ownerWrite, turnOf_first h, displace_first]
  rfl

/-! ### A claim -/

theorem claim_taken (h : firstOfCycle s o) (howner : ownerOf s o = none ∨ ownerOf s o = some init) :
    ownerWrite init o false false true s = setOwner o (some init) (keepTurn (turnWith s o [⟨init, false, false, true⟩]) s) := by
  have hnow : (turnWith s o [⟨init, false, false, true⟩]).winner = some init := by
    rw [winner_claim]
    obtain howner | howner := howner <;> rw [howner] <;> rfl
  simp [ownerWrite_first h, ownerKept, hnow, claimJudged, partRefused, forceRelease_none]

theorem claim_refused (h : firstOfCycle s o) (howner : ownerOf s o = some w) (hw : w ≠ init) :
    ownerWrite init o false false true s = icError init o.reg true OWNER (refuseClaim o init w
      (setOwner o (some w) (keepTurn (turnWith s o [⟨init, false, false, true⟩]) s))) := by
  have hnow : (turnWith s o [⟨init, false, false, true⟩]).winner = some w := by rw [winner_claim, howner]; rfl
  simp [ownerWrite_first h, ownerKept, hnow, claimJudged, partRefused, forceRelease_none, hw, refuseWrite]

/-! ### A release -/

theorem release_taken (h : firstOfCycle s o) (howner : ownerOf s o = some init) :
    ownerWrite init o false true false s = setOwner o none (keepTurn (turnWith s o [⟨init, false, true, false⟩]) s) := by
  have hnow : (turnWith s o [⟨init, false, true, false⟩]).winner = none := by rw [winner_release, if_pos howner]
  have hfreed : (turnWith s o []).freed = some init := howner
  have hwrites : (turnWith s o []).writes = [] := rfl
  simp [ownerWrite_first h, ownerKept, hnow, claimJudged_none, partRefused, forceRelease_none, hfreed, hwrites]

theorem release_refused {v : Option Nat} (h : firstOfCycle s o) (howner : ownerOf s o = v) (hv : v ≠ some init) :
    ownerWrite init o false true false s = icError init o.reg true OWNER
      (setOwner o v (keepTurn (turnWith s o [⟨init, false, true, false⟩]) s)) := by
  subst howner
  have hnow : (turnWith s o [⟨init, false, true, false⟩]).winner = ownerOf s o := by rw [winner_release, if_neg hv]
  have hfreed : (turnWith s o []).freed = ownerOf s o := rfl
  simp [ownerWrite_first h, ownerKept, hnow, claimJudged_none, partRefused, forceRelease_none, hfreed, hv, refuseWrite]

/-! ### A forced release -/

theorem forceRelease_refused {v : Option Nat} (h : firstOfCycle s o) (hinit : init ≠ 6) (howner : ownerOf s o = v) :
    ownerWrite init o true false false s = icError init o.reg true OWNER
      (setOwner o v (keepTurn (turnWith s o [⟨init, true, false, false⟩]) s)) := by
  subst howner
  have hnow : (turnWith s o [⟨init, true, false, false⟩]).winner = ownerOf s o := by rw [winner_forceRelease, if_neg hinit]
  simp [ownerWrite_first h, ownerKept, hnow, claimJudged_none, partRefused, forceRelease_none, hinit, refuseWrite]

theorem forceRelease_unowned (h : firstOfCycle s o) (hinit : init = 6) (howner : ownerOf s o = none) :
    ownerWrite init o true false false s = setOwner o none (keepTurn (turnWith s o [⟨init, true, false, false⟩]) s) := by
  subst hinit
  have hnow : (turnWith s o [⟨6, true, false, false⟩]).winner = none := by rw [winner_forceRelease, if_pos rfl]
  have hfreed : (turnWith s o []).freed = none := howner
  simp [ownerWrite_first h, ownerKept, hnow, claimJudged_none, partRefused, forceRelease, hfreed]

theorem forceRelease_owned (h : firstOfCycle s o) (hinit : init = 6) (howner : ownerOf s o = some w) :
    ownerWrite init o true false false s = logEvent 0x63 0 init o.unit (forcedData o init w)
      (setOwner o none (keepTurn (turnWith s o [⟨init, true, false, false⟩]) s)) := by
  subst hinit
  have hnow : (turnWith s o [⟨6, true, false, false⟩]).winner = none := by rw [winner_forceRelease, if_pos rfl]
  have hfreed : (turnWith s o []).freed = some w := howner
  simp [ownerWrite_first h, ownerKept, hnow, claimJudged_none, partRefused, forceRelease, hfreed]

end

section
variable (init : Init) (k : Fin 24) (p : Fin 48) (s : State)

/-- What a write of an OWNER register by an initiator does. -/
def ownerAccess (init : Init) (o : Owned) (frel rel claim : Bool) (s : State) : State :=
  asAccess init o.reg true (ownerWrite init o frel rel claim) s

theorem exec_unitClaim : exec (.unitClaim init k) s = .next (ownerAccess init (ownedUnit k) false false true s) := rfl
theorem exec_unitRelease : exec (.unitRelease init k) s = .next (ownerAccess init (ownedUnit k) false true false s) := rfl
theorem exec_unitForceRelease : exec (.unitForceRelease init k) s = .next (ownerAccess init (ownedUnit k) true false false s) := rfl
theorem exec_pinClaim : exec (.pinClaim init p) s = .next (ownerAccess init (pinUnit p) false false true s) := rfl
theorem exec_pinRelease : exec (.pinRelease init p) s = .next (ownerAccess init (pinUnit p) false true false s) := rfl
theorem exec_pinForceRelease : exec (.pinForceRelease init p) s = .next (ownerAccess init (pinUnit p) true false false s) := rfl

end

/-- Settles O44: the write that the access lets through is the first of its cycle, so that the owner decides it alone. -/
theorem unitOwnership : Obligations.UnitOwnership := by
  intro init s u open_ kept owned free claims releases forces
  have taken {o : Owned} {frel rel claim : Bool} {c : Instr} {t : State} (hc : exec c s = .next (ownerAccess init o frel rel claim s))
      (ho : open_ o) (ht : ownerWrite init o frel rel claim u = t) : exec c s = .next t := by
    obtain ⟨hlost, hcause, -⟩ := ho
    rw [hc, ownerAccess, asAccess_taken hlost hcause, ht]
  have first {o : Owned} (ho : open_ o) : firstOfCycle u o := by
    obtain ⟨-, -, hfirst⟩ := ho
    exact hfirst
  have claiming {o : Owned} {c : Instr} (hc : exec c s = .next (ownerAccess init o false false true s)) : claims o c := fun ho =>
    ⟨fun howner => taken hc ho (claim_taken (first ho) howner), fun _ howner hw => taken hc ho (claim_refused (first ho) howner hw)⟩
  have releasing {o : Owned} {c : Instr} (hc : exec c s = .next (ownerAccess init o false true false s)) : releases o c := fun ho =>
    ⟨fun howner => taken hc ho (release_taken (first ho) howner),
      fun howner => taken hc ho (release_refused (v := none) (first ho) howner nofun),
      fun w howner hw => taken hc ho (release_refused (v := some w) (first ho) howner (by simpa using hw))⟩
  have forcing {o : Owned} {c : Instr} (hc : exec c s = .next (ownerAccess init o true false false s)) : forces o c := fun ho =>
    ⟨fun hinit w howner => taken hc ho (forceRelease_refused (v := some w) (first ho) hinit howner),
      fun hinit howner => taken hc ho (forceRelease_refused (v := none) (first ho) hinit howner),
      fun hinit howner => taken hc ho (forceRelease_unowned (first ho) hinit howner),
      fun _ hinit howner => taken hc ho (forceRelease_owned (first ho) hinit howner)⟩
  exact ⟨fun k => ⟨claiming (exec_unitClaim init k s), releasing (exec_unitRelease init k s),
      forcing (exec_unitForceRelease init k s)⟩,
    fun p => ⟨claiming (exec_pinClaim init p s), releasing (exec_pinRelease init p s), forcing (exec_pinForceRelease init p s)⟩,
    winner_twoClaims, fun a write f => ⟨fun hlost => asAccess_lost hlost a write f,
      fun hlost hcause => asAccess_taken hlost hcause f, fun hlost hcause => asAccess_refused hlost hcause f⟩⟩

end Sys2Proof.Machine

end

section
/-!
PROOFS. Capture units (R341, R352 to R356, R359): an edge at the input, the filter, the acceptance of an edge, the windows that close
empty, and the reads of the queue.
-/

namespace Sys2Proof.Machine

section
variable {n f : Nat} {s : State}

/-! ### An edge at the input (R341, R352) -/

theorem evcConnected_iff : evcConnected s n = true ↔ ∃ b < 48, s.rd (PMX_PINn_FUNC b) = 17 + n := by
  simp [evcConnected]

/-- The capture unit behind a change of its input's level. -/
def levelFlipped (s : State) (n : Nat) : EvcState := { s.evc n with level := !(s.evc n).level }

/-- The transition that an edge is, `f` fine steps after the present tick: it falls where the level was high. -/
def edgeNow (s : State) (n f : Nat) : Transition :=
  ⟨s.ticks, 256 * s.tb.now + f * s.rate, s.rd (EVCn_PATH_PATH n) * s.rate / 256, (s.evc n).level, (s.evc n).stepped,
    s.flag SAF_STAT_CLKFAULT⟩

theorem evcEdge_unconnected (h : ¬∃ b < 48, s.rd (PMX_PINn_FUNC b) = 17 + n) : evcEdge n f s = s := by
  rw [← evcConnected_iff, Bool.not_eq_true] at h
  simp [evcEdge, h]

section
variable (hwired : ∃ b < 48, s.rd (PMX_PINn_FUNC b) = 17 + n)
include hwired

theorem evcEdge_withdraws {y : Transition} (hcand : (s.evc n).cand = some y) : evcEdge n f s =
    s.setEvc n { levelFlipped s n with cand := none, stepped := (s.evc n).stepped || y.stepped } := by
  rw [← evcConnected_iff] at hwired
  simp [evcEdge, levelFlipped, evcUnused, hwired, hcand]

variable (hcand : (s.evc n).cand = none)
include hcand

theorem evcEdge_off (hoff : ¬(evcPowered s = true ∧ s.flag (EVCn_CTRL_EN n) = true)) :
    evcEdge n f s = s.setEvc n (levelFlipped s n) := by
  rw [← evcConnected_iff] at hwired
  have hidle : (!evcPowered s || !s.flag (EVCn_CTRL_EN n)) = true := by
    rw [← Bool.not_and, Bool.not_eq_true', ← Bool.not_eq_true, Bool.and_eq_true]
    exact hoff
  simp [evcEdge, levelFlipped, hwired, hcand, hidle]

variable (hon : evcPowered s = true ∧ s.flag (EVCn_CTRL_EN n) = true)
include hon

/-- An edge of an enabled unit that finds no other in the filter. -/
theorem evcEdge_on : evcEdge n f s =
    if s.rd (EVCn_CTRL_FILT n) = 0 then evcAccept n (edgeNow s n f) (s.setEvc n { levelFlipped s n with stepped := false })
    else s.setEvc n { levelFlipped s n with stepped := false, cand := some (edgeNow s n f) } := by
  rw [← evcConnected_iff] at hwired
  obtain ⟨hpower, hen⟩ := hon
  simp [evcEdge, levelFlipped, edgeNow, State.fineOf, hwired, hcand, hpower, hen]

theorem evcEdge_unfiltered (hfilt : s.rd (EVCn_CTRL_FILT n) = 0) : evcEdge n f s =
    evcAccept n (edgeNow s n f) (s.setEvc n { levelFlipped s n with stepped := false }) := by
  rw [evcEdge_on hwired hcand hon, if_pos hfilt]

theorem evcEdge_filtered (hfilt : s.rd (EVCn_CTRL_FILT n) ≠ 0) : evcEdge n f s =
    s.setEvc n { levelFlipped s n with stepped := false, cand := some (edgeNow s n f) } := by
  rw [evcEdge_on hwired hcand hon, if_neg hfilt]

end

/-! ### Filter, acceptance and windows (R352, R353, R355) -/

theorem filterDue_iff {y : Transition} (hcand : (s.evc n).cand = some y) (k : Nat) :
    filterDue s n k = true ↔ y.tick + s.rd (EVCn_CTRL_FILT n) ≤ k := by
  rw [filterDue, hcand]
  exact decide_eq_true_iff

section
variable {y : Transition}

theorem evcAccept_unselected (h : evcSelects s n y.fall = false) : evcAccept n y s =
    s.setEvc n { s.evc n with stepped := (s.evc n).stepped || y.stepped } := if_pos (by simp [h])

theorem evcAccept_close {k : Nat} (h : evcSelects s n y.fall = true) (haccepted : (s.evc n).accepted = some k)
    (hclose : y.tick < k + max (s.rd (EVCn_CTRL_FILT n) + 2) 4) : evcAccept n y s =
    ((s.setEvc n { s.evc n with stepped := (s.evc n).stepped || y.stepped }).wr (EVCn_STAT_OVF n) 1).count (EVCn_COUNT_OVF n) := by
  simp [evcAccept, evcLose, evcUnused, h, haccepted, hclose]

end

theorem evcMiss_empty {w : Span} (h : emptyWindows s n w ≠ 0) :
    evcMiss n w s = (s.wr (EVCn_STAT_MISS n) 1).count (EVCn_COUNT_MISS n) (emptyWindows s n w) := if_neg h

theorem evcMiss_none {w : Span} (h : emptyWindows s n w = 0) : evcMiss n w s = s := if_pos h

/-! ### The reads of the queue (R354) -/

section
variable {init : Nat} {c : Capture} {rest : List Capture}

/-- The captures that are latched for other initiators. -/
def latchedOthers (s : State) (init n : Nat) : List (Nat × Capture) := (s.evc n).latched.filter fun p => p.1 != init

theorem evcCapFracRead_oldest (h : (s.evc n).queue = c :: rest) : evcCapFracRead init n s =
    s.setEvc n { s.evc n with latched := (init, c) :: latchedOthers s init n } := by
  simp only [evcCapFracRead, h]
  rfl

theorem evcCapFracRead_empty (h : (s.evc n).queue = []) : evcCapFracRead init n s =
    s.setEvc n { s.evc n with latched := latchedOthers s init n } := by
  simp only [evcCapFracRead, h]
  rfl

theorem evcCapInfoRead_unlatched (h : latchedCapture (s.evc n) init = none) : evcCapInfoRead init n s = s := by
  simp only [evcCapInfoRead, h]

theorem evcCapInfoRead_removes (h : latchedCapture (s.evc n) init = some c) (hqueue : (s.evc n).queue = c :: rest) :
    evcCapInfoRead init n s = s.setEvc n { s.evc n with latched := latchedOthers s init n, queue := rest } := by
  simp only [evcCapInfoRead, h, hqueue, List.head?_cons, if_true, List.drop_one, List.tail_cons]
  rfl

theorem evcCapInfoRead_gone (h : latchedCapture (s.evc n) init = some c) (hqueue : (s.evc n).queue.head? ≠ some c) :
    evcCapInfoRead init n s = s.setEvc n { s.evc n with latched := latchedOthers s init n } := by
  simp only [evcCapInfoRead, h, if_neg hqueue]
  rfl

end

end

section
variable (init : Init) (n : Fin 8) (fine : Fin 256) (s : State)

theorem exec_evcInputEdge : exec (.evcInputEdge n fine) s = .next (evcEdge n fine s) := rfl
theorem exec_evcFlush : exec (.evcFlush init n) s = .next (asAccess init (EVCn_CTRL n) true
    (fun s => guardW (owns s init (evcUnit n)) init (EVCn_CTRL n) OWNER (evcFlush n) s) s) := rfl
theorem exec_evcCapfracRead :
    exec (.evcCapfracRead init n) s = .next (asAccess init (EVCn_CAPFRAC n) false (evcCapFracRead init n) s) := rfl
theorem exec_evcCapinfoRead :
    exec (.evcCapinfoRead init n) s = .next (asAccess init (EVCn_CAPINFO n) false (evcCapInfoRead init n) s) := rfl

end

/-- Settles O45: an edge is judged by its ball, the filter and the unit's enable, its acceptance by EDGE and the spacing, and the reads
by the queue and what is latched. -/
theorem captureCommands : Obligations.CaptureCommands := by
  intro init n fine w s e flipped path x ctl frac info on wired
  let u := unstage init s
  have flush {g : State → State} (h : guardW (owns u init (evcUnit n)) init (EVCn_CTRL n) OWNER (evcFlush n) u = g u) :
      exec (.evcFlush init n) s = .next (ctl g) := congrArg done (asAccess_congr h _ _)
  have fracRead {g : State → State} (h : evcCapFracRead init n u = g u) : exec (.evcCapfracRead init n) s = .next (frac g) :=
    congrArg done (asAccess_congr h _ _)
  have infoRead {g : State → State} (h : evcCapInfoRead init n u = g u) : exec (.evcCapinfoRead init n) s = .next (info g) :=
    congrArg done (asAccess_congr h _ _)
  exact ⟨fun hfree => congrArg done (evcEdge_unconnected hfree),
    fun hwired => ⟨fun y hcand => congrArg done (evcEdge_withdraws hwired hcand),
    fun hoff hcand => congrArg done (evcEdge_off hwired hcand hoff),
    fun hon hcand hfilt => congrArg done (evcEdge_unfiltered hwired hcand hon hfilt),
    fun hon hcand hfilt => congrArg done (evcEdge_filtered hwired hcand hon hfilt)⟩,
    fun y k hcand => filterDue_iff hcand k, fun y h => evcAccept_unselected h, fun y k h => evcAccept_close h,
    ⟨evcMiss_empty, evcMiss_none⟩, fun howner => flush (guardW_allowed (owns_owner (s := u) howner) ..),
    fun hforeign => flush (guardW_refused (owns_foreign (s := u) hforeign) ..),
    fun c rest hqueue => fracRead (evcCapFracRead_oldest hqueue), fun hqueue => fracRead (evcCapFracRead_empty hqueue),
    fun h => infoRead (evcCapInfoRead_unlatched h), fun c h =>
      ⟨fun rest hqueue => infoRead (evcCapInfoRead_removes h hqueue), fun hqueue => infoRead (evcCapInfoRead_gone h hqueue)⟩⟩

end Sys2Proof.Machine

end

section
/-!
PROOFS. PCIe and what it shares with SV (R535 to R539): the MSI-X vectors, the mailboxes, the link and the requests of the host.
-/

namespace Sys2Proof.Machine

section
variable {init v len : Nat} {s : State}

/-! ### Vectors (R537) -/

theorem vectorGoes_iff : vectorGoes s v = true ↔
    s.flag HST_PCISTAT_MSIXEN = true ∧ s.hst.mask = false ∧ s.flag HST_PCISTAT_BME = true ∧ vectorMasked s v = false := by
  simp [vectorGoes, and_assoc]

theorem raiseVector_leaves (h : vectorGoes s v = true) :
    raiseVector v s = { s with hst := { s.hst with vectors := s.hst.vectors ++ [v] } } := if_pos h

theorem raiseVector_pends (h : ¬vectorGoes s v = true) :
    raiseVector v s = { s with hst := { s.hst with pba := s.hst.pba ||| 1 <<< v } } := if_neg h

theorem msixTrig_ignored (h : 7 ≤ init ∨ v < 3) : msixTrig init v s = s := if_neg (by omega)

theorem msixTrig_raises (hinit : init < 7) (hv : 3 ≤ v) : msixTrig init v s = raiseVector v s := if_pos ⟨hinit, hv⟩

/-- Vectors whose mask bits take their reset value, which memory holds as zero, or had it before, have it. -/
theorem maskByte_reset (l : List Nat) (h : v ∈ l ∨ s.byte (0x10151000 + 16 * v + 12) = 0) (hwf : s.wf = true) :
    (l.foldl (fun (s : State) k => s.setBytes (0x10151000 + 16 * k + 12) [0]) s).byte (0x10151000 + 16 * v + 12) = 0 := by
  induction l generalizing s with
  | nil => exact h.resolve_left List.not_mem_nil
  | cons k ks ih =>
    refine ih ?_ (setBytes_wf _ _ _ hwf)
    obtain rfl | hne := eq_or_ne v k
    · exact .inr (byte_setByte_eq _ _ _ hwf)
    · refine h.imp (fun hmem => (List.mem_cons.mp hmem).resolve_left hne) fun hbyte => ?_
      exact (byte_setByte_ne _ _ (by omega)).trans hbyte

theorem vectorMasked_maskVectors (hv : v < 64) (hwf : s.wf = true) : vectorMasked (maskVectors s) v = true := by
  rw [vectorMasked, maskVectors, maskByte_reset _ (.inl (List.mem_range.mpr hv)) hwf]
  rfl

/-! ### Mailboxes (R539) -/

/-- A length that a mailbox takes. -/
theorem mailLen_iff : mailLen len = true ↔ 1 ≤ len ∧ len ≤ 4096 := by simp [mailLen]

theorem mbinPost_refused (h : s.flag HST_MBIN_FULL = true ∨ ¬(1 ≤ len ∧ len ≤ 4096)) :
    mbinPost len s = s.wr HST_STAT_CFGERR 1 := by
  rw [← mailLen_iff] at h
  exact if_pos (by simpa using h)

theorem mbinPost_taken (hfree : s.flag HST_MBIN_FULL = false) (hlen : 1 ≤ len ∧ len ≤ 4096) :
    mbinPost len s = ((s.wr HST_MBIN_LEN len).wr HST_MBIN_FULL 1).wr HST_STAT_MBIN 1 := by
  rw [← mailLen_iff] at hlen
  exact if_neg (by simp [hfree, hlen])

theorem mbinAck_empty (h : s.flag HST_MBIN_FULL = false) : mbinAck s = s := if_neg (ne_true_of_eq_false h)

theorem mbinAck_full (h : s.flag HST_MBIN_FULL = true) : mbinAck s = raiseVector 2 (s.wr HST_MBIN_FULL 0) := if_pos h

theorem mboutPost_refused (h : s.flag HST_MBOUT_FULL = true ∨ ¬(1 ≤ len ∧ len ≤ 4096)) :
    mboutPost len s = s.wr HST_STAT_CFGERR 1 := by
  rw [← mailLen_iff] at h
  exact if_pos (by simpa using h)

theorem mboutPost_taken (hfree : s.flag HST_MBOUT_FULL = false) (hlen : 1 ≤ len ∧ len ≤ 4096) :
    mboutPost len s = raiseVector 0 ((s.wr HST_MBOUT_LEN len).wr HST_MBOUT_FULL 1) := by
  rw [← mailLen_iff] at hlen
  exact if_neg (by simp [hfree, hlen])

theorem mboutAck_empty (h : s.flag HST_MBOUT_FULL = false) : mboutAck s = s := if_neg (ne_true_of_eq_false h)

theorem mboutAck_full (h : s.flag HST_MBOUT_FULL = true) : mboutAck s = (s.wr HST_MBOUT_FULL 0).wr HST_STAT_MBOUTFREE 1 := if_pos h

/-! ### The link and the requests (R535, R536, R538) -/

/-- The link goes down: PCIEDOWN tells it where the link was up. -/
theorem pcieLink_down (speed width : Nat) : pcieLink false speed width s =
    (let d := if s.flag HST_STAT_LINKUP then s.wr HST_STAT_PCIEDOWN 1 else s
     ((d.wr HST_STAT_LINKUP 0).wr HST_PCISTAT_SPEED 0).wr HST_PCISTAT_WIDTH 0) := rfl

theorem pcieRequest_off (h : hostOn s = false) (req : PcieReq) : pcieRequest req s = s := if_pos (by simp [h])

section
variable (hon : hostOn s = true)
include hon

theorem pcieRequest_write (a : BitVec 29) (bs : List Byte) : pcieRequest (.write a bs) s = (busWrite 10 a.toNat bs s).2 :=
  if_neg (by simp [hon])

theorem pcieRequest_config (bme msix mask : Bool) : pcieRequest (.config bme msix mask) s = pcieConfig bme msix mask s :=
  if_neg (by simp [hon])

theorem pcieRequest_configBar (b : BitVec 32) : pcieRequest (.configBar b) s = pcieBar b.toNat s := if_neg (by simp [hon])

theorem pcieRequest_configRead (d : BitVec 10) : pcieRequest (.configRead d) s =
    returned 0 (toLE 4 (pcieConfigRead d.toNat s).1) (pcieConfigRead d.toNat s).2 := if_neg (by simp [hon])

/-- A read completes with what its cause stands for. -/
theorem pcieRequest_read {a : BitVec 29} {n c : Nat} {d : List Byte} {t : State} (h : busRead 10 a.toNat n s = (c, d, t)) :
    pcieRequest (.read a n) s = returned (if c = 0 then 0 else if c = DECERR then UNSUPPORTED else COMPLETER_ABORT) d t := by
  have hinit : PCIE_INIT = 10 := rfl
  simp only [pcieRequest, hon, hinit, h]
  rfl

end

theorem pcieConfigRead_open {d : BitVec 10} (h : d ∉ [0#10, 2#10, 4#10]) :
    pcieConfigRead d.toNat s = s.fresh 32 := by
  simp only [List.mem_cons, List.not_mem_nil, or_false, not_or] at h
  obtain ⟨hid, hclass, hbar⟩ := h
  unfold pcieConfigRead
  split
  · next hd => exact absurd (BitVec.eq_of_toNat_eq hd) hid
  · next hd => exact absurd (BitVec.eq_of_toNat_eq hd) hclass
  · next hd => exact absurd (BitVec.eq_of_toNat_eq hd) hbar
  · rfl

end

section
variable (init : Init) (s : State)

theorem exec_msixTrig (v : Fin 64) : exec (.msixTrig init v) s = .next (asAccess init HST_MSIXTRIG true (msixTrig init v) s) := rfl
theorem exec_mbinPost (len : BitVec 13) : exec (.mbinPost init len) s =
    .next (asAccess init HST_MBIN true (guardW (init.val == 10) init HST_MBIN OWNER (mbinPost len.toNat)) s) := rfl
theorem exec_mbinAck : exec (.mbinAck init) s =
    .next (asAccess init HST_MBIN true (guardW (init.val == 6) init HST_MBIN OWNER mbinAck) s) := rfl
theorem exec_mboutPost (len : BitVec 13) : exec (.mboutPost init len) s =
    .next (asAccess init HST_MBOUT true (guardW (init.val == 6) init HST_MBOUT OWNER (mboutPost len.toNat)) s) := rfl
theorem exec_mboutAck : exec (.mboutAck init) s =
    .next (asAccess init HST_MBOUT true (guardW (init.val == 10) init HST_MBOUT OWNER mboutAck) s) := rfl
theorem exec_pcieReset : exec .pcieReset s = .next (pcieReset s) := rfl
theorem exec_pcieLinkChange (up : Bool) (speed : Fin 8) (width : Fin 4) :
    exec (.pcieLinkChange up speed width) s = .next (if hostOn s then pcieLink up speed width s else s) := rfl
theorem exec_pcieRequest (req : PcieReq) : exec (.pcieRequest req) s = .next (pcieRequest req s) := rfl

end

end Sys2Proof.Machine

end

section
/-!
PROOFS. The byte links (R540 to R545): the SPI transactions, the rings, what arrives at a UART and leaves it, and the I²C transfers.
-/

namespace Sys2Proof.Machine

section
variable {s : State}

/-! ### SPI (R532, R541, R542) -/

theorem spiOn_iff : spiOn s = true ↔ hostOn s = true ∧ ¬(s.rd HST_BOOT_STATUS = BOOT_RUNNING ∧ s.rd HST_BOOT_BOOTSEL = 0) := by
  simp [spiOn, imp_iff_not_or]

theorem spiStatus_off (h : spiOn s = false) : spiStatus s = s := if_pos (by simp [h])

theorem spiStatus_on (h : spiOn s = true) : spiStatus s =
    { s with hst := { s.hst with cause := 0, data := [spiStatusByte s], werr := false } } := if_neg (by simp [h])

theorem spiWrite_off (h : spiOn s = false) (a : Nat) (bs : List Byte) : spiWrite a bs s = s := if_pos (by simp [h])

theorem spiWrite_on (h : spiOn s = true) {a c : Nat} {bs : List Byte} {t : State} (hbus : busWrite 11 a bs s = (c, t)) :
    spiWrite a bs s = if c = 0 then t else ({ t with hst := { t.hst with werr := true } } : State).wr HST_STAT_SPIWERR 1 := by
  have hinit : BRIDGE_INIT = 11 := rfl
  simp only [spiWrite, h, hinit, hbus]
  rfl

theorem spiRead_off (h : spiOn s = false) (a n : Nat) (inTime : Bool) : spiRead a n inTime s = s := if_pos (by simp [h])

section
variable (h : spiOn s = true) {a n c : Nat} {d : List Byte} {t : State}
  (hbus : busRead 11 a (min n (256 - a % 256)) s = (c, d, t))
include h hbus

/-- A read whose data have not returned by the status byte gives zeros behind it. -/
theorem spiRead_late : spiRead a n false s = returned 0 (2#8 :: List.replicate (min n (256 - a % 256)) 0) t := by
  have hinit : BRIDGE_INIT = 11 := rfl
  simp only [spiRead, h, hinit, hbus]
  rfl

theorem spiRead_inTime : spiRead a n true s =
    if c ≠ 0 then returned c (1#8 :: List.replicate (min n (256 - a % 256)) 0) t else returned 0 (0#8 :: d) t := by
  have hinit : BRIDGE_INIT = 11 := rfl
  simp only [spiRead, h, hinit, hbus]
  rfl

end

theorem spiEmpw_off (h : spiOn s = false ∨ linkOn s 0 = false) (bs : List Byte) : spiEmpw bs s = s :=
  if_neg (by simpa [Bool.and_eq_true, imp_iff_not_or] using h)

theorem spiEmpw_on (h : spiOn s = true) (hlink : linkOn s 0 = true) (bs : List Byte) :
    spiEmpw bs s = bs.foldl (fun s b => (rxPush 0 b s).2) s := if_pos (by simp [h, hlink])

theorem spiEmpr_off (h : spiOn s = false) (n : Nat) : spiEmpr n s = s := if_pos (by simp [h])

theorem spiEmpr_on (h : spiOn s = true) (n : Nat) : spiEmpr n s = returned 0 (txRead 0 n 0 s).1 (txRead 0 n 0 s).2 :=
  if_neg (by simp [h])

/-- An opcode other than the five is ignored and returns zero bytes. -/
theorem spiTransaction_other (h : spiOn s = true) {b : Byte} (hb : b.toNat ∉ [0x05, 0x02, 0x0B, 0x42, 0x4B]) (bs : List Byte) (n : Nat)
    (inTime : Bool) : spiTransaction b bs n inTime s = returned 0 (List.replicate n 0) s := by
  simp only [List.mem_cons, List.not_mem_nil, or_false, not_or] at hb
  obtain ⟨hstatus, hwrite, hread, hempw, hempr⟩ := hb
  unfold spiTransaction
  split
  · next hop => exact absurd hop hstatus
  · next hop => exact absurd hop hwrite
  · next hop => exact absurd hop hread
  · next hop => exact absurd hop hempw
  · next hop => exact absurd hop hempr
  · exact if_pos h

theorem toBE_length (n v : Nat) : (toBE n v).length = n := by rw [toBE, List.length_reverse, length_toLE]

theorem spiTransaction_write (a : BitVec 32) (bs : List Byte) :
    spiTransaction 0x02 (toBE 4 a.toNat ++ bs) 0 true s = spiWrite a.toNat bs s := by
  have haddr : ofBE ((toBE 4 a.toNat ++ bs).take 4) = a.toNat := ofBE_toBE_four _ a.isLt bs
  have hdata : (toBE 4 a.toNat ++ bs).drop 4 = bs := List.drop_left' (toBE_length 4 _)
  have hwrite : spiTransaction 0x02 (toBE 4 a.toNat ++ bs) 0 true s =
    spiWrite (ofBE ((toBE 4 a.toNat ++ bs).take 4)) ((toBE 4 a.toNat ++ bs).drop 4) s := rfl
  rw [hwrite, haddr, hdata]

theorem spiTransaction_read (a : BitVec 32) (n : Nat) (inTime : Bool) :
    spiTransaction 0x0B (toBE 4 a.toNat) n inTime s = spiRead a.toNat n inTime s := by
  have haddr : ofBE ((toBE 4 a.toNat).take 4) = a.toNat := by simpa using ofBE_toBE_four _ a.isLt []
  have hread : spiTransaction 0x0B (toBE 4 a.toNat) n inTime s = spiRead (ofBE ((toBE 4 a.toNat).take 4)) n inTime s := rfl
  rw [hread, haddr]

/-! ### The rings (R540) -/

theorem rxPush_full {j : Nat} (h : rxLevel s j = 4096) (b : Byte) : rxPush j b s = (false, s.wr HST_STAT_RXOVF 1) := if_pos h

theorem rxPush_taken {j : Nat} (h : rxLevel s j ≠ 4096) (b : Byte) : rxPush j b s =
    (let t := (memWrite 11 (s.rd (HST_Lj_RXBASE_BASE j) * 4096 + s.rd (HST_Lj_RXWP_INDEX j) % 4096) [b] s).2.count (HST_Lj_RXWP_INDEX j)
     (true, { t with hst := { t.hst with rxAt := t.hst.rxAt.setIfInBounds j t.ticks } })) := if_neg h

/-! ### The UARTs (R540, R543, R556) -/

section
variable {u : Nat} {b : Byte}

theorem uartByte_unheard {framing brk : Bool} (h : brk = true ∨ linkOn s (1 + u) = false) : uartByte u b framing brk s = s :=
  if_pos (by simpa using h)

theorem uartByte_misframed (h : linkOn s (1 + u) = true) : uartByte u b true false s = s.wr HST_STAT_UARTERR 1 := by
  simp [uartByte, h]

theorem uartByte_taken (h : linkOn s (1 + u) = true) : uartByte u b false false s = (rxPush (1 + u) b s).2 := by
  simp [uartByte, h]

theorem uartSent_string {rest : List Byte} (h : s.hst.tod.getD u [] = b :: rest) : uartSent u s =
    returned 0 [b] { s with hst := { s.hst with tod := s.hst.tod.setIfInBounds u rest } } := by
  simp only [uartSent, h]

variable (hnone : s.hst.tod.getD u [] = [])
include hnone

theorem uartSent_waits (h : linkOn s (1 + u) = false ∨ txLevel s (1 + u) = 0 ∨ startNear s u = true) : uartSent u s = s := by
  have hstays : ¬(linkOn s (1 + u) && txLevel s (1 + u) != 0 && !startNear s u) = true := by
    obtain h | h | h := h <;> simp [h]
  simp only [uartSent, hnone, if_neg hstays]

theorem uartSent_ring (hlink : linkOn s (1 + u) = true) (hbytes : txLevel s (1 + u) ≠ 0) (hstart : startNear s u = false) :
    uartSent u s = returned 0 [(txPop (1 + u) s).1] (txPop (1 + u) s).2 := by
  have hgoes : (linkOn s (1 + u) && txLevel s (1 + u) != 0 && !startNear s u) = true := by simp [hlink, hbytes, hstart]
  simp only [uartSent, hnone, if_pos hgoes]

end

/-! ### I²C (R544, R545) -/

section
variable {bs : List Byte} {n : Nat}

theorem i2cWrite_wakes (h : i2cWakes s = true) : i2cWrite bs s = returned 0 (bs.map fun _ => 1) (wakeEvent 3 s) := if_pos h

theorem i2cRead_wakes (h : i2cWakes s = true) : i2cRead n s = returned 0 (List.replicate n 0xFF) (wakeEvent 3 s) := if_pos h

variable (hawake : i2cWakes s = false)
include hawake

theorem i2cWrite_nacked (h : linkOn s 3 = false) : i2cWrite bs s = returned NACKED [] s := by simp [i2cWrite, hawake, h]

theorem i2cRead_nacked (h : linkOn s 3 = false) : i2cRead n s = returned NACKED [] s := by simp [i2cRead, hawake, h]

theorem i2cRead_on (h : linkOn s 3 = true) : i2cRead n s = returned 0 (txRead 3 n 0xFF s).1 (txRead 3 n 0xFF s).2 := by
  simp [i2cRead, hawake, h]

/-- One byte of a write: taken into the ring, or dropped, and acknowledged accordingly behind those before it. -/
def i2cTake (x : List Byte × State) (b : Byte) : List Byte × State :=
  (x.1 ++ [if (rxPush 3 b x.2).1 then 0 else 1], (rxPush 3 b x.2).2)

theorem i2cWrite_on (h : linkOn s 3 = true) :
    i2cWrite bs s = returned 0 (bs.foldl i2cTake ([], s)).1 (bs.foldl i2cTake ([], s)).2 := by
  simp only [i2cWrite, hawake, h]
  rfl

end

theorem i2cTakes_state (bs : List Byte) (x : List Byte × State) :
    (bs.foldl i2cTake x).2 = bs.foldl (fun s b => (rxPush 3 b s).2) x.2 := by
  induction bs generalizing x with
  | nil => rfl
  | cons b bs ih => exact ih (i2cTake x b)

theorem i2cTakes_length (bs : List Byte) (x : List Byte × State) : (bs.foldl i2cTake x).1.length = x.1.length + bs.length := by
  induction bs generalizing x with
  | nil => rfl
  | cons b bs ih =>
    rw [List.foldl_cons, ih, i2cTake, List.length_append, List.length_singleton, List.length_cons]
    omega

theorem i2cTakes_acks (bs : List Byte) (x : List Byte × State) (h : ∀ a ∈ x.1, a = 0#8 ∨ a = 1#8) :
    ∀ a ∈ (bs.foldl i2cTake x).1, a = 0#8 ∨ a = 1#8 := by
  refine List.foldlRecOn (motive := fun x => ∀ a ∈ x.1, a = 0#8 ∨ a = 1#8) bs i2cTake h fun y hy b _ a ha => ?_
  obtain ha | ha := List.mem_append.mp ha
  · exact hy a ha
  · rw [List.mem_singleton.mp ha]
    split
    · exact .inl rfl
    · exact .inr rfl

end

section
variable (s : State)

theorem exec_spiStatus : exec .spiStatus s = .next (spiStatus s) := rfl
theorem exec_spiWrite (a : BitVec 32) (bs : List Byte) : exec (.spiWrite a bs) s = .next (spiWrite a.toNat bs s) :=
  congrArg done (spiTransaction_write a bs)
theorem exec_spiRead (a : BitVec 32) (n : Nat) (inTime : Bool) : exec (.spiRead a n inTime) s = .next (spiRead a.toNat n inTime s) :=
  congrArg done (spiTransaction_read a n inTime)
theorem exec_spiEmpw (bs : List Byte) : exec (.spiEmpw bs) s = .next (spiEmpw bs s) := rfl
theorem exec_spiEmpr (n : Nat) : exec (.spiEmpr n) s = .next (spiEmpr n s) := rfl
theorem exec_uartByteReceived (u : Fin 2) (b : Byte) (framing brk : Bool) :
    exec (.uartByteReceived u b framing brk) s = .next (uartByte u b framing brk s) := rfl
theorem exec_uartByteSent (u : Fin 2) : exec (.uartByteSent u) s = .next (uartSent u s) := rfl
theorem exec_i2cWriteTransfer (bs : List Byte) : exec (.i2cWriteTransfer bs) s = .next (i2cWrite bs s) := rfl
theorem exec_i2cReadTransfer (n : Nat) : exec (.i2cReadTransfer n) s = .next (i2cRead n s) := rfl

end

end Sys2Proof.Machine

end

section
/-!
PROOFS. The time-of-day strings (R351, R498, R556), and the commands of the host's links with them.
-/

namespace Sys2Proof.Machine

section
variable {s : State}

/-! ### The queue of a string (R556) -/

theorem todQueue_ignored {u len : Nat} (h : s.hst.tod.getD u [] ≠ [] ∨ 96 < len) : todQueue u len s = s :=
  if_pos (by simpa using h)

theorem todQueue_taken {u len : Nat} (hidle : s.hst.tod.getD u [] = []) (hlen : len ≤ 96) :
    todQueue u len s = (s.wr (HST_TODu_LEN u) len).wr (HST_TODu_QUEUED u) (if len = 0 then 0 else 1) := by
  rw [todQueue, hidle, if_neg (by simpa using hlen), put_eq]
  simp only [bne_iff_ne, ite_not]

/-! ### The start of a string (R351) -/

/-- The delays that have passed are over. -/
def delaysOver (s : State) : State := { s with pls := { s.pls with tod := s.pls.tod.filter fun k => decide (s.ticks < k) } }

/-- The queued string of the paired UART leaves, and TODSENT tells it. -/
def stringStarts (s : State) : State :=
  let u := s.rd TPE_TODCFG_UART
  let text := s.bytes (0x10154000 + 0x80 * u) (s.rd (HST_TODu_LEN u))
  (({ s with hst := { s.hst with tod := s.hst.tod.setIfInBounds u text } } : State).wr (HST_TODu_QUEUED u) 0).wr TPE_TODSTAT_TODSENT 1

theorem todStart_early (h : todDue s s.ticks = false) : todStart s = s := if_pos (by simp [h])

section
variable (hdue : todDue s s.ticks = true)
include hdue

theorem todStart_due : todStart s =
    if !(delaysOver s).flag TPE_TODCFG_EN || !hostOn s then delaysOver s
    else if (delaysOver s).flag (HST_TODu_QUEUED ((delaysOver s).rd TPE_TODCFG_UART)) then stringStarts (delaysOver s)
    else (delaysOver s).wr TPE_TODSTAT_TODMISS 1 := if_neg (by simp [hdue])

theorem todStart_unpaired (h : (delaysOver s).flag TPE_TODCFG_EN = false ∨ hostOn s = false) : todStart s = delaysOver s :=
  (todStart_due hdue).trans (if_pos (by simpa using h))

variable (hen : (delaysOver s).flag TPE_TODCFG_EN = true) (hon : hostOn s = true)
include hen hon

theorem todStart_missing (hqueued : (delaysOver s).flag (HST_TODu_QUEUED ((delaysOver s).rd TPE_TODCFG_UART)) = false) :
    todStart s = (delaysOver s).wr TPE_TODSTAT_TODMISS 1 :=
  (todStart_due hdue).trans ((if_neg (by simp [hen, hon])).trans (if_neg (ne_true_of_eq_false hqueued)))

theorem todStart_sends (hqueued : (delaysOver s).flag (HST_TODu_QUEUED ((delaysOver s).rd TPE_TODCFG_UART)) = true) :
    todStart s = stringStarts (delaysOver s) :=
  (todStart_due hdue).trans ((if_neg (by simp [hen, hon])).trans (if_pos hqueued))

end

end

theorem exec_todQueue (init : Init) (u : Fin 2) (len : BitVec 7) (s : State) : exec (.todQueue init u len) s =
    .next (asAccess init (HST_TODu u) true (guardW (init.val == 6) init (HST_TODu u) OWNER (todQueue u len.toNat)) s) := rfl

/-- Settles O22: each command is its operation, an access by the initiator that the operation is open to, and the operations' cases are the
clauses. -/
theorem hostCommands : Obligations.HostCommands := by
  intro init v len l7 u a29 addr b bs n x y z dw sp wd s w acc refused bad fits
  have access {a : Nat} {f : State → State} {t : State} (h : f w = t) : done (asAccess init a true f s) = .next (acc a t) := by
    subst h
    exact congrArg done (asAccess_const ..)
  have foreign {a k : Nat} {f : State → State} (h : init.val ≠ k) :
      done (asAccess init a true (guardW (init.val == k) init a OWNER f) s) = refused a :=
    access (guardW_refused (beq_eq_false_iff_ne.mpr h) ..)
  have guarded {a k : Nat} {f : State → State} {t : State} (hk : init.val = k) (h : f w = t) :
      done (asAccess init a true (guardW (init.val == k) init a OWNER f) s) = .next (acc a t) :=
    access ((guardW_allowed (beq_iff_eq.mpr hk) ..).trans h)
  refine ⟨fun h => access (msixTrig_ignored h), fun hinit hv => ⟨fun h => access ?_, fun h => access ?_⟩,
    fun h => ⟨foreign h, foreign h⟩, fun h => ⟨foreign h, foreign h⟩,
    fun h => ⟨fun hbad => guarded h (mbinPost_refused hbad), fun hfree hlen => guarded h (mbinPost_taken hfree hlen),
      fun hfree => guarded h (mboutAck_empty hfree), fun hfull => guarded h (mboutAck_full hfull)⟩,
    fun h => ⟨fun hbad => guarded h (mboutPost_refused hbad), fun hfree hlen => guarded h (mboutPost_taken hfree hlen),
      fun hfree => guarded h (mbinAck_empty hfree), fun hfull => guarded h (mbinAck_full hfull)⟩,
    exec_pcieReset s, vectorMasked_maskVectors v.isLt, fun hoff => ?_, fun hon => ?_, spiOn_iff, fun hoff => ?_, fun hon => ?_,
    fun j => ⟨fun h => rxPush_full h b, fun h => rxPush_taken h b⟩,
    fun _ hlink => congrArg done (spiEmpw_off (.inr hlink) bs), fun hon hlink => congrArg done (spiEmpw_on hon hlink bs),
    fun hon => congrArg done (spiEmpr_on hon n), fun h => congrArg done (uartByte_unheard h),
    fun hlink => ⟨congrArg done (uartByte_misframed hlink), congrArg done (uartByte_taken hlink)⟩,
    fun _ _ h => congrArg done (uartSent_string h),
    fun hnone => ⟨fun h => congrArg done (uartSent_waits hnone h),
      fun hlink hbytes hstart => congrArg done (uartSent_ring hnone hlink hbytes hstart)⟩,
    fun h => ⟨congrArg done (i2cWrite_wakes h), congrArg done (i2cRead_wakes h)⟩,
    fun h hlink => ⟨congrArg done (i2cWrite_nacked h hlink), congrArg done (i2cRead_nacked h hlink)⟩,
    fun h hlink => ⟨congrArg done (i2cRead_on h hlink), (bs.foldl i2cTake ([], s)).1, ?_, ?_, ?_⟩,
    foreign, fun h => ⟨fun hno => guarded h (todQueue_ignored hno), fun hidle hlen => guarded h ?_⟩, todStart_early,
    fun hdue => ⟨todStart_unpaired hdue, todStart_missing hdue, todStart_sends hdue⟩⟩
  · exact (msixTrig_raises hinit hv).trans (raiseVector_pends (s := w) fun hgoes => h (vectorGoes_iff (s := s).mp hgoes))
  · exact (msixTrig_raises hinit hv).trans (raiseVector_leaves (s := w) (vectorGoes_iff (s := s).mpr h))
  · have request (req : PcieReq) : exec (.pcieRequest req) s = .next s := congrArg done (pcieRequest_off hoff req)
    exact ⟨congrArg done (if_neg (ne_true_of_eq_false hoff)), request _, request _, request _, request _, request _⟩
  · refine ⟨congrArg done (if_pos hon), congrArg done (if_pos hon), congrArg done (pcieRequest_write hon a29 bs), fun c d t hbus => ?_,
      congrArg done (pcieRequest_config hon x y z), congrArg done (pcieRequest_configBar hon addr), ?_⟩
    · have completes {k : Nat} (hk : (if c = 0 then 0 else if c = DECERR then UNSUPPORTED else COMPLETER_ABORT) = k) :
          exec (.pcieRequest (.read a29 n)) s = .next (returned k d t) :=
        congrArg done (hk ▸ pcieRequest_read hon hbus)
      exact ⟨fun hc => completes (if_pos hc), fun hc => completes (by rw [hc]; rfl),
        fun hc hdec => completes ((if_neg hc).trans (if_neg hdec))⟩
    · have config (d : BitVec 10) := congrArg done (pcieRequest_configRead hon d)
      exact ⟨config 0, config 2, config 4, fun hopen => ⟨_, (config dw).trans (by rw [pcieConfigRead_open hopen]; rfl)⟩⟩
  · refine ⟨congrArg done (spiStatus_off hoff), (exec_spiWrite s addr bs).trans (congrArg done (spiWrite_off hoff _ _)),
      (exec_spiRead s addr n x).trans (congrArg done (spiRead_off hoff _ _ _)), congrArg done (spiEmpw_off (.inl hoff) bs),
      congrArg done (spiEmpr_off hoff n)⟩
  · refine ⟨fun hb => spiTransaction_other hon hb bs n x, congrArg done (spiStatus_on hon),
      fun t hbus => (exec_spiWrite s addr bs).trans (congrArg done ((spiWrite_on hon hbus).trans (if_pos rfl))),
      fun c t hbus hc => (exec_spiWrite s addr bs).trans (congrArg done ((spiWrite_on hon hbus).trans (if_neg hc))), ?_⟩
    intro k c d t hbus
    exact ⟨(exec_spiRead s addr n false).trans (congrArg done (spiRead_late hon hbus)),
      fun hc => (exec_spiRead s addr n true).trans (congrArg done ((spiRead_inTime hon hbus).trans (if_neg (not_not.mpr hc)))),
      fun hc => (exec_spiRead s addr n true).trans (congrArg done ((spiRead_inTime hon hbus).trans (if_pos hc)))⟩
  · exact (congrArg done (i2cWrite_on h hlink)).trans (by rw [i2cTakes_state]; rfl)
  · exact (i2cTakes_length bs _).trans (Nat.zero_add _)
  · exact i2cTakes_acks bs _ nofun
  · exact todQueue_taken (s := w) hidle hlen

end Sys2Proof.Machine

end

section
/-!
PROOFS. What the fault log and the clock fault leave (R508 to R510, R518 to R521): the clocks' state, and every register below those of
the memory controller.
-/

namespace Sys2Proof.Machine

/-- The second state has the clocks' state of the first, its registers below those of the memory controller, and its canonical form. -/
structure FaultFrame (s t : State) : Prop where
  clk : t.clk = s.clk
  reg : ∀ a < 0x100F0000, t.reg a = s.reg a
  wf : s.wf = true → t.wf = true

namespace FaultFrame

variable {s t u : State}

theorem refl (s : State) : FaultFrame s s := ⟨rfl, fun _ _ => rfl, id⟩

theorem trans (h : FaultFrame s t) (k : FaultFrame t u) : FaultFrame s u :=
  ⟨k.clk.trans h.clk, fun a ha => (k.reg a ha).trans (h.reg a ha), k.wf ∘ h.wf⟩

/-- A change of anything but the clocks, the registers and the memory. -/
theorem of_eq (hclk : t.clk = s.clk) (hregs : t.regs = s.regs) (hmem : t.mem = s.mem) : FaultFrame s t :=
  ⟨hclk, fun a _ => by simp only [State.reg, hregs], fun h => by simpa only [State.wf, hregs, hmem] using h⟩

theorem wr (h : FaultFrame s t) {f : Fld} (v : Nat) (hf : 0x100F0000 ≤ f.reg) : FaultFrame s (t.wr f v) :=
  h.trans ⟨rfl, fun _ ha => reg_wr_ne t f v _ (ha.trans_le hf).ne, wr_wf t f v⟩

theorem foldl {α : Type} {f : State → α → State} {l : List α} (hf : ∀ t, ∀ x ∈ l, FaultFrame t (f t x)) (s : State) :
    FaultFrame s (l.foldl f s) :=
  List.foldlRecOn (motive := FaultFrame s) l f (refl s) fun t ht x hx => ht.trans (hf t x hx)

theorem rd (h : FaultFrame s t) {f : Fld} (hf : f.reg < 0x100F0000) : t.rd f = s.rd f := by
  simp only [State.rd, h.reg _ hf]

end FaultFrame

/-! ### Entries of the fault log (R518 to R521) -/

theorem setBytes_clk (l : List Byte) : ∀ (s : State) (a : Nat), (s.setBytes a l).clk = s.clk := by
  induction l with
  | nil => intros; rfl
  | cons x t ih => intro s a; rw [State.setBytes, ih, setByte_clk]

section
variable (s : State)

theorem setLE_faultFrame (a n v : Nat) : FaultFrame s (s.setLE a n v) :=
  ⟨setBytes_clk _ s a, fun b _ => congrArg (getAt (regReset b) · b) (setBytes_regs _ s a), setBytes_wf _ s a⟩

theorem clearErrors_faultFrame (a n : Nat) : FaultFrame s (clearErrors a n s) := .of_eq rfl rfl rfl

theorem countCorr_faultFrame {a : Nat} (h : target a = .aon) : FaultFrame s (countCorr a s) := by
  simp only [countCorr, h, count_eq, raise_eq, clear_eq]
  exact ((((FaultFrame.refl s).wr _ (by decide)).wr _ (by decide)).wr _ (by decide)).wr _ (by decide)

/-- A correction of words of AON RAM. -/
theorem correct_faultFrame {a n : Nat} (h : ∀ w ∈ wordsOf a n, target w = .aon) : FaultFrame s (correct a n s) := by
  unfold correct
  split
  · exact .refl s
  · extract_lets hit memc s1
    have h1 : FaultFrame s s1 := .of_eq rfl rfl rfl
    refine h1.trans (.foldl (fun t w hw => countCorr_faultFrame t (h w ?_)) s1)
    simpa using (List.mem_filter.mp hw).2

/-- REPEAT of an entry of the fault log. -/
theorem raiseRepeat_faultFrame (k : Nat) : FaultFrame s (raiseRepeat (0x0800D800 + 32 * (k % 64) + 19) s) := by
  have hc := correct_faultFrame s (a := 0x0800D800 + 32 * (k % 64) + 19) (n := 1) fun w hw => by
    simp only [wordsOf, List.mem_map, List.mem_range] at hw
    obtain ⟨i, hi, rfl⟩ := hw
    exact target_aon (by omega)
  unfold raiseRepeat
  extract_lets t
  split
  · exact hc
  · exact hc.trans (setLE_faultFrame _ _ _ _)

theorem copyWord_faultFrame (a entry i : Nat) : FaultFrame s (copyWord a entry s i) := by
  unfold copyWord
  extract_lets w
  split
  · exact (FaultFrame.refl s).wr _ (by decide)
  · exact (clearErrors_faultFrame s w 8).trans (setLE_faultFrame _ _ _ _)

theorem copySevere_faultFrame (entry : Nat) : FaultFrame s (copySevere entry s) := by
  have hwords := FaultFrame.foldl (l := List.range 4)
    (fun t i _ => copyWord_faultFrame t (0x06390000 + 32 * (s.rd SAF_LOGWP_NVSWP % 2048)) entry i) s
  exact (hwords.wr (f := SAF_LOGWP_NVSWP) _ (by decide)).trans (.of_eq rfl rfl rfl)

theorem sendCopy_faultFrame (entry : Nat) : FaultFrame s (sendCopy entry s) := by
  unfold sendCopy
  extract_lets waits
  split
  · exact .of_eq rfl rfl rfl
  · exact copySevere_faultFrame s entry

theorem logUnit_faultFrame (code sev unit data : Nat) : FaultFrame s (logUnit code sev unit data s) := by
  unfold logUnit logEvent
  extract_lets wp merge now entry slot s1 s2 saf s3
  by_cases hm : merge = true
  · rw [if_pos hm]
    exact raiseRepeat_faultFrame s _
  · have h1 : FaultFrame s s1 := (clearErrors_faultFrame s slot 32).trans (setLE_faultFrame _ _ _ _)
    have h2 : FaultFrame s s2 := h1.wr (f := SAF_LOGWP_WP) _ (by decide)
    rw [if_neg hm]
    clear_value s2
    have h3 : FaultFrame s s3 := h2.trans (.of_eq rfl rfl rfl)
    split
    · exact h3.trans (sendCopy_faultFrame _ entry)
    · exact h3

/-! ### The clock fault (R508 to R510) -/

theorem refreshTrust_faultFrame : FaultFrame s (refreshTrust s) := by
  unfold refreshTrust
  extract_lets lcsOk trust t
  have ht : FaultFrame s t :=
    (((FaultFrame.refl s).wr (f := SVU_TRUST_LCSOK) _ (by decide)).wr (f := SVU_TRUST_NODEBUG) _ (by decide)).wr
      (f := SVU_TRUST_TIME_TRUST) _ (by decide)
  split
  · exact ht
  · exact ht.wr _ (by decide)

theorem clockFault_faultFrame : FaultFrame s (clockFault s) := by
  unfold clockFault
  extract_lets f s1 s2 saf s3
  split_ifs
  · exact .refl s
  · exact (FaultFrame.refl s).wr _ (by decide)
  · have h1 : FaultFrame s s1 :=
      (((FaultFrame.refl s).wr (f := SAF_STAT_CLKFAULT) _ (by decide)).wr (f := SAF_STAT_CFSTART) _ (by decide)).wr
        (f := SAF_CFSTAT_CAUSE) _ (by decide)
    have h2 : FaultFrame s s2 := h1.wr (f := SAF_COUNT_CF) _ (by decide)
    clear_value s2
    have h3 : FaultFrame s s3 := h2.trans (.of_eq rfl rfl rfl)
    exact (h3.trans (logUnit_faultFrame s3 _ _ _ _)).trans (refreshTrust_faultFrame _)

theorem setFailing_faultFrame (k : Nat) (b : Bool) : FaultFrame s (setFailing k b s) := .of_eq rfl rfl rfl

theorem losCheck_faultFrame : FaultFrame s (losCheck s) :=
  (setFailing_faultFrame s _ _).trans (clockFault_faultFrame _)

end

end Sys2Proof.Machine

end

section
/-!
PROOFS. The reference inputs, the root PLL and the clock fault (R365 to R375, R508 to R510): what each command does in each of its
cases.
-/

namespace Sys2Proof.Machine

section
variable {s : State}

/-! ### The states of the references and of the root -/

theorem refFld_reg (r : Nat) : (refFld r).reg = CLK_REFMON := by
  unfold refFld
  split <;> rfl

theorem refFld_ok (r : Nat) : (refFld r).ok := by
  unfold refFld
  split <;> exact Fld.ok_mk rfl

theorem refFld_width (r : Nat) : (refFld r).width = 2 := by
  unfold refFld
  split <;> rfl

theorem refFld_below (r : Nat) : (refFld r).reg < 0x100F0000 := by
  rw [refFld_reg]
  decide

theorem selected_lt : selected s < 2 := rd_lt s CLK_STAT_SEL

theorem refState_wr_same (r : Nat) {st : Nat} (hwf : s.wf = true) (hst : st < 4) : refState (s.wr (refFld r) st) r = st :=
  rd_wr_fits (refFld_ok r) hwf (by rwa [refFld_width])

/-- The states of the two references lie side by side. -/
theorem refState_wr_other {r : Nat} (hr : r < 2) (v : Nat) (hwf : s.wf = true) :
    refState (s.wr (refFld (1 - r)) v) r = refState s r := by
  have hr : r = 0 ∨ r = 1 := by omega
  rcases hr with rfl | rfl
  · exact rd_wr_disjoint _ _ _ _ (refFld_ok _) hwf (.inl (by decide))
  · exact rd_wr_disjoint _ _ _ _ (refFld_ok _) hwf (.inr (by decide))

/-- A field of another register than that of the monitors. -/
theorem refState_wr_beyond {f : Fld} (v r : Nat) (hf : f.reg ≠ CLK_REFMON) : refState (s.wr f v) r = refState s r :=
  rd_wr_ne _ _ _ _ (by rw [refFld_reg]; exact hf.symm)

theorem rootEnter_state {st : Nat} (hwf : s.wf = true) (hst : st < 8) : rootState (rootEnter st s) = st :=
  (rd_wr_disjoint _ CLK_STAT_LOCK CLK_STAT_STATE _ (Fld.ok_mk rfl) (wr_wf _ _ _ hwf) (.inr (by decide))).trans
    (rd_wr_fits (Fld.ok_mk rfl) hwf hst)

theorem rootEnter_lock (st : Nat) (hwf : s.wf = true) : (rootEnter st s).flag CLK_STAT_LOCK = (st == C_LOCKED) :=
  flag_wr (Fld.ok_mk rfl) rfl (wr_wf _ _ _ hwf) _

theorem rootEnter_refState (st r : Nat) : refState (rootEnter st s) r = refState s r :=
  (refState_wr_beyond _ r (by decide)).trans (refState_wr_beyond _ r (by decide))

/-! ### RELOCK and SWITCH (R373) -/

theorem clkRelock_busy (h : rootState s = C_SWITCH ∨ rootState s = C_RELOCK) : clkCmd true false s = s.wr CLK_STAT_CMDREF 1 := by
  simp [clkCmd, h]

theorem clkRelock_begins (h : ¬(rootState s = C_SWITCH ∨ rootState s = C_RELOCK)) : clkCmd true false s = beginRelock true s := by
  simp [clkCmd, h]

theorem clkSwitch_busy (h : rootState s = C_SWITCH ∨ rootState s = C_RELOCK) : clkCmd false true s = s.wr CLK_STAT_CMDREF 1 := by
  simp [clkCmd, h]

theorem clkSwitch_noReference (h : refState s (other s) ≠ R_VALID ∨ s.flag CLK_STAT_ALTVALID = false) :
    clkCmd false true s = s.wr CLK_STAT_CMDREF 1 := by
  simp [clkCmd, h]

theorem clkSwitch_begins (h : ¬(rootState s = C_SWITCH ∨ rootState s = C_RELOCK)) (href : refState s (other s) = R_VALID)
    (halt : s.flag CLK_STAT_ALTVALID = true) : clkCmd false true s = beginSwitch s := by
  simp [clkCmd, h, href, halt]

/-! ### The selected reference is lost (R368, R371) -/

/-- The selected reference is ABSENT and has been lost. -/
def selectedLost (s : State) : State :=
  let s0 := s.wr (refFld (selected s)) R_ABSENT
  { s0 with clk := { s0.clk with lost := s0.clk.lost.setIfInBounds (selected s) true } }

/-- The bit that shows the loss of a reference. -/
def losFld (r : Nat) : Fld := if r = 0 then CLK_STAT_LOSA else CLK_STAT_LOSB

/-- The loss as it shows, counted and logged, behind its check. -/
def losShown (s : State) : State :=
  losCheck (logUnit 0x03 2 (selected s) (selected s) (((selectedLost s).wr (losFld (selected s)) 1).count CLK_COUNT_LOS))

theorem refLos_absent (h : refState s (selected s) = R_ABSENT) : refLos s = s := if_pos h

section
variable (href : refState s (selected s) ≠ R_ABSENT)
include href

theorem refLos_present : refLos s =
    (let t := losShown s
     if rootState t = C_SWITCH ∧ !t.clk.ticked then t
     else if t.flag CLK_CTRL_AUTOSW ∧ refState t (other t) = R_VALID ∧ t.flag CLK_STAT_ALTVALID then beginSwitch t
     else rootEnter C_FROZEN { t with clk := { t.clk with await := true, ticked := false } }) := if_neg href

theorem refLos_switching (h : rootState (losShown s) = C_SWITCH ∧ (losShown s).clk.ticked = false) : refLos s = losShown s :=
  (refLos_present href).trans (if_pos (by simpa using h))

variable (hswitch : ¬(rootState (losShown s) = C_SWITCH ∧ (losShown s).clk.ticked = false))
include hswitch

theorem refLos_switches (h : (losShown s).flag CLK_CTRL_AUTOSW = true ∧ refState (losShown s) (other (losShown s)) = R_VALID ∧
    (losShown s).flag CLK_STAT_ALTVALID = true) : refLos s = beginSwitch (losShown s) :=
  (refLos_present href).trans ((if_neg (by simpa using hswitch)).trans (if_pos h))

theorem refLos_freezes (h : ¬((losShown s).flag CLK_CTRL_AUTOSW = true ∧ refState (losShown s) (other (losShown s)) = R_VALID ∧
    (losShown s).flag CLK_STAT_ALTVALID = true)) : refLos s =
    rootEnter C_FROZEN { losShown s with clk := { (losShown s).clk with await := true, ticked := false } } :=
  (refLos_present href).trans ((if_neg (by simpa using hswitch)).trans (if_neg h))

end

theorem losFld_ok (r : Nat) : (losFld r).ok := by
  unfold losFld
  split <;> exact Fld.ok_mk rfl

theorem losFld_reg (r : Nat) : (losFld r).reg = CLK_STAT := by
  unfold losFld
  split <;> rfl

theorem losFld_below (r : Nat) : (losFld r).lo + (losFld r).width ≤ 3 := by
  unfold losFld
  split <;> decide

theorem selectedLost_rd (g : Fld) : (selectedLost s).rd g = (s.wr (refFld (selected s)) R_ABSENT).rd g := rfl

section
variable (hwf : s.wf = true)
include hwf

theorem selectedLost_wf : (selectedLost s).wf = true := wr_wf s (refFld (selected s)) R_ABSENT hwf

theorem losShown_wf : (losShown s).wf = true :=
  ((logUnit_faultFrame _ 0x03 2 _ _).trans (losCheck_faultFrame _)).wf (wr_wf _ _ _ (wr_wf _ _ _ (selectedLost_wf hwf)))

/-- What shows a loss lies apart from the monitors, the control and the upper fields of the status. -/
theorem losShown_rd {g : Fld} (hblock : g.reg < 0x100F0000) (hcount : g.reg ≠ CLK_COUNT) (hlo : g.reg = CLK_STAT → 3 ≤ g.lo) :
    (losShown s).rd g = (s.wr (refFld (selected s)) R_ABSENT).rd g := by
  have hframe := (logUnit_faultFrame (((selectedLost s).wr (losFld (selected s)) 1).count CLK_COUNT_LOS) 0x03 2 (selected s)
    (selected s)).trans (losCheck_faultFrame _)
  calc (losShown s).rd g
    _ = (((selectedLost s).wr (losFld (selected s)) 1).count CLK_COUNT_LOS).rd g := hframe.rd hblock
    _ = ((selectedLost s).wr (losFld (selected s)) 1).rd g := by rw [count_eq, rd_wr_ne _ _ _ _ hcount]
    _ = (selectedLost s).rd g := by
      by_cases hg : g.reg = CLK_STAT
      · exact rd_wr_disjoint _ _ _ _ (losFld_ok _) (selectedLost_wf hwf) (.inr ((losFld_below _).trans (hlo hg)))
      · exact rd_wr_ne _ _ _ _ (by rw [losFld_reg]; exact hg)
    _ = (s.wr (refFld (selected s)) R_ABSENT).rd g := selectedLost_rd g

theorem losShown_other {g : Fld} (hmon : g.reg ≠ CLK_REFMON) (hblock : g.reg < 0x100F0000) (hcount : g.reg ≠ CLK_COUNT)
    (hlo : g.reg = CLK_STAT → 3 ≤ g.lo) : (losShown s).rd g = s.rd g :=
  (losShown_rd hwf hblock hcount hlo).trans (rd_wr_ne _ _ _ _ (by rw [refFld_reg]; exact hmon))

theorem losShown_rootState : rootState (losShown s) = rootState s :=
  losShown_other hwf (by decide) (by decide) (by decide) fun _ => by decide

theorem losShown_autosw : (losShown s).flag CLK_CTRL_AUTOSW = s.flag CLK_CTRL_AUTOSW :=
  congrArg (· == 1) (losShown_other hwf (by decide) (by decide) (by decide) nofun)

theorem losShown_refState : refState (losShown s) (selected s) = R_ABSENT := by
  have hmon := refFld_reg (selected s)
  rw [refState, losShown_rd hwf (refFld_below _) (by rw [hmon]; decide)
    fun h => absurd (hmon.symm.trans h) (by decide)]
  exact refState_wr_same _ hwf (by decide)

/-- Without AUTOSW a loss outside a switch freezes the root, which awaits a reference. -/
theorem refLos_awaits (href : refState s (selected s) ≠ R_ABSENT) (hroot : rootState s ≠ C_SWITCH)
    (hauto : s.flag CLK_CTRL_AUTOSW = false) : refState (refLos s) (selected s) = R_ABSENT ∧ rootState (refLos s) = C_FROZEN ∧
      (refLos s).flag CLK_STAT_LOCK = false ∧ (refLos s).clk.await = true := by
  have hstays : ¬(rootState (losShown s) = C_SWITCH ∧ (losShown s).clk.ticked = false) := by
    rw [losShown_rootState hwf]
    exact fun h => hroot h.1
  have hmanual : (losShown s).flag CLK_CTRL_AUTOSW = false := (losShown_autosw hwf).trans hauto
  rw [refLos_freezes href hstays (by simp [hmanual])]
  have hlost := losShown_wf hwf
  have habsent := losShown_refState hwf
  generalize losShown s = t at hlost habsent
  exact ⟨(rootEnter_refState _ _).trans habsent, rootEnter_state hlost (by decide), rootEnter_lock _ hlost, rfl⟩

end

/-! ### The other reference goes (R368, R375) -/

/-- The non-selected reference is ABSENT, and the comparator's result no longer stands for it. -/
def otherAbsent (s : State) : State := dropWindow (setFailing 1 false (s.wr (refFld (other s)) R_ABSENT))

theorem refAbsent_absent (h : refState s (other s) = R_ABSENT) : refAbsent s = s := if_pos h

/-- ALTVALID as R369 makes it. -/
def altValid (s : State) : Bool :=
  let alt := s.rdS TB_FREQALT_FREQ
  s.clk.yValid && decide (-14073748835 ≤ alt) && decide (alt ≤ 14073748835)

theorem refreshAlt_eq : refreshAlt s =
    (s.wr CLK_STAT_ALTVALID (if altValid s then 1 else 0)).wr TB_STAT_ALTVALID (if altValid s then 1 else 0) := rfl

/-- ALTVALID lies beside the root's state and the selection. -/
theorem refreshAlt_stat {g : Fld} (hg : g.reg = CLK_STAT) (hlo : 11 ≤ g.lo) (hwf : s.wf = true) : (refreshAlt s).rd g = s.rd g := by
  rw [refreshAlt_eq, rd_wr_ne _ _ _ _ (by rw [hg]; decide)]
  exact rd_wr_disjoint _ CLK_STAT_ALTVALID _ _ (Fld.ok_mk rfl) hwf (.inr hlo)

theorem refreshAlt_refState (r : Nat) : refState (refreshAlt s) r = refState s r := by
  rw [refreshAlt_eq, refState_wr_beyond _ r (by decide), refState_wr_beyond _ r (by decide)]

theorem dropWindow_stat {g : Fld} (hg : g.reg = CLK_STAT) (hlo : 11 ≤ g.lo) (hwf : s.wf = true) : (dropWindow s).rd g = s.rd g :=
  refreshAlt_stat (s := { s with clk := { s.clk with yValid := false } }) hg hlo hwf

theorem dropWindow_refState (r : Nat) : refState (dropWindow s) r = refState s r :=
  refreshAlt_refState (s := { s with clk := { s.clk with yValid := false } }) r

theorem setFailing_rd (k : Nat) (b : Bool) (g : Fld) : (setFailing k b s).rd g = s.rd g := rfl

section
variable (hwf : s.wf = true)
include hwf

theorem otherAbsent_stat {g : Fld} (hg : g.reg = CLK_STAT) (hlo : 11 ≤ g.lo) : (otherAbsent s).rd g = s.rd g := by
  have hwritten : (setFailing 1 false (s.wr (refFld (other s)) R_ABSENT)).wf = true :=
    (setFailing_faultFrame _ _ _).wf (wr_wf _ _ _ hwf)
  rw [otherAbsent, dropWindow_stat hg hlo hwritten, setFailing_rd, rd_wr_ne _ _ _ _ (by rw [hg, refFld_reg]; decide)]

theorem otherAbsent_rootState : rootState (otherAbsent s) = rootState s := otherAbsent_stat hwf rfl (by decide)

theorem otherAbsent_selected : selected (otherAbsent s) = selected s := otherAbsent_stat hwf rfl (by decide)

theorem otherAbsent_refState : refState (otherAbsent s) (selected s) = refState s (selected s) :=
  (dropWindow_refState _).trans (refState_wr_other selected_lt _ hwf)

variable (href : refState s (other s) ≠ R_ABSENT)
include href

theorem refAbsent_present : refAbsent s =
    if rootState s = C_SWITCH ∧ !s.clk.ticked then
      if refState s (selected s) = R_VALID then beginRelock false (otherAbsent s)
      else (rootEnter C_FROZEN { otherAbsent s with clk := { (otherAbsent s).clk with await := true } }).wr CLK_STAT_RELOCKFAIL 1
    else otherAbsent s := by
  rw [← otherAbsent_rootState hwf, ← otherAbsent_refState hwf, ← otherAbsent_selected hwf]
  exact if_neg href

theorem refAbsent_noSwitch (h : ¬(rootState s = C_SWITCH ∧ s.clk.ticked = false)) : refAbsent s = otherAbsent s :=
  (refAbsent_present hwf href).trans (if_neg (by simpa using h))

section
variable (hswitch : rootState s = C_SWITCH ∧ s.clk.ticked = false)
include hswitch

theorem refAbsent_returns (h : refState s (selected s) = R_VALID) : refAbsent s = beginRelock false (otherAbsent s) :=
  (refAbsent_present hwf href).trans ((if_pos (by simpa using hswitch)).trans (if_pos h))

theorem refAbsent_freezes (h : refState s (selected s) ≠ R_VALID) : refAbsent s =
    (rootEnter C_FROZEN { otherAbsent s with clk := { (otherAbsent s).clk with await := true } }).wr CLK_STAT_RELOCKFAIL 1 :=
  (refAbsent_present hwf href).trans ((if_pos (by simpa using hswitch)).trans (if_neg h))

end

end

/-! ### A reference comes and qualifies (R368, R369) -/

section
variable {r : Nat}

theorem refPresent_here (h : refState s r ≠ R_ABSENT) : refPresent r s = s := if_pos h

section
variable (habsent : refState s r = R_ABSENT)
include habsent

theorem refPresent_valid (hsel : r = selected s) (hlost : s.clk.lost.getD r false = false) : refPresent r s = refValid r s := by
  rw [refPresent, if_neg (not_not.mpr habsent), if_pos hsel, if_neg (ne_true_of_eq_false hlost)]

theorem refPresent_lost (hsel : r = selected s) (hlost : s.clk.lost.getD r false = true) :
    refPresent r s = losCheck (startPresent r s) := by
  rw [refPresent, if_neg (not_not.mpr habsent), if_pos hsel, if_pos hlost]

theorem refPresent_other (hsel : r ≠ selected s) : refPresent r s = losCheck (startPresent r (freqRestart s)) := by
  rw [refPresent, if_neg (not_not.mpr habsent), if_neg hsel]

end

theorem qualDue_iff (t : Nat) : qualDue s r t = true ↔
    refState s r = R_PRESENT ∧ s.clk.presentAt.getD r 0 + max (s.rd CLK_REFCFG_QUAL) 1 * 6000000 ≤ t := by
  simp [qualDue, msTicks, Nat.mul_assoc]

theorem refQualified_held (h : qualDue s r s.ticks = true) : refQualified r s = refValid r s := if_pos h

theorem refQualified_early (h : ¬qualDue s r s.ticks = true) : refQualified r s = s := if_neg h

end

theorem windowDone_iff : windowDone s = true ↔
    refState s (other s) = R_VALID ∧ s.clk.lockedOnce = true ∧ s.clk.winFrom + 600000000 ≤ s.ticks := by
  simp only [windowDone, Bool.and_eq_true, beq_iff_eq, decide_eq_true_eq, and_assoc]
  rfl

/-- A window that ends shows the offset measured, and the next one begins. -/
def windowShown (y : Int) (s : State) : State :=
  ({ s with clk := { s.clk with winFrom := s.ticks } } : State).wrS CLK_REFCMP_YOTHER y

/-- An offset beyond the tolerance of the references. -/
def offsetFar (y : Int) (s : State) : Prop := max ((windowShown y s).rd CLK_REFCFG_REFTOL) 1 * 2 ^ 48 < y.natAbs * 10 ^ 6

section
variable {y : Int}

theorem refWindow_open (h : ¬windowDone s = true) : refWindow y s = s := if_pos (by simpa using h)

theorem refWindow_far (h : windowDone s = true) (hfar : offsetFar y s) : refWindow y s =
    dropWindow (startPresent (other (windowShown y s)) (recomputeAlt (windowShown y s))) :=
  (if_neg (by simp [h])).trans (if_pos hfar)

theorem refWindow_near (h : windowDone s = true) (hnear : ¬offsetFar y s) : refWindow y s =
    recomputeAlt { windowShown y s with clk := { (windowShown y s).clk with yValid := true } } :=
  (if_neg (by simp [h])).trans (if_neg hnear)

end

/-! ### The root locks, and loses lock (R370) -/

/-- A root that acquires, relocks, or has switched. -/
def rootLocking (s : State) : Prop :=
  rootState s = C_ACQUIRE ∨ rootState s = C_RELOCK ∨ (rootState s = C_SWITCH ∧ s.clk.ticked = true)

/-- What the loop has found, with the count of the relocks and the end of a switch. -/
def lockShown (s : State) : State :=
  let s1 := (({ s with freeCount := s.freeCount + 2 } : State).wr CLK_DTW_DTW (Config.freeValue s.freeCount % 2 ^ 24)).wr CLK_DTW_POS
    (Config.freeValue (s.freeCount + 1) % 2 ^ 8)
  let s2 := if rootState s = C_ACQUIRE then s1 else s1.count CLK_COUNT_RELOCKS
  if rootState s = C_SWITCH then s2.wr CLK_STAT_SWITCHED 1 else s2

theorem lockShown_clk : (lockShown s).clk = s.clk := by
  unfold lockShown
  split_ifs <;> rfl

theorem lockShown_ticks : (lockShown s).ticks = s.ticks := by
  unfold lockShown
  split_ifs <;> rfl

theorem rootLocked_not (h : ¬(refState s (selected s) ≠ R_ABSENT ∧ rootLocking s)) : rootLocked s = s := if_neg h

theorem rootLocked_locks (href : refState s (selected s) ≠ R_ABSENT) (hroot : rootLocking s) : rootLocked s =
    releaseSv (rootEnter C_LOCKED { lockShown s with clk := { (lockShown s).clk with
      lockedOnce := true, await := false, ticked := false, since := none,
      winFrom := if s.clk.lockedOnce then s.clk.winFrom else s.ticks } }) := by
  have hlocks : rootLocked s = releaseSv (rootEnter C_LOCKED { lockShown s with clk := { (lockShown s).clk with
      lockedOnce := true, await := false, ticked := false, since := none,
      winFrom := if (lockShown s).clk.lockedOnce then (lockShown s).clk.winFrom else (lockShown s).ticks } }) :=
    if_pos ⟨href, hroot⟩
  rw [hlocks, lockShown_ticks, lockShown_clk]

theorem not_rootLocking (h : rootState s = C_LOCKED ∨ rootState s = C_FROZEN ∨ (rootState s = C_SWITCH ∧ s.clk.ticked = false)) :
    ¬rootLocking s := by
  rcases h with h | h | ⟨h, hticked⟩
  · simp [rootLocking, h, C_LOCKED, C_ACQUIRE, C_RELOCK, C_SWITCH]
  · simp [rootLocking, h, C_FROZEN, C_ACQUIRE, C_RELOCK, C_SWITCH]
  · simp [rootLocking, h, hticked, C_SWITCH, C_ACQUIRE, C_RELOCK]

theorem rootLol_unlocked (h : rootState s ≠ C_LOCKED) : rootLol s = s := if_pos h

theorem rootLol_locked (h : rootState s = C_LOCKED) : rootLol s =
    logUnit 0x04 1 0 0 ((rootEnter C_FROZEN (s.wr CLK_STAT_LOL 1)).count CLK_COUNT_LOL) := if_neg (not_not.mpr h)

/-! ### The time-outs (R365, R372 to R374) -/

theorem relockDue_iff {w : Nat} (h : s.clk.since = some w) (k : Nat) :
    relockDue s k = true ↔ (rootState s = C_SWITCH ∨ rootState s = C_RELOCK) ∧ w + 240000 ≤ k := by
  simp only [relockDue, h, Bool.and_eq_true, Bool.or_eq_true, beq_iff_eq, decide_eq_true_eq, or_comm]
  rfl

/-- A root that has not locked since the reset. -/
def unlockedYet (s : State) : Prop := (rootState s = C_ACQUIRE ∨ rootState s = C_FROZEN) ∧ s.clk.lockedOnce = false

/-- The root takes REFB at the first step of the boot. -/
def bootOnRefB (s : State) : State := bootAcquire (takePath 1 (s.wr CLK_STAT_SEL 1))

theorem bootTimeout_goes (h : unlockedYet s) (href : refState s 0 = R_ABSENT) (hsel : selected s = 0) : bootTimeout false s =
    if refState (bootOnRefB s) 1 = R_PRESENT then refValid 1 (bootOnRefB s) else bootOnRefB s := by
  obtain ⟨hroot, honce⟩ := h
  exact if_pos (by simp [hroot, honce, href, hsel])

theorem bootTimeout_stays (h : ¬unlockedYet s ∨ refState s 0 ≠ R_ABSENT ∨ selected s ≠ 0) : bootTimeout false s = s := by
  refine if_neg ?_
  simp only [Bool.and_eq_true, Bool.or_eq_true, beq_iff_eq, Bool.not_eq_true']
  rintro ⟨⟨hroot, href⟩, hsel⟩
  rcases h with h | h | h
  · exact h hroot
  · exact h href
  · exact h hsel

theorem bootTimeout_releases (h : ¬unlockedYet s) : bootTimeout true s = releaseSv s :=
  congrArg releaseSv (if_neg (by simpa [unlockedYet] using h))

theorem bootTimeout_freezes (h : unlockedYet s) :
    bootTimeout true s = releaseSv (rootEnter C_FROZEN { s with clk := { s.clk with await := true } }) :=
  congrArg releaseSv (if_pos (by simpa [unlockedYet] using h))

/-! ### The clock fault (R508, R510) -/

theorem faultEndDue_iff : faultEndDue s = true ↔ s.flag SAF_STAT_CLKFAULT = true ∧ s.saf.failing = 0 ∧ s.flag CLK_STAT_LOCK = true ∧
    (refState s (other s) = R_ABSENT ∨ s.saf.judged = true) ∧
    min (max (s.rd SAF_CFCFG_CFHOLD) 10) 100 * 600 ≤ s.saf.okTicks + 1 := by
  simp only [faultEndDue, faultClears, Bool.and_eq_true, Bool.or_eq_true, beq_iff_eq, decide_eq_true_eq, and_assoc]
  rfl

/-- The FREQ check judges the other reference. -/
def freqJudges (s : State) : Prop := s.pwr.power ≠ .deep ∧ refState s (other s) ≠ R_ABSENT ∧ s.clk.lockedOnce = true ∧
  s.saf.freqFrom + 600000 ≤ s.ticks

theorem freqJudges_iff : freqJudges s ↔
    ¬(s.pwr.power = .deep ∨ refState s (other s) = R_ABSENT ∨ !s.clk.lockedOnce ∨ s.ticks < s.saf.freqFrom + msTicks) := by
  simp [freqJudges, msTicks]

theorem freqCheck_idle (h : ¬freqJudges s) (d : Int) : freqCheck d s = s := if_pos (not_not.mp (mt freqJudges_iff.mpr h))

theorem freqCheck_judges (h : freqJudges s) (d : Int) : freqCheck d s =
    clockFault (setFailing 1 (decide (min (max (s.rd SAF_CFCFG_CFPPM) 1) 50 * 2 ^ 48 < d.natAbs * 10 ^ 6))
      { s with saf := { s.saf with judged := true } }) := if_neg (freqJudges_iff.mp h)

end

/-! ### The commands -/

section
variable (s : State)

/-- A command without an initiator, by what it leaves where its block has power. -/
theorem done_whenOn {a : Nat} {f : State → State} {t : State} (h : f s = t) :
    done (whenOn a f s) = .next (whenOn a (fun _ => t) s) := by
  rw [whenOn_const, h]
  rfl

theorem whileClk_deep (h : s.pwr.power = .deep) (f : State → State) : whileClk f s = s := if_pos h

theorem whileClk_live (h : s.pwr.power ≠ .deep) (f : State → State) : whileClk f s = f s := if_neg h

theorem whileClk_same {f : State → State} (h : f s = s) : whileClk f s = s := by
  rw [whileClk, h, ite_self]

theorem exec_relockTimeout : exec .relockTimeout s = .next (tickIf (tbRuns s && relockDue s (s.ticks + 1)) s) := rfl
theorem exec_rootBootTimeout (late : Bool) :
    exec (.rootBootTimeout late) s = .next (tickIf (tbRuns s && bootDue s late (s.ticks + 1)) s) := rfl
theorem exec_clockFaultEnd : exec .clockFaultEnd s = .next (tickIf (tbRuns s && faultEndDue s) s) := rfl

/-- The GROSS check judges the four clocks together, while SAF has power. -/
theorem exec_grossCheck (tb corr sys per : Int) : exec (.grossCheck tb corr sys per) s =
    .next (if s.pwr.power = .deep then s else clockFault (setFailing 2
      ([tb, corr, sys, per].any fun d => decide (max (s.rd SAF_CFCFG_GROSS) 1 * 10000 < d.natAbs)) s)) := by
  simp only [List.any_cons, List.any_nil, Bool.or_false, ← Bool.or_assoc]
  rfl

end

/-- Settles O46: each command is its operation where its block has power or the clocks run, or the tick of its event, and the operations'
cases are the clauses. -/
theorem rootClockCommands : Obligations.RootClockCommands := by
  intro r y dev tb corr sys per s busy sel live cmd
  have command {f : State → State} {t : State} (h : f s = t) : done (whenOn CLK_CMD f s) = .next (cmd t) := done_whenOn s h
  have same {f : State → State} (h : f s = s) : done (whileClk f s) = .next s := congrArg done (whileClk_same s h)
  have takes {f : State → State} {t : State} (hlive : live) (h : f s = t) : done (whileClk f s) = .next t :=
    congrArg done ((whileClk_live s hlive f).trans h)
  refine ⟨fun hdeep c hc => ?_, fun h => ⟨command (clkRelock_busy h), command (clkSwitch_busy h)⟩,
    fun h => command (clkRelock_begins h), fun h => command (clkSwitch_noReference h),
    fun h href halt => command (clkSwitch_begins h href halt), fun h => same (refLos_absent h),
    fun href => ⟨fun hlive h => takes hlive (refLos_switching href h), fun hlive h hgoes => takes hlive (refLos_switches href h hgoes),
      fun hlive h hstays => takes hlive (refLos_freezes href h hstays)⟩,
    fun h => same (refAbsent_absent h),
    fun hlive href hwf => ⟨fun h => takes hlive (refAbsent_noSwitch hwf href h),
      fun h hvalid => takes hlive (refAbsent_returns hwf href h hvalid),
      fun h hvalid => takes hlive (refAbsent_freezes hwf href h hvalid)⟩,
    fun h => same (refPresent_here h), fun hlive h hsel hlost => takes hlive (refPresent_valid h hsel hlost),
    fun hlive h hsel hlost => takes hlive (refPresent_lost h hsel hlost), fun hlive h hsel => takes hlive (refPresent_other h hsel),
    ⟨fun hlive h => takes hlive (refQualified_held ((qualDue_iff _).mpr h)),
      fun h => same (refQualified_early fun hdue => h ((qualDue_iff _).mp hdue))⟩,
    fun h => same (refWindow_open fun hdone => ?_),
    fun hlive hvalid honce hticks => ⟨fun hfar => takes hlive (refWindow_far (windowDone_iff.mpr ⟨hvalid, honce, hticks⟩) hfar),
      fun hnear => takes hlive (refWindow_near (windowDone_iff.mpr ⟨hvalid, honce, hticks⟩) hnear)⟩,
    fun h => same (rootLocked_not fun hlocks => ?_),
    fun hlive href hroot => takes hlive (rootLocked_locks href hroot), fun h => same (rootLol_unlocked h),
    fun hlive h => takes hlive (rootLol_locked h), exec_relockTimeout s, fun w k hsince => relockDue_iff hsince k, rfl,
    exec_rootBootTimeout s, fun k => ⟨?_, ?_⟩, bootTimeout_goes, bootTimeout_stays, bootTimeout_releases, bootTimeout_freezes,
    fun hon => congrArg done (if_pos hon), fun hoff => congrArg done (if_neg (ne_true_of_eq_false hoff)), exec_clockFaultEnd s,
    faultEndDue_iff, rfl, ⟨fun h => congrArg done (freqCheck_idle h _), fun h => congrArg done (freqCheck_judges h _)⟩,
    fun hlive => (exec_grossCheck s tb corr sys per).trans (congrArg done (if_neg hlive)),
    fun hdeep => (exec_grossCheck s tb corr sys per).trans (congrArg done (if_pos hdeep)),
    fun hlive href hroot hauto hwf => ⟨_, takes hlive rfl, refLos_awaits hwf href hroot hauto⟩⟩
  · simp only [List.mem_cons, List.not_mem_nil, or_false] at hc
    have hdeep : s.pwr.power = .deep := not_not.mp hdeep
    rcases hc with rfl | rfl | rfl | rfl | rfl | rfl | rfl <;> exact congrArg done (whileClk_deep s hdeep _)
  · obtain ⟨hvalid, honce, hticks⟩ := windowDone_iff.mp hdone
    rcases h with h | h | h
    · exact h hvalid
    · exact ne_true_of_eq_false h honce
    · exact Nat.not_lt.mpr hticks h
  · obtain ⟨href, hroot⟩ := hlocks
    exact h.elim href fun h => not_rootLocking h hroot
  · simp [bootDue, msTicks]
  · simp [bootDue, msTicks]

end Sys2Proof.Machine

end

section
/-!
PROOFS. The output synthesisers (R376 to R385): what enabling, locking, the outputs, the ramp and the measurements do in each of their
cases.
-/

namespace Sys2Proof.Machine

section
variable {n : Nat} {s : State}

/-! ### The VCO stops (R381) -/

theorem flag_of_reg {t : State} {g : Fld} (h : t.reg g.reg = s.reg g.reg) : t.flag g = s.flag g := by
  simp only [State.flag, State.rd, h]

theorem osyStopped_wf (hwf : s.wf = true) : (osyStopped n s).wf = true :=
  wr_wf _ _ _ (wr_wf _ (OSYn_RAMPCTRL_STATE n) _ (setReg_wf _ _ _ (setReg_wf _ _ _ (wr_wf _ _ _ hwf))))

theorem osyStopped_osyn (hn : n < 4) : (osyStopped n s).osyn n = { mult := (s.osyn n).mult } := setOsy_osyn_eq _ _ _ hn

/-- A stop writes the status, with LOCK, and the registers of the ramp. -/
theorem osyStopped_reg {a : Nat} (hfreq : a ≠ OSYn_RAMPFREQ n) (hphase : a ≠ OSYn_PHASEACC n) (hramp : a ≠ OSYn_RAMPCTRL n) :
    (osyStopped n s).reg a = (s.wr (OSYn_STAT_LOCK n) 0).reg a := by
  rw [osyStopped, setOsy_reg, reg_wr_ne _ _ _ _ hramp, reg_wr_ne _ _ _ _ hramp, reg_setReg_ne _ _ hphase, reg_setReg_ne _ _ hfreq,
    clear_eq]

theorem osyStopped_lock (hwf : s.wf = true) : (osyStopped n s).flag (OSYn_STAT_LOCK n) = false :=
  (flag_of_reg (osyStopped_reg (by simp [OSYn_STAT_LOCK, OSYn_STAT, OSYn_RAMPFREQ]) (by simp [OSYn_STAT_LOCK, OSYn_STAT, OSYn_PHASEACC])
    (by simp [OSYn_STAT_LOCK, OSYn_STAT, OSYn_RAMPCTRL]))).trans (flag_wr (Fld.ok_mk rfl) rfl hwf false)

/-- EN, which has been cleared, stays 0 through the stop. -/
theorem osyStopped_en (hwf : s.wf = true) : (osyStopped n (s.wr (OSYn_CTRL_EN n) 0)).flag (OSYn_CTRL_EN n) = false := by
  have hreg := osyStopped_reg (n := n) (s := s.wr (OSYn_CTRL_EN n) 0) (a := (OSYn_CTRL_EN n).reg)
    (by simp [OSYn_CTRL_EN, OSYn_CTRL, OSYn_RAMPFREQ]) (by simp [OSYn_CTRL_EN, OSYn_CTRL, OSYn_PHASEACC])
    (by simp [OSYn_CTRL_EN, OSYn_CTRL, OSYn_RAMPCTRL])
  have hstat : (OSYn_CTRL_EN n).reg ≠ (OSYn_STAT_LOCK n).reg := by simp [OSYn_CTRL_EN, OSYn_STAT_LOCK, OSYn_CTRL, OSYn_STAT]
  rw [flag_of_reg (hreg.trans (reg_wr_ne _ _ _ _ hstat))]
  exact flag_wr (Fld.ok_mk rfl) rfl hwf false

theorem osyStopped_ramp (hwf : s.wf = true) : (osyStopped n s).rd (OSYn_RAMPCTRL_STATE n) = 0 := by
  have hbefore : (((s.wr (OSYn_STAT_LOCK n) 0).setReg (OSYn_RAMPFREQ n) 0).setReg (OSYn_PHASEACC n) 0).wf = true :=
    setReg_wf _ _ _ (setReg_wf _ _ _ (wr_wf _ _ _ hwf))
  have hseg : (OSYn_RAMPCTRL_SEG n).lo + (OSYn_RAMPCTRL_SEG n).width ≤ (OSYn_RAMPCTRL_STATE n).lo := (by decide : 4 + 4 ≤ 8)
  rw [osyStopped, setOsy_rd, clear_eq,
    rd_wr_disjoint _ (OSYn_RAMPCTRL_SEG n) _ _ (Fld.ok_mk rfl) (wr_wf _ _ _ hbefore) (.inr hseg)]
  exact rd_wr_fits (Fld.ok_mk rfl) hbefore (Nat.two_pow_pos _)

/-! ### EN rises and falls (R381) -/

/-- The frequency of a synthesiser that is enabled, in MHz times 2^48, and its range. -/
def osyTarget (s : State) (n : Nat) : Nat := pdMHz (s.rd (OSYn_CTRL_MULT n)) * osyW s n
def osyInRange (s : State) (n : Nat) : Prop := 5600 * 2 ^ 48 ≤ osyTarget s n ∧ osyTarget s n ≤ 6600 * 2 ^ 48

/-- An end that waits for its outputs is made first. -/
def osyEnded (n : Nat) (s : State) : State := if (s.osyn n).stopping then osyStopped n s else s

/-- The synthesiser acquires lock in a band. -/
def osyStarted (n band : Nat) (s : State) : State :=
  let t := ((osyEnded n s).wr (OSYn_CTRL_EN n) 1).wr (OSYn_STAT_BAND n) band
  t.setOsy n { t.osyn n with mult := s.rd (OSYn_CTRL_MULT n), acquiring := true, relocking := false, bandMeas := none }

theorem osyEnable_enabled (h : s.flag (OSYn_CTRL_EN n) = true) : osyEnable n s = s := if_pos h

section
variable (hen : s.flag (OSYn_CTRL_EN n) = false)
include hen

theorem osyEnable_outOfRange (h : ¬osyInRange s n) : osyEnable n s = s.wr (OSYn_STAT_CFGERR n) 1 := by
  have hout : osyTarget s n < 5600 * 2 ^ 48 ∨ 6600 * 2 ^ 48 < osyTarget s n := by
    rwa [osyInRange, not_and_or, Nat.not_le, Nat.not_le] at h
  exact (if_neg (ne_true_of_eq_false hen)).trans (if_pos hout)

section
variable (hrange : osyInRange s n)
include hrange

theorem osyEnable_inRange : osyEnable n s = match osyBand s n (s.rd (OSYn_CTRL_MULT n)) (osyW s n) with
    | none => s.wr (OSYn_STAT_NOBAND n) 1
    | some band => osyStarted n band s := by
  have hin : ¬(osyTarget s n < 5600 * 2 ^ 48 ∨ 6600 * 2 ^ 48 < osyTarget s n) := by
    rw [not_or, Nat.not_lt, Nat.not_lt]
    exact hrange
  exact (if_neg (ne_true_of_eq_false hen)).trans (if_neg hin)

theorem osyEnable_noBand (h : osyBand s n (s.rd (OSYn_CTRL_MULT n)) (osyW s n) = none) :
    osyEnable n s = s.wr (OSYn_STAT_NOBAND n) 1 := by
  rw [osyEnable_inRange hen hrange, h]

theorem osyEnable_starts {band : Nat} (h : osyBand s n (s.rd (OSYn_CTRL_MULT n)) (osyW s n) = some band) :
    osyEnable n s = osyStarted n band s := by
  rw [osyEnable_inRange hen hrange, h]

end

theorem osyDisable_disabled : osyDisable n s = s := if_pos (by simp [hen])

end

theorem osyEnded_wf (hwf : s.wf = true) : (osyEnded n s).wf = true := by
  unfold osyEnded
  split
  · exact osyStopped_wf hwf
  · exact hwf

theorem osyEnded_mem : (osyEnded n s).mem = s.mem := by
  unfold osyEnded
  split <;> rfl

theorem osyStarted_mem (band : Nat) : (osyStarted n band s).mem = s.mem := osyEnded_mem

theorem osyStarted_osyn (hn : n < 4) (band : Nat) : ((osyStarted n band s).osyn n).mult = s.rd (OSYn_CTRL_MULT n) ∧
    ((osyStarted n band s).osyn n).acquiring = true := by
  rw [osyStarted, setOsy_osyn_eq _ _ _ hn]
  exact ⟨rfl, rfl⟩

theorem osyStarted_en (band : Nat) (hwf : s.wf = true) : (osyStarted n band s).flag (OSYn_CTRL_EN n) = true := by
  have hreg : (OSYn_CTRL_EN n).reg ≠ (OSYn_STAT_BAND n).reg := by simp [OSYn_CTRL_EN, OSYn_STAT_BAND, OSYn_CTRL, OSYn_STAT]
  rw [osyStarted, setOsy_flag, State.flag, rd_wr_ne _ _ _ _ hreg]
  exact flag_wr (Fld.ok_mk rfl) rfl (osyEnded_wf hwf) true

theorem osyStarted_band (band : Nat) (hwf : s.wf = true) :
    (osyStarted n band s).rd (OSYn_STAT_BAND n) = band % 2 ^ (OSYn_STAT_BAND n).width := by
  rw [osyStarted, setOsy_rd]
  exact rd_wr_eq _ _ _ (Fld.ok_mk rfl) (wr_wf _ _ _ (osyEnded_wf hwf))

section
variable (hen : s.flag (OSYn_CTRL_EN n) = true)
include hen

theorem osyDisable_enabled : osyDisable n s =
    if outputDriven s n 0 || outputDriven s n 1 then (s.wr (OSYn_CTRL_EN n) 0).setOsy n { s.osyn n with stopping := true }
    else osyStopped n (s.wr (OSYn_CTRL_EN n) 0) := if_neg (by simp [hen])

theorem osyDisable_runsOn (h : outputDriven s n 0 = true ∨ outputDriven s n 1 = true) : osyDisable n s =
    (s.wr (OSYn_CTRL_EN n) 0).setOsy n { s.osyn n with stopping := true } :=
  (osyDisable_enabled hen).trans (if_pos (by simpa using h))

theorem osyDisable_stops (h : ¬(outputDriven s n 0 = true ∨ outputDriven s n 1 = true)) :
    osyDisable n s = osyStopped n (s.wr (OSYn_CTRL_EN n) 0) :=
  (osyDisable_enabled hen).trans (if_neg (by simpa using h))

end

/-! ### LOCK and RELOCK (R376, R381, R382) -/

/-- What the loop has found shows in DTW, and LOCK is set. -/
def osyTuned (n : Nat) (s : State) : State :=
  ((({ s with freeCount := s.freeCount + 2 } : State).wr (OSYn_DTW_DTW n) (Config.freeValue s.freeCount % 2 ^ 24)).wr (OSYn_DTW_POS n)
    (Config.freeValue (s.freeCount + 1) % 2 ^ 8)).wr (OSYn_STAT_LOCK n) 1

/-- The lock of a RELOCK shows in RELOCKED too. -/
def osyLockShown (n : Nat) (s : State) : State :=
  if (s.osyn n).relocking then (osyTuned n s).wr (OSYn_STAT_RELOCKED n) 1 else osyTuned n s

theorem osyLocked_idle (h : (s.osyn n).acquiring = false) : osyLocked n s = s := if_pos (by simp [h])

theorem osyLocked_locks (h : (s.osyn n).acquiring = true) : ∃ vco,
    osyLocked n s = ({ osyLockShown n s with freeCount := (osyLockShown n s).freeCount + 1 } : State).setOsy n
      { s.osyn n with acquiring := false, relocking := false, started := true, vco := vco } :=
  ⟨_, if_neg (by simp [h])⟩

theorem osyLockShown_freeCount : (osyLockShown n s).freeCount = s.freeCount + 2 := by
  unfold osyLockShown
  split <;> rfl

section
variable (hwf : s.wf = true)
include hwf

theorem osyTuned_wf : (osyTuned n s).wf = true :=
  wr_wf _ _ _ (wr_wf _ _ _ (wr_wf { s with freeCount := s.freeCount + 2 } (OSYn_DTW_DTW n) _ hwf))

theorem osyTuned_lock : (osyTuned n s).flag (OSYn_STAT_LOCK n) = true :=
  flag_wr (Fld.ok_mk rfl) rfl (wr_wf _ _ _ (wr_wf { s with freeCount := s.freeCount + 2 } (OSYn_DTW_DTW n) _ hwf)) true

theorem osyTuned_word : (osyTuned n s).rd (OSYn_DTW_DTW n) = Config.freeValue s.freeCount % 2 ^ 24 := by
  have hstat : (OSYn_DTW_DTW n).reg ≠ (OSYn_STAT_LOCK n).reg := by simp [OSYn_DTW_DTW, OSYn_STAT_LOCK, OSYn_DTW, OSYn_STAT]
  have hwf' : ({ s with freeCount := s.freeCount + 2 } : State).wf = true := hwf
  have hpos : (OSYn_DTW_DTW n).lo + (OSYn_DTW_DTW n).width ≤ (OSYn_DTW_POS n).lo := (by decide : 0 + 24 ≤ 24)
  rw [osyTuned, rd_wr_ne _ _ _ _ hstat, rd_wr_disjoint _ (OSYn_DTW_POS n) _ _ (Fld.ok_mk rfl) (wr_wf _ _ _ hwf') (.inl hpos)]
  exact rd_wr_fits (Fld.ok_mk rfl) hwf' (Nat.mod_lt _ (by decide))

theorem osyLockShown_lock : (osyLockShown n s).flag (OSYn_STAT_LOCK n) = true := by
  have hbelow : (OSYn_STAT_RELOCKED n).lo + (OSYn_STAT_RELOCKED n).width ≤ (OSYn_STAT_LOCK n).lo := (by decide : 1 + 1 ≤ 9)
  unfold osyLockShown
  split
  · rw [State.flag, rd_wr_disjoint _ (OSYn_STAT_RELOCKED n) _ _ (Fld.ok_mk rfl) (osyTuned_wf hwf) (.inr hbelow)]
    exact osyTuned_lock hwf
  · exact osyTuned_lock hwf

theorem osyLockShown_word : (osyLockShown n s).rd (OSYn_DTW_DTW n) = Config.freeValue s.freeCount % 2 ^ 24 := by
  have hstat : (OSYn_DTW_DTW n).reg ≠ (OSYn_STAT_RELOCKED n).reg := by simp [OSYn_DTW_DTW, OSYn_STAT_RELOCKED, OSYn_DTW, OSYn_STAT]
  unfold osyLockShown
  split
  · exact (rd_wr_ne _ _ _ _ hstat).trans (osyTuned_word hwf)
  · exact osyTuned_word hwf

theorem osyLockShown_relocked (h : (s.osyn n).relocking = true) : (osyLockShown n s).flag (OSYn_STAT_RELOCKED n) = true := by
  rw [osyLockShown, if_pos h]
  exact flag_wr (Fld.ok_mk rfl) rfl (osyTuned_wf hwf) true

end

theorem osyLol_unlocked (h : s.flag (OSYn_STAT_LOCK n) = false) : osyLol n s = s := if_neg (ne_true_of_eq_false h)

theorem osyLol_locked (h : s.flag (OSYn_STAT_LOCK n) = true) : osyLol n s =
    logUnit 0x04 1 (2 + n) (2 + n) ((s.wr (OSYn_STAT_LOCK n) 0).wr (OSYn_STAT_LOL n) 1) := if_pos h

/-- W behind a change of MULT. -/
def relockW (s : State) (n : Nat) : Nat := osyW s n * pdMHz (s.osyn n).mult / pdMHz (s.rd (OSYn_CTRL_MULT n))

/-- The registers that a RELOCK writes before its band. -/
def relockShown (n : Nat) (s : State) : State :=
  ((s.wr (OSYn_NINT_NINT n) (relockW s n / 2 ^ 48)).wr (OSYn_NFRAC_NFRAC n) (relockW s n)).wr (OSYn_STAT_LOCK n) 0

theorem osyRelock_refused (h : s.flag (OSYn_CTRL_EN n) = false ∨ (s.osyn n).relocking = true) :
    osyRelock n s = s.wr (OSYn_STAT_CFGERR n) 1 := if_pos (by simpa using h)

section
variable (hen : s.flag (OSYn_CTRL_EN n) = true) (hidle : (s.osyn n).relocking = false)
include hen hidle

theorem osyRelock_taken : osyRelock n s =
    match osyBand (relockShown n s) n (s.rd (OSYn_CTRL_MULT n)) (relockW s n) with
    | none => ((relockShown n s).setOsy n
        { s.osyn n with mult := s.rd (OSYn_CTRL_MULT n), acquiring := false, relocking := false }).wr (OSYn_STAT_NOBAND n) 1
    | some band => ((relockShown n s).setOsy n
        { s.osyn n with mult := s.rd (OSYn_CTRL_MULT n), acquiring := true, relocking := true }).wr (OSYn_STAT_BAND n) band :=
  if_neg (by simp [hen, hidle])

theorem osyRelock_noBand (h : osyBand (relockShown n s) n (s.rd (OSYn_CTRL_MULT n)) (relockW s n) = none) : osyRelock n s =
    ((relockShown n s).setOsy n
      { s.osyn n with mult := s.rd (OSYn_CTRL_MULT n), acquiring := false, relocking := false }).wr (OSYn_STAT_NOBAND n) 1 := by
  rw [osyRelock_taken hen hidle, h]

theorem osyRelock_relocks {band : Nat}
    (h : osyBand (relockShown n s) n (s.rd (OSYn_CTRL_MULT n)) (relockW s n) = some band) : osyRelock n s =
    ((relockShown n s).setOsy n
      { s.osyn n with mult := s.rd (OSYn_CTRL_MULT n), acquiring := true, relocking := true }).wr (OSYn_STAT_BAND n) band := by
  rw [osyRelock_taken hen hidle, h]

end

/-! ### Outputs (R379, R380) -/

section
variable {k : Nat}

theorem outputEnable_enabled (h : s.flag (oeFld n k) = true) : outputEnable n k s = s := if_pos h

section
variable (hoff : s.flag (oeFld n k) = false)
include hoff

theorem outputEnable_ok (hok : outputOk s n k (s.rd (fmtFld n k)) = true) : outputEnable n k s = s.wr (oeFld n k) 1 :=
  (if_neg (ne_true_of_eq_false hoff)).trans (if_pos hok)

theorem outputEnable_bad (hbad : outputOk s n k (s.rd (fmtFld n k)) = false) : outputEnable n k s = s.wr (OSYn_STAT_CFGERR n) 1 :=
  (if_neg (ne_true_of_eq_false hoff)).trans (if_neg (ne_true_of_eq_false hbad))

end

theorem padsAfter_getD (hk : k < 2) : (padsAfter s n).getD k false =
    if (edgeIn s n k).isSome then outputWanted s n k else outputDriven s n k := by
  simp [padsAfter, Vector.getD, hk]

theorem padsAfter_edge (hk : k < 2) (h : (edgeIn s n k).isSome = true) : (padsAfter s n).getD k false = outputWanted s n k := by
  rw [padsAfter_getD hk, if_pos h]

theorem padsAfter_noEdge (hk : k < 2) (h : edgeIn s n k = none) : (padsAfter s n).getD k false = outputDriven s n k := by
  rw [padsAfter_getD hk, h]
  rfl

end

/-! ### The ramp (R383, R384) -/

theorem rampGo_refused (h : s.rd (OSYn_RAMPCTRL_STATE n) = 1 ∨ s.flag (OSYn_CTRL_EN n) = false ∨ s.flag (OSYn_STAT_LOCK n) = false) :
    rampGo n s = s.wr (OSYn_STAT_CFGERR n) 1 := if_pos (by simpa using h)

theorem rampGo_begins (hidle : s.rd (OSYn_RAMPCTRL_STATE n) ≠ 1) (hen : s.flag (OSYn_CTRL_EN n) = true)
    (hlock : s.flag (OSYn_STAT_LOCK n) = true) : rampGo n s =
    enterSegment n 0 (((s.setReg (OSYn_PHASEACC n) 0).setOsy n { s.osyn n with sum := 0 }).wr (OSYn_RAMPCTRL_STATE n) 1) :=
  if_neg (by simp [hidle, hen, hlock])

theorem rampStop_running (h : s.rd (OSYn_RAMPCTRL_STATE n) = 1) : rampStop n s = s.wr (OSYn_RAMPCTRL_STATE n) 2 := if_pos h

theorem rampStop_idle (h : s.rd (OSYn_RAMPCTRL_STATE n) ≠ 1) : rampStop n s = s := if_neg h

/-! ### Measurements (R385) -/

theorem phEdge_none (h : (s.osyn n).phMeas = none) : phEdge s n = none := by simp only [phEdge, h]

theorem phEdge_some {o : Nat} (h : (s.osyn n).phMeas = some o) :
    phEdge s n = if osyRuns s n && (padsAfter s n).getD o false then edgeIn s n o else none := by simp only [phEdge, h]

theorem bandMeas_refused (band : Nat) (h : s.flag (OSYn_CTRL_EN n) = true ∨ (s.osyn n).bandMeas.isSome = true) :
    bandMeas n band s = s.wr (OSYn_STAT_CFGERR n) 1 := if_pos (by simpa using h)

theorem bandMeas_begins (band : Nat) (hen : s.flag (OSYn_CTRL_EN n) = false) (hidle : (s.osyn n).bandMeas = none) :
    bandMeas n band s = s.setOsy n { s.osyn n with bandMeas := some (band, s.ticks) } := if_neg (by simp [hen, hidle])

section
variable {flo fhi : Nat}

theorem bandMeasDone_idle (h : (s.osyn n).bandMeas = none) : bandMeasDone n flo fhi s = s := if_pos (by simp [bandMeasDue, h])

section
variable {band from_ : Nat} (hruns : (s.osyn n).bandMeas = some (band, from_))
include hruns

theorem bandMeasDue_iff : bandMeasDue s n = true ↔ from_ + 30000 ≤ s.ticks := by
  simp only [bandMeasDue, hruns]
  exact decide_eq_true_iff

theorem bandMeasDone_early (h : s.ticks < from_ + 30000) : bandMeasDone n flo fhi s = s := by
  have hearly : ¬bandMeasDue s n = true := (bandMeasDue_iff hruns).not.mpr (Nat.not_le.mpr h)
  exact if_pos (by simpa using hearly)

theorem bandMeasDone_shows (h : from_ + 30000 ≤ s.ticks) : bandMeasDone n flo fhi s =
    (((s.wr (OSYn_BANDMEAS_FLO n) flo).wr (OSYn_BANDMEAS_FHI n) fhi).setOsy n { s.osyn n with bandMeas := none }).wr
      (OSYn_STAT_BMDONE n) 1 :=
  if_neg (by simp [(bandMeasDue_iff hruns).mpr h])

end

end

end

/-- Settles O48: each command is its operation where the block has power, or the tick of its edge, and the operations' cases are the
clauses. -/
theorem synthesiserCommands : Obligations.SynthesiserCommands := by
  intro n k band flo fhi s x en mult f err ctl cmd out driven inRange ramping
  have onCtl {g : State → State} {t : State} (h : g s = t) : done (whenOn (OSYn_CTRL n) g s) = .next (ctl t) := done_whenOn s h
  have onCmd {g : State → State} {t : State} (h : g s = t) : done (whenOn (OSYn_CMD n) g s) = .next (cmd t) := done_whenOn s h
  have onOut {g : State → State} {t : State} (h : g s = t) : done (whenOn (OSYn_OUTCTRL n) g s) = .next (out t) := done_whenOn s h
  refine ⟨fun hen => onCtl (osyEnable_enabled hen), fun hen hrange => onCtl (osyEnable_outOfRange hen hrange),
    fun hen hrange hnone => onCtl (osyEnable_noBand hen hrange hnone),
    fun b hen hrange hband hwf => ⟨osyStarted n b s, onCtl (osyEnable_starts hen hrange hband), osyStarted_en b hwf,
      osyStarted_band b hwf, (osyStarted_osyn n.isLt b).1, (osyStarted_osyn n.isLt b).2, osyStarted_mem b⟩,
    fun hen => onCtl (osyDisable_disabled hen), fun hen hdriven => onCtl (osyDisable_runsOn hen hdriven),
    fun hen hfree hwf => ⟨osyStopped n (s.wr (OSYn_CTRL_EN n) 0), onCtl (osyDisable_stops hen hfree), osyStopped_en hwf,
      osyStopped_lock (wr_wf _ _ _ hwf), osyStopped_ramp (wr_wf _ _ _ hwf), osyStopped_osyn n.isLt, rfl⟩,
    fun h => congrArg done (osyLocked_idle h), fun h hwf => ?_,
    fun h => congrArg done (osyLol_unlocked h), fun h => congrArg done (osyLol_locked h),
    fun h => onCmd (osyRelock_refused h),
    fun hen hidle => ⟨fun hnone => onCmd (osyRelock_noBand hen hidle hnone), fun b hband => onCmd (osyRelock_relocks hen hidle hband)⟩,
    fun h => onOut (outputEnable_enabled h), fun hoff hok => onOut (outputEnable_ok hoff hok),
    fun hoff hbad => onOut (outputEnable_bad hoff hbad), onOut rfl,
    fun h => onCmd (rampGo_refused h), fun hidle hen hlock => onCmd (rampGo_begins hidle hen hlock),
    fun h => onCmd (rampStop_running h), fun h => onCmd (rampStop_idle h), onCmd rfl, exec_osyPhaseCapture n s,
    phEdge_none, fun o h => phEdge_some h, fun t0 f => rfl, padsAfter_edge k.isLt, padsAfter_noEdge k.isLt,
    fun h => onCmd (bandMeas_refused band h), fun hen hidle => onCmd (bandMeas_begins band hen hidle),
    fun h => congrArg done (bandMeasDone_idle h), fun b t h hearly => congrArg done (bandMeasDone_early h hearly),
    fun b t h hdue => congrArg done (bandMeasDone_shows h hdue)⟩
  obtain ⟨vco, hlocks⟩ := osyLocked_locks h
  have hosy := setOsy_osyn_eq { osyLockShown n s with freeCount := (osyLockShown n s).freeCount + 1 } n
    { x with acquiring := false, relocking := false, started := true, vco := vco } n.isLt
  exact ⟨_, congrArg done hlocks, osyLockShown_lock hwf, osyLockShown_word hwf, congrArg (· + 1) osyLockShown_freeCount,
    congrArg OsyState.acquiring hosy, congrArg OsyState.started hosy, osyLockShown_relocked hwf⟩

end Sys2Proof.Machine

end

section
/-!
PROOFS. Counter mode (R428, R432) is the exclusive OR with a key stream that depends on the data's length alone.
-/

namespace Sys2Proof.Machine

/-! ### The exclusive OR of byte strings -/

theorem length_xorB (a b : List Byte) : (xorB a b).length = min a.length b.length := by simp [xorB]

theorem xorB_xorB : ∀ {a k : List Byte}, a.length ≤ k.length → xorB (xorB a k) k = a
  | [], _, _ => rfl
  | x :: a, [], h => absurd h (by simp)
  | x :: a, y :: k, h => by
    have ih : xorB (xorB a k) k = a := xorB_xorB (by simpa using h)
    have hx : x ^^^ y ^^^ y = x := by rw [BitVec.xor_assoc, BitVec.xor_self, BitVec.xor_zero]
    exact congrArg₂ List.cons hx ih

theorem xorB_append_right : ∀ (a k l : List Byte), xorB a (k ++ l) = xorB (a.take k.length) k ++ xorB (a.drop k.length) l
  | [], k, l => by simp [xorB]
  | _ :: _, [], _ => rfl
  | x :: a, y :: k, l => congrArg ((x ^^^ y) :: ·) (xorB_append_right a k l)

/-! ### Pieces -/

theorem pieces_nil {α : Type} (k fuel : Nat) : pieces k fuel ([] : List α) = [] := by cases fuel <;> rfl

theorem pieces_cons {α : Type} (k fuel : Nat) {l : List α} (h : l ≠ []) :
    pieces k (fuel + 1) l = l.take k :: pieces k fuel (l.drop k) := if_neg (by simpa using h)

/-- The number of pieces goes by the length of what is cut. -/
theorem length_pieces_congr {α : Type} (k fuel : Nat) : ∀ {l m : List α}, l.length = m.length →
    (pieces k fuel l).length = (pieces k fuel m).length := by
  induction fuel with
  | zero => intros; rfl
  | succ fuel ih =>
    intro l m h
    by_cases hl : l = []
    · have hm : m = [] := List.eq_nil_of_length_eq_zero (by rw [← h, hl]; rfl)
      rw [hl, hm]
    · have hm : m ≠ [] := fun hm => hl (List.eq_nil_of_length_eq_zero (by rw [h, hm]; rfl))
      have hrest : (l.drop k).length = (m.drop k).length := by rw [List.length_drop, List.length_drop, h]
      rw [pieces_cons k fuel hl, pieces_cons k fuel hm, List.length_cons, List.length_cons, ih hrest]

/-! ### The key stream -/

/-- `n` blocks of key stream from block `i` of a counter. -/
def keyStream (ks : List (List Nat)) (ctr i n : Nat) : List Byte :=
  (List.range' i n).flatMap fun i => toBE 16 (aesNat ks (ctr / 2 ^ 32 * 2 ^ 32 + (ctr + i) % 2 ^ 32))

theorem length_toBE (n v : Nat) : (toBE n v).length = n := by rw [toBE, List.length_reverse, length_toLE]

theorem length_keyStream (ks : List (List Nat)) (ctr i n : Nat) : (keyStream ks ctr i n).length = n * 16 := by
  simp [keyStream, List.length_flatMap, length_toBE]

theorem keyStream_succ (ks : List (List Nat)) (ctr i n : Nat) : keyStream ks ctr i (n + 1) =
    toBE 16 (aesNat ks (ctr / 2 ^ 32 * 2 ^ 32 + (ctr + i) % 2 ^ 32)) ++ keyStream ks ctr (i + 1) n := rfl

/-- The pieces of a string, each under its block of the key stream, are the string under the whole of it. -/
theorem flatMap_pieces_xorB (ks : List (List Nat)) (ctr fuel : Nat) : ∀ (i : Nat) {m : List Byte}, m.length ≤ fuel →
    ((pieces 16 fuel m).zip (List.range' i (pieces 16 fuel m).length)).flatMap (fun p =>
      xorB p.1 (toBE 16 (aesNat ks (ctr / 2 ^ 32 * 2 ^ 32 + (ctr + p.2) % 2 ^ 32)))) =
    xorB m (keyStream ks ctr i (pieces 16 fuel m).length) := by
  induction fuel with
  | zero => intro i m h; rw [List.eq_nil_of_length_eq_zero (Nat.le_zero.mp h)]; rfl
  | succ fuel ih =>
    intro i m h
    by_cases hm : m = []
    · rw [hm, pieces_nil]; rfl
    · have hpos : 0 < m.length := List.length_pos_of_ne_nil hm
      have hrest := ih (i + 1) (m := m.drop 16) (by rw [List.length_drop]; omega)
      rw [pieces_cons 16 fuel hm, List.length_cons, keyStream_succ, xorB_append_right, length_toBE, ← hrest]
      rfl

theorem aesCtr_eq_xorB (ks : List (List Nat)) (ctr : Nat) (m : List Byte) :
    aesCtr ks ctr m = xorB m (keyStream ks ctr 0 (pieces 16 m.length m).length) := by
  rw [← flatMap_pieces_xorB ks ctr m.length 0 (le_refl m.length), ← List.range_eq_range']
  rfl

theorem length_le_pieces {α : Type} (fuel : Nat) : ∀ {m : List α}, m.length ≤ fuel → m.length ≤ (pieces 16 fuel m).length * 16 := by
  induction fuel with
  | zero => intro m h; omega
  | succ fuel ih =>
    intro m h
    by_cases hm : m = []
    · simp [hm]
    · have hpos : 0 < m.length := List.length_pos_of_ne_nil hm
      have hrest := ih (m := m.drop 16) (by rw [List.length_drop]; omega)
      rw [pieces_cons 16 fuel hm, List.length_cons]
      rw [List.length_drop] at hrest
      omega

theorem length_aesCtr (ks : List (List Nat)) (ctr : Nat) (m : List Byte) : (aesCtr ks ctr m).length = m.length := by
  rw [aesCtr_eq_xorB, length_xorB, length_keyStream]
  exact min_eq_left (length_le_pieces m.length (le_refl m.length))

/-- Settles O58: both times the data meets the key stream of its length, which the first time leaves as it is. -/
theorem counterModeInverts : Obligations.CounterModeInverts := by
  intro ks ctr m
  have hlen := length_aesCtr ks ctr m
  have hblocks : (pieces 16 (aesCtr ks ctr m).length (aesCtr ks ctr m)).length = (pieces 16 m.length m).length := by
    rw [hlen, length_pieces_congr 16 m.length hlen]
  refine ⟨?_, hlen⟩
  rw [aesCtr_eq_xorB ks ctr (aesCtr ks ctr m), hblocks, aesCtr_eq_xorB ks ctr m, xorB_xorB]
  rw [length_keyStream]
  exact length_le_pieces m.length (le_refl m.length)

end Sys2Proof.Machine

end

section
/-!
PROOFS. Commands complete, and a step takes the front of the queue.
-/

namespace Sys2Proof.Machine

/-- Each command's meaning is a `done` of what it does, or a case of such. -/
theorem exec_completes (c : Instr) (s : State) : ∃ t, exec c s = .next t := by
  cases c <;> exact ⟨_, rfl⟩

theorem step_front {c : Instr} {rest : List Instr} {s : State} (h : s.pending = c :: rest) :
    step s = exec c { s with pending := rest } := by
  simp only [step, h]

theorem step_idle {s : State} (h : s.pending = []) : step s = .next s := by
  simp only [step, h]

/-- Settles O26: every arm of the dispatch answers a next state, and a step goes by whether its queue holds a command. -/
theorem stepTakesFront : Obligations.StepTakesFront :=
  ⟨exec_completes, fun _ _ _ h => step_front h, fun _ h => step_idle h⟩

end Sys2Proof.Machine

end

section
/-!
PROOFS. Ethernet ports (R390 to R413): their enables and links, ESMC, the window of the recovered clock and the source offsets.
-/

namespace Sys2Proof.Machine

section
variable {n : Nat} {s : State}

/-! ### Enables and links (R390, R391) -/

theorem ethEnable_enabled (h : s.flag (ETHn_CTRL_EN n) = true) : ethEnable n s = s := if_pos h

theorem ethEnable_misfit (h : s.flag (ETHn_CTRL_EN n) = false)
    (hmode : modeOk (s.rd (ETHn_CTRL_RATE n)) (fecOf (s.rd (ETHn_CTRL_FEC n))) (s.flag (ETHn_CTRL_AN n)) = false) :
    ethEnable n s = s.wr (ETHn_STAT_CFGERR n) 1 := by
  simp [ethEnable, h, hmode]

theorem ethEnable_fits (h : s.flag (ETHn_CTRL_EN n) = false)
    (hmode : modeOk (s.rd (ETHn_CTRL_RATE n)) (fecOf (s.rd (ETHn_CTRL_FEC n))) (s.flag (ETHn_CTRL_AN n)) = true) :
    ethEnable n s =
      (let lat := pmaLat (s.rd (ETHn_CTRL_RATE n)) (fecOf (s.rd (ETHn_CTRL_FEC n)))
       (((s.wr (ETHn_CTRL_EN n) 1).wr (ETHn_STAT_REFFB n) 0).wr (ETHn_PMALAT_TX n) lat.1).wr (ETHn_PMALAT_RX n) lat.2) := by
  simp [ethEnable, h, hmode]

theorem ethLink_off (h : s.flag (ETHn_CTRL_EN n) = false) (up : Bool) : ethLink n up s = s := by
  simp [ethLink, h]

theorem ethLink_down (h : s.flag (ETHn_CTRL_EN n) = true) :
    ethLink n false s = (s.wr (ETHn_STAT_LINK_UP n) 0).wr (ETHn_STAT_RXFVALID n) 0 := by
  simp [ethLink, h]

theorem ethLink_stays (h : s.flag (ETHn_CTRL_EN n) = true) (hup : s.flag (ETHn_STAT_LINK_UP n) = true) : ethLink n true s = s := by
  simp [ethLink, h, hup]

theorem ethLink_up (h : s.flag (ETHn_CTRL_EN n) = true) (hdown : s.flag (ETHn_STAT_LINK_UP n) = false) :
    ethLink n true s = rxfBegin n (s.wr (ETHn_STAT_LINK_UP n) 1) := by
  simp [ethLink, h, hdown]

theorem ethFallback_fed (h : s.flag (ETHn_CTRL_EN n) = true) (href : s.flag (ETHn_CTRL_REFSRC n) = true) :
    ethFallback s n = refreshQl (s.wr (ETHn_STAT_REFFB n) 1) n := by
  simp [ethFallback, h, href]

theorem ethFallback_own (h : s.flag (ETHn_CTRL_EN n) = false ∨ s.flag (ETHn_CTRL_REFSRC n) = false) : ethFallback s n = s := by
  rcases h with h | h <;> simp [ethFallback, h]

/-! ### ESMC (R412, R413) -/

theorem esmcSends_iff : esmcSends s n = true ↔ ethUp s n = true ∧ s.flag (ETHn_ESMC_TXEN n) = true := by
  simp [esmcSends]

/-- A message that takes no TLV and is not PTP's leaves as it is. -/
theorem ethSend_plain {m : EthMsg} (hkey : m.key = none) (hkind : m.kind.code < 0) :
    ethSend [m] s = { s with eth := { s.eth with sent := s.eth.sent ++ [m] } } := by
  simp [ethSend, EthMsg.sign, EthMsg.seal, hkey, hkind]

theorem esmcPdu_leaves {k : EthKind} (hkind : k.code < 0) (h : ethUp s n = true ∧ s.flag (ETHn_ESMC_TXEN n) = true) :
    esmcPdu k n s = { s with eth := { s.eth with sent := s.eth.sent ++ [{ ethHead s n k with body := esmcBody s n }] } } :=
  (if_pos (esmcSends_iff.mpr h)).trans (ethSend_plain rfl hkind)

theorem esmcPdu_silent {k : EthKind} (h : ¬(ethUp s n = true ∧ s.flag (ETHn_ESMC_TXEN n) = true)) : esmcPdu k n s = s :=
  if_neg (mt esmcSends_iff.mp h)

theorem esmcEvent_none (h : s.eth.qlAt.getD n none = none) : esmcEvent n s = s := if_pos (by rw [h]; rfl)

theorem esmcEvent_some {w : Nat} (h : s.eth.qlAt.getD n none = some w) :
    esmcEvent n s = esmcPdu .esmcEvent n { s with eth := { s.eth with qlAt := s.eth.qlAt.setIfInBounds n none } } :=
  if_neg (by rw [h]; simp)

/-- A change that none has told keeps its instant when another follows. -/
theorem refreshQl_keepsChange (hn : n < 4) {w : Nat} (h : s.eth.qlAt.getD n none = some w) :
    (refreshQl s n).eth.qlAt.getD n none = some w := by
  unfold refreshQl
  extract_lets q t
  split
  · exact h
  · have ht : t.eth = s.eth := rfl
    simp only [getD_setIfInBounds, ht, h, hn, and_self, if_true, Option.getD_some]

theorem esmcReceive_down (h : ethUp s n = false) (ql : Nat) : esmcReceive n ql s = s := by simp [esmcReceive, h]

theorem esmcReceive_taken (h : ethUp s n = true) (hrx : s.flag (ETHn_ESMC_RXEN n) = true) (ql : Nat) :
    esmcReceive n ql s = (esmcSeen n (some s.ticks) s).wr (ETHn_ESMC_RXQL n) ql := by
  simp [esmcReceive, h, hrx]

theorem esmcReceive_dropped (h : ethUp s n = true) (hrx : s.flag (ETHn_ESMC_RXEN n) = false) (ql : Nat) :
    esmcReceive n ql s = (s.count (ETHn_CNTERR_RXDROP n)).wr (ETHn_STAT_RXDROP n) 1 := by
  simp [esmcReceive, h, hrx, rxDrop]

/-! ### The window of the recovered clock (R411) -/

theorem rxfDone_iff : rxfDone s n = true ↔
    s.flag (ETHn_STAT_LINK_UP n) = true ∧ s.eth.rxfFrom.getD n 0 + 600000000 ≤ s.ticks := by
  rw [rxfDone, Bool.and_eq_true, decide_eq_true_iff, msTicks]

end

/-! ### The source offset (R409, R410) -/

/-- A number within 48 bits of two's complement reads back as it was written. -/
theorem rdS_wr_unsigned {s : State} {f : Fld} {z : Int} (hf : f.ok) (hwidth : f.width = 48) (h : s.wf = true) (hlo : -2 ^ 47 ≤ z)
    (hhi : z < 2 ^ 47) : (s.wr f (unsigned f.width z)).rdS f = z := by
  have hfits : unsigned 48 z < 2 ^ 48 := by rw [unsigned]; omega
  rw [State.rdS, hwidth, rd_wr_fits hf h (by rwa [hwidth]), signed, unsigned]
  split <;> omega

section
variable {n : Nat} {xs : List PtpExchange} {p : PtpParent} {unc : Nat} {s : State}

/-- The exchanges of the second that has ended. -/
def lastSecond (xs : List PtpExchange) (s : State) : List PtpExchange := xs.filter fun x => x.t2.toNat / 2 ^ 48 + 1 == s.sec

/-- An offset with its uncertainty and VALID. -/
def offsetShown (n : Nat) (x : PtpExchange) (p : PtpParent) (unc : Nat) (s : State) : State :=
  ((s.wr (ETHn_SRCOFS_OFS n) (unsigned (ETHn_SRCOFS_OFS n).width (offsetPs s n x))).wr (ETHn_SRCINFO_UNC n) (min unc (2 ^ 23 - 1))).wr
    (ETHn_SRCINFO_VALID n) (if offsetValid s n x p then 1 else 0)

/-- The parent's class, the next sequence number, and the parent kept. -/
def sourceTold (n : Nat) (p : PtpParent) (s : State) : State :=
  let t := (s.wr (ETHn_SRCINFO_CLASS n) p.cls.toNat).count (ETHn_SRCINFO_SEQ n)
  { t with eth := { t.eth with parent := t.eth.parent.setIfInBounds n (some p.identity) } }

theorem sourceOffset_idle (h : svRuns s = false ∨ s.flag (ETHn_PTPCFG_ROLE n) = false) : sourceOffset n xs p unc s = s := by
  rcases h with h | h <;> simp [sourceOffset, h]

/-- What SV shows of the second: the offset of the best exchange, or without MINEX of them none. -/
def sourceShown (n : Nat) (xs : List PtpExchange) (p : PtpParent) (unc : Nat) (s : State) : State :=
  match bestExchange (lastSecond xs s) with
  | some x => if (ptpRx s).1 ≤ (lastSecond xs s).length then offsetShown n x p unc s else s.wr (ETHn_SRCINFO_VALID n) 0
  | none => s.wr (ETHn_SRCINFO_VALID n) 0

theorem sourceOffset_runs (hruns : svRuns s = true) (hrole : s.flag (ETHn_PTPCFG_ROLE n) = true) :
    sourceOffset n xs p unc s = sourceTold n p (sourceShown n xs p unc s) := if_neg (by simp [hruns, hrole])

theorem sourceShown_few (h : bestExchange (lastSecond xs s) = none ∨ (lastSecond xs s).length < (ptpRx s).1) :
    sourceShown n xs p unc s = s.wr (ETHn_SRCINFO_VALID n) 0 := by
  unfold sourceShown
  split
  next x hx => exact if_neg (Nat.not_le.mpr (h.resolve_left (by simp [hx])))
  next => rfl

theorem sourceShown_best {x : PtpExchange} (h : bestExchange (lastSecond xs s) = some x) (hlen : (ptpRx s).1 ≤ (lastSecond xs s).length) :
    sourceShown n xs p unc s = offsetShown n x p unc s := by
  rw [sourceShown, h]
  exact if_pos hlen

/-- What holds without an offset and with any holds of what is shown. -/
theorem sourceShown_of {P : State → Prop} (hnone : P (s.wr (ETHn_SRCINFO_VALID n) 0)) (hsome : ∀ x, P (offsetShown n x p unc s)) :
    P (sourceShown n xs p unc s) := by
  unfold sourceShown
  split
  · split
    · exact hsome _
    · exact hnone
  · exact hnone

theorem srcofs_ne_srcinfo (n : Nat) : ETHn_SRCOFS n ≠ ETHn_SRCINFO n := by unfold ETHn_SRCOFS ETHn_SRCINFO; omega

section
variable (h : s.wf = true)
include h

theorem sourceTold_class : (sourceTold n p s).rd (ETHn_SRCINFO_CLASS n) = p.cls.toNat :=
  (rd_wr_disjoint _ (ETHn_SRCINFO_SEQ n) (ETHn_SRCINFO_CLASS n) _ (Fld.ok_mk rfl) (wr_wf _ _ _ h) (.inl (of_decide_eq_true rfl))).trans
    (rd_wr_fits (Fld.ok_mk rfl) h p.cls.isLt)

theorem sourceTold_seq : (sourceTold n p s).rd (ETHn_SRCINFO_SEQ n) =
    (s.rd (ETHn_SRCINFO_SEQ n) + 1) % 2 ^ (ETHn_SRCINFO_SEQ n).width :=
  (rd_wr_eq _ (ETHn_SRCINFO_SEQ n) _ (Fld.ok_mk rfl) (wr_wf _ _ _ h)).trans (congrArg (fun k => (k + 1) % 2 ^ (ETHn_SRCINFO_SEQ n).width)
    (rd_wr_disjoint s (ETHn_SRCINFO_CLASS n) (ETHn_SRCINFO_SEQ n) _ (Fld.ok_mk rfl) h (.inr (of_decide_eq_true rfl))))

theorem sourceTold_below {g : Fld} (hg : g.lo + g.width ≤ 24) : (sourceTold n p s).rd g = s.rd g :=
  (rd_wr_disjoint _ (ETHn_SRCINFO_SEQ n) g _ (Fld.ok_mk rfl) (wr_wf _ _ _ h) (.inl (hg.trans (of_decide_eq_true rfl)))).trans
    (rd_wr_disjoint _ (ETHn_SRCINFO_CLASS n) g _ (Fld.ok_mk rfl) h (.inl hg))

theorem sourceTold_valid : (sourceTold n p s).flag (ETHn_SRCINFO_VALID n) = s.flag (ETHn_SRCINFO_VALID n) :=
  congrArg (· == 1) (sourceTold_below h (of_decide_eq_true rfl))

end

theorem sourceTold_offset : (sourceTold n p s).rdS (ETHn_SRCOFS_OFS n) = s.rdS (ETHn_SRCOFS_OFS n) :=
  congrArg (signed 48) ((rd_wr_ne _ (ETHn_SRCINFO_SEQ n) (ETHn_SRCOFS_OFS n) _ (srcofs_ne_srcinfo n)).trans
    (rd_wr_ne _ (ETHn_SRCINFO_CLASS n) (ETHn_SRCOFS_OFS n) _ (srcofs_ne_srcinfo n)))

theorem valid_wr_offset (v : Nat) : (s.wr (ETHn_SRCINFO_VALID n) v).rdS (ETHn_SRCOFS_OFS n) = s.rdS (ETHn_SRCOFS_OFS n) :=
  congrArg (signed 48) (rd_wr_ne _ _ _ _ (srcofs_ne_srcinfo n))

section
variable (x : PtpExchange) (h : s.wf = true)
include h

theorem offsetShown_wf : (offsetShown n x p unc s).wf = true := wr_wf _ _ _ (wr_wf _ _ _ (wr_wf _ _ _ h))

theorem offsetShown_seq : (offsetShown n x p unc s).rd (ETHn_SRCINFO_SEQ n) = s.rd (ETHn_SRCINFO_SEQ n) :=
  calc (offsetShown n x p unc s).rd (ETHn_SRCINFO_SEQ n)
      = _ := rd_wr_disjoint _ (ETHn_SRCINFO_VALID n) _ _ (Fld.ok_mk rfl) (wr_wf _ _ _ (wr_wf _ _ _ h)) (.inr (of_decide_eq_true rfl))
    _ = _ := rd_wr_disjoint _ (ETHn_SRCINFO_UNC n) _ _ (Fld.ok_mk rfl) (wr_wf _ _ _ h) (.inr (of_decide_eq_true rfl))
    _ = _ := rd_wr_ne _ _ _ _ (srcofs_ne_srcinfo n).symm

theorem offsetShown_offset (hlo : -2 ^ 47 ≤ offsetPs s n x) (hhi : offsetPs s n x < 2 ^ 47) :
    (offsetShown n x p unc s).rdS (ETHn_SRCOFS_OFS n) = offsetPs s n x :=
  calc (offsetShown n x p unc s).rdS (ETHn_SRCOFS_OFS n)
      = _ := valid_wr_offset _
    _ = _ := congrArg (signed 48) (rd_wr_ne _ (ETHn_SRCINFO_UNC n) (ETHn_SRCOFS_OFS n) _ (srcofs_ne_srcinfo n))
    _ = _ := rdS_wr_unsigned (Fld.ok_mk rfl) rfl h hlo hhi

theorem offsetShown_unc : (offsetShown n x p unc s).rd (ETHn_SRCINFO_UNC n) = min unc (2 ^ 23 - 1) :=
  have hfits : min unc (2 ^ 23 - 1) < 2 ^ 23 := by omega
  (rd_wr_disjoint _ (ETHn_SRCINFO_VALID n) (ETHn_SRCINFO_UNC n) _ (Fld.ok_mk rfl) (wr_wf _ _ _ (wr_wf _ _ _ h)) (.inl (of_decide_eq_true rfl))).trans
    (rd_wr_fits (Fld.ok_mk rfl) (wr_wf _ _ _ h) hfits)

theorem offsetShown_valid : (offsetShown n x p unc s).flag (ETHn_SRCINFO_VALID n) = offsetValid s n x p :=
  flag_wr (Fld.ok_mk rfl) rfl (wr_wf _ _ _ (wr_wf _ _ _ h)) _

end

theorem sourceShown_mem : (sourceShown n xs p unc s).mem = s.mem :=
  sourceShown_of (P := fun t => t.mem = s.mem) rfl fun _ => rfl

theorem sourceShown_wf (h : s.wf = true) : (sourceShown n xs p unc s).wf = true :=
  sourceShown_of (P := fun t => t.wf = true) (wr_wf _ _ _ h) (offsetShown_wf · h)

theorem sourceShown_seq (h : s.wf = true) : (sourceShown n xs p unc s).rd (ETHn_SRCINFO_SEQ n) = s.rd (ETHn_SRCINFO_SEQ n) :=
  sourceShown_of (P := fun t => t.rd (ETHn_SRCINFO_SEQ n) = s.rd (ETHn_SRCINFO_SEQ n))
    (rd_wr_disjoint _ (ETHn_SRCINFO_VALID n) _ _ (Fld.ok_mk rfl) h (.inr (of_decide_eq_true rfl))) (offsetShown_seq · h)

end

/-! ### The commands -/

section
variable (n : Fin 4) (s : State)

theorem exec_ethRefFallback :
    exec (.ethRefFallback n) s = .next (tickAt (fun s t => fallbackDue s t && s.flag (ETHn_CTRL_REFSRC n)) s) := rfl

theorem exec_esmcInfoPdu :
    exec (.esmcInfoPdu n) s = .next (tickAt (fun s t => infoDue t && ethUp s n && s.flag (ETHn_ESMC_TXEN n)) s) := by
  simp only [Bool.and_assoc]
  rfl

theorem exec_esmcTimeout : exec (.esmcTimeout n) s = .next (tickAt (esmcDue · n ·) s) := rfl

end

/-- Settles O49: each command is its operation or the tick of its event, and the operations' cases are the clauses; what an offset
leaves is read back from the fields that it writes one after another. -/
theorem ethernetCommands : Obligations.EthernetCommands := by
  intro n up ql freq xs p unc s en rate fec ok sends pdu told kept began ctl
  have enable {t : State} (h : ethEnable n s = t) : exec (.ethEnable n) s = .next (ctl (refreshQl t n)) :=
    done_whenOn s (congrArg (refreshQl · n) h)
  refine ⟨fun h => enable (ethEnable_enabled h), fun h hmode => enable (ethEnable_misfit h hmode),
    fun h hmode => enable (ethEnable_fits h hmode), fun h => congrArg done (ethLink_off h up),
    fun h hup => congrArg done (ethLink_stays h hup), fun h hup => congrArg done (ethLink_up h hup),
    fun h => congrArg done (ethLink_down h), exec_ethRefFallback n s, ethFallback_fed, ethFallback_own, exec_esmcInfoPdu n s,
    esmcPdu_leaves (by decide), fun h => congrArg done (esmcEvent_none h),
    fun w h => ⟨fun hs => congrArg done ((esmcEvent_some (s := ethSilent s) h).trans (esmcPdu_leaves (by decide) hs)),
      fun hs => congrArg done ((esmcEvent_some (s := ethSilent s) h).trans (esmcPdu_silent hs))⟩,
    fun w h => refreshQl_keepsChange n.isLt h, fun h => congrArg done (esmcReceive_down h _),
    fun h hrx => congrArg done (esmcReceive_taken h hrx _), fun h hrx => congrArg done (esmcReceive_dropped h hrx _),
    exec_esmcTimeout n s, rfl, fun hup hdue => congrArg done (if_pos (rxfDone_iff.mpr ⟨hup, hdue⟩)),
    fun h => congrArg done (if_neg (mt rxfDone_iff.mp ?_)), fun h => congrArg done (sourceOffset_idle h),
    fun hruns hrole hwf => ⟨sourceTold n p (sourceShown n xs p unc s), congrArg done (sourceOffset_runs hruns hrole), sourceShown_mem,
      sourceTold_class (sourceShown_wf hwf), (sourceTold_seq (sourceShown_wf hwf)).trans (by rw [sourceShown_seq hwf]),
      fun hfew => ?_, fun x hbest hlen => ?_⟩⟩
  · rcases h with h | h
    · exact fun hx => absurd hx.1 (by simp [h])
    · exact fun hx => absurd hx.2 (Nat.not_le.mpr h)
  · rw [sourceShown_few hfew]
    exact ⟨sourceTold_offset.trans (valid_wr_offset 0), (sourceTold_valid (wr_wf _ _ _ hwf)).trans (flag_wr (Fld.ok_mk rfl) rfl hwf false)⟩
  · rw [sourceShown_best hbest hlen]
    exact ⟨fun hlo hhi => sourceTold_offset.trans (offsetShown_offset x hwf hlo hhi),
      (sourceTold_below (offsetShown_wf x hwf) (of_decide_eq_true rfl)).trans (offsetShown_unc x hwf),
      (sourceTold_valid (offsetShown_wf x hwf)).trans (offsetShown_valid x hwf)⟩

end Sys2Proof.Machine

end

section
/-!
PROOFS. The canonical form through accesses to the memories (R457 to R474): traces, corrections, error responses and landed bytes keep it.
-/

namespace Sys2Proof.Machine

section
variable {s : State}

theorem foldl_wf {α : Type} {f : State → α → State} (hf : ∀ t x, t.wf = true → (f t x).wf = true) (l : List α) (h : s.wf = true) :
    (l.foldl f s).wf = true :=
  List.foldlRecOn (motive := fun t => t.wf = true) l f h fun t ht x _ => hf t x ht

/-! ### Entries of the logs (R472, R518 to R521) -/

theorem setLE_wf (a n v : Nat) (h : s.wf = true) : (s.setLE a n v).wf = true := setBytes_wf _ s a h

theorem logEvent_wf (code sev init unit data : Nat) (h : s.wf = true) : (logEvent code sev init unit data s).wf = true := by
  unfold logEvent
  extract_lets wp merge now entry slot s1 s2 saf s3
  split
  · exact (raiseRepeat_faultFrame s _).wf h
  · have h2 : s2.wf = true := wr_wf _ _ _ (setLE_wf _ _ _ h)
    clear_value s2
    split
    · exact (sendCopy_faultFrame s3 entry).wf h2
    · exact h2

theorem icError_wf (init a : Nat) (write : Bool) (cause : Nat) (h : s.wf = true) : (icError init a write cause s).wf = true := by
  unfold icError
  extract_lets e bus logged dropped t sev
  refine logEvent_wf _ _ _ _ _ ?_
  unfold t
  split
  · exact wr_wf _ _ _ (wr_wf _ _ _ h)
  · exact wr_wf _ _ _ (wr_wf _ _ _ h)

/-! ### Traces (R467, R567) -/

theorem traceWord_wf (w : Nat) (h : s.wf = true) : (traceWord w s).wf = true := by
  unfold traceWord
  split
  · exact h
  · split
    · exact wr_wf _ _ _ h
    · extract_lets i bus s1 s2
      have h2 : s2.wf = true := wr_wf _ _ _ (setReg_wf s1 _ _ h)
      split_ifs
      · exact h2
      · exact wr_wf _ _ _ h2
      · exact wr_wf _ _ _ h2

theorem traceInit_wf (init a : Nat) (write : Bool) (h : s.wf = true) : (traceInit init a write s).wf = true := by
  unfold traceInit
  extract_lets s1
  have h1 : s1.wf = true := wr_wf _ _ _ h
  split
  · exact traceWord_wf _ h1
  · exact h1

/-! ### Errors of code words (R460) -/

theorem countCorr_wf (a : Nat) (h : s.wf = true) : (countCorr a s).wf = true := by
  unfold countCorr
  split
  · exact wr_wf _ _ _ h
  · exact wr_wf _ _ _ h
  · exact wr_wf _ _ _ (wr_wf _ _ _ (wr_wf _ _ _ (wr_wf _ _ _ h)))
  · exact wr_wf _ _ _ (wr_wf _ _ _ (wr_wf _ _ _ (wr_wf _ _ _ h)))
  · exact h

theorem correct_wf (a n : Nat) (h : s.wf = true) : (correct a n s).wf = true := by
  unfold correct
  split
  · exact h
  · exact foldl_wf (fun t w ht => countCorr_wf w ht) _ h

theorem correctPartial_wf (a n : Nat) (h : s.wf = true) : (correctPartial a n s).wf = true :=
  foldl_wf (fun t w ht => by split <;> [exact correct_wf w 8 ht; exact ht]) _ h

theorem countUnc_wf (a : Nat) (h : s.wf = true) : (countUnc a s).wf = true := by
  unfold countUnc
  extract_lets s1 s2
  have h1 : s1.wf = true := by
    unfold s1
    split
    · exact wr_wf _ _ _ (wr_wf _ _ _ h)
    · exact wr_wf _ _ _ h
    · exact wr_wf _ _ _ (wr_wf _ _ _ (wr_wf _ _ _ (wr_wf _ _ _ h)))
    · exact wr_wf _ _ _ (wr_wf _ _ _ (wr_wf _ _ _ (wr_wf _ _ _ h)))
    · exact h
  have h2 : s2.wf = true := wr_wf _ _ _ h1
  split <;> exact logEvent_wf _ _ _ _ _ h2

theorem countBad_wf (a n : Nat) (part : Bool) (h : s.wf = true) : (countBad a n part s).wf = true :=
  foldl_wf (fun _ w ht => countUnc_wf w ht) _ h

theorem refusedWrite_wf (a n cause : Nat) (h : s.wf = true) : (refusedWrite a n cause s).wf = true := by
  unfold refusedWrite
  split_ifs
  · exact wr_wf _ _ _ (wr_wf _ _ _ h)
  · exact countBad_wf a n true h
  · exact h

/-! ### Bytes that land (R474) -/

theorem storeByte_wf (a : Nat) (b : Byte) (h : s.wf = true) : (storeByte a b s).wf = true := by
  have hset : (s.setByte a b).wf = true := setByte_wf s a b h
  unfold storeByte
  split
  case h_1 =>
    split
    · exact hset
    · exact h
  case h_2 | h_3 | h_4 | h_5 | h_6 | h_7 | h_8 => exact hset
  case h_9 => exact h

theorem storeBytes_wf (bs : List Byte) : ∀ (a : Nat) {s : State}, s.wf = true → (storeBytes a bs s).wf = true := by
  induction bs with
  | nil => exact fun _ _ h => h
  | cons b t ih => exact fun a _ h => ih (a + 1) (storeByte_wf a b h)

theorem nvsLand_wf : (nvsLand s).wf = s.wf := rfl

theorem nvsQueue_wf (a n : Nat) (h : s.wf = true) : (nvsQueue a n s).wf = true := by
  unfold nvsQueue
  refine foldl_wf ?_ _ h
  intro t w ht
  extract_lets t1
  have h1 : t1.wf = true := by
    unfold t1
    split
    · exact ht
    · exact nvsLand_wf.trans ht
  clear_value t1
  exact h1

theorem landWrite_wf (a : Nat) (bs : List Byte) (h : s.wf = true) : (landWrite a bs s).wf = true := by
  unfold landWrite
  extract_lets s1
  have h1 : s1.wf = true := by
    unfold s1
    split
    · exact h
    · exact correctPartial_wf a _ h
  refine storeBytes_wf bs a ?_
  split
  · exact nvsQueue_wf a _ h1
  · exact h1

theorem readBytes_wf (a n : Nat) (h : s.wf = true) : (readBytes a n s).2.wf = true := by
  unfold readBytes
  split_ifs <;> exact h

/-! ### Accesses of any length -/

theorem memWrite_wf (init a : Nat) (bs : List Byte) (h : s.wf = true) : (memWrite init a bs s).2.wf = true := by
  have ht := traceInit_wf init a true h
  unfold memWrite
  extract_lets s1 c
  split
  · exact landWrite_wf a bs ht
  · exact icError_wf _ _ _ _ (refusedWrite_wf a _ c ht)

theorem memRead_wf (init a n : Nat) (h : s.wf = true) : (memRead init a n s).2.2.wf = true := by
  have ht := traceInit_wf init a false h
  unfold memRead
  extract_lets s1 c
  split
  · exact correct_wf a n (readBytes_wf a n ht)
  · refine icError_wf _ _ _ _ ?_
    split
    · exact countBad_wf a n false (correct_wf a n ht)
    · exact ht

theorem memWriteLong_wf (init fuel : Nat) : ∀ (a : Nat) (bs : List Byte) {s : State}, s.wf = true →
    (memWriteLong init fuel a bs s).2.wf = true := by
  induction fuel with
  | zero => exact fun _ _ _ h => h
  | succ fuel ih =>
    intro a bs s h
    unfold memWriteLong
    split
    · exact h
    · exact ih _ _ (memWrite_wf init a _ h)

theorem memReadLong_wf (init fuel : Nat) : ∀ (a n : Nat) {s : State}, s.wf = true → (memReadLong init fuel a n s).2.2.wf = true := by
  induction fuel with
  | zero => exact fun _ _ _ h => h
  | succ fuel ih =>
    intro a n s h
    unfold memReadLong
    split
    · exact h
    · exact ih _ _ (memRead_wf init a _ h)

theorem dmaWrite_wf (init a : Nat) (bs : List Byte) (h : s.wf = true) : (dmaWrite init a bs s).2.wf = true :=
  memWriteLong_wf init _ a bs h

theorem dmaRead_wf (init a n : Nat) (h : s.wf = true) : (dmaRead init a n s).2.2.wf = true := memReadLong_wf init _ a n h

end

end Sys2Proof.Machine

end

section
/-!
PROOFS. Ethernet traffic (R396 to R414): Syncs that are queued, Delay_Req, received frames, unicast grants and the transmit ring.
-/

namespace Sys2Proof.Machine

section
variable {n : Nat} {s : State}

/-! ### Syncs (R398, R400, R403) -/

theorem sendSyncs_none (h : s.eth.queue.getD n [] = []) (waits : List (Fin 256)) : sendSyncs n waits s = s :=
  if_pos (by rw [h]; rfl)

theorem portSync_idle (h : s.flag (ETHn_CTRL_EN n) = false ∨ s.flag (ETHn_PTPCFG_ROLE n) = true) (a b : Nat) :
    portSync a b s n = s := by
  rcases h with h | h <;> simp [portSync, h]

theorem portSync_transmits (hen : s.flag (ETHn_CTRL_EN n) = true) (hrole : s.flag (ETHn_PTPCFG_ROLE n) = false) (a b : Nat) :
    portSync a b s n = (List.range 256).foldl (grantSync n a b) (mcastSync n a b s) :=
  if_neg (by simp [hen, hrole])

theorem syncQueue_notSent (h : s.flag SAF_STAT_CLKFAULT = true ∨ s.flag (ETHn_STAT_LINK_UP n) = false) (t : Nat) (g : Option Nat) :
    syncQueue n 1 t g s = (s.count (ETHn_CNTERR_NOTSENT n)).wr (ETHn_STAT_NOTSENT n) 1 := by
  rcases h with h | h <;> simp [syncQueue, syncNotSent, h]

theorem syncQueue_queues (hclk : s.flag SAF_STAT_CLKFAULT = false) (hup : s.flag (ETHn_STAT_LINK_UP n) = true) (t : Nat)
    (g : Option Nat) : syncQueue n 1 t g s =
      { s with eth := { s.eth with queue := s.eth.queue.setIfInBounds n (s.eth.queue.getD n [] ++ [⟨g, t⟩]) } } := by
  simp [syncQueue, syncNotSent, hclk, hup]

/-! ### Received frames (R406, R414) -/

theorem stampAt_eq (t f : Nat) : stampAt s t f = (t + f * s.rate / 256) / 2 ^ 48 := rfl

/-- The ingress time of a stamp so many fine steps into the present tick interval. -/
def rxStamp (n f : Nat) (s : State) : Nat := ingress s n ((s.tb.now + f * s.rate / 256) / 2 ^ 48)

section
variable {tlv : Tlv} {fine : Nat} {frame : List Byte}

theorem ethFrame_down (h : ethUp s n = false) (k : FrameKind) : ethFrame n k tlv fine frame s = s := if_pos (by simp [h])

section
variable (h : ethUp s n = true)
include h

theorem ethFrame_other : ethFrame n .other tlv fine frame s = (s.count (ETHn_CNTERR_RXDROP n)).wr (ETHn_STAT_RXDROP n) 1 :=
  if_neg (by simp [h])

theorem ethFrame_arpIcmp : ethFrame n .arpIcmp tlv fine frame s = rxRing n 0 0 frame s := if_neg (by simp [h])

section
variable {s1 : State} (hauth : authRx n tlv frame s = (none, s1))
include hauth

theorem ethFrame_event_rejected : ethFrame n .ptpEvent tlv fine frame s = s1 := by simp [ethFrame, h, hauth]
theorem ethFrame_general_rejected : ethFrame n .ptpGeneral tlv fine frame s = s1 := by simp [ethFrame, h, hauth]

end

section
variable {noauth auth : Bool} {s1 : State} (hauth : authRx n tlv frame s = (some (noauth, auth), s1))
include hauth

theorem ethFrame_event_accepted : ethFrame n .ptpEvent tlv fine frame s =
    rxRing n (rxFlags s1 true auth noauth) (rxStamp n fine s1) frame s1 := by
  simp [ethFrame, h, hauth, rxStamp, stampAt]

theorem ethFrame_general_accepted : ethFrame n .ptpGeneral tlv fine frame s = rxRing n (rxFlags s1 false auth noauth) 0 frame s1 := by
  simp [ethFrame, h, hauth]

end

end

/-- A request for a grant is a general message as it arrives. -/
theorem ethFrame_grantRequest (g : GrantReq) : ethFrame n (.grantRequest g) tlv fine frame s = ethFrame n .ptpGeneral tlv fine frame s := by
  simp [ethFrame]

theorem frameArrives_down (h : ethUp s n = false) (k : FrameKind) : frameArrives n k tlv fine frame s = s := by
  cases k <;> simp [frameArrives, ethFrame_down h]

theorem frameArrives_grantRequest {t : State} (h : ethFrame n .ptpGeneral tlv fine frame s = t) (g : GrantReq) :
    frameArrives n (.grantRequest g) tlv fine frame s =
      if t.rd (ETHn_RXWP_INDEX n) = s.rd (ETHn_RXWP_INDEX n) then t else negotiate n g t := by
  rw [← h, ← ethFrame_grantRequest g]
  rfl

end

theorem rxRing_full (h : 256 ≤ (s.rd (ETHn_RXWP_INDEX n) + 65536 - s.rd (ETHn_RXRP_INDEX n)) % 65536) (flags t : Nat)
    (frame : List Byte) : rxRing n flags t frame s = (s.count (ETHn_CNTERR_RXDROP n)).wr (ETHn_STAT_RXDROP n) 1 := if_pos (.inl h)

/-! ### Unicast grants (R398) -/

section
variable {g : GrantReq}

theorem negotiate_idle (h : svRuns s = false ∨ s.flag (ETHn_PTPCFG_ROLE n) = true) : negotiate n g s = s :=
  if_pos (by simpa using h)

/-- A period of Sync that no grant gives. -/
def beyondRange (g : GrantReq) : Prop := g.sync = true ∧ (signed 8 g.log.toNat < -7 ∨ 4 < signed 8 g.log.toNat)

section
variable (hruns : svRuns s = true) (hrole : s.flag (ETHn_PTPCFG_ROLE n) = false)
include hruns hrole

theorem negotiate_beyond (h : beyondRange g) : negotiate n g s = grantAnswer n 0 g s := by
  obtain ⟨hsync, hlog⟩ := h
  have hrange : (!g.sync || (decide (-7 ≤ signed 8 g.log.toNat) && decide (signed 8 g.log.toNat ≤ 4))) = false := by
    rw [hsync]
    simpa [Decidable.imp_iff_not_or] using hlog
  simp [negotiate, hruns, hrole, hrange]

theorem negotiate_within (h : ¬beyondRange g) : negotiate n g s = match grantSlot s n g with
    | none => grantAnswer n 0 g s
    | some i =>
      let w := writeGrant i (grantEntry s n g (s.bytes (grantAddr s i) 64)) s
      grantAnswer n (if w.1 = 0 then g.duration.toNat else 0) g w.2 := by
  have hrange : (!g.sync || (decide (-7 ≤ signed 8 g.log.toNat) && decide (signed 8 g.log.toNat ≤ 4))) = true := by
    simp only [beyondRange, not_and_or, not_or, Int.not_lt] at h
    simpa using h
  cases hslot : grantSlot s n g with
  | none => simp [negotiate, hruns, hrole, hrange, hslot]
  | some i => simp [negotiate, hruns, hrole, hrange, hslot]

end

end

/-! ### Delay_Req (R401, R403, R406) -/

section
variable {r : DelayReq}

/-- The state that has counted a Delay_Req. -/
def reqCounted (n : Nat) (s : State) : State := s.count (ETHn_CNTRX_DREQ n)

theorem delayReq_down (h : ethUp s n = false) : delayReq n r s = s := if_pos (by simp [h])

theorem reqCounted_role : (reqCounted n s).flag (ETHn_PTPCFG_ROLE n) = s.flag (ETHn_PTPCFG_ROLE n) :=
  congrArg (· == 1) (rd_wr_ne _ _ _ _ (by simp only [ETHn_PTPCFG_ROLE, ETHn_PTPCFG, ETHn_CNTRX_DREQ, ETHn_CNTRX]; omega))

section
variable (h : ethUp s n = true)
include h

theorem delayReq_clockFault (hclk : (reqCounted n s).flag SAF_STAT_CLKFAULT = true) : delayReq n r s =
    ((reqCounted n s).count (ETHn_CNTERR_RESPDROP n)).wr (ETHn_STAT_RESPDROP n) 1 :=
  (if_neg (by simp [h])).trans (if_pos hclk)

section
variable (hclk : (reqCounted n s).flag SAF_STAT_CLKFAULT = false)
include hclk

/-- A port in the receiver role takes it as another event message. -/
theorem delayReq_receiver (hrole : s.flag (ETHn_PTPCFG_ROLE n) = true) :
    delayReq n r s = ethFrame n .ptpEvent r.tlv r.fine r.frame (reqCounted n s) :=
  (if_neg (by simp [h])).trans ((if_neg (ne_true_of_eq_false hclk)).trans (if_pos (reqCounted_role.trans hrole)))

section
variable (hrole : s.flag (ETHn_PTPCFG_ROLE n) = false)
include hrole

theorem delayReq_transmitter : delayReq n r s = match authRx n r.tlv r.frame (reqCounted n s) with
    | (none, s) => s
    | (some (noauth, auth), s) =>
      let (g, s) := grantMatch n r.source s
      if g.isSome then delayResp n r g s
      else if r.multicast && s.flag (ETHn_MCAST_DRESP n) then delayResp n r none s
      else rxRing n (rxFlags s true auth noauth) (rxStamp n r.fine s) r.frame s := by
  unfold delayReq
  rw [if_neg (by simp [h])]
  extract_lets s1
  have hclk1 : s1.flag SAF_STAT_CLKFAULT = false := hclk
  have hrole1 : s1.flag (ETHn_PTPCFG_ROLE n) = false := reqCounted_role.trans hrole
  rw [if_neg (ne_true_of_eq_false hclk1), if_neg (ne_true_of_eq_false hrole1)]
  simp only [rxStamp, ← stampAt_eq]
  rfl

theorem delayReq_rejected {s1 : State} (hauth : authRx n r.tlv r.frame (reqCounted n s) = (none, s1)) : delayReq n r s = s1 := by
  rw [delayReq_transmitter h hclk hrole, hauth]

section
variable {noauth auth : Bool} {s1 s2 : State} {g : Option Nat}
  (hauth : authRx n r.tlv r.frame (reqCounted n s) = (some (noauth, auth), s1)) (hmatch : grantMatch n r.source s1 = (g, s2))
include hauth hmatch

theorem delayReq_answered (hg : g.isSome = true ∨ (r.multicast = true ∧ s2.flag (ETHn_MCAST_DRESP n) = true)) :
    delayReq n r s = delayResp n r g s2 := by
  rw [delayReq_transmitter h hclk hrole, hauth]
  simp only [hmatch]
  cases g with
  | some i => rfl
  | none =>
    obtain ⟨hm, hd⟩ := hg.resolve_left (by simp)
    simp [hm, hd]

theorem delayReq_toRing (hg : g = none) (hm : r.multicast = false ∨ s2.flag (ETHn_MCAST_DRESP n) = false) :
    delayReq n r s = rxRing n (rxFlags s2 true auth noauth) (rxStamp n r.fine s2) r.frame s2 := by
  rw [delayReq_transmitter h hclk hrole, hauth]
  simp only [hmatch, hg]
  rcases hm with hm | hm <;> simp [hm]

end

end

end

end

end

/-! ### The transmit ring (R403, R407, R414) -/

section
variable {fine : Nat}

theorem txSlot_idle (h : ethUp s n = false ∨ s.rd (ETHn_TXRP_INDEX n) = s.rd (ETHn_TXWP_INDEX n)) : txSlot n fine s = s :=
  if_pos (by simpa using h)

theorem authTx_wf (h : s.wf = true) : (authTx n s).2.2.wf = true := by
  unfold authTx
  split_ifs
  · exact h
  · exact h
  · exact wr_wf _ _ _ h

theorem ethSend_wf (ms : List EthMsg) (h : s.wf = true) : (ethSend ms s).wf = true := by
  unfold ethSend
  refine foldl_wf (fun t m ht => ?_) ms h
  split
  · exact ht
  · exact wr_wf _ _ _ ht

theorem authTx_where_wf (p : Prop) [Decidable p] (h : s.wf = true) : (if p then authTx n s else (true, none, s)).2.2.wf = true := by
  split
  · exact authTx_wf h
  · exact h

/-- A slot is completed at last, whether its frame goes or not. -/
theorem txSlot_completes (h : ethUp s n = true) (hne : s.rd (ETHn_TXRP_INDEX n) ≠ s.rd (ETHn_TXWP_INDEX n)) :
    ∃ t : State, txSlot n fine s = (t.count (ETHn_TXRP_INDEX n)).wr (ETHn_STAT_TXDONE n) 1 ∧ (s.wf = true → t.wf = true) := by
  unfold txSlot
  extract_lets rp a
  rw [if_neg (by simpa [h] using hne)]
  rcases hhead : dmaRead ETH_INIT a 16 s with ⟨c, hd, s1⟩
  simp only []
  rcases hframe : dmaRead ETH_INIT (a + 16) (min (imgLe hd 0 2) 2032) s1 with ⟨c', frame, s2⟩
  simp only []
  rcases hauth : (if (imgLe hd 2 2).testBit 3 = true ∨ (ptpMessage frame).isSome = true then authTx n s2 else (true, none, s2)) with
    ⟨ok, tlv, s3⟩
  refine ⟨_, rfl, fun hwf => dmaWrite_wf _ _ _ ?_⟩
  have h1 : s1.wf = true := by simpa only [hhead] using dmaRead_wf ETH_INIT a 16 hwf
  have h2 : s2.wf = true := by simpa only [hframe] using dmaRead_wf ETH_INIT (a + 16) (min (imgLe hd 0 2) 2032) h1
  have h3 : s3.wf = true := by
    simpa only [hauth] using authTx_where_wf (n := n) ((imgLe hd 2 2).testBit 3 = true ∨ (ptpMessage frame).isSome = true) h2
  have h4 : (ethSilent s3).wf = true := h3
  split
  · exact ethSend_wf _ h4
  · exact h4

theorem txDone_shows (h : s.wf = true) :
    ((s.count (ETHn_TXRP_INDEX n)).wr (ETHn_STAT_TXDONE n) 1).flag (ETHn_STAT_TXDONE n) = true :=
  flag_wr (Fld.ok_mk rfl) rfl (wr_wf _ _ _ h) true

end

end

/-! ### The commands -/

section
variable (n : Fin 4) (s : State)

theorem exec_syncInstant (waits : List (Fin 256)) :
    exec (.syncInstant n waits) s = .next (sendSyncs n waits (if syncDue s then deviceTick s else s)) := rfl

theorem exec_delayReqReceived (r : DelayReq) : exec (.delayReqReceived n r) s = .next (delayReq n r s) := rfl

theorem exec_ethFrameReceived (k : FrameKind) (tlv : Tlv) (fine : Fin 256) (frame : List Byte) :
    exec (.ethFrameReceived n k tlv fine frame) s = .next (frameArrives n k tlv fine frame s) := rfl

theorem exec_ethTxSlot (fine : Fin 256) : exec (.ethTxSlot n fine) s = .next (txSlot n fine s) := rfl

end

/-- Settles O50: each command is its operation, whose cases are the clauses; a slot of the transmit ring ends with TXDONE, which reads
back since the accesses to its memory keep the canonical form. -/
theorem ethernetTraffic : Obligations.EthernetTraffic := by
  intro n a b waits r tlv fine frame s up counted stamp
  refine ⟨exec_syncInstant n s waits, fun h => sendSyncs_none h waits, fun h => portSync_idle h a b,
    fun hen hrole => portSync_transmits hen hrole a b, fun g h => syncQueue_notSent h a g, fun g hclk hup => syncQueue_queues hclk hup a g,
    fun h => ⟨congrArg done (delayReq_down h), fun k => congrArg done (frameArrives_down h k), congrArg done (txSlot_idle (.inl h))⟩,
    fun h hrole hclk => congrArg done (delayReq_receiver h hclk hrole), fun h hclk => congrArg done (delayReq_clockFault h hclk),
    fun s1 h hrole hclk hauth => congrArg done (delayReq_rejected h hclk hrole hauth),
    fun noauth auth s1 h hrole hclk hauth => ⟨fun hg => congrArg done (delayReq_answered h hclk hrole hauth Prod.mk.eta.symm hg),
      fun hg hm => congrArg done (delayReq_toRing h hclk hrole hauth Prod.mk.eta.symm hg hm)⟩,
    fun h => ⟨congrArg done (ethFrame_other (tlv := tlv) (fine := fine) (frame := frame) h),
      congrArg done (ethFrame_arpIcmp (tlv := tlv) (fine := fine) h)⟩,
    fun s1 h hauth => ⟨congrArg done (ethFrame_event_rejected h hauth), congrArg done (ethFrame_general_rejected h hauth)⟩,
    fun noauth auth s1 h hauth => ⟨congrArg done (ethFrame_event_accepted h hauth), congrArg done (ethFrame_general_accepted h hauth)⟩,
    fun g t h => congrArg done (frameArrives_grantRequest (Host.Outcome.next.inj h) g),
    fun g => ⟨negotiate_idle, fun hruns hrole => ⟨negotiate_beyond hruns hrole, negotiate_within hruns hrole⟩⟩,
    fun h flags x => rxRing_full h flags x frame, fun h => congrArg done (txSlot_idle (.inr h)), fun h hne => ?_⟩
  obtain ⟨t, hslot, hwf⟩ := txSlot_completes (fine := fine) h hne
  exact ⟨(t.count (ETHn_TXRP_INDEX n)).wr (ETHn_STAT_TXDONE n) 1, congrArg done hslot, fun hs => txDone_shows (hwf hs)⟩

end Sys2Proof.Machine

end

section
/-!
PROOFS. Key pages (R424, R425, R427): who may give, zeroise and reclaim them.
-/

namespace Sys2Proof.Machine

/-! ### A guarded write of an initiator (R504) -/

theorem init_beq_true {i k : Init} (h : i.val = k.val) : (i == k) = true := beq_iff_eq.mpr (Fin.ext h)
theorem init_beq_false {i k : Init} (h : i.val ≠ k.val) : (i == k) = false := beq_eq_false_iff_ne.mpr (mt (congrArg Fin.val) h)

section
variable {init a cause : Nat} {ok : Bool} {f : State → State} {s t : State}

theorem guarded_refused (h : ok = false) : done (asAccess init a true (guardW ok init a cause f) s) =
    .next (asAccess init a true (fun _ => icError init a true cause (unstage init s)) s) := by
  rw [asAccess_const, guardW_refused h]; rfl

theorem guarded_allowed (h : ok = true) (hf : f (unstage init s) = t) :
    done (asAccess init a true (guardW ok init a cause f) s) = .next (asAccess init a true (fun _ => t) s) := by
  rw [asAccess_const, guardW_allowed h, hf]; rfl

end

section
variable {init n : Nat} {f : State → State} {s : State}

theorem ownPage_foreign (h : pageOwner s n ≠ init) (a : Nat) : ownPage init n a f s = pageViolation init a true s := if_neg h

theorem ownPage_owner (h : pageOwner s n = init) (a : Nat) : ownPage init n a f s = f s := if_pos h

theorem pageGive_busy (h : pageOps s n ≠ 0) (new : Nat) : pageGive n new s = s.wr (CXE_KPn_STAT_ERR n) 1 := if_pos h

/-- The slots of a page that is given: those that are in use and that the new owner does not own. -/
theorem pageGive_free (h : pageOps s n = 0) (new : Nat) : pageGive n new s = setPageOwner n new (zeroSlots n false
    (fun m => s.rd (CXE_KPn_SLOTm_STATE n m) != SL_EMPTY && s.rd (CXE_KPn_SLOTm_OWNER n m) != new) s) := if_neg (not_not.mpr h)

end

section
variable (init new : Init) (n : Fin 16) (s : State)

theorem exec_pageGive : exec (.pageGive init n new) s =
    .next (asAccess init (CXE_KPn_CTRL n) true (ownPage init n (CXE_KPn_CTRL n) (pageGive n new)) s) := rfl

theorem exec_pageZero (mask : Byte) : exec (.pageZero init n mask) s =
    .next (asAccess init (CXE_KPn_CTRL n) true (ownPage init n (CXE_KPn_CTRL n) (pageZero n mask.toNat)) s) := rfl

theorem exec_pageReclaim (pages : BitVec 16) : exec (.pageReclaim init pages) s =
    .next (asAccess init CXE_RECLAIM true (guardW (init == 6) init CXE_RECLAIM OWNER (reclaim pages.toNat)) s) := rfl

end

/-- Settles O59: each command is its initiator's access, which the page's owner, or for RECLAIM SV, decides behind the discarded half. -/
theorem pageCommands : Obligations.PageCommands := by
  intro init new n mask pages s u acc sv refused
  have page {f : State → State} {t : State} (h : ownPage init n (CXE_KPn_CTRL n) f u = t) :
      done (asAccess init (CXE_KPn_CTRL n) true (ownPage init n (CXE_KPn_CTRL n) f) s) = .next (acc t) := by
    rw [asAccess_const, show ownPage _ _ _ f (unstage init s) = t from h]; rfl
  have give := exec_pageGive init new n s
  have zero := exec_pageZero init n s mask
  refine ⟨fun h => ?_, fun h => ?_, fun h => guarded_refused (init_beq_false h), fun h => guarded_allowed (init_beq_true h) rfl⟩
  · have foreign : pageOwner u n ≠ init.val := h
    exact ⟨give.trans (page (ownPage_foreign foreign _)), zero.trans (page (ownPage_foreign foreign _))⟩
  · have owner : pageOwner u n = init.val := h
    refine ⟨zero.trans (page (ownPage_owner owner _)), fun hops => ?_, fun hops => ?_⟩
    · have busy : pageOps u n ≠ 0 := hops
      exact give.trans (page ((ownPage_owner owner _).trans (pageGive_busy busy _)))
    · have free : pageOps u n = 0 := hops
      exact give.trans (page ((ownPage_owner owner _).trans (pageGive_free free _)))

end Sys2Proof.Machine

end

section
/-!
PROOFS. The lifecycle, debug certificates and debug levels, and TRUSTREQ (R441 to R449).
-/

namespace Sys2Proof.Machine

section
variable {s : State}

/-! ### The check of a signature (R441) -/

theorem signedFields_eq (key b : List Byte) : signedFields key b s =
    if imgLe b 13 1 = 1 ∧ otpBit s 8 = true then V_REVOKED
    else if imgLe b 13 1 ≠ 0 ∧ ofBE (sha256 key) ≠ anchor s (imgLe b 13 1) then V_KEYMISMATCH
    else if onCurve p256 (ofBE (key.take p256.len)) (ofBE (key.drop p256.len)) = false then V_BADKEY
    else if ecdsa p256 key (sha256 (b.take 16)) ((b.drop 16).take 64) then V_VALID else V_INVALID := by
  simp only [signedFields, svuCheck, Bool.not_eq_true']

/-! ### Lifecycle requests (R443) -/

section
variable {target addr : Nat} {s1 : State}

theorem lcRequest_unread (h : cxeRead addr 80 s = (none, s1)) : lcRequest target addr s = s1.wr SVU_STAT_LCFAIL 1 := by
  simp [lcRequest, h]

/-- The fields of a request that agree with the device and with its target. -/
def RequestFits (s : State) (target : Nat) (b : List Byte) : Prop :=
  ofLE (b.take 8) = otpDevid s ∧ imgLe b 8 4 = 0 ∧ imgLe b 12 1 = target ∧ imgLe b 14 2 = 0

theorem requestFits_iff {b : List Byte} : RequestFits s target b ↔
    (ofLE (b.take 8) == otpDevid s && imgLe b 8 4 == 0 && imgLe b 12 1 == target && imgLe b 14 2 == 0) = true := by
  simp [RequestFits, and_assoc]

section
variable {b : List Byte} (h : cxeRead addr 80 s = (some b, s1))
include h

theorem lcRequest_fails (hbad : lcTransition s1.lcs target = none ∨ ¬RequestFits s1 target b) :
    lcRequest target addr s = s1.wr SVU_STAT_LCFAIL 1 := by
  rw [requestFits_iff, Bool.not_eq_true] at hbad
  rcases ht : lcTransition s1.lcs target with _ | signed
  · simp [lcRequest, h, ht]
  · have hfits := hbad.resolve_left (by simp [ht])
    simp [lcRequest, h, ht, hfits]

theorem lcRequest_unsigned (ht : lcTransition s1.lcs target = some false) (hfits : RequestFits s1 target b) :
    lcRequest target addr s = if otpHash s1 1 = 0 then s1.wr SVU_STAT_LCFAIL 1 else lcAccept target s1 := by
  rw [requestFits_iff] at hfits
  simp [lcRequest, h, ht, hfits]

/-- A request that needs a signature waits for its check where its PKSEL names anchor 1 or 2. -/
theorem lcRequest_signed (ht : lcTransition s1.lcs target = some true) (hfits : RequestFits s1 target b) :
    lcRequest target addr s = if imgLe b 13 1 = 1 ∨ imgLe b 13 1 = 2 then { s1 with svu := { s1.svu with lc := some ⟨target, b⟩ } }
      else s1.wr SVU_STAT_LCFAIL 1 := by
  rw [requestFits_iff] at hfits
  rw [← ite_not]
  simp [lcRequest, h, ht, hfits]

end

end

theorem lcVerified_none (h : s.svu.lc = none) (key : List Byte) : lcVerified key s = s := by simp only [lcVerified, h]

section
variable {r : LcRequest} (h : s.svu.lc = some r) {key : List Byte}
include h

theorem lcVerified_valid (hv : signedFields key r.bytes { s with svu := { s.svu with lc := none } } = V_VALID) :
    lcVerified key s = lcAccept r.target { s with svu := { s.svu with lc := none } } := by
  simp only [lcVerified, h]
  exact if_pos hv

theorem lcVerified_invalid (hv : signedFields key r.bytes { s with svu := { s.svu with lc := none } } ≠ V_VALID) :
    lcVerified key s = ({ s with svu := { s.svu with lc := none } } : State).wr SVU_STAT_LCFAIL 1 := by
  simp only [lcVerified, h]
  exact if_neg hv

end

/-! ### Debug levels and certificates (R445 to R448) -/

theorem certSubmit_waiting (h : s.svu.cert = true) : certSubmit s = s := if_pos h
theorem certSubmit_free (h : s.svu.cert = false) :
    certSubmit s = refreshSvu { s with svu := { s.svu with cert := true, before := !s.svu.jobs.isEmpty } } := if_neg (by simp [h])

theorem levelReq_waiting (h : s.svu.cert = true) (lv : Nat) : levelReq lv s = s := if_pos h

section
variable (h : s.svu.cert = false) {lv : Nat}
include h

theorem levelReq_zero (hlv : lv = 0) : levelReq lv s = dropLevel s := by simp [levelReq, h, hlv]

theorem levelReq_open (hlv : lv ≠ 0) (hlcs : s.lcs = BLANK ∨ s.lcs = RETURNED) : levelReq lv s = grantLevel lv s := by
  simp [levelReq, h, hlv, hlcs]

theorem levelReq_closed (hlv : lv ≠ 0) (hblank : s.lcs ≠ BLANK) (hreturned : s.lcs ≠ RETURNED) :
    levelReq lv s = s.wr SVU_STAT_DBGFAIL 1 := by
  simp [levelReq, h, hlv, hblank, hreturned]

end

theorem certVerified_idle (h : s.svu.cert = false ∨ s.svu.before = true) (key : List Byte) : certVerified key s = s :=
  if_pos (by rcases h with h | h <;> simp [h])

/-- The state in which the check of a certificate ends: it waits no more and is counted. -/
def certCounted (s : State) : State :=
  refreshSvu (({ s with svu := { s.svu with cert := false }, nvs := { s.nvs with dbgCnt := (s.nvs.dbgCnt + 1) % 2 ^ 32 } } : State).wr
    SVU_DBGCNT_COUNT ((s.nvs.dbgCnt + 1) % 2 ^ 32))

/-- The levels that a certificate may ask for in the lifecycle state. -/
abbrev LevelAllowed (s : State) (k : Nat) : Prop := 1 ≤ k ∧ k ≤ (if s.lcs = PROVISIONED ∨ s.lcs = DEPLOYED then 2 else 3)

section
variable (hcert : s.svu.cert = true) (hbefore : s.svu.before = false) {key : List Byte}
include hcert hbefore

theorem certVerified_fits (hf : certFields s (mailbox s) = true) : certVerified key s =
    if signedFields key (mailbox s) (certCounted s) = V_VALID ∧ LevelAllowed s (imgLe (mailbox s) 12 1)
      then grantLevel (imgLe (mailbox s) 12 1)
        ((certCounted s).wr SVU_DBG_RESULT (signedFields key (mailbox s) (certCounted s)))
      else ((certCounted s).wr SVU_DBG_RESULT (signedFields key (mailbox s) (certCounted s))).wr SVU_STAT_DBGFAIL 1 := by
  have hwait : ¬(!s.svu.cert || s.svu.before) = true := by simp [hcert, hbefore]
  rw [certVerified, if_neg hwait]
  extract_lets b lv fits allowed s1 s2
  have hfits : fits = true := hf
  rw [if_neg (by simp [hfits])]
  exact if_congr (and_congr_right fun _ => by simp [allowed, within, LevelAllowed, lv, b]) rfl rfl

theorem certVerified_misfits (hf : certFields s (mailbox s) = false) : ∃ v, certVerified key s =
    (({ certCounted s with freeCount := (certCounted s).freeCount + 1 } : State).wr SVU_DBG_RESULT v).wr SVU_STAT_DBGFAIL 1 := by
  have hwait : ¬(!s.svu.cert || s.svu.before) = true := by simp [hcert, hbefore]
  rw [certVerified, if_neg hwait]
  extract_lets b lv fits allowed s1 s2
  have hfits : fits = false := hf
  exact ⟨_, if_pos (by simp [hfits])⟩

end

end

section
variable (init : Init) (s : State)

theorem exec_lifecycleRequest (target : Fin 4) (req : BitVec 26) : exec (.lifecycleRequest init target req) s =
    done (asAccess init SVU_LCCMD true (guardW (init == 6) init SVU_LCCMD OWNER (lcRequest target (req.toNat * 64))) s) := rfl
theorem exec_dbgCertSubmit : exec (.dbgCertSubmit init) s =
    done (asAccess init SVU_DBG true (guardW (init == 14) init SVU_DBG OWNER certSubmit) s) := rfl
theorem exec_dbgLevelReq (lv : Fin 4) : exec (.dbgLevelReq init lv) s =
    done (asAccess init SVU_DBG true (guardW (init == 14) init SVU_DBG OWNER (levelReq lv)) s) := rfl
theorem exec_dbgDrop : exec (.dbgDrop init) s =
    done (asAccess init SVU_DBG true (guardW (init == 14) init SVU_DBG OWNER dropLevel) s) := rfl
theorem exec_trustreqWrite (on : Bool) : exec (.trustreqWrite init on) s = done (asAccess init SVU_TRUST true
    (guardW (init == 4 || init == 5) init SVU_TRUST OWNER (fun s => refreshTrust (s.put SVU_TRUST_TRUSTREQ on))) s) := rfl

end

/-- Settles O60: each request is its initiator's guarded access, and what it does behind the discarded half is the branch of its check. -/
theorem lifecycleAndDebug : Obligations.LifecycleAndDebug := by
  intro init target lv req on key s u lcc dbg trust
  have lc := exec_lifecycleRequest init s target req
  have cert := exec_dbgCertSubmit init s
  have level := exec_dbgLevelReq init s lv
  have drop := exec_dbgDrop init s
  have trusted := exec_trustreqWrite init s on
  refine ⟨fun b t => signedFields_eq key b, fun h => ?_, fun h => ?_, fun h4 h5 => ?_, fun h => ?_, fun b s1 h6 hread => ?_, fun s1 h6 hread => ?_,
    fun h => congrArg done (lcVerified_none h key), fun r h => ?_, fun h14 => ?_, fun h => congrArg done (certVerified_idle h key),
    fun hcert hbefore => ?_⟩
  · exact lc.trans (guarded_refused (init_beq_false h))
  · have other : (init == 14) = false := init_beq_false h
    exact ⟨cert.trans (guarded_refused other), level.trans (guarded_refused other), drop.trans (guarded_refused other)⟩
  · exact trusted.trans (guarded_refused (by rw [init_beq_false h4, init_beq_false h5]; rfl))
  · refine trusted.trans (guarded_allowed (Bool.or_eq_true_iff.mpr (h.imp init_beq_true init_beq_true)) ?_)
    rw [put_eq]
  · have sv : (init == 6) = true := init_beq_true h6
    have hread' : cxeRead (req.toNat * 64) 80 (unstage init s) = (some b, s1) := hread
    refine ⟨fun h => lc.trans (guarded_allowed sv (lcRequest_fails hread' h)),
      fun ht hf hash => lc.trans (guarded_allowed sv ((lcRequest_unsigned hread' ht hf).trans (if_pos hash))),
      fun ht hf hash => lc.trans (guarded_allowed sv ((lcRequest_unsigned hread' ht hf).trans (if_neg hash))),
      fun ht hf sel => lc.trans (guarded_allowed sv ((lcRequest_signed hread' ht hf).trans (if_pos sel))),
      fun ht hf sel => lc.trans (guarded_allowed sv ((lcRequest_signed hread' ht hf).trans (if_neg sel)))⟩
  · exact lc.trans (guarded_allowed (init_beq_true h6) (lcRequest_unread hread))
  · exact ⟨fun hv => congrArg done (lcVerified_valid h hv), fun hv => congrArg done (lcVerified_invalid h hv)⟩
  · have port : (init == 14) = true := init_beq_true h14
    have dropped := drop.trans (guarded_allowed port rfl)
    refine ⟨fun h => ?_, fun h => ?_, dropped⟩
    · have waiting : (unstage init s).svu.cert = true := h
      exact ⟨cert.trans (guarded_allowed port (certSubmit_waiting waiting)),
        level.trans (guarded_allowed port (levelReq_waiting waiting _))⟩
    · have free : (unstage init s).svu.cert = false := h
      exact ⟨cert.trans (guarded_allowed port (certSubmit_free free)),
        fun hlv => (level.trans (guarded_allowed port (levelReq_zero free hlv))).trans dropped.symm,
        fun hlv hlcs => level.trans (guarded_allowed port (levelReq_open free hlv hlcs)),
        fun hlv hblank hreturned => level.trans (guarded_allowed port (levelReq_closed free hlv hblank hreturned))⟩
  · intro b k cnt s1 allowed r
    refine ⟨fun hf hr hk => ?_, fun hf hbad => ?_, fun hf => ?_⟩
    · refine congrArg done ((certVerified_fits hcert hbefore hf).trans ((if_pos ⟨hr, hk⟩).trans ?_))
      exact congrArg (fun v => grantLevel k (s1.wr SVU_DBG_RESULT v)) hr
    · exact congrArg done ((certVerified_fits hcert hbefore hf).trans (if_neg (not_and_or.mpr hbad)))
    · obtain ⟨v, hv⟩ := certVerified_misfits hcert hbefore (key := key) hf
      exact ⟨v, congrArg done hv⟩

end Sys2Proof.Machine

end

section
/-!
PROOFS. The cryptographic engine begins, runs and completes its operations, and the signature verifier its jobs (R428 to R435, R440).
-/

namespace Sys2Proof.Machine

section
variable {s : State}

/-! ### The engine begins its next operation (R433, R434) -/

/-- The state with an operation taken off the queue of the engine. -/
def dequeued (s : State) (o : CxeOp) : State := { s with cxe := { s.cxe with queue := s.cxe.queue.erase o } }

section
variable {code : Nat} {f : CxeOp → State → CxeOp × State}

theorem cxeRun_none (h : nextOp s = none) : cxeRun code f s = s := by simp only [cxeRun, h]

section
variable {o : CxeOp} (h : nextOp s = some o)
include h

theorem cxeRun_waits (hw : o.op ≠ code ∨ engineFree s o.prio = false) : cxeRun code f s = s := by
  simp only [cxeRun, h]
  exact if_pos (hw.imp_right (by simp))

section
variable (hop : o.op = code) (hfree : engineFree s o.prio = true)
include hop hfree

theorem cxeRun_refused {c : Nat} (hc : opCheck (dequeued s o) o = c) (hne : c ≠ 0) : cxeRun code f s =
    let s2 := (if c = OP_EXHAUSTED then (dequeued s o).wr CXE_STAT_EXHAUST 1 else dequeued s o).count CXE_BUSY_CYCLES 24
    { s2 with cxe := { s2.cxe with running := { o with status := c, unver := false } :: s2.cxe.running } } := by
  rw [cxeRun, h]
  refine (if_neg (by simp [hop, hfree])).trans ?_
  extract_lets src s1 c' s2
  have hc' : c' = c := hc
  rw [if_pos (hc' ▸ hne)]
  subst hc
  rfl

theorem cxeRun_begins (hc : opCheck (dequeued s o) o = 0) : cxeRun code f s =
    let r := f o ((dequeued s o).count CXE_BUSY_CYCLES 24)
    { r.2 with cxe := { r.2.cxe with running := r.1 :: r.2.cxe.running } } := by
  rw [cxeRun, h]
  refine (if_neg (by simp [hop, hfree])).trans ?_
  extract_lets src s1 c s2
  have hc' : c = 0 := hc
  have hs2 : s2 = dequeued s o := if_neg (by rw [hc']; decide)
  rw [if_neg (not_not.mpr hc'), hs2]
  rfl

end

end

end

/-! ### The end of an operation (R430, R433) -/

theorem cxeComplete_icv (h : 0 < s.cxe.icv) : cxeComplete s = s := if_pos h

theorem engineFree_icv {prio : Nat} (h : engineFree s prio = true) : s.cxe.icv = 0 := by
  simp only [engineFree, Bool.and_eq_true, beq_iff_eq] at h
  exact h.1

theorem cxeComplete_unknown {o : CxeOp} (h : nextOp s = some o) (hop : ¬(1 ≤ o.op ∧ o.op ≤ 13)) (hfree : engineFree s o.prio = true) :
    cxeComplete s = cxeFinish { o with status := opCheck s o, unver := false } ((dequeued s o).count CXE_BUSY_CYCLES 24) := by
  have hnext : nextUnknown s = some o := by
    have hout : within 1 13 o.op = false := Bool.eq_false_iff.mpr (by simpa [within] using hop)
    simp [nextUnknown, h, Option.filter_some, hout, hfree]
  have hicv : ¬0 < s.cxe.icv := Nat.not_lt.mpr (Nat.le_of_eq (engineFree_icv hfree))
  rw [cxeComplete, if_neg hicv, cxeEnd, hnext]
  rfl

section
variable (h : ∀ o, nextOp s = some o → 1 ≤ o.op ∧ o.op ≤ 13 ∨ engineFree s o.prio = false)
include h

theorem nextUnknown_none : nextUnknown s = none := by
  rw [nextUnknown, Option.filter_eq_none_iff]
  intro o ho
  rcases h o ho with h | h <;> simp [within, h]

variable (hicv : s.cxe.icv = 0)
include hicv

theorem cxeComplete_idle (hr : s.cxe.running = []) : cxeComplete s = s := by
  rw [cxeComplete, if_neg (Nat.not_lt.mpr (Nat.le_of_eq hicv)), cxeEnd, nextUnknown_none h, hr]

theorem cxeComplete_begun {o : CxeOp} {rest : List CxeOp} (hr : s.cxe.running = o :: rest) : cxeComplete s =
    cxeFinish (opFinish o s).1 (slotAfter (opFinish o s).1
      { (opFinish o s).2 with cxe := { (opFinish o s).2.cxe with running := rest } }) := by
  rw [cxeComplete, if_neg (Nat.not_lt.mpr (Nat.le_of_eq hicv)), cxeEnd, nextUnknown_none h, hr]

end

/-! ### The jobs of the verifier (R440) -/

theorem svuSubmitter {init : Init} :
    (init.val == 4 || init.val == 5 || init.val == 6 || init.val == 15) = true ↔ init.val ∈ [4, 5, 6, 15] := by
  simp [or_assoc]

theorem svuPush_full (h : 8 ≤ s.svu.jobs.length) (j : SvuJob) : svuPush j s = s.wr SVU_STAT_QFULL 1 := if_pos h
theorem svuPush_room (h : s.svu.jobs.length < 8) (j : SvuJob) :
    svuPush j s = refreshSvu { s with svu := { s.svu with jobs := s.svu.jobs ++ [j] } } := if_neg (Nat.not_le.mpr h)

theorem svuCheck_ne_zero (c : Curve) (sel : Nat) (key digest sig : List Byte) : svuCheck c sel key digest sig s ≠ 0 := by
  unfold svuCheck
  split_ifs <;> decide

/-- The state behind the end of the oldest job, with its result. -/
def jobEnded (rest : List SvuJob) (r : Nat × State) : State :=
  refreshSvu (svuCounted r.1 { r.2 with svu := { r.2.svu with jobs := rest, before := false } })

theorem svuJobDone_idle (h : s.svu.jobs = [] ∨ (s.svu.cert = true ∧ s.svu.before = false)) : svuJobDone s = (0, s) := by
  unfold svuJobDone
  split
  next => rfl
  next j rest hj =>
    obtain ⟨hcert, hbefore⟩ := h.resolve_left (by simp [hj])
    exact if_pos (by simp [hcert, hbefore])

theorem svuJobEnd_idle (h : s.svu.jobs = [] ∨ (s.svu.cert = true ∧ s.svu.before = false)) : svuJobEnd s = s := by
  unfold svuJobEnd
  rw [svuJobDone_idle h]
  split
  next heq => cases heq; exact if_neg (by decide)
  next heq => cases heq; exact if_pos rfl
  next heq _ _ => cases heq; rfl

section
variable {j : SvuJob} {rest : List SvuJob} (hj : s.svu.jobs = j :: rest) (h : s.svu.cert = false ∨ s.svu.before = true)
include hj h

theorem svuJobDone_ends : svuJobDone s = ((svuResult j s).1, jobEnded rest (svuResult j s)) := by
  unfold svuJobDone
  rw [hj]
  exact if_neg (by rcases h with h | h <;> simp [h])

theorem svuJobEnd_desc {a : Nat} (hdesc : j = .desc a) : svuJobEnd s = jobEnded rest (svuResult j s) := by
  rw [svuJobEnd, svuJobDone_ends hj h, hj, hdesc]
  rfl

theorem svuJobEnd_chain {key digest sig : List Byte} (hchain : j = .chain key digest sig) :
    svuJobEnd s = chainVerdict (svuResult j s).1 (jobEnded rest (svuResult j s)) := by
  have hne : (svuResult j s).1 ≠ 0 := by
    rw [hchain]
    exact svuCheck_ne_zero p256 3 key digest sig
  rw [svuJobEnd, svuJobDone_ends hj h, hj]
  subst hchain
  exact if_neg hne

theorem svuJobEnd_root {p : Bool} {pub digest sig : List Byte} {sha3 : Bool} {n : Nat} {key : List Byte}
    (hroot : j = .root p pub digest sig sha3 n key) : svuJobEnd s =
      if (svuResult j s).1 = V_VALID then rootVerified sha3 n key (jobEnded rest (svuResult j s)) else jobEnded rest (svuResult j s) := by
  rw [svuJobEnd, svuJobDone_ends hj h, hj]
  subst hroot
  rfl

end

end

section
variable (s : State)

theorem exec_cxeOpComplete : exec .cxeOpComplete s = .next (cxeComplete s) := rfl
theorem exec_svuJobComplete : exec .svuJobComplete s = .next (svuJobEnd s) := rfl
theorem exec_svuSubmit (init : Init) (d : BitVec 26) : exec (.svuSubmit init d) s = done (asAccess init SVU_SUBMIT true
    (guardW (init.val == 4 || init.val == 5 || init.val == 6 || init.val == 15) init SVU_SUBMIT OWNER (svuPush (.desc (d.toNat * 64)))) s) := rfl

end

/-- Settles O57: every operation's command is the engine's, with its code and its function; the ends are those of the engine and of the
oldest job. -/
theorem engineCommands : Obligations.EngineCommands := by
  intro init d s runs
  have run {i : Instr} {code : Nat} {f : CxeOp → State → CxeOp × State} (h : exec i s = .next (cxeRun code f s)) : runs i code f :=
    ⟨fun hn => h.trans (congrArg done (cxeRun_none hn)), fun o hn hw => h.trans (congrArg done (cxeRun_waits hn hw)),
      fun o hn hop hfree => ⟨fun c hc hne => h.trans (congrArg done (cxeRun_refused hn hop hfree hc hne)),
        fun hc => h.trans (congrArg done (cxeRun_begins hn hop hfree hc))⟩⟩
  refine ⟨run rfl, run rfl, run rfl, run rfl, run rfl, run rfl, run rfl, run rfl, run rfl, run rfl, run rfl, run rfl, run rfl,
    fun h => congrArg done (cxeComplete_icv h), fun o h hop hfree => congrArg done (cxeComplete_unknown h hop hfree),
    fun hicv h => ⟨fun hr => congrArg done (cxeComplete_idle h hicv hr), fun o rest hr => congrArg done (cxeComplete_begun h hicv hr)⟩,
    ⟨fun h => ?_, fun h => ⟨fun hfull => ?_, fun hroom => ?_⟩⟩, fun h => congrArg done (svuJobEnd_idle h), fun j rest hj h => ⟨?_, ?_, ?_⟩⟩
  · exact (exec_svuSubmit s init d).trans (guarded_refused (Bool.eq_false_iff.mpr (mt svuSubmitter.mp h)))
  · exact (exec_svuSubmit s init d).trans (guarded_allowed (svuSubmitter.mpr h) (svuPush_full (s := unstage init s) hfull _))
  · exact (exec_svuSubmit s init d).trans (guarded_allowed (svuSubmitter.mpr h) (svuPush_room (s := unstage init s) hroom _))
  · exact fun a hdesc => ⟨congrArg done (svuJobEnd_desc hj h hdesc), by rw [hdesc]; rfl⟩
  · exact fun key digest sig hchain => ⟨by rw [hchain]; rfl, congrArg done (svuJobEnd_chain hj h hchain)⟩
  · exact fun p pub digest sig sha3 n key hroot => ⟨by rw [hroot]; rfl, congrArg done (svuJobEnd_root hj h hroot)⟩

end Sys2Proof.Machine

end

section
/-!
PROOFS. Watchdogs, supplies, temperature, the firmware's log entries and the trace (R511, R512, R514, R515, R522, R567).
-/

namespace Sys2Proof.Machine

section
variable {s : State}

/-! ### Watchdogs (R511, R512) -/

/-- A write of KICK = 1 is its core's alone. -/
theorem safWrite_kick (init : Nat) (core : CoreId) (s : State) : safWrite init (SAF_WDKICKn core) 1 s =
    guardW (init == core.val) init (SAF_WDKICKn core) OWNER (dogKick core) s := by
  have hlog : SAF_WDKICKn core ≠ SAF_SWLOG := by simp only [SAF_WDKICKn, SAF_SWLOG]; omega
  have hcfg : ¬(0x200 ≤ SAF_WDKICKn core - 0x10160000 ∧ SAF_WDKICKn core - 0x10160000 < 0x238) := by
    simp only [SAF_WDKICKn]; omega
  have hkick : 0x240 ≤ SAF_WDKICKn core - 0x10160000 ∧ SAF_WDKICKn core - 0x10160000 < 0x278 := by
    simp only [SAF_WDKICKn]; omega
  have hcore : (SAF_WDKICKn core - 0x10160000 - 0x240) / 8 = core.val := by simp only [SAF_WDKICKn]; omega
  have hone (n : Nat) : (SAF_WDKICKn_KICK n).of 1 = 1 := rfl
  simp only [safWrite, if_neg hlog, if_neg hcfg, if_pos hkick, hcore, hone, if_true]

theorem dogKick_idle {n : Nat} (h : (s.saf.dogs.getD n {}).counting = false) : dogKick n s = s := if_neg (by simp [h])

section
variable {n : Nat} (h : (s.saf.dogs.getD n {}).counting = true)
include h

theorem dogKick_disabled (hen : s.flag (SAF_WDCFGn_EN n) = false) : dogKick n s = s := (if_pos h).trans (if_neg (by simp [hen]))

theorem dogKick_restarts (hen : s.flag (SAF_WDCFGn_EN n) = true) :
    dogKick n s = s.setDog n { period := max (s.rd (SAF_WDCFGn_PERIOD n)) 1, counting := true, count := 0 } :=
  (if_pos h).trans (if_pos hen)

theorem dogTick_counts (hclk : clocked s n = true) (hdue : dogDue s n = false) :
    dogTick s n = s.setDog n { s.saf.dogs.getD n {} with count := (s.saf.dogs.getD n {}).count + 1 } := by
  have hlate : ¬(s.saf.dogs.getD n {}).period * 600 ≤ (s.saf.dogs.getD n {}).count + 1 := by simpa [dogDue, h, hclk] using hdue
  simp [dogTick, h, hclk, hlate]

end

theorem dogDue_iff {n : Nat} : dogDue s n = true ↔ (s.saf.dogs.getD n {}).counting = true ∧ clocked s n = true ∧
    (s.saf.dogs.getD n {}).period * 600 ≤ (s.saf.dogs.getD n {}).count + 1 := by
  simp [dogDue, and_assoc]

/-- A watchdog of a core shows what it was set to. -/
theorem dogs_setDog (core : CoreId) (w : Watchdog) (s : State) : (s.setDog core w).saf.dogs.getD core {} = w :=
  (getD_setIfInBounds ..).trans (if_pos ⟨rfl, core.isLt⟩)

theorem dogTick_expires {core : CoreId} (hdue : dogDue s core = true) : dogTick s core =
    faultCore core 2 (s.setDog core { s.saf.dogs.getD core {} with count := (s.saf.dogs.getD core {}).count + 1 }) := by
  obtain ⟨hcount, hclk, hperiod⟩ := dogDue_iff.mp hdue
  simp only [dogTick, hcount, hclk, Bool.not_true, Bool.or_self, Bool.false_eq_true, if_false, if_pos hperiod]
  exact if_pos (by rw [dogs_setDog])

/-! ### Supplies (R514) -/

section
variable {k m : Nat}

/-- A sample that counts against its supply. -/
def CountsAgainst (s : State) (k m : Nat) : Prop := outOfLimits s k m = true ∧ ¬(k = 0 ∧ s.flag PWR_STAT_LEVELBUSY = true)

theorem countsAgainst_iff : CountsAgainst s k m ↔ (outOfLimits s k m && !(k == 0 && s.flag PWR_STAT_LEVELBUSY)) = true := by
  simp [CountsAgainst, imp_iff_not_or]

/-- A supply's run of samples outside its limits and its last sample. -/
def supplyRun (k m r : Nat) (s : State) : State :=
  ({ s with saf := { s.saf with runs := s.saf.runs.setIfInBounds k r } } : State).wr (SAF_VOLTk_MV k) m

theorem supplySample_within (h : ¬CountsAgainst s k m) : supplySample s (k, m) = supplyRun k m 0 s := by
  rw [countsAgainst_iff, Bool.not_eq_true] at h
  simp only [supplySample, h]
  rfl

section
variable (h : CountsAgainst s k m)
include h

theorem supplySample_outside (hr : s.saf.runs.getD k 0 + 1 ≠ 4) :
    supplySample s (k, m) = supplyRun k m (s.saf.runs.getD k 0 + 1) s := by
  rw [countsAgainst_iff] at h
  simp only [supplySample, h, if_true, if_neg hr]
  rfl

theorem supplySample_excursion (hr : s.saf.runs.getD k 0 + 1 = 4) : supplySample s (k, m) =
    logUnit 0x30 1 k (k + m * 65536) (((supplyRun k m (s.saf.runs.getD k 0 + 1) s).wr SAF_STAT_VEXC 1).count SAF_COUNT_VEXC) := by
  rw [countsAgainst_iff] at h
  simp only [supplySample, h, if_true, if_pos hr]
  rfl

end

end

theorem sampleSupplies_off (h : hostOn s = false) (mv : List Nat) : sampleSupplies mv s = s := if_pos (by simp [h])
theorem sampleSupplies_on (h : hostOn s = true) (mv : List Nat) :
    sampleSupplies mv s = floorSample (mv.headD 0) (((List.range 6).zip mv).foldl supplySample s) := if_neg (by simp [h])

theorem headD_map_toNat {n : Nat} (mv : Vector (BitVec n) 6) : (mv.toList.map (·.toNat)).headD 0 = mv[0].toNat := by
  rw [List.headD_eq_head?_getD, List.head?_eq_getElem?]
  simp

section
variable {mv run : Nat} (hrun : (if mv < 650 then s.saf.floorRun + 1 else 0) = run)
include hrun

theorem floorSample_counts (h : run ≠ 4) : floorSample mv s = { s with saf := { s.saf with floorRun := run } } := by
  subst hrun
  exact if_neg h

theorem floorSample_resets (h : run = 4) : floorSample mv s =
    coldReset false ((logUnit 0x31 2 0 (mv * 65536) { s with saf := { s.saf with floorRun := run } }).wr PWR_RSTCAUSE_SAFRST 1) := by
  subst hrun
  exact if_pos h

end

/-! ### Temperature (R515) -/

theorem sampleTemps_off (h : hostOn s = false) (t : List Nat) : sampleTemps t s = s := if_pos (by simp [h])

/-- THOT falls 2 °C below TCRIT. -/
def tempCooled (h : Nat × Int) (s : State) : State :=
  if h.2 ≤ signed 12 (s.rd SAF_TLIM_TCRIT) - 32 then s.wr SAF_STAT_THOT 0 else s

/-- TWARN rises at its limit, with its entry; `before` is what the hottest sensor read last. -/
def tempWarned (h : Nat × Int) (before : Int) (s : State) : State :=
  if h.2 < signed 12 (s.rd SAF_TLIM_TWARN) then tempCooled h s
  else if before < signed 12 (s.rd SAF_TLIM_TWARN) ∨ s.flag SAF_STAT_TWARN = false
    then logUnit 0x32 1 h.1 (tempData h) ((tempCooled h s).wr SAF_STAT_TWARN 1)
  else (tempCooled h s).wr SAF_STAT_TWARN 1

/-- TCRIT rises at its limit; `hot` is what it held. -/
def tempLimited (h : Nat × Int) (hot : Bool) (s : State) : State :=
  if !(s.wr SAF_STAT_TCRIT 1).flag SAF_STAT_THOT then tempCritical h (s.wr SAF_STAT_TCRIT 1)
  else if hot then s.wr SAF_STAT_TCRIT 1 else logUnit 0x33 2 h.1 (tempData h) (s.wr SAF_STAT_TCRIT 1)

/-- SAF_TEMP with the four readings. -/
def tempShown (t : List Nat) (s : State) : State :=
  s.wr SAF_TEMP_T ((t.getD 0 0) + (t.getD 1 0) * 2 ^ 12 + (t.getD 2 0) * 2 ^ 24 + (t.getD 3 0) * 2 ^ 36)

theorem tempWarned_eq (h : Nat × Int) (before : Int) : tempWarned h before s =
    if signed 12 (s.rd SAF_TLIM_TWARN) ≤ h.2 then
      if before < signed 12 (s.rd SAF_TLIM_TWARN) || !s.flag SAF_STAT_TWARN
        then logUnit 0x32 1 h.1 (tempData h) ((tempCooled h s).wr SAF_STAT_TWARN 1) else (tempCooled h s).wr SAF_STAT_TWARN 1
    else tempCooled h s := by
  simp only [tempWarned, ← not_le, ite_not, Bool.or_eq_true, decide_eq_true_eq, Bool.not_eq_true']

section
variable (hon : hostOn s = true) (t : List Nat)
include hon

theorem sampleTemps_on : sampleTemps t s =
    if signed 12 ((tempShown t s).rd SAF_TLIM_TCRIT) ≤ (hottest t).2
      then tempLimited (hottest t) ((tempShown t s).flag SAF_STAT_TCRIT) (tempWarned (hottest t) (hottest (tempList s)).2 (tempShown t s))
      else tempWarned (hottest t) (hottest (tempList s)).2 (tempShown t s) := by
  rw [tempWarned_eq]
  exact if_neg (by simp [hon])

theorem sampleTemps_below (h : (hottest t).2 < signed 12 ((tempShown t s).rd SAF_TLIM_TCRIT)) :
    sampleTemps t s = tempWarned (hottest t) (hottest (tempList s)).2 (tempShown t s) :=
  (sampleTemps_on hon t).trans (if_neg (not_le.mpr h))

theorem sampleTemps_reached (h : signed 12 ((tempShown t s).rd SAF_TLIM_TCRIT) ≤ (hottest t).2) : sampleTemps t s =
    tempLimited (hottest t) ((tempShown t s).flag SAF_STAT_TCRIT) (tempWarned (hottest t) (hottest (tempList s)).2 (tempShown t s)) :=
  (sampleTemps_on hon t).trans (if_pos h)

end

section
variable {h : Nat × Int} {hot : Bool}

theorem tempLimited_hot (hthot : (s.wr SAF_STAT_TCRIT 1).flag SAF_STAT_THOT = true) : tempLimited h hot s =
    if hot then s.wr SAF_STAT_TCRIT 1 else logUnit 0x33 2 h.1 (tempData h) (s.wr SAF_STAT_TCRIT 1) := if_neg (by simp [hthot])

theorem tempLimited_rises (hthot : (s.wr SAF_STAT_TCRIT 1).flag SAF_STAT_THOT = false) :
    tempLimited h hot s = tempCritical h (s.wr SAF_STAT_TCRIT 1) := if_pos (by simp [hthot])

theorem tempCritical_stays (hstby : (s.wr SAF_STAT_THOT 1).flag SAF_CTRL_THERMSTBY = false) :
    tempCritical h s = logUnit 0x33 2 h.1 (tempData h) (s.wr SAF_STAT_THOT 1) := if_neg (ne_true_of_eq_false hstby)

theorem tempCritical_standby (hstby : (s.wr SAF_STAT_THOT 1).flag SAF_CTRL_THERMSTBY = true) : tempCritical h s =
    logUnit 0x33 2 h.1 (tempData h + (stateRequest 1 (s.wr SAF_STAT_THOT 1)).rd PWR_STAT_RESULT * 2 ^ 32)
      (stateRequest 1 (s.wr SAF_STAT_THOT 1)) := if_pos hstby

end

theorem getD_map_toNat {n : Nat} (t : Vector (BitVec n) 4) (k : Fin 4) : (t.toList.map (·.toNat)).getD k 0 = (t[k]).toNat := by
  simp [List.getD_eq_getElem?_getD]

theorem tempShown_vector (t : Vector (BitVec 12) 4) : tempShown (t.toList.map (·.toNat)) s =
    s.wr SAF_TEMP_T (t[0].toNat + t[1].toNat * 2 ^ 12 + t[2].toNat * 2 ^ 24 + t[3].toNat * 2 ^ 36) := by
  have reading := getD_map_toNat t
  exact congrArg (s.wr SAF_TEMP_T) (congrArg₂ (· + ·) (congrArg₂ (· + ·) (congrArg₂ (· + ·) (reading 0)
    (congrArg (· * 2 ^ 12) (reading 1))) (congrArg (· * 2 ^ 24) (reading 2))) (congrArg (· * 2 ^ 36) (reading 3)))

/-! ### The log and the trace (R522, R567) -/

theorem swLogger {init : Init} : (init.val == 4 || init.val == 5 || init.val == 6) = true ↔ init.val ∈ [4, 5, 6] := by
  simp [or_assoc]

theorem mayTrace_iff {init : Nat} : mayTrace s init = true ↔ init = 14 ∧ 1 ≤ s.rd SVU_DBG_LEVEL := by simp [mayTrace]

theorem traceCtrl_runs (h : s.flag DBG_CTRL_TREN = true) (v : Word) : traceCtrl v s = s.typed DBG_CTRL v := if_neg (by simp [h])

theorem traceCtrl_begins {v : Word} (h : s.flag DBG_CTRL_TREN = false) (hset : (s.typed DBG_CTRL v).flag DBG_CTRL_TREN = true) :
    traceCtrl v s = { ((s.typed DBG_CTRL v).wr DBG_TRWP_WP 0).wr DBG_TRWP_LOST 0 with dbgStart := (s.typed DBG_CTRL v).ticks } :=
  if_pos (by simp [h, hset])

end

section
variable (init : Init) (s : State)

theorem exec_wdogKick (core : CoreId) : exec (.wdogKick init core) s =
    done (asAccess init (SAF_WDKICKn core) true (guardW (init.val == core.val) init (SAF_WDKICKn core) OWNER (dogKick core)) s) :=
  congrArg (fun f => done (asAccess init (SAF_WDKICKn core) true f s)) (funext (safWrite_kick init core))

theorem exec_supplySample (mv : Vector (BitVec 16) 6) : exec (.supplySample mv) s =
    .next (sampleSupplies (mv.toList.map (·.toNat)) s) := rfl
theorem exec_tempSample (t : Vector (BitVec 12) 4) : exec (.tempSample t) s = .next (sampleTemps (t.toList.map (·.toNat)) s) := rfl

theorem exec_swlogWrite (v : Word) : exec (.swlogWrite init v) s = done (asAccess init SAF_SWLOG true
    (guardW (init.val == 4 || init.val == 5 || init.val == 6) init SAF_SWLOG OWNER
      (logEvent (0x8000 + SAF_SWLOG_CODE.of v) (SAF_SWLOG_SEV.of v) init 0 (SAF_SWLOG_DATA.of v))) s) := rfl

theorem exec_dbgTraceEnable (wrap : Bool) : exec (.dbgTraceEnable init wrap) s = done (asAccess init DBG_CTRL true
    (guardW (mayTrace (unstage init s) init) init DBG_CTRL OWNER (traceCtrl (if wrap then 3 else 1))) s) := by
  cases wrap <;> rfl

end

/-- Settles O21: each command is the branch of its guard, of its count or of its limit. -/
theorem healthCommands : Obligations.HealthCommands := by
  intro init core mv t v wrap s dog x acc kick
  have kicks := exec_wdogKick init s core
  have supplies := exec_supplySample s mv
  have temps := exec_tempSample s t
  have log := exec_swlogWrite init s v
  have trace := exec_dbgTraceEnable init s wrap
  refine ⟨fun h => ?_, fun h => ?_, dogDue_iff, dogTick_expires, dogTick_counts, ?_, fun k m _ => ?_, ?_, fun h => ?_, fun h => ?_, fun h => ?_,
    fun hport hlevel => ?_⟩
  · exact kicks.trans (guarded_refused (beq_eq_false_iff_ne.mpr h))
  · have own : (init.val == core.val) = true := beq_iff_eq.mpr h
    exact ⟨fun hidle => kicks.trans (guarded_allowed own (dogKick_idle (s := x) hidle)),
      fun hrun hen => kicks.trans (guarded_allowed own (dogKick_disabled (s := x) hrun hen)),
      fun hrun hen => kicks.trans (guarded_allowed own (dogKick_restarts (s := x) hrun hen))⟩
  · intro each core_ run s1
    have floor : (mv.toList.map (·.toNat)).headD 0 = core_ := headD_map_toNat mv
    refine ⟨fun hoff => ⟨congrArg done (sampleSupplies_off hoff _), congrArg done (sampleTemps_off hoff _)⟩, fun hon hr => ?_,
      fun hon hr => ?_⟩
    · refine congrArg done ((sampleSupplies_on hon _).trans ?_)
      rw [floor]
      exact floorSample_counts rfl hr
    · refine congrArg done ((sampleSupplies_on hon _).trans ?_)
      rw [floor]
      exact floorSample_resets rfl hr
  · exact ⟨supplySample_within, supplySample_outside, supplySample_excursion⟩
  · rw [← tempShown_vector t]
    refine ⟨fun hon h => ?_, fun hon h hthot hhot => ?_, fun hon h hthot hhot => ?_, fun hon h hthot hstby => ?_, fun hon h hthot hstby => ?_⟩
    · exact congrArg done (sampleTemps_below hon _ h)
    · exact congrArg done ((sampleTemps_reached hon _ h).trans ((tempLimited_hot hthot).trans (if_pos hhot)))
    · exact congrArg done ((sampleTemps_reached hon _ h).trans ((tempLimited_hot hthot).trans (if_neg (ne_true_of_eq_false hhot))))
    · exact congrArg done ((sampleTemps_reached hon _ h).trans ((tempLimited_rises hthot).trans (tempCritical_stays hstby)))
    · exact congrArg done ((sampleTemps_reached hon _ h).trans ((tempLimited_rises hthot).trans (tempCritical_standby hstby)))
  · exact log.trans (guarded_refused (Bool.eq_false_iff.mpr (mt swLogger.mp h)))
  · exact log.trans (guarded_allowed (swLogger.mpr h) rfl)
  · refine trace.trans (guarded_refused (Bool.eq_false_iff.mpr (mt mayTrace_iff.mp fun hmay => ?_)))
    exact h.elim (absurd hmay.1) fun hzero => absurd hmay.2 (by simp [hzero])
  · have may : mayTrace (unstage init s) init = true := mayTrace_iff.mpr ⟨hport, hlevel⟩
    intro s1
    exact ⟨fun htren => trace.trans (guarded_allowed may (traceCtrl_runs (s := x) htren _)),
      fun htren hset => trace.trans (guarded_allowed may (traceCtrl_begins (s := x) htren hset))⟩

end Sys2Proof.Machine

end

section
/-!
PROOFS. The tests and repairs of shared memory (R459 to R465) and the word writes of the store (R474).
-/

namespace Sys2Proof.Machine

section
variable {s : State}

/-! ### Conflict counters and the scrubber (R459, R461) -/

theorem scrubDue_iff : scrubDue s = true ↔ s.rd MEM_CTRL_SCRUBINT ≠ 0 ∧ s.rd MEM_CTRL_SCRUBINT ≤ s.memc.scrubCycles + 1 := by
  simp [scrubDue]

/-- The memory and the words with a double-bit error are those of another state. -/
def SameWords (s t : State) : Prop := t.mem = s.mem ∧ t.memc.double = s.memc.double

theorem SameWords.foldl {α : Type} {f : State → α → State} (hf : ∀ t x, SameWords t (f t x)) (l : List α) : SameWords s (l.foldl f s) :=
  List.foldlRecOn (motive := SameWords s) l f ⟨rfl, rfl⟩ fun t ht x _ => ⟨(hf t x).1.trans ht.1, (hf t x).2.trans ht.2⟩

theorem countCorr_sameWords (a : Nat) : SameWords s (countCorr a s) := by
  unfold countCorr
  split <;> exact ⟨rfl, rfl⟩

/-- A correction of single-bit errors writes no byte. -/
theorem correct_sameWords (a n : Nat) : SameWords s (correct a n s) := by
  unfold correct
  split
  · exact ⟨rfl, rfl⟩
  · extract_lets hit memc s1
    have h := SameWords.foldl (s := s1) (fun t w => countCorr_sameWords (s := t) w) hit
    exact ⟨h.1, h.2⟩

theorem countBad_sound (h : s.memc.double = []) (a n : Nat) (part : Bool) : countBad a n part s = s := by
  simp [countBad, badWords, h]

theorem scrubRead_mem (h : s.memc.double = []) : (scrubRead s).mem = s.mem := by
  have step : ∀ t : State, t.mem = s.mem ∧ t.memc.double = [] → ∀ b,
      (countBad b 8 false (correct b 8 t)).mem = s.mem ∧ (countBad b 8 false (correct b 8 t)).memc.double = [] := by
    intro t ht b
    have hc := correct_sameWords (s := t) b 8
    have hd : (correct b 8 t).memc.double = [] := hc.2.trans ht.2
    rw [countBad_sound hd]
    exact ⟨hc.1.trans ht.1, hd⟩
  exact (List.foldlRecOn (motive := fun t => t.mem = s.mem ∧ t.memc.double = []) (List.range 48) _ ⟨rfl, h⟩
    fun t ht b _ => step t ht (bankWord b s.memc.scrubAt)).1

/-! ### The march test (R462, R463, R465) -/

theorem marchGo_refused {a b : Nat} (h : s.memc.march.isSome = true ∨ b < a ∨ 47 < b) (pres : Bool) :
    marchGo a b pres s = s.wr MEM_STAT_MARCHERR 1 := if_pos h

theorem marchGo_begins {a b : Nat} (hidle : s.memc.march = none) (hab : a ≤ b) (hb : b ≤ 47) (pres : Bool) : marchGo a b pres s =
    (({ s with memc := { s.memc with march := some (a, b, pres), marchCycles := 0 } } : State).wr
      MEM_MARCHSTAT_BUSY 1).wr MEM_MARCHSTAT_PRES (if pres then 1 else 0) := by
  refine (if_neg ?_).trans (by rw [put_eq]; rfl)
  simp [hidle, hab, hb]

theorem marchDone_none (h : s.memc.march = none) (fails still : List Nat) : marchDone fails still s = s := by
  simp only [marchDone, h]

theorem marchDone_early (h : s.memc.marchCycles < 655360) (fails still : List Nat) : marchDone fails still s = s := by
  unfold marchDone
  split
  next => rfl
  next => exact if_pos h

/-- The march test of the state: its banks, and whether the boot asked for it. -/
def marchState (s : State) : Option (Nat × Nat × Bool) × Bool := (s.memc.march, s.memc.bootMarch)

theorem foldl_marchState {α : Type} {f : State → α → State} (hf : ∀ t x, marchState (f t x) = marchState t) (l : List α) :
    marchState (l.foldl f s) = marchState s :=
  List.foldlRecOn (motive := fun t => marchState t = marchState s) l f rfl fun t ht x _ => (hf t x).trans ht

theorem setBytes_marchState (l : List Byte) : ∀ (s : State) (a : Nat), marchState (s.setBytes a l) = marchState s := by
  induction l with
  | nil => intro s a; rfl
  | cons x t ih => intro s a; exact ih _ _

theorem correct_marchState (a n : Nat) : marchState (correct a n s) = marchState s := by
  unfold correct
  split
  · rfl
  · refine foldl_marchState (fun t w => ?_) _
    unfold countCorr
    split <;> rfl

theorem raiseRepeat_marchState (a : Nat) : marchState (raiseRepeat a s) = marchState s := by
  unfold raiseRepeat
  extract_lets t
  split
  · exact correct_marchState a 1
  · exact (setBytes_marchState _ _ _).trans (correct_marchState a 1)

theorem copySevere_marchState (entry : Nat) : marchState (copySevere entry s) = marchState s := by
  refine Eq.trans rfl (foldl_marchState (f := copyWord (0x06390000 + 32 * (s.rd SAF_LOGWP_NVSWP % 2048)) entry) (fun t i => ?_) (List.range 4))
  unfold copyWord
  extract_lets w
  split
  · rfl
  · exact setBytes_marchState _ _ _

theorem sendCopy_marchState (entry : Nat) : marchState (sendCopy entry s) = marchState s := by
  unfold sendCopy
  extract_lets waits
  split
  · rfl
  · exact copySevere_marchState entry

theorem logEvent_marchState (code sev init unit data : Nat) : marchState (logEvent code sev init unit data s) = marchState s := by
  unfold logEvent
  extract_lets wp merge now entry slot s1 s2 saf s3
  have h1 : marchState s1 = marchState s := setBytes_marchState _ _ _
  have h2 : marchState s2 = marchState s := h1
  clear_value s2
  have h3 : marchState s3 = marchState s := h2
  by_cases hm : merge = true
  · rw [if_pos hm]
    exact raiseRepeat_marchState _
  · rw [if_neg hm]
    clear_value s3
    split
    · exact (sendCopy_marchState entry).trans h3
    · exact h3

theorem markBad_marchState (b : Nat) : marchState (markBad b s) = marchState s := logEvent_marchState ..

/-- A failing row of the boot's test: it is repaired while spares last, else its bank is bad. -/
def bootRow (x : State × List Nat) (br : Nat × Nat) : State × List Nat :=
  if 4 ≤ (repairsOf x.1 br.1).length then (x.1, br.1 :: x.2)
  else ({ x.1 with memc := { x.1.memc with repairs := x.1.memc.repairs ++ [(br.1, br.2)] } }, x.2)

theorem bootRow_marchState (x : State × List Nat) (br : Nat × Nat) : marchState (bootRow x br).1 = marchState x.1 := by
  unfold bootRow
  split <;> rfl

theorem bootRepairs_eq (rows : List (Nat × Nat)) (still : List Nat) : bootRepairs rows still s =
    (List.range 48).foldl (fun t b => if (rows.foldl bootRow (s, [])).2.contains b ∨ still.contains b then markBad b t else t)
      (applyRepairs (rows.foldl bootRow (s, [])).1) := rfl

theorem setReg_marchState (a : Nat) (v : Word) : marchState (s.setReg a v) = marchState s := rfl

theorem applyRepairs_marchState : marchState (applyRepairs s) = marchState s := by
  unfold applyRepairs
  exact foldl_marchState (fun t b => setReg_marchState _ _) _

theorem bootRepairs_marchState (rows : List (Nat × Nat)) (still : List Nat) : marchState (bootRepairs rows still s) = marchState s := by
  have hrows : marchState (rows.foldl bootRow (s, [])).1 = marchState s :=
    List.foldlRecOn (motive := fun x => marchState x.1 = marchState s) rows bootRow rfl fun x hx br _ => (bootRow_marchState x br).trans hx
  rw [bootRepairs_eq]
  refine (foldl_marchState (fun t b => ?_) _).trans (applyRepairs_marchState.trans hrows)
  split
  · exact markBad_marchState b
  · rfl

/-- A march test of banks `a` to `b` has ended, but for the boot's repairs. -/
def marchEnded (a b : Nat) (pres : Bool) (fails : List Nat) (s : State) : State :=
  let idle : State := { s with memc := { s.memc with march := none, bootMarch := false } }
  let t := ((if pres then idle else zeroBanks a b idle).wr MEM_MARCHSTAT_BUSY 0).wr MEM_MARCHSTAT_FAILS
    (min (fails.map (· / 256)).eraseDups.length 65535)
  State.wr (match fails with
    | x :: _ => (t.wr MEM_MARCHFAIL_ADDR x).wr MEM_MARCHFAIL_VALID 1
    | [] => t.wr MEM_MARCHFAIL_VALID 0) MEM_STAT_MARCHDONE 1

section
variable {a b : Nat} {pres : Bool} (h : s.memc.march = some (a, b, pres)) (hc : 655360 ≤ s.memc.marchCycles)
include h hc

theorem marchDone_ends (fails still : List Nat) : marchDone fails still s = if s.memc.bootMarch
    then bootRepairs ((fails.map (· / 256)).eraseDups.map fun g => (g % 48, g / 48)) still (marchEnded a b pres fails s)
    else marchEnded a b pres fails s := by
  unfold marchDone
  rw [h]
  refine (if_neg (Nat.not_lt.mpr hc)).trans ?_
  cases fails <;> rfl

theorem marchDone_marchState (fails still : List Nat) : marchState (marchDone fails still s) = (none, false) := by
  have hended : marchState (marchEnded a b pres fails s) = (none, false) := by
    cases pres <;> cases fails <;> rfl
  rw [marchDone_ends h hc]
  split
  · exact (bootRepairs_marchState _ _).trans hended
  · exact hended

end

/-! ### The memory that a march test leaves -/

theorem getAt_filter {α : Type} (d : α) (p : Nat → Bool) (l : List (Nat × α)) (x : Nat) :
    getAt d (l.filter fun c => p c.1) x = if p x then getAt d l x else d := by
  induction l with
  | nil => simp [getAt]
  | cons c t ih =>
    by_cases hp : p c.1 = true <;> by_cases hx : x = c.1
    · simp [hp, getAt, hx]
    · simp [hp, getAt, hx, ih]
    · subst hx
      simp [hp, ih]
    · simp [hp, getAt, hx, ih]

theorem zeroBanks_byte (a b x : Nat) : (zeroBanks a b s).byte x =
    if x < 0x01800000 ∧ a ≤ bankOf x ∧ bankOf x ≤ b then 0 else s.byte x := by
  refine (getAt_filter 0 (fun x => !(decide (x < 0x01800000) && decide (a ≤ bankOf x) && decide (bankOf x ≤ b))) s.mem x).trans ?_
  rw [← ite_not]
  exact if_congr (by simp [and_assoc]) rfl rfl

theorem zeroBanks_wf (a b : Nat) (h : s.wf = true) : (zeroBanks a b s).wf = true := by
  simp only [State.wf, Memory.wf, Bool.and_eq_true, zeroBanks] at h ⊢
  exact ⟨h.1, sparseAbove_filter _ _ _ _ h.2⟩

theorem marchEnded_preserved (a b : Nat) (fails : List Nat) : (marchEnded a b true fails s).mem = s.mem := by
  cases fails <;> rfl

theorem marchEnded_byte (a b : Nat) (fails : List Nat) (x : Nat) : (marchEnded a b false fails s).byte x =
    if x < 0x01800000 ∧ a ≤ bankOf x ∧ bankOf x ≤ b then 0 else s.byte x := by
  refine Eq.trans ?_ (zeroBanks_byte a b x)
  cases fails <;> rfl

section
variable (hwf : s.wf = true) (a b : Nat) (pres : Bool) (fails : List Nat)
include hwf

theorem marchEnded_flags : (marchEnded a b pres fails s).flag MEM_STAT_MARCHDONE = true ∧
    (marchEnded a b pres fails s).flag MEM_MARCHSTAT_BUSY = false := by
  unfold marchEnded
  extract_lets memc idle t
  have hidle : State.wf (if pres then idle else zeroBanks a b idle) = true := by
    split
    · exact hwf
    · exact zeroBanks_wf a b hwf
  have ht : t.wf = true := wr_wf _ _ _ (wr_wf _ _ _ hidle)
  have hbusy : t.flag MEM_MARCHSTAT_BUSY = false := by
    rw [State.flag, rd_wr_disjoint _ MEM_MARCHSTAT_FAILS MEM_MARCHSTAT_BUSY _ (Fld.ok_mk rfl) (wr_wf _ _ _ hidle) (by decide)]
    exact flag_wr (Fld.ok_mk rfl) rfl hidle false
  clear_value t
  have last (u : State) (hu : u.wf = true) (hb : u.flag MEM_MARCHSTAT_BUSY = false) :
      (u.wr MEM_STAT_MARCHDONE 1).flag MEM_STAT_MARCHDONE = true ∧ (u.wr MEM_STAT_MARCHDONE 1).flag MEM_MARCHSTAT_BUSY = false :=
    ⟨flag_wr (Fld.ok_mk rfl) rfl hu true, by rwa [State.flag, rd_wr_ne _ _ _ _ (by decide)]⟩
  cases fails with
  | nil => exact last _ (wr_wf _ _ _ ht) (by rwa [State.flag, rd_wr_ne _ _ _ _ (by decide)])
  | cons x rest =>
    refine last _ (wr_wf _ _ _ (wr_wf _ _ _ ht)) ?_
    rwa [State.flag, rd_wr_ne _ _ _ _ (by decide), rd_wr_ne _ _ _ _ (by decide)]

end

end

/-! ### Repairs (R464) and the word writes of the store (R474) -/

section
variable {s : State}

theorem repairRecord_full {b : Nat} (h : 4 ≤ (repairsOf s b).length) (row : Nat) : repairRecord b row s = s.wr MEM_STAT_REPERR 1 :=
  if_pos (.inl h)

theorem repairRecord_room (b : Fin 48) (h : (repairsOf s b).length < 4) (row : Nat) : repairRecord b row s =
    ({ s with memc := { s.memc with repairs := s.memc.repairs ++ [(b.val, row)] } } : State).wr (MEMb_REPAIR_REPPEND b) 1 :=
  if_neg (by simp [h])

theorem wordDue_iff : wordDue s = true ↔ s.nvs.queue ≠ [] ∧ 120 ≤ s.nvs.wordTicks + 1 := by simp [wordDue]

theorem nvsTick_lands (h : wordDue s = true) : nvsTick s = nvsLand s := by
  obtain ⟨hqueue, hticks⟩ := wordDue_iff.mp h
  rw [nvsTick, if_neg (by simpa using hqueue), if_pos hticks]

end

end Sys2Proof.Machine

end

section
/-!
PROOFS. The Chain commands (R481 to R484) and the commands of OTP (R475, R476).
-/

namespace Sys2Proof.Machine

section
variable {s : State}

/-! ### A command is taken or refused (R481, R483) -/

theorem mayChain_iff {init : Init} : mayChain init = true ↔ init.val = 6 ∨ init.val = 10 ∨ init.val = 11 := by
  simp [mayChain, or_assoc]

theorem chainResult_fails {r : Nat} (h : r ≠ CH_OK) (op : Nat) :
    chainResult op r s = ((s.wr NVS_CHRES_OP op).wr NVS_CHRES_RESULT r).wr NVS_STAT_CHFAIL 1 := if_neg h

section
variable {op addr init : Nat} (hop : 1 ≤ op ∧ op ≤ 4)
include hop

theorem chainCmd_busy (h : s.nvs.chain.isSome = true) :
    chainCmd init op addr s = ((s.wr NVS_CHRES_OP op).wr NVS_CHRES_RESULT CH_BUSY).wr NVS_STAT_CHFAIL 1 := by
  rw [chainCmd, if_neg (by omega), if_pos h, chainResult_fails (by decide)]

theorem chainCmd_taken (h : s.nvs.chain = none) : chainCmd init op addr s =
    ({ s with nvs := { s.nvs with chain := some { op := op, addr := addr, init := init } } } : State).wr NVS_STAT_BUSY 1 := by
  rw [chainCmd, if_neg (by omega), if_neg (by simp [h]), raise_eq]

end

/-! ### What a command has come to -/

/-- An end with a result or with an image to commit. -/
inductive ChainEnd.Decides : ChainEnd → Prop
  | fails (r : Nat) : Decides (.fails r)
  | writes (img : List Byte) (locked : Bool) (seq : Nat) : Decides (.writes img locked seq)

theorem commitEnd_decides (addr : Nat) : (commitEnd addr s).1.Decides := by
  unfold commitEnd
  generalize dmaRead NVS_INIT addr chainLen s = x
  obtain ⟨c, img, t⟩ := x
  dsimp only
  split_ifs <;> constructor

theorem lockEnd_decides : (lockEnd s).Decides := by
  unfold lockEnd
  split
  · exact .fails _
  · split
    · exact .fails _
    · split <;> constructor

theorem signedAct_decides (op len : Nat) (h img : List Byte) : (signedAct op len h img s).Decides := by
  unfold signedAct
  split_ifs
  · exact .fails _
  · exact .writes ..
  · exact .fails _
  · split
    · exact .fails _
    · split <;> constructor

/-- The Chain command that runs, as far as it has come, is a command `op` whose writes have not begun. -/
def ChainRuns (op : Nat) (s : State) : Prop := ∃ c, s.nvs.chain = some c ∧ c.writing = none ∧ c.op = op

theorem setBytes_chain (l : List Byte) : ∀ (s : State) (a : Nat), (s.setBytes a l).nvs.chain = s.nvs.chain := by
  induction l with
  | nil => intro s a; rfl
  | cons x t ih => intro s a; exact ih _ _

theorem svuPush_nvs (j : SvuJob) : (svuPush j s).nvs = s.nvs := by
  unfold svuPush
  split <;> rfl

theorem signedSubmit_runs {c : ChainCmd} (hw : c.writing = none) (h rest : List Byte) : ChainRuns c.op (signedSubmit c h rest s) := by
  unfold signedSubmit
  extract_lets nvs s1 len
  split
  · exact ⟨_, rfl, hw, rfl⟩
  · exact ⟨_, congrArg NvsState.chain (svuPush_nvs _), hw, rfl⟩

/-- A signed command ends, or it waits for the verifier. -/
theorem signedEnd_decides {c : ChainCmd} (hc : s.nvs.chain = some c) (hw : c.writing = none) :
    (signedEnd c s).1.Decides ∨ ((signedEnd c s).1 = .waits ∧ ChainRuns c.op (signedEnd c s).2) := by
  unfold signedEnd
  split
  · rcases signedRead c.addr s with ⟨r, x, t⟩
    dsimp only
    split
    · exact .inr ⟨rfl, signedSubmit_runs hw x.1 x.2⟩
    · exact .inl (.fails _)
  · refine .inr ⟨rfl, ?_⟩
    dsimp only
    split
    · exact ⟨c, hc, hw, rfl⟩
    · exact signedSubmit_runs hw _ _
  · refine .inl ?_
    dsimp only
    split_ifs
    · exact .fails _
    · exact .fails _
    · exact signedAct_decides ..

theorem signedEnd_refused {c : ChainCmd} {h rest : List Byte} {r : Nat} (hread : c.read = some (h, rest)) (hverdict : c.verdict = some r)
    (hr : r ≠ V_VALID) : signedEnd c s = (.fails (if r = V_KEYMISMATCH then CH_KEYMISMATCH else CH_BADSIG), s) := by
  simp only [signedEnd, hread, hverdict]
  split_ifs <;> rfl

theorem lockEnd_writes {img : List Byte} (hinst : otpHash s 3 ≠ 0) (himg : imageInForce s = some img) (hok : imageOk img = true) :
    lockEnd s = .writes img true (imgSeq img) := by
  simp only [lockEnd, if_neg hinst, himg, hok, if_true]

/-- What the command that runs has come to, with its reads done. -/
def chainStage (c : ChainCmd) (s : State) : ChainEnd × State :=
  if c.op = 1 then commitEnd c.addr s else if c.op = 2 then (lockEnd s, s) else if c.op = 3 then signedEnd c s else (.reload, s)

section
variable {c : ChainCmd} (hc : s.nvs.chain = some c) (hw : c.writing = none)
include hc hw

/-- A command decides, is the reload, or is a signed one that waits. -/
theorem chainStage_cases (hop : 1 ≤ c.op ∧ c.op ≤ 4) : (chainStage c s).1.Decides ∨
    (chainStage c s = (.reload, s) ∧ c.op = 4) ∨ ((chainStage c s).1 = .waits ∧ ChainRuns 3 (chainStage c s).2) := by
  unfold chainStage
  split_ifs with h1 h2 h3
  · exact .inl (commitEnd_decides c.addr)
  · dsimp only
    exact .inl lockEnd_decides
  · exact (signedEnd_decides hc hw).imp_right fun h => .inr (h3 ▸ h)
  · exact .inr (.inl ⟨rfl, by omega⟩)

/-- The state behind the stage of a command: its end, its writes, or the wait. -/
def chainStaged (c : ChainCmd) (e : ChainEnd) (s : State) : State :=
  match e with
  | .fails r => flushCopies (chainResult c.op r (chainOver s))
  | .writes img locked seq => { s with nvs := { s.nvs with chain := some { c with writing := some (img, locked, seq) } } }
  | .reload | .waits => s

omit hc hw in
theorem chainVerify_writing (hc : s.nvs.chain = some c) (hw : c.writing.isSome = true) : chainVerify s = s := by
  simp only [chainVerify, hc, hw, if_true]

theorem chainVerify_staged (hop : 1 ≤ c.op ∧ c.op ≤ 4) : chainVerify s = chainStaged c (chainStage c s).1 (chainStage c s).2 := by
  have cases4 : c.op = 1 ∨ c.op = 2 ∨ c.op = 3 ∨ c.op = 4 := by omega
  unfold chainStage
  rcases cases4 with h | h | h | h
  · simp only [chainVerify, hc, hw, h, Option.isSome_none, Bool.false_eq_true, if_false, if_true]
    generalize commitEnd c.addr s = x
    obtain ⟨e, t⟩ := x
    cases e <;> simp [chainStaged, h]
  · simp only [chainVerify, hc, hw, h, Option.isSome_none, Bool.false_eq_true, if_false, if_true, OfNat.ofNat_ne_one]
    generalize lockEnd s = e
    cases e <;> simp [chainStaged, h]
  · simp [chainVerify, hc, hw, h]
    generalize signedEnd c s = x
    obtain ⟨e, t⟩ := x
    cases e <;> simp [chainStaged, h]
  · simp [chainVerify, hc, hw, h, chainStaged]

end

/-! ### The end of a command (R483) -/

theorem flushCopies_chain : (flushCopies s).nvs.chain = s.nvs.chain := by
  unfold flushCopies
  refine List.foldlRecOn (motive := fun t : State => t.nvs.chain = s.nvs.chain) s.saf.copies _ rfl fun t ht e _ => ?_
  refine Eq.trans ?_ ht
  unfold copySevere
  extract_lets t1 t2
  refine List.foldlRecOn (motive := fun u : State => u.nvs.chain = t.nvs.chain) (List.range 4) _ rfl fun u hu i _ => ?_
  refine Eq.trans ?_ hu
  unfold copyWord
  extract_lets w
  split
  · rfl
  · exact setBytes_chain _ _ _

theorem chainResult_chain (op r : Nat) : (chainResult op r s).nvs.chain = s.nvs.chain := by
  unfold chainResult
  extract_lets t
  split <;> rfl

/-- The end of a command whose writes have begun: they complete, or one of them fails. -/
def chainWritten (op : Nat) (ok : Bool) (img : List Byte) (locked : Bool) (seq : Nat) (s : State) : State :=
  flushCopies (if ok then chainResult op CH_OK (commit img locked seq s) else chainResult op CH_NVSERR (commitFailed img s))

section
variable {ok : Bool} {t : State} (h : chainVerify s = t)
include h

theorem chainDone_over (hc : t.nvs.chain = none) : chainDone ok s = t := by
  simp only [chainDone, h, hc]

section
variable {c : ChainCmd} (hc : t.nvs.chain = some c)
include hc

theorem chainDone_written {img : List Byte} {locked : Bool} {seq : Nat} (hw : c.writing = some (img, locked, seq)) :
    chainDone ok s = chainWritten c.op ok img locked seq (chainOver t) := by
  simp only [chainDone, h, hc, hw, chainWritten]

theorem chainDone_reloaded (hw : c.writing = none) (hop : c.op = 4) :
    chainDone ok s = flushCopies (chainResult c.op CH_OK (loadMirror (chainOver t))) := by
  simp only [chainDone, h, hc, hw, if_pos hop]

theorem chainDone_waits (hw : c.writing = none) (hop : c.op ≠ 4) : chainDone ok s = t := by
  simp only [chainDone, h, hc, hw, if_neg hop]

end

end

theorem chainDone_none (h : s.nvs.chain = none) (ok : Bool) : chainDone ok s = s :=
  chainDone_over (by simp only [chainVerify, h]) h

section
variable {c : ChainCmd} (hc : s.nvs.chain = some c) {ok : Bool}
include hc

theorem chainDone_begun {img : List Byte} {locked : Bool} {seq : Nat} (hw : c.writing = some (img, locked, seq)) :
    chainDone ok s = chainWritten c.op ok img locked seq (chainOver s) :=
  chainDone_written (chainVerify_writing hc (by rw [hw]; rfl)) hc hw

section
variable (hw : c.writing = none) (hop : 1 ≤ c.op ∧ c.op ≤ 4)
include hw hop

theorem chainDone_fails {k : Nat} (he : (chainStage c s).1 = .fails k) :
    chainDone ok s = flushCopies (chainResult c.op k (chainOver (chainStage c s).2)) := by
  have hv := chainVerify_staged hc hw hop
  rw [he] at hv
  exact chainDone_over hv (flushCopies_chain.trans (chainResult_chain _ _))

theorem chainDone_writes {img : List Byte} {locked : Bool} {seq : Nat} (he : (chainStage c s).1 = .writes img locked seq) :
    chainDone ok s = chainWritten c.op ok img locked seq (chainOver (chainStage c s).2) := by
  have hv := chainVerify_staged hc hw hop
  rw [he] at hv
  exact chainDone_written hv rfl rfl

theorem chainDone_reload (he : (chainStage c s).1 = .reload) :
    chainDone ok s = flushCopies (chainResult c.op CH_OK (loadMirror (chainOver (chainStage c s).2))) := by
  have hv := chainVerify_staged hc hw hop
  rw [he] at hv
  rcases chainStage_cases hc hw hop with hd | ⟨hs, hop4⟩ | ⟨hwait, _⟩
  · rw [he] at hd
    cases hd
  · rw [hs] at hv ⊢
    exact chainDone_reloaded hv hc hw hop4
  · rw [he] at hwait
    cases hwait

theorem chainDone_verifies (he : (chainStage c s).1 = .waits) : chainDone ok s = (chainStage c s).2 := by
  have hv := chainVerify_staged hc hw hop
  rw [he] at hv
  rcases chainStage_cases hc hw hop with hd | ⟨hs, _⟩ | ⟨_, c', hc', hw', hop'⟩
  · rw [he] at hd
    cases hd
  · rw [hs] at he
    cases he
  · exact chainDone_waits hv hc' hw' (by omega)

end

end

/-! ### OTP (R475, R476) -/

theorem otpRead_busy (h : s.nvs.otpProg.isSome = true) (row : Nat) : otpRead row s = s.wr NVS_STAT_OTPERR 1 := if_pos h

theorem otpRead_shows (h : s.nvs.otpProg = none) (row : Nat) : otpRead row s =
    ((s.wr NVS_OTPDATAH_DATA ((if row < 4 then 0 else otpRow s row) / 2 ^ 32)).wr NVS_OTPDATAL_DATA
      (if row < 4 then 0 else otpRow s row)).wr NVS_STAT_OTPDONE 1 := if_neg (by simp [h])

/-- The value that a programming takes (R476). -/
def otpValue (s : State) : Nat := s.rd NVS_OTPDATAH_DATA * 2 ^ 32 + s.rd NVS_OTPDATAL_DATA

theorem otpProg_refused {row : Nat} (h : s.nvs.otpProg.isSome = true ∨ otpMay s row (otpValue s) = false) :
    otpProg row s = s.wr NVS_STAT_OTPERR 1 := if_pos (h.imp_right (by simp [otpValue]))

theorem otpProg_begins {row : Nat} (h : s.nvs.otpProg = none) (hmay : otpMay s row (otpValue s) = true) :
    otpProg row s = { s with nvs := { s.nvs with otpProg := some (row, otpValue s), otpAt := s.ticks } } := by
  refine if_neg fun hr => hr.elim (by simp [h]) fun hno => ?_
  exact absurd hmay (ne_true_of_eq_false (Bool.not_eq_true' _ ▸ hno))

section
variable {k x : Nat} (h : s.nvs.otpProg = some (k, x))
include h

theorem otpDue_iff (w : Nat) : otpDue s w = true ↔ s.nvs.otpAt + 60000 ≤ w := by
  have due : otpDue s w = decide (s.nvs.otpAt + 100 * usTicks ≤ w) := by simp only [otpDue, h, Option.isSome_some, Bool.true_and]
  rw [due]
  exact decide_eq_true_iff

theorem otpProgDone_eq : otpProgDone s =
    ((otpSet k x { s with nvs := { s.nvs with otpProg := none } }).put SVU_LCS_OWNREV
      (otpBit (otpSet k x { s with nvs := { s.nvs with otpProg := none } }) 8)).raise NVS_STAT_OTPDONE := by
  simp only [otpProgDone, h]

theorem otpProgDone_mem : (otpProgDone s).mem = s.mem := by rw [otpProgDone_eq h]; rfl

theorem otpProgDone_idle : (otpProgDone s).nvs.otpProg = none := by rw [otpProgDone_eq h]; rfl

/-- Programming sets bits in its row and leaves the other rows. -/
theorem otpRow_otpProgDone (j : Nat) : otpRow (otpProgDone s) j = if k = j ∧ j < 128 then otpRow s k ||| x % 2 ^ 64 else otpRow s j := by
  rw [otpProgDone_eq h]
  change ((s.nvs.otp.setIfInBounds k (s.nvs.otp.getD k 0 ||| BitVec.ofNat 64 x)).getD j 0).toNat = _
  rw [getD_setIfInBounds]
  split
  · rw [BitVec.toNat_or, BitVec.toNat_ofNat]
    rfl
  · rfl

end

end

section
variable (init : Init) (s : State)

theorem exec_marchGo (first last : Fin 64) (pres : Bool) : exec (.marchGo init first last pres) s =
    done (asAccess init MEM_MARCHCMD true (guardW (init == 6) init MEM_MARCHCMD OWNER (marchGo first last pres)) s) := rfl
theorem exec_repairRecord (bank : Fin 48) (row : BitVec 11) : exec (.repairRecord init bank row) s =
    done (asAccess init MEM_REPAIRCMD true (guardW (init == 6) init MEM_REPAIRCMD OWNER (repairRecord bank row.toNat)) s) := rfl
theorem exec_otpRead (r : Fin 128) : exec (.otpRead init r) s =
    done (asAccess init NVS_OTPCMD true (guardW (init == 6) init NVS_OTPCMD OWNER (otpRead r)) s) := rfl
theorem exec_otpProg (r : Fin 128) : exec (.otpProg init r) s =
    done (asAccess init NVS_OTPCMD true (guardW (init == 6) init NVS_OTPCMD OWNER (otpProg r)) s) := rfl
theorem exec_chainCommit (addr : BitVec 26) : exec (.chainCommit init addr) s =
    done (asAccess init NVS_CHCMD true (guardW (mayChain init) init NVS_CHCMD OWNER (chainCmd init 1 (addr.toNat * 64))) s) := rfl
theorem exec_chainLock : exec (.chainLock init) s =
    done (asAccess init NVS_CHCMD true (guardW (mayChain init) init NVS_CHCMD OWNER (chainCmd init 2 0)) s) := rfl
theorem exec_chainSigned (addr : BitVec 26) : exec (.chainSigned init addr) s =
    done (asAccess init NVS_CHCMD true (guardW (mayChain init) init NVS_CHCMD OWNER (chainCmd init 3 (addr.toNat * 64))) s) := rfl
theorem exec_chainReload : exec (.chainReload init) s =
    done (asAccess init NVS_CHCMD true (guardW (mayChain init) init NVS_CHCMD OWNER (chainCmd init 4 0)) s) := rfl

theorem exec_confclr : exec .confclr s = .next (whenOn MEM_CTRL confClr s) := rfl
theorem exec_scrubRead : exec .scrubRead s = .next (tickAt (fun s _ => sysDue s && scrubDue s) s) := rfl
theorem exec_marchComplete (fails : List (BitVec 32)) (still : List (Fin 48)) : exec (.marchComplete fails still) s =
    .next (marchDone (fails.map (·.toNat)) (still.map (·.val)) s) := rfl
theorem exec_nvsWordWrite : exec .nvsWordWrite s = .next (tickAt (fun s _ => wordDue s) s) := rfl
theorem exec_chainCommandDone (ok : Bool) : exec (.chainCommandDone ok) s = .next (chainDone ok s) := rfl
theorem exec_otpProgDone : exec .otpProgDone s = .next (tickAt otpDue s) := rfl

end

/-- Settles O19: the commands are guarded accesses, ticks, and the ends of a march test, of a Chain command and of a programming. -/
theorem storeCommands : Obligations.StoreCommands := by
  intro init first last pres ok fails still bank row addr r s six chains u acc refused taken busy v
  have go := exec_marchGo init s first last pres
  have repair := exec_repairRecord init s bank row
  have read := exec_otpRead init s r
  have prog := exec_otpProg init s r
  have commits := exec_chainCommit init s addr
  have locks := exec_chainLock init s
  have signs := exec_chainSigned init s addr
  have reloads := exec_chainReload init s
  refine ⟨rfl, rfl, scrubDue_iff, scrubRead_mem, rfl, rfl, fun h => ?_, fun h => ?_, fun h => congrArg done (marchDone_none h _ _),
    fun h => congrArg done (marchDone_early h _ _), fun a b p h hc hwf => ?_, rfl, wordDue_iff, nvsTick_lands, fun h => ?_, fun h hbusy => ?_,
    fun h hfree => ?_, fun h => congrArg done (chainDone_none h ok), fun c hc => ?_, fun img => lockEnd_writes, rfl, fun k x h => ?_⟩
  · have other : (init == 6) = false := init_beq_false h
    exact ⟨go.trans (guarded_refused other), repair.trans (guarded_refused other), read.trans (guarded_refused other),
      prog.trans (guarded_refused other)⟩
  · have sv : (init == 6) = true := init_beq_true h
    refine ⟨fun hbad => go.trans (guarded_allowed sv (marchGo_refused (s := u) hbad pres)),
      fun hidle hab hb => go.trans (guarded_allowed sv (marchGo_begins (s := u) hidle hab hb pres)),
      fun hfull => repair.trans (guarded_allowed sv (repairRecord_full (s := u) hfull _)),
      fun hroom => repair.trans (guarded_allowed sv (repairRecord_room (s := u) bank hroom _)),
      fun hprog => ⟨read.trans (guarded_allowed sv (otpRead_busy (s := u) hprog _)),
        prog.trans (guarded_allowed sv (otpProg_refused (s := u) (.inl hprog)))⟩,
      fun hfree => ⟨read.trans (guarded_allowed sv (otpRead_shows (s := u) hfree _)),
        fun hno => prog.trans (guarded_allowed sv (otpProg_refused (s := u) (.inr hno))),
        fun hmay => prog.trans (guarded_allowed sv (otpProg_begins (s := u) hfree hmay))⟩⟩
  · have hstate := marchDone_marchState h hc (fails.map (·.toNat)) (still.map (·.val))
    refine ⟨_, exec_marchComplete s fails still, congrArg Prod.fst hstate, congrArg Prod.snd hstate, fun hboot => ?_⟩
    rw [marchDone_ends h hc, if_neg (by simp [hboot])]
    obtain ⟨hdone, hidle⟩ := marchEnded_flags hwf a b p (fails.map (·.toNat))
    refine ⟨hdone, hidle, fun hp => ?_, fun hp => ?_⟩
    · subst hp
      exact marchEnded_preserved a b _
    · subst hp
      exact marchEnded_byte a b _
  · have other : mayChain init = false := Bool.eq_false_iff.mpr (mt mayChain_iff.mp h)
    exact ⟨commits.trans (guarded_refused other), locks.trans (guarded_refused other), signs.trans (guarded_refused other),
      reloads.trans (guarded_refused other)⟩
  · have may : mayChain init = true := mayChain_iff.mpr h
    exact ⟨commits.trans (guarded_allowed may (chainCmd_busy (s := u) (by decide) hbusy)),
      locks.trans (guarded_allowed may (chainCmd_busy (s := u) (by decide) hbusy)),
      signs.trans (guarded_allowed may (chainCmd_busy (s := u) (by decide) hbusy)),
      reloads.trans (guarded_allowed may (chainCmd_busy (s := u) (by decide) hbusy))⟩
  · have may : mayChain init = true := mayChain_iff.mpr h
    exact ⟨commits.trans (guarded_allowed may (chainCmd_taken (s := u) (by decide) hfree)),
      locks.trans (guarded_allowed may (chainCmd_taken (s := u) (by decide) hfree)),
      signs.trans (guarded_allowed may (chainCmd_taken (s := u) (by decide) hfree)),
      reloads.trans (guarded_allowed may (chainCmd_taken (s := u) (by decide) hfree))⟩
  · refine ⟨fun img l q hw => congrArg done (chainDone_begun hc hw), fun hw h1 h4 => ?_, fun h rest r => signedEnd_refused⟩
    have hop : 1 ≤ c.op ∧ c.op ≤ 4 := ⟨h1, h4⟩
    exact ⟨fun k he => congrArg done (chainDone_fails hc hw hop he), fun he => congrArg done (chainDone_reload hc hw hop he),
      fun he => congrArg done (chainDone_verifies hc hw hop he), fun img l q he => congrArg done (chainDone_writes hc hw hop he)⟩
  · refine ⟨otpDue_iff h, otpProgDone_mem h, otpProgDone_idle h, fun hk => ?_, fun j hj => ?_⟩
    · rw [otpRow_otpProgDone h, if_pos ⟨rfl, hk⟩]
    · rw [otpRow_otpProgDone h, if_neg fun hkj => hj hkj.1.symm]

end Sys2Proof.Machine

end

section
/-!
PROOFS. Level requests (R490 to R493): who may make them, their checks, and the end of a change.
-/

namespace Sys2Proof.Machine

section
variable {s : State}

theorem pwrEnd_ok : pwrEnd P_OK s = s.wr PWR_STAT_RESULT 0 := by simp only [pwrEnd, P_OK, if_true]
theorem pwrEnd_refused {r : Nat} (h : r ≠ P_OK) : pwrEnd r s = (s.wr PWR_STAT_RESULT r).wr PWR_STAT_REFUSED 1 := if_neg h

theorem mayLevel_iff {init : Init} : mayLevel init = true ↔ init.val ∈ [4, 5, 6, 10, 11] := by
  simp [mayLevel, mayState, or_assoc]

theorem mayState_iff {init : Init} : mayState init = true ↔ init.val ∈ [6, 10, 11] := by
  simp [mayState, or_assoc]

/-! ### The checks of a level request (R491, R493, R494) -/

section
variable {lv : Nat}

theorem levelRequest_inForce (h : lv = s.level) : levelRequest lv s =
    ((if s.pwr.deferred.isSome then ({ s with pwr := { s.pwr with deferred := none } } : State).wr PWR_STAT_DEFERRED 0 else s).wr
      PWR_STAT_RESULT 0).wr PWR_PERF_TARGET lv := if_pos h

section
variable (hlv : lv ≠ s.level)
include hlv

theorem levelRequest_deferred (h : debugHalted s = true) : levelRequest lv s =
    (({ s with pwr := { s.pwr with deferred := some lv } } : State).wr PWR_STAT_DEFERRED 1).wr PWR_PERF_TARGET lv :=
  (if_neg hlv).trans (if_pos h)

theorem levelRequest_checked (h : debugHalted s = false) : levelRequest lv s = levelChecked lv (s.wr PWR_PERF_TARGET lv) :=
  (if_neg hlv).trans (if_neg (ne_true_of_eq_false h))

end

/-- A level request that is refused: PWR_PERF.TARGET shows the deferred level or the level in force again. -/
def levelRefused (r : Nat) (s : State) : State :=
  ((s.wr PWR_STAT_RESULT r).wr PWR_STAT_REFUSED 1).wr PWR_PERF_TARGET (s.pwr.deferred.getD s.level)

theorem levelChecked_busy (h : pwrBusy s = true) : levelChecked lv s = levelRefused P_BUSY s := if_pos h

section
variable (hidle : pwrBusy s = false)
include hidle

theorem levelChecked_badState (h : lv = 3) : levelChecked lv s = levelRefused P_BADSTATE s :=
  (if_neg (ne_true_of_eq_false hidle)).trans (if_pos h)

variable (hlv : lv < 3)
include hlv

theorem levelChecked_budget (h : levelFits s lv = false) : levelChecked lv s = levelRefused P_BUDGET s :=
  (if_neg (ne_true_of_eq_false hidle)).trans ((if_neg hlv.ne).trans (if_pos (by simp [h])))

theorem levelChecked_begins (h : levelFits s lv = true) : levelChecked lv s = beginLevel lv s :=
  (if_neg (ne_true_of_eq_false hidle)).trans ((if_neg hlv.ne).trans (if_neg (by simp [h])))

end

/-! ### A change begins (R491) -/

theorem beginLevel_raises (h : lv < s.level) : beginLevel lv s =
    ({ s with pwr := { s.pwr with change := some ⟨lv, s.level, s.flag PWR_CFG_VPGEN, s.ticks⟩, vid := 2 - lv } } : State).wr
      PWR_STAT_LEVELBUSY 1 := by
  simp only [beginLevel, h, decide_true, if_true, Bool.true_and, vidCode, raise_eq]

theorem stallFree_ticks (n : Nat) : (stallFree n s).ticks = s.ticks := rfl

theorem switchLevel_ticks : (switchLevel lv s).ticks = s.ticks := by
  unfold switchLevel
  have hcores : ∀ t : State, t.ticks = s.ticks → ∀ n, (if t.coreState n = K_RUN ∧ clocked t n then stallFree n t else t).ticks = s.ticks := by
    intro t ht n
    split
    · exact ht
    · exact ht
  exact List.foldlRecOn (motive := fun t : State => t.ticks = s.ticks) (List.range 7) _ rfl fun t ht n _ => hcores t ht n

theorem beginLevel_lowers (h : s.level < lv) : beginLevel lv s =
    ({ switchLevel lv s with pwr := { (switchLevel lv s).pwr with change := some ⟨lv, s.level, false, s.ticks⟩, vid := 2 - lv } } : State).wr
      PWR_STAT_LEVELBUSY 1 := by
  have hnot : ¬lv < s.level := by omega
  simp only [beginLevel, hnot, decide_false, Bool.false_eq_true, if_false, Bool.false_and, vidCode, raise_eq, switchLevel_ticks]

end

/-! ### A change ends (R491, R492) -/

theorem levelDue_none (h : s.pwr.change = none) (k : Nat) : levelDue s k = false ∧ vidDue s k = false := by
  simp only [levelDue, vidDue, h, and_self]

section
variable {c : LevelChange} (h : s.pwr.change = some c)
include h

theorem levelDue_iff (k : Nat) : levelDue s k = true ↔ c.awaitVpg = false ∧ c.since + max (s.rd PWR_CFG_SETTLE) 1 * 600 ≤ k := by
  simp only [levelDue, h, Bool.and_eq_true, Bool.not_eq_true', decide_eq_true_eq]
  exact Iff.rfl

theorem vidDue_iff (k : Nat) : vidDue s k = true ↔ c.awaitVpg = true ∧ c.since + 600000 ≤ k := by
  simp only [vidDue, h, Bool.and_eq_true, decide_eq_true_eq]
  exact Iff.rfl

theorem levelEnd_eq : levelEnd s =
    let d := if s.level = c.target then s else switchLevel c.target s
    (((({ d with pwr := { d.pwr with change := none } } : State).wr PWR_STAT_LEVELBUSY 0).wr
      PWR_STAT_LEVELDONE 1).count PWR_COUNT_LEVELCHG).wr PWR_STAT_RESULT 0 := by
  simp only [levelEnd, h]
  rfl

theorem vidFail_eq : vidFail s = ((({ s with pwr := { s.pwr with change := none, vid := 2 - c.former } } : State).wr
    PWR_STAT_LEVELBUSY 0).wr PWR_STAT_VIDFAIL 1).wr PWR_STAT_RESULT P_VIDFAIL := by
  simp only [vidFail, h]
  rfl

variable (hwait : c.awaitVpg = true)
include hwait

theorem vpgHigh_ends (ht : c.since + 6000 ≤ s.ticks) : vpgHigh s = levelEnd s := by
  have hdue : (c.awaitVpg && decide (c.since + 10 * usTicks ≤ s.ticks)) = true := by
    rw [hwait, Bool.true_and]
    exact decide_eq_true ht
  simp only [vpgHigh, h, if_pos hdue]

theorem vpgHigh_early (ht : s.ticks < c.since + 6000) : vpgHigh s = s := by
  have hdue : ¬(c.awaitVpg && decide (c.since + 10 * usTicks ≤ s.ticks)) = true := by
    rw [hwait, Bool.true_and, decide_eq_true_eq]
    exact Nat.not_le.mpr ht
  simp only [vpgHigh, h, if_neg hdue]

end

end

section
variable (init : Init) (s : State)

theorem exec_levelChange (lv : Fin 4) : exec (.levelChange init lv) s =
    done (asAccess init PWR_PERF true (guardW (mayLevel init) init PWR_PERF OWNER (levelRequest lv)) s) := rfl

theorem exec_levelSettleEnd : exec .levelSettleEnd s =
    .next (if (s.pwr.change.map (·.awaitVpg)).getD false then vpgHigh s else tickAt levelDue s) := rfl

theorem exec_vidfailTimeout : exec .vidfailTimeout s = .next (tickAt vidDue s) := rfl

/-- LEVEL_SETTLE_END where no change awaits VPG. -/
theorem exec_levelSettleEnd_tick (h : ∀ c, s.pwr.change = some c → c.awaitVpg = false) :
    exec .levelSettleEnd s = .next (tickAt levelDue s) := by
  refine congrArg done (if_neg ?_)
  cases hc : s.pwr.change with
  | none => exact Bool.false_ne_true
  | some c => simp [h c hc]

theorem exec_levelSettleEnd_vpg {c : LevelChange} (hc : s.pwr.change = some c) (h : c.awaitVpg = true) :
    exec .levelSettleEnd s = .next (vpgHigh s) := congrArg done (if_pos (by simp [hc, h]))

end

end Sys2Proof.Machine

end

section
/-!
PROOFS. State requests, the cut-over, wakes and the resets of the supplies (R494 to R503, R572).
-/

namespace Sys2Proof.Machine

section
variable {s : State}

/-! ### The checks of a state request (R494) -/

section
variable {target : Nat}

theorem stateRequest_inForce (h : s.pwr.power = powerOf target) : stateRequest target s = s.wr PWR_STAT_RESULT 0 :=
  (if_pos h).trans pwrEnd_ok

theorem stateRequest_waking (ht : target = 0) (hexit : s.pwr.power = .exiting) (hwoke : wokeNow s = true) :
    stateRequest target s = s.wr PWR_STAT_RESULT 0 := by
  have hnot : s.pwr.power ≠ powerOf target := by
    rw [ht, hexit]
    decide
  exact (if_neg hnot).trans ((if_pos ⟨ht, hexit, hwoke⟩).trans pwrEnd_ok)

section
variable (hnot : s.pwr.power ≠ powerOf target) (hasleep : target ≠ 0 ∨ s.pwr.power ≠ .exiting ∨ wokeNow s = false)
include hnot hasleep

/-- What a request comes to behind the two that find their end at once. -/
theorem stateRequest_checked : stateRequest target s =
    if pwrBusy s then pwrEnd P_BUSY s
    else if s.pwr.power ≠ .active ∧ s.pwr.power ≠ .standby then pwrEnd P_BADSTATE s
    else if 2 ≤ target ∧ debugHalted s then pwrEnd P_DEBUG_HOLD s
    else if 2 ≤ target ∧ (levelSource s).isSome then pwrEnd P_WAKE_ACTIVE s
    else if target = 0 then pwrEnd P_OK (leaveStandby 6 s)
    else if target = 1 then enterStandby s
    else enterDeep target s := by
  refine (if_neg hnot).trans (if_neg fun ⟨ht, hexit, hwoke⟩ => ?_)
  rcases hasleep with h | h | h
  · exact h ht
  · exact h hexit
  · exact absurd hwoke (ne_true_of_eq_false h)

/-- A request that ends with a refusal leaves all but RESULT and REFUSED. -/
def stateRefused (r : Nat) (s : State) : State := (s.wr PWR_STAT_RESULT r).wr PWR_STAT_REFUSED 1

theorem stateRequest_busy (h : pwrBusy s = true) : stateRequest target s = stateRefused P_BUSY s :=
  (stateRequest_checked hnot hasleep).trans ((if_pos h).trans (pwrEnd_refused (by decide)))

section
variable (hidle : pwrBusy s = false)
include hidle

theorem stateRequest_badState (hactive : s.pwr.power ≠ .active) (hstandby : s.pwr.power ≠ .standby) :
    stateRequest target s = stateRefused P_BADSTATE s := by
  rw [stateRequest_checked hnot hasleep, if_neg (ne_true_of_eq_false hidle), if_pos ⟨hactive, hstandby⟩, pwrEnd_refused (by decide)]
  rfl

section
variable (hstate : s.pwr.power = .active ∨ s.pwr.power = .standby)
include hstate

theorem stateRequest_taken : stateRequest target s =
    if 2 ≤ target ∧ debugHalted s then pwrEnd P_DEBUG_HOLD s
    else if 2 ≤ target ∧ (levelSource s).isSome then pwrEnd P_WAKE_ACTIVE s
    else if target = 0 then pwrEnd P_OK (leaveStandby 6 s)
    else if target = 1 then enterStandby s
    else enterDeep target s := by
  rw [stateRequest_checked hnot hasleep, if_neg (ne_true_of_eq_false hidle)]
  exact if_neg fun h => hstate.elim h.1 h.2

section
variable (ht : 2 ≤ target)
include ht

theorem stateRequest_halted (h : debugHalted s = true) : stateRequest target s = stateRefused P_DEBUG_HOLD s := by
  rw [stateRequest_taken hnot hasleep hidle hstate, if_pos ⟨ht, h⟩, pwrEnd_refused (by decide)]
  rfl

variable (hrun : debugHalted s = false)
include hrun

theorem stateRequest_wakeActive (h : (levelSource s).isSome = true) : stateRequest target s = stateRefused P_WAKE_ACTIVE s := by
  rw [stateRequest_taken hnot hasleep hidle hstate, if_neg (by simp [hrun]), if_pos ⟨ht, h⟩, pwrEnd_refused (by decide)]
  rfl

theorem stateRequest_enters (h : levelSource s = none) : stateRequest target s = enterDeep target s := by
  rw [stateRequest_taken hnot hasleep hidle hstate, if_neg (by simp [hrun]), if_neg (by simp [h]), if_neg (by omega), if_neg (by omega)]

end

theorem stateRequest_leaves (ht : target = 0) : stateRequest target s = (leaveStandby 6 s).wr PWR_STAT_RESULT 0 := by
  rw [stateRequest_taken hnot hasleep hidle hstate, if_neg (by omega), if_neg (by omega), if_pos ht, pwrEnd_ok]

theorem stateRequest_standby (ht : target = 1) : stateRequest target s = setPower (.entering 1 false) PS_ENTERING (standbySteps s) := by
  rw [stateRequest_taken hnot hasleep hidle hstate, if_neg (by omega), if_neg (by omega), if_neg (by omega), if_pos ht]
  rfl

end

end

end

end

/-! ### The ends of an entry and of an exit (R495, R496, R503) -/

theorem powerTick_standby {f : Bool} (h : s.pwr.power = .entering 1 f) (hsource : levelSource s = none) :
    powerTick s = (setPower .standby PS_STANDBY s).wr PWR_STAT_RESULT 0 := by
  simp only [powerTick, h, endStandby, hsource, pwrEnd_ok]

theorem powerTick_aborts {f : Bool} {c : Nat} (h : s.pwr.power = .entering 1 f) (hsource : levelSource s = some c) :
    powerTick s = aborted c (setPower .active PS_ACTIVE (powerArray s)) := by
  simp only [powerTick, h, endStandby, hsource]

theorem powerTick_exits (h : s.pwr.power = .exiting) :
    powerTick s = ((setPower .active PS_ACTIVE (powerArray s)).wr PWR_STAT_WOKE 1).count PWR_COUNT_WAKES := by
  simp only [powerTick, h]
  rfl

/-! ### The cut-over (R497, R503) -/

theorem cutover_none (h2 : ∀ f, s.pwr.power ≠ .entering 2 f) (h3 : ∀ f, s.pwr.power ≠ .entering 3 f) : cutover s = s := by
  unfold cutover
  split
  next f h => exact absurd h (h2 f)
  next f h => exact absurd h (h3 f)
  next => rfl

theorem cutover_keeptime {f : Bool} (h : s.pwr.power = .entering 2 f) : cutover s =
    let k := setPower .keeptime PS_ACTIVE (keeptimeBase s)
    { k with pwr := { k.pwr with switching := 4 } } := by
  simp only [cutover, h]
  rfl

theorem cutover_deep {f : Bool} (h : s.pwr.power = .entering 3 f) : cutover s =
    let k := coldBase true s
    { k with pwr := { k.pwr with power := .deep, coreEn := false, switching := 4, lowMode := k.flag PWR_CFG_AONLP } } := by
  simp only [cutover, h]
  rfl

/-- The state with so many always-on cycles of the cut-over left. -/
def switchLeft (n : Nat) (s : State) : State := { s with pwr := { s.pwr with switching := n } }

theorem switchCycle_over (h : s.pwr.switching = 0) : switchCycle s = s := by simp only [switchCycle, h]

theorem switchCycle_counts {n : Nat} (h : s.pwr.switching = n + 2) : switchCycle s = switchLeft (n + 1) s := by
  simp only [switchCycle, h]
  rfl

theorem switchCycle_samples (h : s.pwr.switching = 1) : switchCycle s = levelWake (switchLeft 0 s) := by
  simp only [switchCycle, h]
  rfl

theorem levelWake_none (h : levelSource s = none) : levelWake s = s := by simp only [levelWake, h]
theorem levelWake_some {c : Nat} (h : levelSource s = some c) : levelWake s = wakeEvent c s := by simp only [levelWake, h]

/-! ### Wakes (R502, R503) -/

section
variable {c : Nat}

theorem recordLower_eq : recordLower c s =
    if s.pwr.wakeAt = some (s.rd PWR_RTC_COUNT) ∧ c < s.rd PWR_WAKESRC_CODE then s.wr PWR_WAKESRC_CODE c else s := by
  simp only [recordLower, wokeNow, beq_iff_eq]

theorem wakeEvent_lost (h : s.pwr.supplied = false ∨ 0 < s.pwr.switching) : wakeEvent c s = s := if_pos (by simpa using h)

section
variable (hup : s.pwr.supplied = true) (hsw : s.pwr.switching = 0)
include hup hsw

/-- What an enabled wake event does in a device that runs, by its power state. -/
theorem wakeEvent_acts :
    (s.pwr.power = .active → wakeEvent c s = recordLower c s) ∧
    (s.pwr.power = .exiting → wakeEvent c s = if c = 3 then s else recordLower c s) ∧
    (s.pwr.power = .standby → wakeEvent c s = if c = 3 then s else leaveStandby c s) ∧
    (∀ t f, s.pwr.power = .entering t f → wakeEvent c s = if t = 1 ∧ c = 3 then s else abortEntry c f s) ∧
    (s.pwr.power = .keeptime → wakeEvent c s = wakeKeeptime c s) ∧
    (s.pwr.power = .deep → wakeEvent c s = wakeDeep c s) := by
  have hruns : ¬((!s.pwr.supplied) = true ∨ 0 < s.pwr.switching) := by simp [hup, hsw]
  refine ⟨fun h => ?_, fun h => ?_, fun h => ?_, fun t f h => ?_, fun h => ?_, fun h => ?_⟩ <;> simp only [wakeEvent, if_neg hruns, h]

end

end

theorem wakePin_enabled {b : Bool} : ((s.flag PWR_WAKEEN_WAKE && wakePinActive { s with pwr := { s.pwr with wakePin := b } }) = true) ↔
    s.flag PWR_WAKEEN_WAKE = true ∧ b ≠ s.flag PWR_WAKECFG_WAKEPOL := by
  simp only [Bool.and_eq_true, wakePinActive, bne_iff_ne]
  exact Iff.rfl

theorem rtcAlarm_enabled : ((s.flag PWR_WAKEEN_RTC && alarmActive s) = true) ↔
    s.flag PWR_WAKEEN_RTC = true ∧ s.rd PWR_RTCALM_ALARM ≤ s.rd PWR_RTC_COUNT := by
  simp only [Bool.and_eq_true, alarmActive, decide_eq_true_eq]

theorem ev0Edge_enabled {b : Bool} :
    ((s.flag PWR_WAKEEN_EV0 && (decide (2 ≤ s.rd PWR_WAKECFG_EV0EDGE) || (s.rd PWR_WAKECFG_EV0EDGE == 1) == b)) = true) ↔
    s.flag PWR_WAKEEN_EV0 = true ∧ (2 ≤ s.rd PWR_WAKECFG_EV0EDGE ∨ s.rd PWR_WAKECFG_EV0EDGE = (if b then 1 else 0)) := by
  generalize s.rd PWR_WAKECFG_EV0EDGE = e
  rw [Bool.and_eq_true, Bool.or_eq_true, decide_eq_true_eq]
  refine and_congr_right fun _ => ?_
  cases b with
  | false => simp; omega
  | true => simp

theorem dbgReq_enabled : ((s.flag PWR_WAKEEN_DBGREQ && otpLcs s != DEPLOYED) = true) ↔
    s.flag PWR_WAKEEN_DBGREQ = true ∧ otpLcs s ≠ DEPLOYED := by
  simp only [Bool.and_eq_true, bne_iff_ne]

theorem i2cWakes_iff : i2cWakes s = true ↔ s.flag PWR_WAKEEN_I2C = true ∧ (s.pwr.supplied = true ∧ s.pwr.switching = 0) ∧
    (s.pwr.power = .keeptime ∨ (s.pwr.power = .deep ∧ s.pwr.coreUp = none)) := by
  simp [i2cWakes, and_assoc]

/-- A command that is a wake event where it is enabled: without its enable, without supply and behind a cut-over it does nothing, else it acts
by the power state. -/
theorem wakeCommand {o : Host.Outcome State Fault Refusal} {e : Bool} {en : Prop} {c : Nat}
    (ho : o = .next (if e then wakeEvent c s else s)) (he : e = true ↔ en) :
    (¬en → o = .next s) ∧
    (en → s.pwr.supplied = false ∨ 0 < s.pwr.switching → o = .next s) ∧
    (en → s.pwr.supplied = true → s.pwr.switching = 0 →
      (s.pwr.power = .active → o = .next (recordLower c s)) ∧
      (s.pwr.power = .exiting → o = .next (if c = 3 then s else recordLower c s)) ∧
      (s.pwr.power = .standby → o = .next (if c = 3 then s else leaveStandby c s)) ∧
      (∀ t f, s.pwr.power = .entering t f → o = .next (if t = 1 ∧ c = 3 then s else abortEntry c f s)) ∧
      (s.pwr.power = .keeptime → o = .next (wakeKeeptime c s)) ∧
      (s.pwr.power = .deep → o = .next (wakeDeep c s))) := by
  have event (hen : en) : o = .next (wakeEvent c s) := ho.trans (congrArg done (if_pos (he.mpr hen)))
  refine ⟨fun hno => ho.trans (congrArg done (if_neg (mt he.mp hno))), fun hen hlost => (event hen).trans (congrArg done (wakeEvent_lost hlost)),
    fun hen hup hsw => ?_⟩
  obtain ⟨hactive, hexiting, hstandby, hentering, hkeeptime, hdeep⟩ := wakeEvent_acts (c := c) hup hsw
  exact ⟨fun h => (event hen).trans (congrArg done (hactive h)), fun h => (event hen).trans (congrArg done (hexiting h)),
    fun h => (event hen).trans (congrArg done (hstandby h)), fun t f h => (event hen).trans (congrArg done (hentering t f h)),
    fun h => (event hen).trans (congrArg done (hkeeptime h)), fun h => (event hen).trans (congrArg done (hdeep h))⟩

/-! ### Supplies (R572) -/

theorem powerUp_supplied (h : s.pwr.supplied = true) : powerUp s = s := if_pos h
theorem powerUp_rises (h : s.pwr.supplied = false) :
    powerUp s = { s with pwr := { s.pwr with supplied := true, coreEn := true } } := if_neg (ne_true_of_eq_false h)
theorem supplyReset_supplied (h : s.pwr.supplied = true) : supplyReset s = coldReset false s := if_pos h
theorem supplyReset_unsupplied (h : s.pwr.supplied = false) : supplyReset s = s := if_neg (ne_true_of_eq_false h)
theorem resetIf_supplied (h : s.pwr.supplied = true) (f : Fld) : resetIf f s = coldReset false (s.wr f 1) := if_pos h
theorem resetIf_unsupplied (h : s.pwr.supplied = false) (f : Fld) : resetIf f s = s := if_neg (ne_true_of_eq_false h)

end

section
variable (init : Init) (s : State)

/-- The commands that request a power state, each with its target. -/
theorem exec_stateCommand : ∀ p ∈ [((.standbyExit init : Instr), 0), (.standbyEntry init, 1), (.keeptimeEntry init, 2), (.deepEntry init, 3)],
    exec p.1 s = done (asAccess init PWR_CMD true (guardW (mayState init) init PWR_CMD OWNER (stateRequest p.2)) s) := by
  intro p hp
  simp only [List.mem_cons, List.not_mem_nil, or_false] at hp
  rcases hp with rfl | rfl | rfl | rfl
  · rfl
  · rfl
  · rfl
  · rfl

theorem exec_cutover : exec .cutover s = .next (cutover s) := rfl
theorem exec_wakePin (b : Bool) : exec (.wakePin b) s = .next
    (if s.flag PWR_WAKEEN_WAKE && wakePinActive { s with pwr := { s.pwr with wakePin := b } } then
      wakeEvent 1 { s with pwr := { s.pwr with wakePin := b } } else { s with pwr := { s.pwr with wakePin := b } }) := rfl
theorem exec_rtcAlarm : exec .rtcAlarm s = .next (if s.flag PWR_WAKEEN_RTC && alarmActive s then levelWake s else s) := rfl
theorem exec_ev0WakeEdge (b : Bool) : exec (.ev0WakeEdge b) s = .next
    (if s.flag PWR_WAKEEN_EV0 && (decide (2 ≤ s.rd PWR_WAKECFG_EV0EDGE) || (s.rd PWR_WAKECFG_EV0EDGE == 1) == b) then wakeEvent 4 s else s) :=
  rfl
theorem exec_dbgreqWake : exec .dbgreqWake s = .next (if s.flag PWR_WAKEEN_DBGREQ && otpLcs s != DEPLOYED then wakeEvent 5 s else s) := rfl
theorem exec_i2cAddrWake : exec .i2cAddrWake s = .next (returned (if i2cWakes s || linkOn s 3 then 0 else NACKED) []
    (if s.flag PWR_WAKEEN_I2C then wakeEvent 3 s else s)) := rfl
theorem exec_powerUp : exec .powerUp s = .next (powerUp s) := rfl
theorem exec_coldReset : exec .coldReset s = .next (supplyReset s) := rfl
theorem exec_resetPin : exec .resetPin s = .next (resetIf PWR_RSTCAUSE_PIN s) := rfl
theorem exec_brownout : exec .brownout s = .next (resetIf PWR_RSTCAUSE_BROWNOUT s) := rfl
theorem exec_crystalSwitchover : exec .crystalSwitchover s =
    .next (if s.pwr.supplied then { s with pwr := { s.pwr with crystal := true } } else s) := rfl
theorem exec_vddAonInLoss : exec .vddAonInLoss s = .next (unsupplied s) := rfl

end

/-- Settles O20: the requests are guarded accesses with their checks in order, the wakes are events of their enabled sources, and the
rest are the ends of a change, of an entry, of an exit and of a cut-over. -/
theorem powerCommands : Obligations.PowerCommands := by
  intro init lv b s six x perf cmd ends s1 s2 refused
  have level := exec_levelChange init s lv
  refine ⟨fun h => ?_, fun h => ?_, exec_levelSettleEnd_tick s, exec_vidfailTimeout s, levelDue_none, fun c h => ?_, ?_,
    fun f h => ⟨powerTick_standby h, fun c => powerTick_aborts h⟩, powerTick_exits, fun h2 h3 => congrArg done (cutover_none h2 h3),
    fun f h => congrArg done (cutover_keeptime h), fun f h => congrArg done (cutover_deep h), ?_, ?_, fun h => ?_, fun h => ?_,
    exec_vddAonInLoss s⟩
  · exact level.trans (guarded_refused (Bool.eq_false_iff.mpr (mt mayLevel_iff.mp h)))
  · have may : mayLevel init = true := mayLevel_iff.mpr h
    refine ⟨fun hlv => level.trans (guarded_allowed may (levelRequest_inForce (s := x) hlv)),
      fun hlv hhalt => level.trans (guarded_allowed may (levelRequest_deferred (s := x) hlv hhalt)), fun hlv hrun => ?_⟩
    have checked {t : State} (ht : levelChecked lv s1 = t) : exec (.levelChange init lv) s = .next (perf t) :=
      level.trans (guarded_allowed may ((levelRequest_checked (s := x) hlv hrun).trans ht))
    exact ⟨fun hbusy => checked (levelChecked_busy hbusy), fun hidle h3 => checked (levelChecked_badState hidle h3),
      fun hidle h3 hfits => checked (levelChecked_budget hidle h3 hfits),
      fun hidle h3 hfits hlt => checked ((levelChecked_begins hidle h3 hfits).trans (beginLevel_raises hlt)),
      fun hidle h3 hfits hlt => checked ((levelChecked_begins hidle h3 hfits).trans (beginLevel_lowers hlt))⟩
  · refine ⟨levelEnd_eq h, levelDue_iff h, vidDue_iff h, fun hwait ht => ?_, fun hwait ht => ?_, vidFail_eq h⟩
    · exact (exec_levelSettleEnd_vpg s h hwait).trans (congrArg done ((vpgHigh_ends h hwait ht).trans (levelEnd_eq h)))
    · exact (exec_levelSettleEnd_vpg s h hwait).trans (congrArg done (vpgHigh_early h hwait ht))
  · intro p hp
    have command : exec p.1 s = done (asAccess init PWR_CMD true (guardW (mayState init) init PWR_CMD OWNER (stateRequest p.2)) s) :=
      exec_stateCommand init s p hp
    have taken {t : State} (h : init.val ∈ six) (ht : stateRequest p.2 x = t) : exec p.1 s = .next (cmd t) :=
      command.trans (guarded_allowed (mayState_iff.mpr h) ht)
    refine ⟨fun h => command.trans (guarded_refused (Bool.eq_false_iff.mpr (mt mayState_iff.mp h))),
      fun h hin => taken h (stateRequest_inForce (s := x) hin), fun h ht hexit hwoke => taken h (stateRequest_waking (s := x) ht hexit hwoke),
      fun h hnot hasleep => ?_⟩
    refine ⟨fun hbusy => taken h (stateRequest_busy (s := x) hnot hasleep hbusy),
      fun hidle ha hs => taken h (stateRequest_badState (s := x) hnot hasleep hidle ha hs), fun hidle hstate => ?_⟩
    exact ⟨fun h2 hh => taken h (stateRequest_halted (s := x) hnot hasleep hidle hstate h2 hh),
      fun h2 hr hw => taken h (stateRequest_wakeActive (s := x) hnot hasleep hidle hstate h2 hr hw),
      fun h2 hr hw => taken h (stateRequest_enters (s := x) hnot hasleep hidle hstate h2 hr hw),
      fun h0 => taken h (stateRequest_leaves (s := x) hnot hasleep hidle hstate h0),
      fun h1 => taken h (stateRequest_standby (s := x) hnot hasleep hidle hstate h1)⟩
  · intro left
    exact ⟨switchCycle_over, fun n => switchCycle_counts,
      fun h hsource => (switchCycle_samples h).trans (levelWake_none (s := left 0) hsource),
      fun c h hsource => (switchCycle_samples h).trans (levelWake_some (s := left 0) hsource)⟩
  · intro w wakes
    refine ⟨fun c => recordLower_eq, wakeCommand (s := w) (exec_wakePin s b) wakePin_enabled, fun c hc => ?_, fun hnone => ?_, ?_,
      wakeCommand (exec_ev0WakeEdge s b) ev0Edge_enabled, wakeCommand (exec_dbgreqWake s) dbgReq_enabled⟩
    · have alarm := exec_rtcAlarm s
      rw [levelWake_some hc] at alarm
      exact wakeCommand alarm rtcAlarm_enabled
    · have alarm := exec_rtcAlarm s
      rwa [levelWake_none hnone, ite_self] at alarm
    · have addr := exec_i2cAddrWake s
      refine ⟨fun h => ?_, fun h hlink => ?_, fun hup h => ?_, fun hup h => ?_⟩
      · have acked : (i2cWakes s || linkOn s 3) = true := Bool.or_eq_true_iff.mpr (h.imp_left i2cWakes_iff.mpr)
        rwa [if_pos acked] at addr
      · have nacked : ¬(i2cWakes s || linkOn s 3) = true := by
          rw [Bool.or_eq_true, not_or]
          exact ⟨mt i2cWakes_iff.mp h, ne_true_of_eq_false hlink⟩
        rwa [if_neg nacked] at addr
      · obtain ⟨-, -, -, -, hkeeptime, -⟩ := wakeEvent_acts (c := 3) hup.1 hup.2
        exact hkeeptime h
      · obtain ⟨-, -, -, -, -, hdeep⟩ := wakeEvent_acts (c := 3) hup.1 hup.2
        exact hdeep h
  · exact ⟨congrArg done (powerUp_supplied h), congrArg done (supplyReset_supplied h), congrArg done (resetIf_supplied h _),
      congrArg done (resetIf_supplied h _), congrArg done (if_pos h)⟩
  · exact ⟨congrArg done (powerUp_rises h), congrArg done (supplyReset_unsupplied h), congrArg done (resetIf_unsupplied h _),
      congrArg done (resetIf_unsupplied h _), congrArg done (if_neg (ne_true_of_eq_false h))⟩

end Sys2Proof.Machine

end

section
/-!
PROOFS. The boot ROM's image, its checks in order and the hand-over (R442, R528 to R534), BOOTSTAT and NMEA output (R534, R553).
-/

namespace Sys2Proof.Machine

section
variable {s : State}

/-! ### What the fault log leaves of the host links -/

/-- A change that leaves the host links. -/
def SameHst (s t : State) : Prop := t.hst = s.hst

theorem SameHst.trans {s t u : State} (h : SameHst s t) (k : SameHst t u) : SameHst s u := Eq.trans k h

theorem setBytes_sameHst (l : List Byte) : ∀ (s : State) (a : Nat), SameHst s (s.setBytes a l) := by
  induction l with
  | nil => intro s a; exact rfl
  | cons x t ih => intro s a; exact ih _ _

theorem setLE_sameHst (a n v : Nat) : SameHst s (s.setLE a n v) := setBytes_sameHst (toLE n v) s a

theorem count_sameHst (f : Fld) (n : Nat) : SameHst s (s.count f n) := rfl

theorem saf_sameHst (x : SafState) : SameHst s { s with saf := x } := rfl

theorem clearErrors_sameHst (a n : Nat) : SameHst s (clearErrors a n s) := rfl

theorem foldl_sameHst {α : Type} {f : State → α → State} (hf : ∀ t x, SameHst t (f t x)) (l : List α) : SameHst s (l.foldl f s) :=
  List.foldlRecOn (motive := SameHst s) l f rfl fun t ht x _ => ht.trans (hf t x)

theorem correct_sameHst (a n : Nat) : SameHst s (correct a n s) := by
  unfold correct
  split
  · rfl
  · refine SameHst.trans rfl (foldl_sameHst (fun t w => ?_) _)
    unfold countCorr
    split <;> rfl

theorem raiseRepeat_sameHst (a : Nat) : SameHst s (raiseRepeat a s) := by
  unfold raiseRepeat
  extract_lets t
  split
  · exact correct_sameHst a 1
  · exact (correct_sameHst a 1).trans (setLE_sameHst ..)

theorem copyWord_sameHst (a entry i : Nat) : SameHst s (copyWord a entry s i) := by
  unfold copyWord
  extract_lets w
  split
  · rfl
  · exact (clearErrors_sameHst ..).trans (setLE_sameHst ..)

theorem sendCopy_sameHst (entry : Nat) : SameHst s (sendCopy entry s) := by
  unfold sendCopy
  extract_lets waits
  split
  · rfl
  · have hwords := foldl_sameHst (s := s) (fun t i => copyWord_sameHst (s := t) (0x06390000 + 32 * (s.rd SAF_LOGWP_NVSWP % 2048)) entry i)
      (List.range 4)
    exact hwords.trans rfl

theorem logEvent_sameHst (code sev init unit data : Nat) : SameHst s (logEvent code sev init unit data s) := by
  unfold logEvent
  extract_lets wp merge now entry slot s1 s2 saf s3
  have h1 : SameHst s s1 := (clearErrors_sameHst ..).trans (setLE_sameHst ..)
  have h2 : SameHst s s2 := h1.trans (count_sameHst SAF_LOGWP_WP 1)
  clear_value s2
  have h3 : SameHst s s3 := h2.trans (saf_sameHst _)
  by_cases hm : merge = true
  · rw [if_pos hm]
    exact raiseRepeat_sameHst _
  · rw [if_neg hm]
    clear_value s3
    split
    · exact h3.trans (sendCopy_sameHst entry)
    · exact h3

theorem icError_sameHst (init a cause : Nat) (write : Bool) : SameHst s (icError init a write cause s) := by
  unfold icError
  refine SameHst.trans ?_ (logEvent_sameHst ..)
  split
  · exact rfl
  · exact rfl

theorem typed_sameHst (a : Nat) (v : Word) : SameHst s (s.typed a v) := by
  unfold State.typed
  split <;> rfl

theorem fwWrite_sameHst (init a : Nat) (v : Word) : SameHst s (fwWrite init a v s) := by
  unfold fwWrite guardW refuseWrite
  split
  · dsimp only
    split
    · exact typed_sameHst a v
    · exact icError_sameHst ..
  · exact icError_sameHst ..

/-! ### The image of a flash slot and of the host (R528, R532, R533) -/

theorem bootFlash_idle {image : List Byte} {ok : Bool} (h : s.rd HST_BOOT_STATUS ≠ BOOT_RUNNING ∨ s.rd HST_BOOT_BOOTSEL ≠ 0 ∨
    s.clk.svOut = false ∨ s.memc.bootMarch = true) : bootFlash image ok s = s := if_pos (by simpa using h)

theorem bootFlash_reads {image : List Byte} {ok : Bool} (hst : s.rd HST_BOOT_STATUS = BOOT_RUNNING) (hsel : s.rd HST_BOOT_BOOTSEL = 0)
    (hout : s.clk.svOut = true) (hmarch : s.memc.bootMarch = false) : bootFlash image ok s =
      bootImage { len := (image.take (min (320 + payLen image) 0x800000)).length,
                  src := (dmaWrite 6 STAGE (image.take (min (320 + payLen image) 0x800000)) (stageProtect s)).2.hst.slot, bad := !ok }
        (dmaWrite 6 STAGE (image.take (min (320 + payLen image) 0x800000)) (stageProtect s)).2 :=
  if_neg (by simp [hst, hsel, hout, hmarch])

theorem mayBootGo_iff {init : Init} : ((init.val == PCIE_INIT || init.val == BRIDGE_INIT) && bootWaits s) = true ↔
    (init.val = 10 ∨ init.val = 11) ∧ bootWaits s = true := by
  simp [PCIE_INIT, BRIDGE_INIT]

/-- What a write of HST_BOOTGO does: it protects the staging area, and GO announces an image. -/
def bootGone (v : Word) (s : State) : State :=
  if HST_BOOTGO_GO.of v = 1 then bootGo (HST_BOOTGO_LEN.of v) 2 (stageProtect (s.wr HST_STAT_GOREQ 1))
  else stageProtect (s.wr HST_STAT_GOREQ 1)

section
variable {n src : Nat}

theorem bootGo_header (h : n < 328 ∨ 16777216 < n) : bootGo n src s = bootFail BF_HEADER src s := if_pos h

theorem bootGo_announces (hlo : 328 ≤ n) (hhi : n ≤ 16777216) :
    bootGo n src s = bootImage { len := n, src := src, bad := s.hst.stageBad } (stageProtect s) :=
  if_neg (not_or.mpr ⟨Nat.not_lt.mpr hlo, Nat.not_lt.mpr hhi⟩)

end

section
variable {v : Word}

theorem bootGone_protects (hgo : HST_BOOTGO_GO.of v ≠ 1) : bootGone v s = stageProtect (s.wr HST_STAT_GOREQ 1) := if_neg hgo

theorem bootGone_header (hgo : HST_BOOTGO_GO.of v = 1) (h : HST_BOOTGO_LEN.of v < 328 ∨ 16777216 < HST_BOOTGO_LEN.of v) :
    bootGone v s = bootFail BF_HEADER 2 (stageProtect (s.wr HST_STAT_GOREQ 1)) := by
  rw [bootGone, if_pos hgo, bootGo_header h]

theorem bootGone_announces (hgo : HST_BOOTGO_GO.of v = 1) (hlo : 328 ≤ HST_BOOTGO_LEN.of v) (hhi : HST_BOOTGO_LEN.of v ≤ 16777216) :
    bootGone v s = bootImage { len := HST_BOOTGO_LEN.of v, src := 2, bad := (stageProtect (s.wr HST_STAT_GOREQ 1)).hst.stageBad }
      (stageProtect (stageProtect (s.wr HST_STAT_GOREQ 1))) := by
  rw [bootGone, if_pos hgo, bootGo_announces hlo hhi]

end

/-! ### The checks (R529, R530) -/

theorem secureBoot_waits (h : s.hst.boot = none ∨ s.memc.bootMarch = true) : secureBoot s = s := by
  unfold secureBoot
  split
  next => rfl
  next b hb => exact if_pos (h.resolve_left (by simp [hb]))

/-- The end of the checks of an image, by the cause of the first that fails. -/
def bootChecked (img : List Byte) (src cause : Nat) (s : State) : State :=
  let s1 := if cause = 0 ∨ BF_SIGNATURE ≤ cause ∧ cause ≤ BF_HASH then countCheck img s else s
  if cause ≠ 0 then bootFail cause src s1
  else bootHandOver src (writeBootPcs img (copySegments img (segments img) 320 s1))

theorem secureBoot_checks {b : BootImage} {c : Nat} {img : List Byte} {s1 : State} (hmarch : s.memc.bootMarch = false)
    (hb : s.hst.boot = some b) (hread : dmaRead 6 STAGE b.len s = (c, img, s1)) :
    secureBoot s = bootChecked img b.src (bootCause img b.src (b.bad || c != 0) s1) s1 := by
  simp only [secureBoot, hb, hmarch, hread]
  rfl

section
variable {img : List Byte} {src cause : Nat}

theorem bootChecked_unsigned (h : cause = BF_HEADER ∨ cause = BF_SEGMENT ∨ cause = BF_FLASH ∨ cause = BF_MEMORY) :
    bootChecked img src cause s = bootFail cause src s := by
  rcases h with rfl | rfl | rfl | rfl <;> rfl

theorem bootChecked_signed (h : cause = BF_SIGNATURE ∨ cause = BF_ROLLBACK ∨ cause = BF_HASH) :
    bootChecked img src cause s = bootFail cause src (countCheck img s) := by
  rcases h with rfl | rfl | rfl <;> rfl

theorem bootChecked_passes (h : cause = 0) :
    bootChecked img src cause s = bootHandOver src (writeBootPcs img (copySegments img (segments img) 320 (countCheck img s))) := by
  unfold bootChecked
  extract_lets s1
  have hs1 : s1 = countCheck img s := if_pos (.inl h)
  rw [if_neg (not_not.mpr h), hs1]

theorem bootCause_flash (h : src < 2) : bootCause img src true s = BF_FLASH := by
  unfold bootCause
  extract_lets short
  rw [if_pos (.inl rfl), if_pos h]

theorem bootCause_memory (h : 2 ≤ src) : bootCause img src true s = BF_MEMORY := by
  unfold bootCause
  extract_lets short
  rw [if_pos (.inl rfl), if_neg (Nat.not_lt.mpr h)]

theorem bootCause_header (h : headerFits img = false) : bootCause img src false s = BF_HEADER := by
  simp [bootCause, h]

section
variable (hheader : headerFits img = true) (hlen : img.length = 320 + payLen img)
include hheader hlen

theorem bootCause_segment (h : ((segments img).all fun x => segmentFits x.1 x.2) = false) : bootCause img src false s = BF_SEGMENT := by
  simp [bootCause, hheader, hlen, h]

theorem bootCause_rest (h : ((segments img).all fun x => segmentFits x.1 x.2) = true) : bootCause img src false s =
    if bootSignature img s ≠ V_VALID then BF_SIGNATURE
    else if svnOk img s = false then BF_ROLLBACK
    else if hashOk img = false then BF_HASH else 0 := by
  simp [bootCause, hheader, hlen, h]

end

end

/-! ### The end of a failing image (R532, R534) -/

theorem bootFail_ends {cause src : Nat} (h : src ≠ 0) : bootFail cause src s = (List.range 4).foldl romLink (bootStatus BOOT_FAIL cause
    (stageRelease { s with hst := { s.hst with boot := none, stageBad := false } })) := if_neg h

theorem romLink_enabled {j : Nat} (h : s.bit HST_CTRL_LINKEN j = true) : romLink s j = s := if_pos h

/-- A change of the boot status keeps the image and the slot. -/
theorem bootStatus_slot (st cause : Nat) : (bootStatus st cause s).hst.boot = s.hst.boot ∧ (bootStatus st cause s).hst.slot = s.hst.slot := by
  unfold bootStatus raiseVector
  extract_lets t
  split
  · exact ⟨rfl, rfl⟩
  · split <;> exact ⟨rfl, rfl⟩

theorem bootFail_slotA (cause : Nat) : (bootFail cause 0 s).hst.boot = none ∧ (bootFail cause 0 s).hst.slot = 1 := by
  have hrelease := fwWrite_sameHst (s := { s with hst := { s.hst with boot := none, stageBad := false } }) 6 (IC_FWn_BASE 31) 0
  obtain ⟨hboot, hslot⟩ := bootStatus_slot (s := { stageRelease { s with hst := { s.hst with boot := none, stageBad := false } } with
    hst := { (stageRelease { s with hst := { s.hst with boot := none, stageBad := false } }).hst with slot := 1 } }) BOOT_RUNNING 0
  exact ⟨hboot.trans (congrArg HstState.boot hrelease), hslot⟩

/-! ### BOOTSTAT and NMEA output (R534, R553) -/

theorem bootstatDue_iff (k : Nat) : bootstatDue s k = true ↔ s.rd HST_BOOT_STATUS = BOOT_FAIL ∧ k % 600000000 = 0 := by
  simp [bootstatDue]

theorem todAhead_iff : todAhead s = true ↔ s.flag TPE_TODCFG_EN = true ∧ (s.pls.tod ≠ [] ∨ s.hst.tod.getD (s.rd TPE_TODCFG_UART) [] ≠ [] ∨
    (s.rd (TPGn_STAT_STATE (s.rd TPE_TODCFG_TPG)) = T_ARMED ∧ (s.tpg (s.rd TPE_TODCFG_TPG)).trail = none ∧
      tpgNext s (s.rd TPE_TODCFG_TPG) / 2 ^ 48 ≤ s.sec)) := by
  simp [todAhead, or_assoc, and_assoc]

theorem nmeaDue_iff : nmeaDue s = true ↔ s.hst.nmeaAt ≠ some s.sec ∧ todAhead s = false := by simp [nmeaDue]

theorem nmeaOutput_idle (h : svRuns s = false ∨ s.hst.nmeaAt = some s.sec ∨ todAhead s = true) : nmeaOutput s = s := by
  refine if_pos ?_
  rw [Bool.or_eq_true, Bool.not_eq_true', Bool.not_eq_true', ← Bool.not_eq_true (nmeaDue s), nmeaDue_iff, not_and_or, not_not,
    Bool.not_eq_false]
  exact h

/-- The sentences of a second leave on a UART that carries them. -/
def nmeaSent (text : List (List Byte)) (u : Nat) (s : State) : State :=
  if s.hst.nmea.uarts.testBit u then text.foldl (fun s b => sendOn (u + 2) b s) s else s

theorem nmeaOutput_sends (hruns : svRuns s = true) (hat : s.hst.nmeaAt ≠ some s.sec) (htod : todAhead s = false) : nmeaOutput s =
    nmeaSent (nmeaText s) 1 (nmeaSent (nmeaText s) 0 { s with hst := { s.hst with nmeaAt := some s.sec } }) := by
  have hdue : nmeaDue s = true := nmeaDue_iff.mpr ⟨hat, htod⟩
  rw [nmeaOutput, if_neg (by simp [hruns, hdue])]
  rfl

end

section
variable (init : Init) (s : State)

theorem exec_bootFlash (image : List Byte) (ok : Bool) : exec (.bootFlash image ok) s = .next (bootFlash image ok s) := rfl
theorem exec_hstBootgo (v : Word) : exec (.hstBootgo init v) s = done (asAccess init HST_BOOTGO true
    (guardW ((init.val == PCIE_INIT || init.val == BRIDGE_INIT) && bootWaits (unstage init s)) init HST_BOOTGO OWNER (bootGone v)) s) := rfl
theorem exec_secureBootCheck : exec .secureBootCheck s = .next (secureBoot s) := rfl
theorem exec_bootstatOutput : exec .bootstatOutput s = .next (tickAt bootstatDue s) := rfl
theorem exec_nmeaOutput : exec .nmeaOutput s = .next (nmeaOutput s) := rfl

end

/-- Settles O23: the image is staged or announced, the first failing check ends it, and one that passes all is handed over. -/
theorem bootCommands : Obligations.BootCommands := by
  intro init v image ok s u go
  have bootgo := exec_hstBootgo init s v
  refine ⟨fun h => congrArg done (bootFlash_idle h), fun hst hsel hout hmarch => congrArg done (bootFlash_reads hst hsel hout hmarch),
    fun h => ?_, fun h hw => ?_, fun h => congrArg done (secureBoot_waits h), fun b c img s1 hmarch hb hread => ?_,
    ⟨fun src => bootCause_flash, fun src => bootCause_memory, fun src => bootCause_header,
      fun src hheader hlen => ⟨bootCause_segment hheader hlen, bootCause_rest hheader hlen⟩⟩,
    fun cause src s1 => bootFail_ends, fun j _ => romLink_enabled, fun cause s1 => bootFail_slotA cause, rfl, bootstatDue_iff, rfl,
    todAhead_iff, fun h => congrArg done (nmeaOutput_idle h), fun hruns hat htod => congrArg done (nmeaOutput_sends hruns hat htod)⟩
  · have other := mt mayBootGo_iff.mp (not_and_or.mpr (h.imp_right ne_true_of_eq_false))
    exact bootgo.trans (guarded_refused (Bool.eq_false_iff.mpr other))
  · have may := mayBootGo_iff.mpr ⟨h, hw⟩
    exact ⟨fun hgo => bootgo.trans (guarded_allowed may (bootGone_protects (s := u) hgo)),
      fun hgo hn => bootgo.trans (guarded_allowed may (bootGone_header (s := u) hgo hn)),
      fun hgo hlo hhi => bootgo.trans (guarded_allowed may (bootGone_announces (s := u) hgo hlo hhi))⟩
  · have checked := (exec_secureBootCheck s).trans (congrArg done (secureBoot_checks hmarch hb hread))
    exact ⟨fun h => checked.trans (congrArg done (bootChecked_unsigned h)), fun h => checked.trans (congrArg done (bootChecked_signed h)),
      fun h => checked.trans (congrArg done (bootChecked_passes h))⟩

end Sys2Proof.Machine

end

