-- ==== Sys2Proof/Proofs/EmpCommands.lean ====
section
/-!
PROOFS. EMP: who answers a command, what SV and the boot ROM find for it, and the frames that carry it.
-/

namespace Sys2Proof.Machine

/-! ### Who answers a command (R548) -/

section answers
variable {l : Nat} {c : EmpCmd} {s : State}

/-- A command reaches nobody: the firmware does not run and the boot ROM does not listen on its link. -/
theorem runEmp_lost (hsv : svRuns s = false) (hb : ¬(bootListens s = true ∧ l = 2)) : runEmp l c s = s := by
  unfold runEmp
  rw [if_neg (by simp [hsv]), if_neg hb]

theorem runEmp_boot (hsv : svRuns s = false) (hb : bootListens s = true) (hl : l = 2) :
    runEmp l c s = respond 2 (empKey c).1 (empKey c).2 (bootDo c s).1 (bootDo c s).2 := by
  unfold runEmp
  rw [if_neg (by simp [hsv]), if_pos ⟨hb, hl⟩]
  rfl

theorem runEmp_sv (hsv : svRuns s = true) : runEmp l c s = svCommand l c s := if_pos hsv

theorem svCommand_busy (ha : (s.hst.await.any fun a => a.2.1 == (empKey c).1) = true) :
    svCommand l c s = respond l (empKey c).1 (empKey c).2 ⟨E_BUSY, 0, []⟩ s := if_pos ha

theorem svCommand_answers (ha : (s.hst.await.any fun a => a.2.1 == (empKey c).1) = false) {a : EmpAnswer} {s' : State}
    (hd : empDo l c s = (some a, s')) : svCommand l c s = respond l (empKey c).1 (empKey c).2 a s' := by
  unfold svCommand
  rw [if_neg (by simp [ha]), hd]

/-- A command whose end comes later, or that resets the device, is not answered by SV now. -/
theorem svCommand_silent (ha : (s.hst.await.any fun a => a.2.1 == (empKey c).1) = false) {s' : State}
    (hd : empDo l c s = (none, s')) : svCommand l c s = s' := by
  unfold svCommand
  rw [if_neg (by simp [ha]), hd]

end answers

/-! ### What SV finds -/

section finds
variable {l : Nat} {s s' : State}

theorem empDo_cfgGet_outside {b : Byte} (h : 17 < b.toNat) : empDo l (.cfgGet b) s = (some ⟨E_BADARG, 0, []⟩, s) := if_pos h

theorem empDo_cfgSet_outside {b : Byte} {q : BitVec 64} (h : 17 < b.toNat) :
    empDo l (.cfgSet b q) s = (some ⟨E_BADARG, 0, []⟩, s) := if_pos h

theorem empDo_cfgSet_misfit {b : Byte} {q : BitVec 64} (h : b.toNat ≤ 17) (hf : cfgFits s b.toNat q.toNat = false) :
    empDo l (.cfgSet b q) s = (some ⟨E_BADARG, 1, []⟩, s) :=
  (if_neg (Nat.not_lt.mpr h)).trans (if_pos (by simp [hf]))

theorem empDo_pwrState_outside {t : Fin 8} (h : 3 < t.val) : empDo l (.pwrState t) s = (some ⟨E_BADARG, 0, []⟩, s) := if_pos h

theorem timeCommand_taken {writes : List (Nat × Nat)} (hw : svWrites writes s = (0, s'))
    (hn : s'.rd TB_COUNT_REFUSED = s.rd TB_COUNT_REFUSED) : timeCommand writes s = (⟨E_OK, 0, []⟩, s') := by
  simp [timeCommand, hw, hn, okay]

theorem timeCommand_refused {writes : List (Nat × Nat)} (hw : svWrites writes s = (0, s'))
    (hn : s'.rd TB_COUNT_REFUSED ≠ s.rd TB_COUNT_REFUSED) :
    timeCommand writes s = (⟨E_REFUSED, s'.rd TB_REFINFO_CAUSE, []⟩, s') := by
  simp [timeCommand, hw, hn]

theorem empDo_timeStep {w : Word} {a : EmpAnswer}
    (h : timeCommand [(TB_STEP, w.toNat), (TB_CMD, (TB_CMD_STEP.insert 0 1).toNat)] s = (a, s')) :
    empDo l (.timeStep w) s = (some a, s') :=
  congrArg (fun r => (some r.1, r.2)) h

end finds

/-! ### What the boot ROM finds (R533) -/

section boot
variable {off : BitVec 32} {bs : List Byte} {s s' : State}

theorem bootDo_data_tooLong (h : 4082 < bs.length) : bootDo (.bootData off bs) s = (⟨E_BADLEN, 0, []⟩, s) := if_pos h

theorem bootDo_data_outside (hl : bs.length ≤ 4082) (h : 0x1000000 < off.toNat + bs.length) :
    bootDo (.bootData off bs) s = (⟨E_BADARG, 0, []⟩, s) :=
  (if_neg (Nat.not_lt.mpr hl)).trans (if_pos h)

theorem bootDo_data_stored (hl : bs.length ≤ 4082) (h : off.toNat + bs.length ≤ 0x1000000)
    (hw : dmaWrite 6 (STAGE + off.toNat) bs (stageProtect s) = (0, s')) :
    bootDo (.bootData off bs) s = (⟨E_OK, 0, []⟩, s') := by
  unfold bootDo
  dsimp only
  rw [if_neg (Nat.not_lt.mpr hl), if_neg (Nat.not_lt.mpr h), hw]
  rfl

end boot

/-! ### Frames (R546, R547) -/

section frames
variable {l cls id n k : Nat} {r : EmpReading} {bs frame raw : List Byte} {s s1 s2 : State}

theorem empFrame_unserved (h : served s l = false) : empFrame l r s = s := if_pos (by simp [h])

theorem frameTimeout_idle (h : served s l = false ∨ l = 0) : frameTimeout l s = s := if_pos (by simpa using h)

theorem frameDue_mailbox (t : Nat) : frameDue s 0 t = false := rfl

/-- A byte link times out 10 ms, 6,000,000 ticks, behind its last byte. -/
theorem frameDue_byteLink {j t : Nat} (hj : j < 4) :
    frameDue s (j + 1) t = true ↔ rxLevel s j ≠ 0 ∧ s.hst.rxAt.getD j 0 + 6000000 ≤ t := by
  have hw : within 1 4 (j + 1) = true := by simp [within]; omega
  unfold frameDue
  rw [hw, Bool.true_and, Bool.and_eq_true, bne_iff_ne, decide_eq_true_eq]
  exact Iff.rfl

theorem mailFrame_no_sync (h : (bs.drop (huntLen bs)).take 2 ≠ [0xE7#8, 0x4B#8]) : mailFrame (k + 1) bs = (0, none) := by
  simp only [mailFrame, if_pos h]

theorem mailFrame_whole (h : (bs.drop (huntLen bs)).take 2 = [0xE7#8, 0x4B#8])
    (hp : parseFrame (bs.drop (huntLen bs)) = .whole cls id n) : mailFrame (k + 1) bs = (0, some (cls, id)) := by
  simp only [mailFrame, if_neg (not_not.mpr h), hp]

/-- The hunt goes on behind the SYNC1 of a frame without a right CRC. -/
theorem mailFrame_discards (h : (bs.drop (huntLen bs)).take 2 = [0xE7#8, 0x4B#8])
    (hp : parseFrame (bs.drop (huntLen bs)) = .partly ∨ parseFrame (bs.drop (huntLen bs)) = .bad) :
    mailFrame (k + 1) bs = ((mailFrame k ((bs.drop (huntLen bs)).drop 1)).1 + 1,
      (mailFrame k ((bs.drop (huntLen bs)).drop 1)).2) := by
  obtain hp | hp := hp <;> simp only [mailFrame, if_neg (not_not.mpr h), hp]

section mailbox
variable {c : Nat} (hs : served s 0 = true)
include hs

theorem empFrame_mailbox_empty (hf : s.flag HST_MBIN_FULL = false) : empFrame 0 r s = s := by
  simp [empFrame, hs, hf]

variable (hf : s.flag HST_MBIN_FULL = true) (hb : busRead 6 0x10152000 (s.rd HST_MBIN_LEN) s = (c, frame, s1))
include hf hb

theorem empFrame_mailbox_frame (hp : (mailFrame frame.length frame).2 = some (cls, id)) :
    empFrame 0 r s = frameRuns 0 cls id r
      ((List.range (mailFrame frame.length frame).1).foldl (fun s _ => countFrame 0 s) (mbinAck s1)) := by
  simp [empFrame, hs, hf, hb, hp]

theorem empFrame_mailbox_none (hp : (mailFrame frame.length frame).2 = none) :
    empFrame 0 r s = (List.range (mailFrame frame.length frame).1).foldl (fun s _ => countFrame 0 s) (mbinAck s1) := by
  simp [empFrame, hs, hf, hb, hp]

end mailbox

section byteLink
variable {j : Nat} (hs : served s (j + 1) = true) (hr : ringBytes j (rxLevel s j) 0 s = (raw, s1))
  (hk : skipJunk j raw s1 = (frame, s2))
include hs hr hk

theorem empFrame_no_sync (h : frame.take 2 ≠ [0xE7#8, 0x4B#8]) : empFrame (j + 1) r s = s2 := by
  simp [empFrame, hs, hr, hk, h]

theorem empFrame_partly (h : frame.take 2 = [0xE7#8, 0x4B#8]) (hp : parseFrame frame = .partly) :
    empFrame (j + 1) r s = s2 := by
  simp [empFrame, hs, hr, hk, h, hp]

/-- A frame that is too long or has a wrong CRC is counted, and its first byte leaves the ring. -/
theorem empFrame_bad (h : frame.take 2 = [0xE7#8, 0x4B#8]) (hp : parseFrame frame = .bad) :
    empFrame (j + 1) r s = countFrame (j + 1) (s2.count (HST_Lj_RXRP_INDEX j)) := by
  simp [empFrame, hs, hr, hk, h, hp]

theorem empFrame_whole (h : frame.take 2 = [0xE7#8, 0x4B#8]) (hp : parseFrame frame = .whole cls id n) :
    empFrame (j + 1) r s = frameRuns (j + 1) cls id r (s2.count (HST_Lj_RXRP_INDEX j) (n + 10)) := by
  simp [empFrame, hs, hr, hk, h, hp]

theorem frameTimeout_discards (h : frame.head? = some 0xE7#8 ∧ parseFrame frame = .partly) :
    frameTimeout (j + 1) s = countFrame (j + 1) (s2.count (HST_Lj_RXRP_INDEX j)) := by
  simp [frameTimeout, hs, hr, hk, h]

theorem frameTimeout_keeps (h : ¬(frame.head? = some 0xE7#8 ∧ parseFrame frame = .partly)) :
    frameTimeout (j + 1) s = s2 := by
  simp only [frameTimeout, hs, Nat.add_sub_cancel, hr, hk, if_neg h]
  simp

end byteLink

/-- A frame of SV's own, with an ID from 64, runs nothing. -/
theorem frameRuns_ownFrame (h : 64 ≤ id) : frameRuns l cls id r s = s := if_pos h

section commandFrame
variable (h : id < 64)
include h

theorem frameRuns_unknown (hd : empDefined cls id = false) :
    frameRuns l cls id r s = respond l cls id ⟨E_UNKNOWN, 0, []⟩ s := by
  simp [frameRuns, Nat.mod_eq_of_lt h, Nat.not_le.mpr h, hd]

variable (hd : empDefined cls id = true)
include hd

theorem frameRuns_badLen : frameRuns l cls id .badLen s = respond l cls id ⟨E_BADLEN, 0, []⟩ s := by
  simp [frameRuns, Nat.mod_eq_of_lt h, Nat.not_le.mpr h, hd]

theorem frameRuns_badArg (off : Byte) :
    frameRuns l cls id (.badArg off) s = respond l cls id ⟨E_BADARG, off.toNat, []⟩ s := by
  simp [frameRuns, Nat.mod_eq_of_lt h, Nat.not_le.mpr h, hd]

theorem frameRuns_cmd {c : EmpCmd} (hc : empKey c = (cls, id)) : frameRuns l cls id (.cmd c) s = runEmp l c s := by
  simp [frameRuns, Nat.mod_eq_of_lt h, Nat.not_le.mpr h, hd, hc]

end commandFrame

end frames

/-- Settles O24.  Each command is `runEmp` of its link, and who serves the link decides the answer; a frame is `empFrame`, by the cases
of what stands at its head. -/
theorem empCommands : Obligations.EmpCommands := by
  unfold Obligations.EmpCommands
  intro l core bs b1 b2 b3 b4 b5 w16 v16 m5 w32 q w v x at_ t8 lv port a26 u us ws r s rows
  have runs : ∀ p ∈ rows, exec p.1 s = .next (runEmp l p.2 s) := by
    simp only [rows, List.forall_mem_cons, List.not_mem_nil, false_implies, implies_true, and_true]
    and_intros <;> rfl
  refine ⟨?answers, rfl, rfl, rfl, ?cfgOutside, ?cfgMisfit, empDo_pwrState_outside, rfl, rfl, rfl, rfl, ?timeStep, ?bootSv,
    bootDo_data_tooLong, bootDo_data_outside, fun s' => bootDo_data_stored, fun _ _ _ => rfl, ?unserved, rfl, ?due, ?mailbox, ?hunt,
    ?byteLink, ?reading⟩
  case answers =>
    intro p hp
    rw [runs p hp]
    refine ⟨fun hsv hb => congrArg done (runEmp_lost hsv hb), fun hsv hb hl => congrArg done (runEmp_boot hsv hb hl),
      fun hsv ha => congrArg done ((runEmp_sv hsv).trans (svCommand_busy ha)), fun hsv ha => ⟨fun a s' hd => ?_, fun s' hd => ?_⟩⟩
    · exact congrArg done ((runEmp_sv hsv).trans (svCommand_answers ha hd))
    · exact congrArg done ((runEmp_sv hsv).trans (svCommand_silent ha hd))
  case cfgOutside =>
    intro h
    simp only [List.forall_mem_cons, List.not_mem_nil, false_implies, implies_true, and_true]
    exact ⟨empDo_cfgGet_outside h, empDo_cfgSet_outside h⟩
  case cfgMisfit => exact empDo_cfgSet_misfit
  case timeStep =>
    exact fun s' hw => ⟨fun hn => empDo_timeStep (timeCommand_taken hw hn), fun hn => empDo_timeStep (timeCommand_refused hw hn)⟩
  case bootSv =>
    simp only [List.forall_mem_cons, List.not_mem_nil, false_implies, implies_true, and_true]
    exact ⟨rfl, rfl⟩
  case unserved => exact fun h => ⟨congrArg done (empFrame_unserved h), frameTimeout_idle (.inl h)⟩
  case due =>
    intro j k hj
    rw [← hj]
    exact frameDue_byteLink (by omega)
  case mailbox =>
    intro hs hl
    rw [hl] at hs ⊢
    have ex : exec (.empFrame l r) s = .next (empFrame 0 r s) := congrArg (fun k => done (empFrame k r s)) hl
    rw [ex]
    refine ⟨frameTimeout_idle (.inr rfl), frameDue_mailbox, fun hf => congrArg done (empFrame_mailbox_empty hs hf),
      fun hf c frame s1 hb => ⟨fun cls id hp => ?_, fun hp => ?_⟩⟩
    · exact congrArg done (empFrame_mailbox_frame hs hf hb hp)
    · exact congrArg done (empFrame_mailbox_none hs hf hb hp)
  case hunt =>
    intro k
    by_cases h : (bs.drop (huntLen bs)).take 2 = [0xE7#8, 0x4B#8]
    · cases hp : parseFrame (bs.drop (huntLen bs)) with
      | partly => simp only [mailFrame_discards h (.inl hp), h, hp, ne_eq, not_true_eq_false, if_false]
      | bad => simp only [mailFrame_discards h (.inr hp), h, hp, ne_eq, not_true_eq_false, if_false]
      | whole cls id n => simp only [mailFrame_whole h hp, h, hp, ne_eq, not_true_eq_false, if_false]
    · simp only [mailFrame_no_sync h, h, ne_eq, not_false_eq_true, if_true]
  case byteLink =>
    intro hs _ j raw s1 frame s2 hj hr hk
    have ex : exec (.empFrame l r) s = .next (empFrame (j + 1) r s) := congrArg (fun k => done (empFrame k r s)) hj.symm
    rw [ex]
    rw [← hj] at hs ⊢
    refine ⟨fun h => congrArg done (empFrame_no_sync hs hr hk h), fun h => ⟨fun hp => ?_, fun hp => ?_, fun cls id n hp => ?_⟩,
      frameTimeout_discards hs hr hk, frameTimeout_keeps hs hr hk⟩
    · exact congrArg done (empFrame_partly hs hr hk h hp)
    · exact congrArg done (empFrame_bad hs hr hk h hp)
    · exact congrArg done (empFrame_whole hs hr hk h hp)
  case reading =>
    exact fun cls id => ⟨frameRuns_ownFrame, frameRuns_unknown,
      fun h hd => ⟨frameRuns_badLen h hd, frameRuns_badArg h hd b1, fun c hc => frameRuns_cmd h hd hc⟩⟩

end Sys2Proof.Machine
end

section
/-!
PROOFS. What an operation leaves of the cores: the memories, the fault log and the trace do not touch them.
-/

namespace Sys2Proof.Machine

section
variable {s : State}

theorem core_of_cores {t : State} (h : t.cores = s.cores) (n : Nat) : t.core n = s.core n := by
  simp only [State.core, h]

theorem foldl_cores {α : Type} {f : State → α → State} (hf : ∀ t x, (f t x).cores = t.cores) (l : List α) :
    (l.foldl f s).cores = s.cores :=
  List.foldlRecOn (motive := fun t => t.cores = s.cores) l f rfl fun t ht x _ => (hf t x).trans ht

/-! ### Memory -/

theorem setBytes_cores (l : List Byte) : ∀ (s : State) (a : Nat), (s.setBytes a l).cores = s.cores := by
  induction l with
  | nil => intros; rfl
  | cons x t ih => intro s a; exact ih _ _

@[simp] theorem setLE_cores (a n v : Nat) : (s.setLE a n v).cores = s.cores := setBytes_cores _ s a

@[simp] theorem clearErrors_cores (a n : Nat) : (clearErrors a n s).cores = s.cores := rfl

@[simp] theorem countCorr_cores (a : Nat) : (countCorr a s).cores = s.cores := by
  unfold countCorr
  split <;> rfl

@[simp] theorem correct_cores (a n : Nat) : (correct a n s).cores = s.cores := by
  unfold correct
  split
  · rfl
  · exact foldl_cores (fun _ _ => countCorr_cores _) _

@[simp] theorem writeDm_cores (n w : Nat) (v : Word) : (writeDm n w v s).cores = s.cores := by simp [writeDm]

/-! ### The fault log (R520, R521) -/

@[simp] theorem raiseRepeat_cores (a : Nat) : (raiseRepeat a s).cores = s.cores := by
  unfold raiseRepeat
  extract_lets t
  split <;> simp [t]

@[simp] theorem copyWord_cores (a entry i : Nat) : (copyWord a entry s i).cores = s.cores := by
  unfold copyWord
  extract_lets w
  split <;> simp

@[simp] theorem copySevere_cores (entry : Nat) : (copySevere entry s).cores = s.cores :=
  foldl_cores (fun _ _ => copyWord_cores ..) _

@[simp] theorem flushCopies_cores : (flushCopies s).cores = s.cores := foldl_cores (fun _ _ => copySevere_cores _) _

@[simp] theorem sendCopy_cores (entry : Nat) : (sendCopy entry s).cores = s.cores := by
  unfold sendCopy
  extract_lets waits
  split
  · rfl
  · exact copySevere_cores entry

@[simp] theorem logEvent_cores (code sev init unit data : Nat) : (logEvent code sev init unit data s).cores = s.cores := by
  unfold logEvent
  extract_lets wp merge now entry slot s1 s2 saf s3
  have h1 : s1.cores = s.cores := by simp [s1]
  have h2 : s2.cores = s.cores := by simp only [s2, count_eq, wr_cores, h1]
  clear_value s2
  have h3 : s3.cores = s.cores := h2
  clear_value s3
  repeat' split
  · exact raiseRepeat_cores _
  · exact (sendCopy_cores entry).trans h3
  · exact h3

@[simp] theorem logUnit_cores (code sev unit data : Nat) : (logUnit code sev unit data s).cores = s.cores := logEvent_cores ..

@[simp] theorem icError_cores (init a cause : Nat) (write : Bool) : (icError init a write cause s).cores = s.cores := by
  unfold icError
  refine (logEvent_cores ..).trans ?_
  split <;> rfl

/-- An uncorrectable word is counted, and logged as its memory says. -/
@[simp] theorem countUnc_cores (a : Nat) : (countUnc a s).cores = s.cores := by
  unfold countUnc
  cases target a <;> exact logUnit_cores ..

@[simp] theorem readDm_cores (n w : Nat) : (readDm n w s).2.cores = s.cores := by
  unfold readDm
  extract_lets a
  split <;> simp

theorem countParity_cores (n i : Nat) : (countParity n i s).cores = s.cores := logUnit_cores ..

/-! ### The trace (R567) -/

@[simp] theorem traceWord_cores (w : Nat) : (traceWord w s).cores = s.cores := by
  unfold traceWord
  extract_lets i s1 s2
  have h2 : s2.cores = s.cores := rfl
  clear_value s2
  split
  · rfl
  · split
    · rfl
    · split
      · exact h2
      · split <;> exact h2

@[simp] theorem traceCore_cores (n ev pc cause : Nat) : (traceCore n ev pc cause s).cores = s.cores := by
  unfold traceCore
  split <;> simp

theorem traceAfter_cores (n : Nat) (a : After) : (traceAfter n a s).cores = s.cores := by
  cases a <;> simp [traceAfter]

end

end Sys2Proof.Machine
end

section
/-!
PROOFS. How an instruction of a core that is ready ends: it completes, it stops without effect, or it acts on the device behind its end.
-/

namespace Sys2Proof.Machine

section
variable {n : Nat} {s : State} {i : Instr}

/-- An instruction that is not of the FLOW class may stand at the END of a loop. -/
theorem notFlow (hf : (useOf i).flow = false) : (useOf i).flow = true → atEnd (s.core n) = false := by simp [hf]

section
variable (h : Ready n s) (hf : (useOf i).flow = true → atEnd (s.core n) = false) {body : State → KRes} {t : State}
include h hf

theorem runInstr_finish {next : After} {raised : List Nat} {cost : Nat} {len : Option (Nat × BitVec 15)}
    (hb : body s = .ok t next raised cost len id) : done (runInstr n i body s) = finish i n cost next len raised t := by
  rw [runInstr_ready h i body hf, hb]
  rfl

theorem runInstr_stop {cause : Nat} (hb : body s = .stop cause t) (hc : t.core n = s.core n) :
    done (runInstr n i body s) = stops i n cause t := by
  rw [runInstr_ready h i body hf, hb, ← hc]
  rfl

/-- The action on the device comes behind the instruction's own end. -/
theorem runInstr_thenDo {post : State → State} (hb : body s = thenDo post t) :
    done (runInstr n i body s) = .next (boundary n [] (post (addCycles i n 1 (t.setCore n (endOf (t.core n) .seq none))))) := by
  rw [runInstr_ready h i body hf, hb]
  rfl

end

/-- A FLOW instruction at the END of a loop (R239). -/
theorem runInstr_atEnd (h : Ready n s) (hf : (useOf i).flow = true) (he : atEnd (s.core n) = true) (body : State → KRes) :
    done (runInstr n i body s) = stops i n X_ILLOP s := by
  obtain ⟨hld, hst⟩ := h.noErr
  have hrun : ¬K_RUN = K_WAIT := by decide
  simp only [done, stops, runInstr, issueInstr, h.issue, h.run, hrun, awaitLoads_none h.out, hld, hst, h.parity, hf, he, Bool.or_self,
    Bool.false_and, Bool.and_self, Bool.false_eq_true, if_true, if_false]

end

end Sys2Proof.Machine
end

section
/-!
PROOFS. The instructions of the MAC, ALU, IMM and ACC classes in a core that is ready (R222 to R229, R236, R255 to R259).
-/

namespace Sys2Proof.Machine

/-! ### No class but FLOW counts as a transfer -/

/-- Moves leave the class of an instruction. -/
theorem withMoveUse_flow (ms : List Move) (u : Use) : (withMoveUse ms u).flow = u.flow := by
  unfold withMoveUse
  induction ms generalizing u with
  | nil => rfl
  | cons m ms ih =>
    rw [List.foldl_cons, ih]
    cases hs : m.store <;> simp [Use.beside, storeUse, loadUse]

theorem macUse_flow (ad x y : Nat) (mv1 mv2 : Option Move) : (macUse ad x y mv1 mv2).flow = false := withMoveUse_flow _ _
theorem aluUse_flow (d s1 s2 : Nat) (mv : Option Move) : (aluUse d s1 s2 mv).flow = false := withMoveUse_flow _ _
theorem testUse_flow (s1 s2 : Nat) (mv : Option Move) : (testUse s1 s2 mv).flow = false := withMoveUse_flow _ _

/-! ### The arithmetic part with its moves (R236, R255) -/

section
variable {n : Nat} {s : State} {i : Instr} {ms : List Move} {writes : Option Nat}

/-- What moves that break no rule and the arithmetic part leave together. -/
theorem withMoves_ok (hm : MovesOk n ms writes s) (f : CoreState → Arith) :
    withMoves n ms writes f s =
      let c := s.core n
      let o := doMoves n c ms s
      KRes.plain (o.s.setCore n (applyMoves ms o c (f c).core)) (satCauses c (f c).aov ((f c).sat || o.sat)) := by
  simp [withMoves, hm.regs, hm.combination, hm.data]

/-- No move breaks no rule. -/
theorem movesOk_none : MovesOk n [] writes s := ⟨rfl, by cases writes <;> rfl, rfl⟩

theorem withMoves_none (f : CoreState → Arith) :
    withMoves n [] writes f s =
      KRes.plain (s.setCore n (f (s.core n)).core) (satCauses (s.core n) (f (s.core n)).aov (f (s.core n)).sat) := by
  rw [withMoves_ok movesOk_none, ← Bool.or_false (f (s.core n)).sat]
  rfl

section
variable (h : Ready n s) (hf : (useOf i).flow = false)
include h hf

/-- An arithmetic part that neither overflows nor saturates by itself. -/
theorem withMoves_result {f : CoreState → CoreState} (hm : MovesOk n ms writes s) :
    let c := s.core n
    let o := doMoves n c ms s
    done (runInstr n i (withMoves n ms writes fun c => { core := f c }) s) =
      finish i n 1 .seq none (satCauses c false o.sat) (o.s.setCore n (applyMoves ms o c (f c))) :=
  runInstr_finish h (notFlow hf) (withMoves_ok hm _)

theorem macAdd_result {ad : Nat} {z : CoreState → Int} (hm : MovesOk n ms (some (16 + ad)) s) :
    let c := s.core n
    let o := doMoves n c ms s
    let r := c.accumulate ad (c.acc ad + z c)
    done (macAdd i n ad ms z s) = finish i n 1 .seq none (satCauses c r.1 o.sat) (o.s.setCore n (applyMoves ms o c r.2)) :=
  runInstr_finish h (notFlow hf) (withMoves_ok hm _)

/-- An arithmetic part without moves. -/
theorem arith_result {f : CoreState → CoreState} :
    done (runInstr n i (withMoves n [] writes fun c => { core := f c }) s) =
      finish i n 1 .seq none [] (s.setCore n (f (s.core n))) :=
  runInstr_finish h (notFlow hf) (withMoves_none _)

theorem accAdd_result {ad : Nat} {z : CoreState → Int} :
    let c := s.core n
    let r := c.accumulate ad (z c)
    done (accAdd i n ad z s) = finish i n 1 .seq none (satCauses c r.1 false) (s.setCore n r.2) :=
  runInstr_finish h (notFlow hf) (withMoves_none _)

end

end

/-! ### Moves that break a rule (R216, R236, R255) -/

/-- An instruction with moves changes no register where a field names none, where the combination is forbidden, or where a data word
fails. -/
theorem withMoves_faulty {n : Nat} {s : State} {i : Instr} {ms : List Move} {writes : Option Nat} {f : CoreState → Arith}
    (h : Ready n s) (hi : exec i s = done (runInstr n i (withMoves n ms writes f) s)) (hf : (useOf i).flow = false) :
    (badMoveReg ms = true → exec i s = stops i n X_ILLOP s) ∧
    (badMoveReg ms = false → badCombination ms writes = true → exec i s = stops i n X_ILLCOMB s) ∧
    (∀ w, badMoveReg ms = false → badCombination ms writes = false → (doMoves n (s.core n) ms s).bad = some w →
      exec i s = stops i n X_DMEM_UE (readDm n w s).2) := by
  rw [hi]
  refine ⟨fun hr => ?_, fun hr hc => ?_, fun w hr hc hw => ?_⟩
  · exact runInstr_stop h (notFlow hf) (by simp [withMoves, hr]) rfl
  · exact runInstr_stop h (notFlow hf) (by simp [withMoves, hr, hc]) rfl
  · exact runInstr_stop h (notFlow hf) (by simp [withMoves, hr, hc, hw]) (core_of_cores (readDm_cores n w) n)

/-! ### The classes -/

/-- Settles O1: every ALU instruction is its result, or its flags alone, with a move beside it or none. -/
theorem klokoAluResults : Obligations.KlokoAluResults := by
  intro n s h d s1 s2 mv c o
  refine ⟨fun hm => ?results, fun hm => ?tests⟩
  case results => and_intros <;> (refine withMoves_result h ?_ hm; exact aluUse_flow _ _ _ _)
  case tests => and_intros <;> (refine withMoves_result h ?_ hm; exact testUse_flow _ _ _)

/-- Settles O2: an IMM instruction is an ALU operation or a test without a move. -/
theorem klokoImmResults : Obligations.KlokoImmResults := by
  intro n s h d r v k imm c
  and_intros <;> exact arith_result h rfl

/-- Settles O3: a MAC instruction loads its accumulator or accumulates, beside its moves. -/
theorem klokoMacResults : Obligations.KlokoMacResults := by
  intro n s h ad x y mv1 mv2 c ms o
  refine ⟨fun hm => ?pmov, fun hm => ⟨?mpy, ?mpysu, ?mac, ?msu, ?macsu, ?macuu, ?accx⟩⟩
  case pmov => refine withMoves_result h ?_ hm; exact withMoveUse_flow _ _
  case mpy | mpysu => refine withMoves_result h ?_ hm; exact macUse_flow _ _ _ _ _
  case mac | msu | macsu | macuu | accx => refine macAdd_result h ?_ hm; exact macUse_flow _ _ _ _ _

/-- Settles O4: an ACC instruction has no moves; it sets the core, accumulates, or moves the accumulator out. -/
theorem klokoAccResults : Obligations.KlokoAccResults := by
  intro n s h ad src g k c
  refine ⟨?clra, ?rdal, ?rdah, ?rdag, ?lda, ?norma, ?mova, ?tsta, ?wral, ?wrah, ?wrag, ?adda, ?suba, ?nega, ?asla, ?asra, ?mva⟩
  case mva => exact runInstr_finish h (notFlow rfl) (withMoves_none _)
  case adda | suba | nega | asla | asra => exact accAdd_result h rfl
  all_goals exact arith_result h rfl

/-- Settles O14: every MAC and ALU instruction is its arithmetic part with its moves, which are checked first. -/
theorem klokoMoveFaults : Obligations.KlokoMoveFaults := by
  intro n s h ad d x y mv1 mv2 mv faulty
  refine ⟨?pmov, fun i hi => ?mac, fun i hi => ?alu, fun i hi => ?test⟩
  case pmov => refine withMoves_faulty h rfl ?_; exact withMoveUse_flow _ _
  all_goals simp only [List.mem_cons, List.not_mem_nil, or_false] at hi
  case mac =>
    rcases hi with rfl | rfl | rfl | rfl | rfl | rfl | rfl <;> refine withMoves_faulty h rfl ?_ <;> exact macUse_flow _ _ _ _ _
  case alu =>
    rcases hi with rfl | rfl | rfl | rfl | rfl | rfl | rfl | rfl | rfl | rfl | rfl | rfl | rfl | rfl | rfl | rfl | rfl | rfl | rfl | rfl | rfl <;>
      refine withMoves_faulty h rfl ?_ <;> exact aluUse_flow _ _ _ _
  case test => rcases hi with rfl | rfl <;> refine withMoves_faulty h rfl ?_ <;> exact testUse_flow _ _ _

end Sys2Proof.Machine
end

section
/-!
PROOFS. The local memory, the global accesses and the pointers of a core that is ready (R216, R230 to R235, R260, R261).
-/

namespace Sys2Proof.Machine

/-! ### A data word read by its core (R216) -/

theorem readDm_good {n w : Nat} {s : State} (h : hasDouble (dmSlot n w) 8 s = false) :
    readDm n w s = (some (BitVec.ofNat 48 (s.le (dmSlot n w) 6)), correct (dmSlot n w) 8 s) := by simp [readDm, h]

theorem readDm_double {n w : Nat} {s : State} (h : hasDouble (dmSlot n w) 8 s = true) :
    readDm n w s = (none, countUnc (dmSlot n w) s) := by simp [readDm, h]

section
variable {n : Nat} {s : State} {i : Instr} (h : Ready n s) (hf : (useOf i).flow = false) {reg : Nat} {at_ : CoreState → Nat}
include h hf

/-! ### Local loads and stores (R260) -/

theorem localLoad_good (hr : reg < 18) (hd : hasDouble (dmSlot n (at_ (s.core n))) 8 s = false) :
    done (localLoad i n reg at_ s) = finish i n 1 .seq none [] ((correct (dmSlot n (at_ (s.core n))) 8 s).setCore n
      ((s.core n).loadReg reg (BitVec.ofNat 48 (s.le (dmSlot n (at_ (s.core n))) 6)))) :=
  runInstr_finish h (notFlow hf) (by simp only [readDm_good hd, if_neg (Nat.not_le.mpr hr)]; rfl)

theorem localLoad_double (hr : reg < 18) (hd : hasDouble (dmSlot n (at_ (s.core n))) 8 s = true) :
    done (localLoad i n reg at_ s) = stops i n X_DMEM_UE (countUnc (dmSlot n (at_ (s.core n))) s) :=
  runInstr_stop h (notFlow hf) (by simp only [readDm_double hd, if_neg (Nat.not_le.mpr hr)]) (core_of_cores (countUnc_cores _) n)

theorem localLoad_illop (hr : 18 ≤ reg) : done (localLoad i n reg at_ s) = stops i n X_ILLOP s :=
  runInstr_stop h (notFlow hf) (if_pos hr) rfl

theorem localStore_ok (hr : reg < 18) :
    let r := (s.core n).storeReg reg
    done (localStore i n reg at_ s) = finish i n 1 .seq none (satCauses (s.core n) false r.2)
      ((writeDm n (at_ (s.core n)) r.1 s).setCore n ((s.core n).moveSat r.2)) :=
  runInstr_finish h (notFlow hf) (if_neg (Nat.not_le.mpr hr))

theorem localStore_illop (hr : 18 ≤ reg) : done (localStore i n reg at_ s) = stops i n X_ILLOP s :=
  runInstr_stop h (notFlow hf) (if_pos hr) rfl

/-! ### Global accesses (R232 to R234) -/

variable {base size : Nat} {ofs : BitVec 24} {f : Nat → Nat → Nat}

theorem atomicInstr_issues (hs : size = 3) (hr : reg < 16) (ha : globalAddr (s.core n) base ofs % 4 = 0) :
    done (atomicInstr i n reg base size ofs f s) = .next (boundary n [] (issueAtomic n reg (globalAddr (s.core n) base ofs)
      (fun old => f old (((s.core n).gr reg).toNat % 2 ^ 32)) (addCycles i n 1 (s.setCore n (endOf (s.core n) .seq none))))) :=
  runInstr_thenDo h (notFlow hf) (by simp [hs, Nat.not_le.mpr hr, ha, thenDo])

theorem atomicInstr_align (hs : size = 3) (hr : reg < 16) (ha : globalAddr (s.core n) base ofs % 4 ≠ 0) :
    done (atomicInstr i n reg base size ofs f s) = stops i n X_ALIGN s :=
  runInstr_stop h (notFlow hf) (by simp [hs, Nat.not_le.mpr hr, ha]) rfl

theorem atomicInstr_illop (hsr : size ≠ 3 ∨ 16 ≤ reg) : done (atomicInstr i n reg base size ofs f s) = stops i n X_ILLOP s :=
  runInstr_stop h (notFlow hf) (if_pos hsr) rfl

end

section
variable {n : CoreId} {s : State} (h : Ready n s) {reg : Fin 32} {base : Fin 16} {size : Fin 8} {sx : Bool} {ofs : BitVec 24}
include h

/-- LDG and STG of a REG or a SIZE outside its range. -/
theorem exec_global_illop (hsr : sizeOf? size = none ∨ 16 ≤ reg.val) :
    exec (.ldg n reg base size sx ofs) s = stops (.ldg n reg base size sx ofs) n X_ILLOP s ∧
    exec (.stg n reg base size sx ofs) s = stops (.stg n reg base size sx ofs) n X_ILLOP s := by
  rcases hsr with hs | hr
  · exact ⟨runInstr_stop h (notFlow rfl) (by simp [hs]) rfl, runInstr_stop h (notFlow rfl) (by simp [hs]) rfl⟩
  · have hd : decide (reg.val < 16) = false := decide_eq_false (Nat.not_lt.mpr hr)
    exact ⟨runInstr_stop h (notFlow rfl) (by cases hs : sizeOf? size <;> simp [hd]) rfl,
      runInstr_stop h (notFlow rfl) (by cases hs : sizeOf? size <;> simp [hd]) rfl⟩

theorem exec_global_issues {k : Nat} (hk : sizeOf? size = some k) (hr : reg.val < 16) :
    let c := s.core n
    let ended := fun (i : Instr) (post : State → State) =>
      Host.Outcome.next (boundary n [] (post (addCycles i n 1 (s.setCore n (endOf c .seq none)))))
    exec (.ldg n reg base size sx ofs) s =
      ended (.ldg n reg base size sx ofs) (issueLoad n reg (globalAddr c base ofs) size k sx) ∧
    exec (.stg n reg base size sx ofs) s =
      ended (.stg n reg base size sx ofs) (issueStore n (globalAddr c base ofs) size (toLE k (c.gr reg).toNat)) :=
  ⟨runInstr_thenDo h (notFlow rfl) (by simp [hk, hr, thenDo]), runInstr_thenDo h (notFlow rfl) (by simp [hk, hr, thenDo])⟩

end

/-! ### The obligations -/

/-- Settles O5: the four local forms are one load and one store, at P + OFF and at the address in the word. -/
theorem klokoLocalMemory : Obligations.KlokoLocalMemory := by
  intro n s h reg ptr ofs c x load store
  refine ⟨fun hr => ⟨?_, ?_, ?_, ?_, ?_, ?_⟩, fun hr => ⟨?_, ?_, ?_, ?_⟩⟩
  · exact localLoad_good (at_ := indexed ptr ofs) h rfl hr
  · exact localLoad_good (at_ := fun _ => ofs.toNat) h rfl hr
  · exact localLoad_double (at_ := indexed ptr ofs) h rfl hr
  · exact localLoad_double (at_ := fun _ => ofs.toNat) h rfl hr
  · exact localStore_ok h rfl hr
  · exact localStore_ok h rfl hr
  · exact localLoad_illop h rfl hr
  · exact localLoad_illop h rfl hr
  · exact localStore_illop h rfl hr
  · exact localStore_illop h rfl hr

/-- Settles O6: a global access whose operands stand in their ranges is issued behind the end of its instruction. -/
theorem klokoGlobalMemory : Obligations.KlokoGlobalMemory := by
  intro n s h reg base size sx ofs c a ended
  refine ⟨fun k hk hr => exec_global_issues h hk hr, fun hs hr ha => ⟨?_, ?_⟩, fun hs hr ha => ⟨?_, ?_⟩, exec_global_illop h,
    fun hsr => ⟨?_, ?_⟩⟩
  · exact atomicInstr_issues h rfl hs hr ha
  · exact atomicInstr_issues h rfl hs hr ha
  · exact atomicInstr_align h rfl hs hr ha
  · exact atomicInstr_align h rfl hs hr ha
  · exact atomicInstr_illop h rfl hsr
  · exact atomicInstr_illop h rfl hsr

/-- Settles O8: an ADDR instruction completes with what it makes of the core, and with the length that it replaced. -/
theorem klokoAddrResults : Obligations.KlokoAddrResults := by
  intro n s h ptr kind g imm c
  and_intros <;> exact runInstr_finish h (notFlow rfl) rfl

end Sys2Proof.Machine
end

section
/-!
PROOFS. Transfers, loops, SYS instructions and the answers of global accesses (R233, R235, R238, R239, R242, R248, R249, R262, R263).
-/

namespace Sys2Proof.Machine

section
variable {n : CoreId} {s : State} (h : Ready n s)
include h

/-! ### FLOW instructions away from the END of a loop (R238, R262) -/

section
variable (he : atEnd (s.core n) = false) {i : Instr} {cost : Nat} {f : CoreState → State → KRes}
include he

theorem flowOp_finish {next : After} {raised : List Nat} {len : Option (Nat × BitVec 15)} {t : State}
    (hb : f (s.core n) s = .ok t next raised cost len id) : done (flowOp i n f s) = finish i n cost next len raised t :=
  runInstr_finish h (fun _ => he) hb

theorem flowOp_stop {cause : Nat} (hb : f (s.core n) s = .stop cause s) : done (flowOp i n f s) = stops i n cause s :=
  runInstr_stop h (fun _ => he) hb rfl

theorem callTo_pushes {dest : CoreState → BitVec 14} (hroom : (s.core n).rets.length < 16) :
    done (flowOp i n (callTo n dest cost) s) = finish i n cost (.to (dest (s.core n))) none []
      (s.setCore n { s.core n with rets := ((s.core n).pc + 1) :: (s.core n).rets }) :=
  flowOp_finish h he (if_neg (Nat.not_le.mpr hroom))

theorem callTo_full {dest : CoreState → BitVec 14} (hfull : 16 ≤ (s.core n).rets.length) :
    done (flowOp i n (callTo n dest cost) s) = stops i n X_RSOVF s :=
  flowOp_stop h he (if_pos hfull)

variable {count : CoreState → Nat} {stop : BitVec 14}

/-! ### LOOP and LOOPG (R239) -/

theorem startLoop_begins (hpc : (s.core n).pc.toNat < stop.toNat) (hin : outsideLoop (s.core n) stop = false)
    (hroom : (s.core n).loops.length < 4) :
    done (flowOp i n (fun c s => startLoop n (count c) stop c s) s) =
      if count (s.core n) = 0 then finish i n 5 (.to (stop + 1)) none [] s
      else finish i n 1 .seq none [] (s.setCore n { s.core n with
        loops := ⟨(s.core n).pc.toNat + 1, stop.toNat, count (s.core n), (s.core n).stBit ST_EXL⟩ :: (s.core n).loops }) := by
  have hstart : ∀ k, startLoop n k stop (s.core n) s = if k = 0 then go (stop + 1) 5 s
      else KRes.plain (s.setCore n { s.core n with
        loops := ⟨(s.core n).pc.toNat + 1, stop.toNat, k, (s.core n).stBit ST_EXL⟩ :: (s.core n).loops }) := by
    intro k
    simp [startLoop, Nat.not_le.mpr hpc, hin, Nat.not_le.mpr hroom]
  split
  next h0 => exact flowOp_finish h he ((hstart _).trans (if_pos h0))
  next h0 => exact flowOp_finish h he ((hstart _).trans (if_neg h0))

theorem startLoop_illop (hbad : stop.toNat ≤ (s.core n).pc.toNat ∨ outsideLoop (s.core n) stop = true) :
    done (flowOp i n (fun c s => startLoop n (count c) stop c s) s) = stops i n X_ILLOP s :=
  flowOp_stop h he (if_pos hbad)

theorem startLoop_full (hpc : (s.core n).pc.toNat < stop.toNat) (hin : outsideLoop (s.core n) stop = false)
    (hfull : 4 ≤ (s.core n).loops.length) :
    done (flowOp i n (fun c s => startLoop n (count c) stop c s) s) = stops i n X_LOOPOVF s :=
  flowOp_stop h he ((if_neg (by simp [Nat.not_le.mpr hpc, hin])).trans (if_pos hfull))

end

end

/-- Settles O9: at the END of a loop a FLOW instruction is illegal; elsewhere each is its transfer, by the stack and by its condition. -/
theorem klokoFlowResults : Obligations.KlokoFlowResults := by
  intro n s h cond g count target
  refine ⟨fun he i hi => ?atEnd, fun he => ?_⟩
  case atEnd =>
    simp only [List.mem_cons, List.not_mem_nil, or_false] at hi
    rcases hi with rfl | rfl | rfl | rfl | rfl | rfl | rfl | rfl | rfl | rfl | rfl | rfl <;> exact runInstr_atEnd h rfl he _
  intro c gt
  refine ⟨fun hc => flowOp_finish h he (by rw [hc]; rfl), fun hc => flowOp_finish h he (by rw [hc]; rfl), flowOp_finish h he rfl,
    flowOp_finish h he rfl, fun hroom => ⟨callTo_pushes h he hroom, callTo_pushes h he hroom⟩,
    fun hfull => ⟨callTo_full h he hfull, callTo_full h he hfull⟩, fun t rest hr => flowOp_finish h he (by rw [hr]; rfl),
    fun hr => flowOp_stop h he (by rw [hr]), flowOp_finish h he rfl, fun hg => flowOp_finish h he ?_, fun hg => flowOp_finish h he ?_,
    flowOp_finish h he rfl, flowOp_stop h he rfl⟩
  · rw [bne_iff_ne.mpr hg]; rfl
  · rw [hg]; rfl

/-! ### Where a core goes on (R238, R239) -/

/-- The match at an END goes by the loops that are given, whatever the core holds. -/
theorem loopEnd_loops (c : CoreState) (x l : List LoopRec) : loopEnd { c with loops := x } l = loopEnd c l := by
  induction l with
  | nil => rfl
  | cons a rest ih =>
    simp only [loopEnd, ih]
    rfl

theorem loopEnd_elsewhere {c : CoreState} {l : LoopRec} {rest : List LoopRec} (h : eligible c l = false ∨ l.last ≠ c.pc.toNat) :
    loopEnd c (l :: rest) = { c with pc := c.pc + 1, loops := l :: rest } := by
  rcases h with h | h <;> simp [loopEnd, h]

theorem loopEnd_again {c : CoreState} {l : LoopRec} {rest : List LoopRec} (hel : eligible c l = true) (hat : l.last = c.pc.toNat)
    (hleft : 1 < l.left) :
    loopEnd c (l :: rest) = { c with pc := BitVec.ofNat 14 l.first, loops := { l with left := l.left - 1 } :: rest } := by
  simp [loopEnd, hel, hat, hleft]

theorem loopEnd_last {c : CoreState} {l : LoopRec} {rest : List LoopRec} (hel : eligible c l = true) (hat : l.last = c.pc.toNat)
    (hleft : l.left ≤ 1) : loopEnd c (l :: rest) = loopEnd c rest := by
  simp [loopEnd, hel, hat, Nat.not_lt.mpr hleft]

/-- Settles O10: LOOP and LOOPG begin a loop or stop, and the loops of a core decide where it goes on. -/
theorem klokoLoops : Obligations.KlokoLoops := by
  refine ⟨fun n s h he cond g count target => ?begin, fun c t => ⟨fun hl => ?_, fun l rest hl hel hat hleft => ?_, fun l rest hl hno => ?_,
    fun l rest hl hel hat hleft => ?_, rfl, rfl⟩⟩
  case begin =>
    intro c begun
    exact ⟨fun hpc hin hroom => ⟨startLoop_begins h he hpc hin hroom, startLoop_begins h he hpc hin hroom⟩,
      fun hbad => ⟨startLoop_illop h he hbad, startLoop_illop h he hbad⟩,
      fun hpc hin hfull => ⟨startLoop_full h he hpc hin hfull, startLoop_full h he hpc hin hfull⟩⟩
  all_goals simp only [goOn, hl]
  · simp only [loopEnd, ← hl]
  · exact loopEnd_again hel hat hleft
  · rw [loopEnd_elsewhere hno, ← hl]
  · exact (loopEnd_last hel hat hleft).trans (loopEnd_loops c rest rest).symm

end Sys2Proof.Machine
end

section
/-!
PROOFS. SYS instructions, the end of an instruction, and the answers of global accesses (R221, R233, R235, R237, R248, R249, R263, R266).
-/

namespace Sys2Proof.Machine

/-- Settles O11: a SYS instruction completes with what it makes of the core, acts on the device behind its end, or is illegal. -/
theorem klokoSysResults : Obligations.KlokoSysResults := by
  intro n s h g spec arg c ended
  refine ⟨?nop, fun v hv => ?mvs, fun hv => ?mvsNone, fun c' hc' => ?mvsr, fun hc' => ?mvsrNone, ?setm, ?clrst, ?fence, ?wait, ?halt,
    fun hk => ?signal, fun hk => ?signalNone⟩
  case nop | setm | clrst => exact runInstr_finish h (notFlow rfl) rfl
  case mvs => exact runInstr_finish h (notFlow rfl) (by simp only [hv]; rfl)
  case mvsNone => exact runInstr_stop h (notFlow rfl) (by simp only [hv]) rfl
  case mvsr => exact runInstr_finish h (notFlow rfl) (by simp only [c] at hc'; simp only [hc']; rfl)
  case mvsrNone => exact runInstr_stop h (notFlow rfl) (by simp only [c] at hc'; simp only [hc']) rfl
  case fence => exact runInstr_thenDo h (notFlow rfl) (post := awaitAll n) rfl
  case wait => exact runInstr_thenDo h (notFlow rfl) (post := fun s => if wakes s n then s else enterRun n K_WAIT s) rfl
  case halt => exact runInstr_thenDo h (notFlow rfl) (post := fun s => enterRun n K_STOPPED (awaitAll n s)) rfl
  case signal =>
    exact runInstr_thenDo h (notFlow rfl) (post := fun s => s.raiseBit (KCn_DBELL_BITS (arg.toNat % 8)) n) (if_neg (by omega))
  case signalNone => exact runInstr_stop h (notFlow rfl) (if_pos hk) rfl

/-! ### Answers of global accesses (R233, R235) -/

theorem setCore_setCore (s : State) (n : Nat) (x y : CoreState) : (s.setCore n x).setCore n y = s.setCore n y := by
  have hc : (s.cores.setIfInBounds n x).setIfInBounds n y = s.cores.setIfInBounds n y := by
    ext i hi; simp [Vector.getElem_setIfInBounds]
  simp only [State.setCore, hc]

section
variable {n : CoreId} {s : State} {x : GlobalAcc}

theorem answerOne_load {g : Nat} (hc : x.cause = 0) (hd : x.dest = some g) :
    answerOne n x s = s.setCore n ({ s.core n with out := (s.core n).out.erase x }.setG g x.value) := by
  simp [answerOne, answer, hc, hd, setCore_core_eq, setCore_setCore]

theorem answerOne_ldErr {g : Nat} (hc : x.cause ≠ 0) (hd : x.dest = some g) :
    answerOne n x s = recordErr n x (s.setCore n
      { ({ s.core n with out := (s.core n).out.erase x }.setG g 0) with ldErr := true }) := by
  simp [answerOne, answer, hc, hd, setCore_core_eq, setCore_setCore]

theorem answerOne_stErr (hc : x.cause ≠ 0) (hd : x.dest = none) :
    answerOne n x s = recordErr n x (s.setCore n { s.core n with out := (s.core n).out.erase x, stErr := true }) := by
  simp [answerOne, answer, hc, hd, setCore_core_eq, setCore_setCore]

theorem answered_some {p : GlobalAcc → Bool} (h : (unblocked [] (s.core n).out).find? p = some x) :
    answered n p s = haltDue n (takeAsync n (answerOne n x s)) := by simp only [answered, h]

theorem answered_none {p : GlobalAcc → Bool} (h : (unblocked [] (s.core n).out).find? p = none) : answered n p s = s := by
  simp only [answered, h]

end

/-- Settles O7: the access that is found is answered as a load, a failed load or a failed store; where none is found nothing happens. -/
theorem klokoAnswers : Obligations.KlokoAnswers := by
  intro n s c free record ended
  refine ⟨fun x g hx hd => ?load, fun x g hx hd => ?ldErr, fun x hx hd => ?stErr, fun hx => ?noLoad, fun hx => ?noError⟩
  case load =>
    have hc : x.cause = 0 := by simpa [hd] using List.find?_some hx
    exact congrArg done ((answered_some hx).trans (by rw [answerOne_load hc hd]))
  case ldErr =>
    have hc : x.cause ≠ 0 := by simpa using List.find?_some hx
    exact congrArg done ((answered_some hx).trans (by rw [answerOne_ldErr hc hd]; rfl))
  case stErr =>
    have hc : x.cause ≠ 0 := by simpa using List.find?_some hx
    exact congrArg done ((answered_some hx).trans (by rw [answerOne_stErr hc hd]; rfl))
  case noLoad | noError => exact congrArg done (answered_none hx)

end Sys2Proof.Machine
end

section
/-!
PROOFS. The frame of the end of an instruction (R237, R238, R243, R266).
-/

namespace Sys2Proof.Machine

/-! ### Where a core goes on changes its pc and its loops alone -/

theorem loopEnd_eq (c : CoreState) : ∀ l, ∃ pc loops, loopEnd c l = { c with pc := pc, loops := loops }
  | [] => ⟨_, _, rfl⟩
  | l :: rest => by
    unfold loopEnd
    split
    · split
      · exact ⟨_, _, rfl⟩
      · exact loopEnd_eq c rest
    · exact ⟨_, _, rfl⟩

theorem goOn_eq (c : CoreState) (a : After) : ∃ pc loops, goOn c a = { c with pc := pc, loops := loops } := by
  match a with
  | .seq => exact loopEnd_eq c c.loops
  | .to t => exact ⟨_, _, rfl⟩
  | .resume t => exact ⟨t, c.loops, rfl⟩

/-! ### The cycles of an instruction (R266) -/

section
variable (i : Instr) (cost : Nat) (s : State) {n : Nat}

theorem addCycles_core (hn : n < 7) : (addCycles i n cost s).core n =
    { s.core n with cycle := (s.core n).cycle + BitVec.ofNat 48 (cost + hazard (s.core n) (useOf i)), made := (useOf i).made,
                    madeBefore := (s.core n).made } :=
  setCore_core_eq _ _ _ hn

theorem addCycles_core_ne {m : Nat} (hm : m ≠ n) : (addCycles i n cost s).core m = s.core m := setCore_core_ne _ _ _ _ hm

theorem addCycles_mem : (addCycles i n cost s).mem = s.mem := rfl

theorem addCycles_reg {a : Nat} (hc : a ≠ KCn_CYCLE n) (hs : a ≠ KCn_STALL n) : (addCycles i n cost s).reg a = s.reg a :=
  (reg_wr_ne _ (KCn_STALL_COUNT n) _ a hs).trans (reg_wr_ne s (KCn_CYCLE_COUNT n) _ a hc)

theorem addCycles_rd {f : Fld} (hc : f.reg ≠ KCn_CYCLE n) (hs : f.reg ≠ KCn_STALL n) : (addCycles i n cost s).rd f = s.rd f := by
  simp only [State.rd, addCycles_reg i cost s hc hs]

end

/-! ### The boundary behind an instruction that raises nothing (R243) -/

/-- A core that is not traced leaves no trace of a transfer. -/
theorem traceAfter_untraced {n : Nat} {s : State} (h : s.bit DBG_TRSRC_CORES n = false) (a : After) : traceAfter n a s = s := by
  cases a <;> simp [traceAfter, traceCore, h]

/-- A boundary at which nothing waits. -/
theorem boundary_quiet {n : Nat} {s : State} (hld : (s.core n).ldErr = false) (hst : (s.core n).stErr = false)
    (hc : (s.core n).causes = []) (hh : s.flag (KCn_CTRL_HALTREQ n) = false) : boundary n [] s = s := by
  have htake : takeAsync n s = s := by simp [takeAsync, hld, hst]
  simp [boundary, hc, htake, haltDue, hh]

/-- Settles O13: the cycles are counted in the core and in its two registers, and the boundary finds nothing that waits. -/
theorem klokoFinishFrame : Obligations.KlokoFinishFrame := by
  intro i n cost next len s hn _ hld hst hcauses hhalt htr _ w
  obtain ⟨pc, loops, hgo⟩ := goOn_eq (s.core n) next
  have hcore := setCore_core_eq s n (endOf (s.core n) next len) hn
  have htraced : (addCycles i n cost (s.setCore n (endOf (s.core n) next len))).bit DBG_TRSRC_CORES n = false := by
    rw [State.bit, addCycles_rd _ _ _ (by simp only [DBG_TRSRC_CORES, DBG_TRSRC, KCn_CYCLE]; omega)
      (by simp only [DBG_TRSRC_CORES, DBG_TRSRC, KCn_STALL]; omega)]
    exact htr
  have hheld : (addCycles i n cost (s.setCore n (endOf (s.core n) next len))).flag (KCn_CTRL_HALTREQ n) = false := by
    rw [State.flag, addCycles_rd _ _ _ (by simp only [KCn_CTRL_HALTREQ, KCn_CTRL, KCn_CYCLE]; omega)
      (by simp only [KCn_CTRL_HALTREQ, KCn_CTRL, KCn_STALL]; omega)]
    exact hhalt
  refine ⟨addCycles i n cost (s.setCore n (endOf (s.core n) next len)), ?ends, ?core, fun m hm => ?others, rfl, fun a hc hs => ?regs⟩
  case ends =>
    rw [finish, traceAfter_untraced htraced, boundary_quiet ?_ ?_ ?_ hheld]
    all_goals
      rw [addCycles_core _ _ _ hn, hcore]
      simp only [endOf, hgo, hld, hst, hcauses]
  case core =>
    rw [addCycles_core _ _ _ hn, hcore]
    simp only [endOf, hgo]
    rfl
  case others => rw [addCycles_core_ne _ _ _ hm, setCore_core_ne _ _ _ _ hm]
  case regs => rw [addCycles_reg _ _ _ hc hs, setCore_reg]

end Sys2Proof.Machine
end

section
/-!
PROOFS. The encoding of the Kloko instructions (R254 to R263): packed fields come apart again, so each class decodes what it encodes.
-/

namespace Sys2Proof

/-! ### Fields of a number -/

theorem pack_lt : ∀ (ks vs : List Nat), pack ks vs < 2 ^ ks.sum
  | [], _ => by simp [pack]
  | k :: ks, [] => by simp [pack]
  | k :: ks, v :: vs => by
    have hv : v % 2 ^ k + 1 ≤ 2 ^ k := Nat.mod_lt _ (Nat.two_pow_pos k)
    calc v % 2 ^ k * 2 ^ ks.sum + pack ks vs < (v % 2 ^ k + 1) * 2 ^ ks.sum := by rw [Nat.succ_mul]; have := pack_lt ks vs; omega
      _ ≤ 2 ^ k * 2 ^ ks.sum := Nat.mul_le_mul_right _ hv
      _ = 2 ^ (k :: ks).sum := by rw [List.sum_cons, Nat.pow_add]

/-- The fields lie in the bits that their widths make up. -/
theorem unpack_mod : ∀ (ks : List Nat) (w : Nat), unpack ks (w % 2 ^ ks.sum) = unpack ks w
  | [], _ => rfl
  | k :: ks, w => by
    have hhead : w % 2 ^ (k :: ks).sum / 2 ^ ks.sum = w / 2 ^ ks.sum % 2 ^ k := by
      rw [List.sum_cons, Nat.pow_add, Nat.mod_mul_left_div_self]
    have htail : w % 2 ^ (k :: ks).sum % 2 ^ ks.sum = w % 2 ^ ks.sum := by
      rw [List.sum_cons, Nat.pow_add, Nat.mod_mul_left_mod]
    rw [unpack, unpack, hhead, Nat.mod_mod, ← unpack_mod ks (w % _), htail, unpack_mod ks w]

/-- Fields that fit their widths come apart as they were put together. -/
theorem unpack_pack {ks vs : List Nat} (h : List.Forall₂ (fun k v => v < 2 ^ k) ks vs) : unpack ks (pack ks vs) = vs := by
  induction h with
  | nil => rfl
  | @cons k v ks vs hv _ ih =>
    have hlt := pack_lt ks vs
    have hhead : (v * 2 ^ ks.sum + pack ks vs) / 2 ^ ks.sum % 2 ^ k = v := by
      rw [Nat.add_comm, Nat.add_mul_div_right _ _ (Nat.two_pow_pos _), Nat.div_eq_of_lt hlt, Nat.zero_add, Nat.mod_eq_of_lt hv]
    have htail : (v * 2 ^ ks.sum + pack ks vs) % 2 ^ ks.sum = pack ks vs := by
      rw [Nat.add_comm, Nat.add_mul_mod_self_right, Nat.mod_eq_of_lt hlt]
    rw [pack, Nat.mod_eq_of_lt hv, unpack, hhead, ← unpack_mod ks, htail, ih]

/-! ### Words -/

/-- A word of packed fields of a class: its class, and its fields where they fit. -/
theorem word_fields {ks : List Nat} {c : Nat} {vs : List Nat} (h3 : ks = 3 :: ks.tail) (hs : ks.tail.sum = 45)
    (hf : List.Forall₂ (fun k v => v < 2 ^ k) ks (c :: vs)) :
    (BitVec.ofNat 48 (pack ks (c :: vs))).toNat / 2 ^ 45 = c ∧ unpack ks (BitVec.ofNat 48 (pack ks (c :: vs))).toNat = c :: vs := by
  rw [h3] at hf
  obtain ⟨hc, _⟩ := List.forall₂_cons.mp hf
  have htail := pack_lt ks.tail vs
  have hw : pack ks (c :: vs) = c * 2 ^ 45 + pack ks.tail vs := by rw [h3, pack, Nat.mod_eq_of_lt hc, ← hs, List.tail_cons]
  rw [hs] at htail
  have hn : (BitVec.ofNat 48 (pack ks (c :: vs))).toNat = pack ks (c :: vs) := Nat.mod_eq_of_lt (by omega)
  rw [hn]
  exact ⟨by omega, unpack_pack (h3 ▸ hf)⟩

theorem moveBits_lt (m : Option Move) : moveBits m < 4096 := by
  cases m with
  | none => decide
  | some m => exact pack_lt moveW _

/-- A move comes back from its field (R255). -/
theorem moveOf_moveBits (m : Option Move) : moveOf (moveBits m) = m := by
  cases m with
  | none => rfl
  | some m =>
    obtain ⟨store, reg, ptr, mod⟩ := m
    have hu : unpack moveW (pack moveW [1, if store then 1 else 0, reg.val, ptr.val, mod.val]) = _ := unpack_pack (by
      simp [moveW]; split <;> omega)
    simp only [moveOf, moveBits, hu]
    cases store <;> simp

/-! ### The decoder on a word of each class -/

section
variable {n : CoreId} {op : Nat}

theorem decodeKloko_mac {ad x y : Nat} (m1 m2 : Option Move) (hop : op < 16) (had : ad < 2) (hx : x < 16) (hy : y < 16) :
    decodeKloko n (BitVec.ofNat 48 (pack macW [0, op, ad, x, y, 0, moveBits m1, moveBits m2])) =
      decodeMac n op ad x y (moveBits m1) (moveBits m2) := by
  have h1 := moveBits_lt m1
  have h2 := moveBits_lt m2
  obtain ⟨hc, hu⟩ := word_fields (ks := macW) (c := 0) (vs := [op, ad, x, y, 0, moveBits m1, moveBits m2]) rfl rfl (by simp [macW]; omega)
  simp only [decodeKloko, hc, hu, if_true]

theorem decodeKloko_alu {d s1 s2 : Nat} (m : Option Move) (hop : op < 64) (hd : d < 16) (h1 : s1 < 16) (h2 : s2 < 16) :
    decodeKloko n (BitVec.ofNat 48 (pack aluW [1, op, d, s1, s2, 0, moveBits m, 0])) = decodeAlu n op d s1 s2 (moveBits m) := by
  have hm := moveBits_lt m
  obtain ⟨hc, hu⟩ := word_fields (ks := aluW) (c := 1) (vs := [op, d, s1, s2, 0, moveBits m, 0]) rfl rfl (by simp [aluW]; omega)
  simp only [decodeKloko, hc, hu, and_self, if_true]

theorem decodeKloko_imm {d src imm : Nat} (hop : op < 32) (hd : d < 16) (hs : src < 16) (hi : imm < 4294967296) :
    decodeKloko n (BitVec.ofNat 48 (pack immW [2, op, d, src, imm])) = decodeImm n op d src imm := by
  obtain ⟨hc, hu⟩ := word_fields (ks := immW) (c := 2) (vs := [op, d, src, imm]) rfl rfl (by simp [immW]; omega)
  simp only [decodeKloko, hc, hu]

theorem decodeKloko_acc {ad asel g k : Nat} (hop : op < 32) (ha : ad < 2) (hs : asel < 2) (hg : g < 16) (hk : k < 64) :
    decodeKloko n (BitVec.ofNat 48 (pack accW [3, op, ad, asel, g, k, 0])) = decodeAcc n op ad asel g k := by
  obtain ⟨hc, hu⟩ := word_fields (ks := accW) (c := 3) (vs := [op, ad, asel, g, k, 0]) rfl rfl (by simp [accW]; omega)
  simp only [decodeKloko, hc, hu, if_true]

theorem decodeKloko_addr {ptr kind g imm : Nat} (hop : op < 32) (hp : ptr < 8) (hk : kind < 4) (hg : g < 16) (hi : imm < 32768) :
    decodeKloko n (BitVec.ofNat 48 (pack addrW [5, op, ptr, kind, g, 0, imm])) = decodeAddr n op ptr kind g imm := by
  obtain ⟨hc, hu⟩ := word_fields (ks := addrW) (c := 5) (vs := [op, ptr, kind, g, 0, imm]) rfl rfl (by simp [addrW]; omega)
  simp only [decodeKloko, hc, hu, if_true]

theorem decodeKloko_flow {cond g count target : Nat} (hop : op < 32) (hq : cond < 16) (hg : g < 16) (hk : count < 65536)
    (ht : target < 16384) :
    decodeKloko n (BitVec.ofNat 48 (pack flowW [6, op, cond, g, count, 0, target])) = decodeFlow n op cond g count target := by
  obtain ⟨hc, hu⟩ := word_fields (ks := flowW) (c := 6) (vs := [op, cond, g, count, 0, target]) rfl rfl (by simp [flowW]; omega)
  simp only [decodeKloko, hc, hu, if_true]

theorem decodeKloko_sys {g spec arg : Nat} (hop : op < 32) (hg : g < 16) (hs : spec < 32) (ha : arg < 65536) :
    decodeKloko n (BitVec.ofNat 48 (pack sysW [7, op, g, spec, 0, arg])) = decodeSys n op g spec arg := by
  obtain ⟨hc, hu⟩ := word_fields (ks := sysW) (c := 7) (vs := [op, g, spec, 0, arg]) rfl rfl (by simp [sysW]; omega)
  simp only [decodeKloko, hc, hu, if_true]

/-- A word of class 4 goes by its opcode, which lies behind the class in every layout. -/
theorem decodeKloko_ldst {ks vs : List Nat} (hs : ks.sum = 41) (hf : List.Forall₂ (fun k v => v < 2 ^ k) (3 :: 4 :: ks) (4 :: op :: vs)) :
    let w := BitVec.ofNat 48 (pack (3 :: 4 :: ks) (4 :: op :: vs))
    decodeKloko n w = decodeLdst n op w.toNat ∧ unpack (3 :: 4 :: ks) w.toNat = 4 :: op :: vs := by
  intro w
  obtain ⟨hc, hu⟩ := word_fields rfl (by simp [hs]) hf
  have hop : w.toNat / 2 ^ 41 % 2 ^ 4 = op := by
    rw [unpack, unpack, hs] at hu
    exact (List.cons_eq_cons.mp (List.cons_eq_cons.mp hu).2).1
  exact ⟨by simp only [decodeKloko, w, hc]; exact congrArg (decodeLdst n · w.toNat) hop, hu⟩

/-! ### The local and the global forms by their fields (R260) -/

section
variable {w c o reg ofs : Nat}

theorem decodeLdst_indexed {ptr : Nat} (hu : unpack ldxW w = [c, o, reg, ptr, 0, ofs]) :
    decodeLdst n 0 w = some (.ldx n (Fin.ofNat 32 reg) (Fin.ofNat 8 ptr) (BitVec.ofNat 15 ofs)) ∧
    decodeLdst n 1 w = some (.stx n (Fin.ofNat 32 reg) (Fin.ofNat 8 ptr) (BitVec.ofNat 15 ofs)) := by
  simp [decodeLdst, hu]

theorem decodeLdst_direct (hu : unpack lddW w = [c, o, reg, 0, ofs]) :
    decodeLdst n 2 w = some (.ldd n (Fin.ofNat 32 reg) (BitVec.ofNat 15 ofs)) ∧
    decodeLdst n 3 w = some (.std n (Fin.ofNat 32 reg) (BitVec.ofNat 15 ofs)) := by
  simp [decodeLdst, hu]

theorem decodeLdst_global {base size : Nat} {sx : Bool} (hu : unpack ldgW w = [c, o, reg, base, size, if sx then 1 else 0, 0, ofs]) :
    decodeLdst n 4 w = some (.ldg n (Fin.ofNat 32 reg) (Fin.ofNat 16 base) (Fin.ofNat 8 size) sx (BitVec.ofNat 24 ofs)) ∧
    decodeLdst n 5 w = some (.stg n (Fin.ofNat 32 reg) (Fin.ofNat 16 base) (Fin.ofNat 8 size) sx (BitVec.ofNat 24 ofs)) ∧
    decodeLdst n 6 w = some (.aadd n (Fin.ofNat 32 reg) (Fin.ofNat 16 base) (Fin.ofNat 8 size) sx (BitVec.ofNat 24 ofs)) ∧
    decodeLdst n 7 w = some (.aswp n (Fin.ofNat 32 reg) (Fin.ofNat 16 base) (Fin.ofNat 8 size) sx (BitVec.ofNat 24 ofs)) := by
  cases sx <;> simp [decodeLdst, hu]

end

section
variable {reg ofs : Nat} (hr : reg < 32)
include hr

theorem decodeKloko_indexed {ptr : Nat} (hp : ptr < 8) (ho : ofs < 32768) :
    decodeKloko n (BitVec.ofNat 48 (pack ldxW [4, 0, reg, ptr, 0, ofs])) =
      some (.ldx n (Fin.ofNat 32 reg) (Fin.ofNat 8 ptr) (BitVec.ofNat 15 ofs)) ∧
    decodeKloko n (BitVec.ofNat 48 (pack ldxW [4, 1, reg, ptr, 0, ofs])) =
      some (.stx n (Fin.ofNat 32 reg) (Fin.ofNat 8 ptr) (BitVec.ofNat 15 ofs)) := by
  have fields : ∀ op, op < 16 → _ := fun op hop =>
    decodeKloko_ldst (n := n) (op := op) (ks := [5, 3, 18, 15]) (vs := [reg, ptr, 0, ofs]) rfl (by simp; omega)
  exact ⟨(fields 0 (by decide)).1.trans (decodeLdst_indexed (fields 0 (by decide)).2).1,
    (fields 1 (by decide)).1.trans (decodeLdst_indexed (fields 1 (by decide)).2).2⟩

theorem decodeKloko_direct (ho : ofs < 32768) :
    decodeKloko n (BitVec.ofNat 48 (pack lddW [4, 2, reg, 0, ofs])) = some (.ldd n (Fin.ofNat 32 reg) (BitVec.ofNat 15 ofs)) ∧
    decodeKloko n (BitVec.ofNat 48 (pack lddW [4, 3, reg, 0, ofs])) = some (.std n (Fin.ofNat 32 reg) (BitVec.ofNat 15 ofs)) := by
  have fields : ∀ op, op < 16 → _ := fun op hop =>
    decodeKloko_ldst (n := n) (op := op) (ks := [5, 21, 15]) (vs := [reg, 0, ofs]) rfl (by simp; omega)
  exact ⟨(fields 2 (by decide)).1.trans (decodeLdst_direct (fields 2 (by decide)).2).1,
    (fields 3 (by decide)).1.trans (decodeLdst_direct (fields 3 (by decide)).2).2⟩

theorem decodeKloko_global {base size : Nat} (sx : Bool) (hb : base < 16) (hs : size < 8) (ho : ofs < 16777216) :
    decodeKloko n (BitVec.ofNat 48 (pack ldgW [4, 4, reg, base, size, if sx then 1 else 0, 0, ofs])) =
      some (.ldg n (Fin.ofNat 32 reg) (Fin.ofNat 16 base) (Fin.ofNat 8 size) sx (BitVec.ofNat 24 ofs)) ∧
    decodeKloko n (BitVec.ofNat 48 (pack ldgW [4, 5, reg, base, size, if sx then 1 else 0, 0, ofs])) =
      some (.stg n (Fin.ofNat 32 reg) (Fin.ofNat 16 base) (Fin.ofNat 8 size) sx (BitVec.ofNat 24 ofs)) ∧
    decodeKloko n (BitVec.ofNat 48 (pack ldgW [4, 6, reg, base, size, if sx then 1 else 0, 0, ofs])) =
      some (.aadd n (Fin.ofNat 32 reg) (Fin.ofNat 16 base) (Fin.ofNat 8 size) sx (BitVec.ofNat 24 ofs)) ∧
    decodeKloko n (BitVec.ofNat 48 (pack ldgW [4, 7, reg, base, size, if sx then 1 else 0, 0, ofs])) =
      some (.aswp n (Fin.ofNat 32 reg) (Fin.ofNat 16 base) (Fin.ofNat 8 size) sx (BitVec.ofNat 24 ofs)) := by
  have fields : ∀ op, op < 16 → _ := fun op hop =>
    decodeKloko_ldst (n := n) (op := op) (ks := [5, 4, 3, 1, 4, 24]) (vs := [reg, base, size, if sx then 1 else 0, 0, ofs]) rfl
      (by cases sx <;> simp <;> omega)
  exact ⟨(fields 4 (by decide)).1.trans (decodeLdst_global (fields 4 (by decide)).2).1,
    (fields 5 (by decide)).1.trans (decodeLdst_global (fields 5 (by decide)).2).2.1,
    (fields 6 (by decide)).1.trans (decodeLdst_global (fields 6 (by decide)).2).2.2.1,
    (fields 7 (by decide)).1.trans (decodeLdst_global (fields 7 (by decide)).2).2.2.2⟩

end

end

/-- Whatever has an encoding is decoded from it: the class takes its fields apart, and its opcode names the instruction. -/
theorem decode_encode {i : Instr} {n : CoreId} {w : Word} (h : encodeKloko i = some (n, w)) : decodeKloko n w = some i := by
  cases i <;> cases h
  all_goals
    simp (disch := omega) only [decodeKloko_mac, decodeKloko_alu, decodeKloko_imm, decodeKloko_acc, decodeKloko_indexed,
      decodeKloko_direct, decodeKloko_global, decodeKloko_addr, decodeKloko_flow, decodeKloko_sys]
    simp [decodeMac, decodeAlu, decodeImm, decodeAcc, decodeAddr, decodeFlow, decodeSys, moveOf_moveBits]
  case ldih d v => exact v.isLt

/-! ### Whatever the decoder reads has an encoding -/

/-- What the decoder reads, if anything, is an instruction of the core that has an encoding. -/
def Encodes (n : CoreId) (o : Option Instr) : Prop := ∀ i, o = some i → ∃ w, encodeKloko i = some (n, w)

section
variable {n : CoreId}

theorem encodes_none : Encodes n none := fun _ h => nomatch h

theorem encodes_some {i : Instr} {w : Word} (h : encodeKloko i = some (n, w)) : Encodes n (some i) := fun _ hi =>
  ⟨w, Option.some.inj hi ▸ h⟩

theorem encodes_guard {p : Prop} [Decidable p] {o : Option Instr} (h : Encodes n o) : Encodes n (if p then o else none) := by
  split
  · exact h
  · exact encodes_none

variable {op : Nat}

theorem decodeMac_encodes {ad x y m1 m2 : Nat} : Encodes n (decodeMac n op ad x y m1 m2) := by
  unfold decodeMac
  extract_lets
  split
  case h_1 | h_8 => exact encodes_guard (encodes_some rfl)
  case h_9 => exact encodes_none
  all_goals exact encodes_some rfl

theorem decodeAlu_encodes {d s1 s2 m : Nat} : Encodes n (decodeAlu n op d s1 s2 m) := by
  unfold decodeAlu
  extract_lets
  split
  case h_24 => exact encodes_none
  all_goals exact encodes_some rfl

theorem decodeImm_encodes {d src imm : Nat} : Encodes n (decodeImm n op d src imm) := by
  unfold decodeImm
  extract_lets
  split
  case h_1 | h_2 | h_8 | h_9 | h_10 => exact encodes_guard (encodes_some rfl)
  case h_11 => exact encodes_none
  all_goals exact encodes_some rfl

theorem decodeAcc_encodes {ad asel g k : Nat} : Encodes n (decodeAcc n op ad asel g k) := by
  unfold decodeAcc
  extract_lets
  split
  case h_18 => exact encodes_none
  all_goals exact encodes_some rfl

theorem decodeLdst_encodes {w : Nat} : Encodes n (decodeLdst n op w) := by
  unfold decodeLdst
  split
  case h_9 => exact encodes_none
  all_goals exact encodes_guard (encodes_some rfl)

theorem decodeAddr_encodes {ptr kind g imm : Nat} : Encodes n (decodeAddr n op ptr kind g imm) := by
  unfold decodeAddr
  extract_lets
  split
  case h_12 => exact encodes_none
  all_goals exact encodes_some rfl

theorem decodeFlow_encodes {cond g count target : Nat} : Encodes n (decodeFlow n op cond g count target) := by
  unfold decodeFlow
  extract_lets
  split
  case h_13 => exact encodes_none
  all_goals exact encodes_some rfl

theorem decodeSys_encodes {g spec arg : Nat} : Encodes n (decodeSys n op g spec arg) := by
  unfold decodeSys
  extract_lets
  split
  case h_10 => exact encodes_none
  all_goals exact encodes_some rfl

/-- A class whose fields are what its layout says, and nothing else. -/
theorem decodeKloko_encodes (w : Word) : Encodes n (decodeKloko n w) := by
  unfold decodeKloko
  extract_lets w
  split
  · split
    · exact encodes_guard decodeMac_encodes
    · exact encodes_none
  · split
    · exact encodes_guard decodeAlu_encodes
    · exact encodes_none
  · split
    · exact decodeImm_encodes
    · exact encodes_none
  · split
    · exact encodes_guard decodeAcc_encodes
    · exact encodes_none
  · exact decodeLdst_encodes
  · split
    · exact encodes_guard decodeAddr_encodes
    · exact encodes_none
  · split
    · exact encodes_guard decodeFlow_encodes
    · exact encodes_none
  · split
    · exact encodes_guard decodeSys_encodes
    · exact encodes_none

end

/-- Settles O28: each class takes its own fields apart, and what it reads of a word is an instruction with an encoding. -/
theorem klokoRoundTrip : Obligations.KlokoRoundTrip :=
  ⟨fun _ _ _ => decode_encode, fun i _ w => decodeKloko_encodes w i⟩

end Sys2Proof
end

section
/-!
PROOFS. Exceptions and the canonical form of the registers (R242, R243): an interrupt entry reads the lines behind its own write of KCn_STAT.
-/

namespace Sys2Proof.Machine

/-! ### Two entries for one register -/

/-- Core 6 in WAIT with IE and every line enabled, doorbell 6 set and routed to line 5.  KCn_STAT stands in the table twice, which no
canonical table has: RUN in STATE is the reset value of core 6, so its write drops the first entry and lays the second, with TEXP, open. -/
def doubledStat : State :=
  { regs := [(KCn_STAT 6, 0x20000), (KCn_STAT 6, 0x20004), (KCn_DBELL 6, 1), (KC_IRTs 36, 0x156)]
    cores := Vector.replicate 7 { st := 0x20, imask := 0xFFFF }
    hst := { ready := true } }

theorem doubledStat_not_wf : doubledStat.wf = false := by decide +kernel

theorem doubledStat_mayEnter : mayEnter doubledStat 6 = true := by decide +kernel

/-- The line of doorbell 6 is the lowest that is pending before the entry. -/
theorem doubledStat_pending : pendingLine doubledStat 6 = some 5 := by decide +kernel

/-- The cause that core 6 holds behind a command. -/
def causeOfSix (o : Host.Outcome State Fault Refusal) : Word :=
  match o with
  | .next t => (t.core 6).ecause
  | _ => 0

/-- The entry takes line 2, that of TEXP. -/
theorem doubledStat_takes : causeOfSix (exec (.irqEntry 6) doubledStat) = 18 := by decide +kernel

/-- The statement's entry, which takes line 5. -/
theorem doubledStat_stated :
    causeOfSix (.next (haltDue 6 (enterExc 6 (16 + 5) (doubledStat.core 6).pc
      (if doubledStat.coreState 6 = K_WAIT then doubledStat.wr (KCn_STAT_STATE 6) K_RUN else doubledStat)))) = 21 := by
  decide +kernel

/-- Refutes O12: outside the canonical form the write of RUN to KCn_STAT can show another TEXP, and the entry takes the line that is
pending then: here line 2, where the statement has line 5 of the state before. -/
theorem not_klokoExceptions : ¬ Obligations.KlokoExceptions := by
  rintro ⟨-, entries, -⟩
  obtain ⟨-, -, -, irq⟩ := entries 6 doubledStat
  have stated := irq 5 doubledStat_mayEnter rfl rfl rfl doubledStat_pending
  have same : (18 : Word) = 21 := doubledStat_takes.symm.trans ((congrArg causeOfSix stated).trans doubledStat_stated)
  exact absurd same (by decide)

end Sys2Proof.Machine
end

section
/-!
PROOFS. The interconnect's commands (R214, R234, R235, R468 to R472).
-/

namespace Sys2Proof.Machine

/-! ### Accesses piece by piece -/

section
variable {init a : Nat}

theorem pieceLen_pos {n : Nat} (h : 0 < n) : 0 < pieceLen a n := by
  simp only [pieceLen, Nat.lt_min]
  refine ⟨h, ?_⟩
  split <;> omega

/-- Fuel beyond the bytes that are left changes nothing. -/
theorem busReadF_fuel (f : Nat) : ∀ (g n a : Nat) (s : State), n < f → n < g → busReadF init f a n s = busReadF init g a n s := by
  induction f with
  | zero => intro g n a s hf; omega
  | succ f ih =>
    intro g n a s hf hg
    obtain ⟨g, rfl⟩ := Nat.exists_eq_add_one_of_ne_zero (by omega : g ≠ 0)
    by_cases hn : n = 0
    · rw [hn, busReadF_zero, busReadF_zero]
    · have hk := pieceLen_pos (a := a) (Nat.pos_of_ne_zero hn)
      simp only [busReadF, if_neg hn]
      rw [ih g _ _ _ (by omega) (by omega)]

theorem busRead_piece {n : Nat} (hn : 0 < n) (s : State) :
    let x := pieceRead init a (pieceLen a n) s
    let y := busRead init (a + pieceLen a n) (n - pieceLen a n) x.2.2
    busRead init a n s = (firstCause x.1 y.1, x.2.1 ++ y.2.1, y.2.2) := by
  have hk := pieceLen_pos (a := a) hn
  rw [busRead, busReadF, if_neg (by omega)]
  simp only [busRead]
  rw [busReadF_fuel n (n - pieceLen a n + 1) _ _ _ (by omega) (by omega)]

theorem busWriteF_fuel (f : Nat) : ∀ (g a : Nat) (b : List Byte) (s : State), b.length < f → b.length < g →
    busWriteF init f a b s = busWriteF init g a b s := by
  induction f with
  | zero => intro g a b s hf; omega
  | succ f ih =>
    intro g a b s hf hg
    obtain ⟨g, rfl⟩ := Nat.exists_eq_add_one_of_ne_zero (by omega : g ≠ 0)
    by_cases hb : b = []
    · rw [hb, busWriteF_nil, busWriteF_nil]
    · have hl := List.length_pos_iff.mpr hb
      have hk := pieceLen_pos (a := a) hl
      simp only [busWriteF, List.isEmpty_iff, if_neg hb]
      rw [ih g _ _ _ (by rw [List.length_drop]; omega) (by rw [List.length_drop]; omega)]

theorem busWrite_piece {b : List Byte} (hb : b ≠ []) (s : State) :
    let k := pieceLen a b.length
    let x := pieceWrite init a (b.take k) s
    let y := busWrite init (a + k) (b.drop k) x.2
    busWrite init a b s = (firstCause x.1 y.1, y.2) := by
  have hk := pieceLen_pos (a := a) (List.length_pos_iff.mpr hb)
  rw [busWrite, busWriteF, if_neg (by simpa using hb)]
  simp only [busWrite]
  rw [busWriteF_fuel b.length ((b.drop (pieceLen a b.length)).length + 1) _ _ _
    (by rw [List.length_drop]; have := List.length_pos_iff.mpr hb; omega) (Nat.lt_succ_self _)]

end

/-! ### Transactions of an initiator (R214, R234, R450) -/

section
variable {init a : Nat} {s : State}

theorem accessBy_lost (h : portLost s init = true) (op : BusOp) : accessBy init a op s = s := by
  cases op <;> simp only [accessBy, busShown, h, if_true]

theorem busShown_taken (h : portLost s init = false) (op : BusOp) : busShown init a op s =
    returned (busOp init a op s).1 (busOp init a op s).2.1 (busOp init a op s).2.2 := if_neg (by simp [h])

theorem portLost_other (h : init ≠ 14) : portLost s init = false := by simp [portLost, h]

theorem accessBy_write_other (h : init ≠ 14) (b : List Byte) :
    accessBy init a (.write b) s = returned (busWrite init a b s).1 [] (busWrite init a b s).2 :=
  accessBy_write (portLost_other h) fun _ _ => setsStep_otherInit h

/-- The state in which an atomic access finds its word. -/
def atomicState (init a : Nat) (s : State) : State := traceInit init a false (if inBlocks a then unstage init s else s)

theorem busAtomic_taken (h : atomicCause (atomicState init a s) init a = 0) (f : Nat → Nat) : busAtomic init a f s =
    let t := correct a 4 (atomicState init a s)
    (0, t.le a 4, landWrite a (toLE 4 (f (t.le a 4))) t) := if_neg (not_not_intro h)

theorem busAtomic_refused {c : Nat} (h : atomicCause (atomicState init a s) init a = c) (hc : c ≠ 0) (f : Nat → Nat) :
    busAtomic init a f s = (c, 0, icError init a false c (refusedWrite a 4 c (atomicState init a s))) := by
  subst h
  exact if_pos hc

end

/-! ### Time-outs and the error log (R468, R472) -/

section
variable {init addr : Nat} {wr : Bool} {s : State}

theorem timedOut_alone (h : ((s.core init).out.find? fun x => x.addr == addr && x.dest.isNone == wr) = none) :
    timedOut init addr wr s = icError init addr wr 14 s := by
  have hcore : (icError init addr wr TIMEOUT s).core init = s.core init := core_of_cores (icError_cores ..) init
  simp only [timedOut, hcore, h]
  rfl

/-- A core's own access gets the error response. -/
theorem timedOut_own {x : GlobalAcc} (h : ((s.core init).out.find? fun x => x.addr == addr && x.dest.isNone == wr) = some x) :
    timedOut init addr wr s = haltDue init (takeAsync init (answer init { x with cause := 14, errAddr := addr }
      ((icError init addr wr 14 s).setCore init { s.core init with out := (s.core init).out.erase x }))) := by
  have hcore : (icError init addr wr TIMEOUT s).core init = s.core init := core_of_cores (icError_cores ..) init
  simp only [timedOut, hcore, h]
  rfl

theorem errLogRead_empty (h : s.bus.errors = []) : returned 0 (toLE 6 (errLogValue s)) (errLogRead init s) =
    returned 0 (toLE 6 0) { s with bus := { s.bus with infoLatch := s.bus.infoLatch.filter fun p => p.1 != init } } := by
  simp only [errLogValue, errLogRead, h]

theorem errLogRead_oldest {e : ErrEntry} {rest : List ErrEntry} (h : s.bus.errors = e :: rest) :
    returned 0 (toLE 6 (errLogValue s)) (errLogRead init s) = returned 0 (toLE 6 e.addr)
      { s with bus := { s.bus with infoLatch := (init, e) :: s.bus.infoLatch.filter fun p => p.1 != init } } := by
  simp only [errLogValue, errLogRead, h]

theorem errInfoRead_none (h : latchedError s init = none) :
    returned 0 (toLE 6 (errInfoValue s init)) (errInfoRead init s) = returned 0 (toLE 6 0) s := by
  simp only [errInfoValue, errInfoRead, h]

theorem errInfoRead_latched {e : ErrEntry} (h : latchedError s init = some e) :
    returned 0 (toLE 6 (errInfoValue s init)) (errInfoRead init s) = returned 0 (toLE 6 (errWord e))
      { s with bus := { s.bus with errors := s.bus.errors.erase e, infoLatch := s.bus.infoLatch.filter fun p => p.1 != init } } := by
  simp only [errInfoValue, errInfoRead, h]

end

/-! ### The firewall's lock (R470) -/

section
variable {init : Nat} {v : Word} {s : State}

theorem fwWrite_notMay {a : Nat} (h : mayFirewall s init = false) : fwWrite init a v s = icError init a true OWNER s :=
  guardW_refused h ..

theorem fwWrite_locked {a : Nat} (h : mayFirewall s init = true) (hl : s.flag IC_FWCTRL_LOCK = true) :
    fwWrite init a v s = icError init a true FIREWALL s :=
  (guardW_allowed h ..).trans (guardW_refused (by simp [hl]) ..)

theorem fwWrite_open {a : Nat} (h : mayFirewall s init = true) (hl : s.flag IC_FWCTRL_LOCK = false) :
    fwWrite init a v s = s.typed a v :=
  (guardW_allowed h ..).trans (guardW_allowed (by simp [hl]) ..)

end

/-- A command that is an access does what its meaning makes of the state behind the discarded half. -/
theorem asAccess_to {s t : State} {init a : Nat} {write : Bool} {f : State → State} (h : f (unstage init s) = t) :
    done (asAccess init a write f s) = .next (asAccess init a write (fun _ => t) s) := by
  rw [asAccess_const, h]
  rfl

/-- Settles O53: a transaction is the bus's access, piece by piece or atomic; a time-out, the log and the lock are their operations. -/
theorem interconnectCommands : Obligations.InterconnectCommands := by
  intro init core ofs op addr wr s keep at_ sa
  refine ⟨fun h => ⟨?lost, ?lostWindow⟩, fun h n => ?read, fun b h => ?write, fun a n hn => busRead_piece hn s,
    fun a b hb => busWrite_piece hb s, fun v h hc => ⟨?add, ?swap⟩, fun v h hc => ⟨?addRefused, ?swapRefused⟩, fun h => ?window,
    ⟨fun h => ?alone, fun x h => ?own⟩, ?log⟩
  case lost => exact congrArg done (accessBy_lost h op)
  case lostWindow => exact congrArg done (if_pos h)
  case read => exact congrArg done (busShown_taken h (.read n))
  case write => exact congrArg done (accessBy_write_other h b)
  case add => exact congrArg done ((busShown_taken h (.atomicAdd v)).trans (by rw [busOp, busAtomic_taken hc]; rfl))
  case swap => exact congrArg done ((busShown_taken h (.atomicSwap v)).trans (by rw [busOp, busAtomic_taken hc]; rfl))
  case addRefused => exact congrArg done ((busShown_taken h (.atomicAdd v)).trans (by rw [busOp, busAtomic_refused rfl hc]; rfl))
  case swapRefused => exact congrArg done ((busShown_taken h (.atomicSwap v)).trans (by rw [busOp, busAtomic_refused rfl hc]; rfl))
  case window => exact congrArg done (busShown_taken h op)
  case alone => exact congrArg (fun t => done (returned 14 [] t)) (timedOut_alone h)
  case own => exact congrArg (fun t => done (returned 14 [] t)) (timedOut_own h)
  case log =>
    intro acc u
    exact ⟨fun h => asAccess_to (errLogRead_empty h), fun e rest h => asAccess_to (errLogRead_oldest h),
      fun h => asAccess_to (errInfoRead_none h), fun e h => asAccess_to (errInfoRead_latched h),
      fun h => asAccess_to (fwWrite_notMay h), fun h hl => asAccess_to (fwWrite_locked h hl), fun h hl => asAccess_to (fwWrite_open h hl)⟩

end Sys2Proof.Machine
end

section
/-!
PROOFS. What leaves the cores unchanged beside the memories: the run state of a core, the record of an error response, and the stages
of a cold reset (R235, R250, R456 to R480).
-/

namespace Sys2Proof.Machine

section
variable {s : State}

theorem dogRestart_cores (n : Nat) : (dogRestart n s).cores = s.cores := by
  unfold dogRestart
  split <;> rfl

@[simp] theorem enterRun_cores (n st : Nat) : (enterRun n st s).cores = s.cores := by
  unfold enterRun
  extract_lets old t
  split
  · exact dogRestart_cores n
  · split <;> rfl

@[simp] theorem recordErr_cores (n : Nat) (x : GlobalAcc) : (recordErr n x s).cores = s.cores := rfl

/-! ### The stages of a cold reset -/

/-- Registers written one after another. -/
theorem foldl_setReg_cores {α : Type} (a : α → Nat) (v : State → α → Word) (l : List α) :
    (l.foldl (fun t x => t.setReg (a x) (v t x)) s).cores = s.cores := foldl_cores (fun _ _ => setReg_cores ..) l

theorem loadOtp_cores : (loadOtp s).cores = s.cores := by
  unfold loadOtp
  generalize List.range 4 = l4, List.range 32 = l32, List.range 64 = l64
  extract_lets s1 s2 s3 cfg s4 entry s5
  have h4 : s4.cores = s.cores := by simp only [s4, s3, s2, s1, wr_cores, put_eq, setReg_cores]
  have h5 : s5.cores = s4.cores := foldl_setReg_cores ..
  clear_value s5 s4
  exact (foldl_cores (fun _ _ => foldl_setReg_cores ..) _).trans (h5.trans h4)

theorem applyRepairs_cores : (applyRepairs s).cores = s.cores := by
  unfold applyRepairs
  exact foldl_setReg_cores ..

theorem bootMarch_cores : (bootMarch s).cores = s.cores := by
  unfold bootMarch
  split <;> rfl

theorem rootBand_cores : (rootBand s).2.cores = s.cores := by
  unfold rootBand
  split <;> rfl

theorem bootAcquire_cores : (bootAcquire s).cores = s.cores := rootBand_cores

theorem readCopies_cores : (readCopies s).cores = s.cores :=
  foldl_cores (fun _ _ => (foldl_cores (fun _ _ => countUnc_cores _) _).trans (correct_cores ..)) _

theorem loadMirror_cores : (loadMirror s).cores = s.cores := by
  unfold loadMirror
  simp only [flushCopies_cores, raise_eq, clear_eq, put_eq, wr_cores]
  rw [← readCopies_cores (s := s)]
  generalize readCopies s = r
  cases inForce r with
  | some c =>
    dsimp only
    generalize mirrorValues _ = l
    iterate 4 rw [wr_cores]
    exact foldl_setReg_cores Prod.fst (fun _ x => BitVec.ofNat 48 x.2) l
  | none =>
    generalize mirrorRegs = l
    iterate 4 rw [wr_cores]
    exact foldl_setReg_cores id (fun _ a => regReset a) l

/-- A cold reset leaves every core as a reset leaves it. -/
theorem coldReset_core (deep : Bool) (n : Nat) : (coldReset deep s).core n = {} := by
  have hbase : (coldBase deep s).core n = {} := by
    by_cases h : n < 7 <;> simp [State.core, coldBase, Vector.getD, h]
  refine (core_of_cores ?_ n).trans hbase
  unfold coldReset
  have htake : ∀ r (t : State), (takePath r t).cores = t.cores := fun _ _ => rfl
  have hstraps : ∀ t : State, (sampleStraps t).cores = t.cores := fun _ => rfl
  have hcounters : ∀ t : State, (showCounters t).cores = t.cores := fun _ => rfl
  cases deep <;>
    simp [loadMirror_cores, bootAcquire_cores, htake, bootMarch_cores, applyRepairs_cores, hstraps, hcounters, loadOtp_cores]

/-! ### The slots of the parallel moves (R236) -/

theorem moveOne_cores (n : Nat) (c : CoreState) (m : Move) (o : MoveOut) : (moveOne n c m o).s.cores = o.s.cores := by
  unfold moveOne
  extract_lets w
  split
  · exact writeDm_cores ..
  · have h := readDm_cores (s := o.s) n w
    split
    · next heq => rwa [heq] at h
    · rfl

theorem doMoves_cores (n : Nat) (c : CoreState) (ms : List Move) : (doMoves n c ms s).s.cores = s.cores := by
  have h : (ms.foldl (fun o m => moveOne n c m o) { s := s }).s.cores = s.cores :=
    List.foldlRecOn (motive := fun o : MoveOut => o.s.cores = s.cores) ms _ rfl fun o ho m _ => (moveOne_cores n c m o).trans ho
  unfold doMoves
  extract_lets o
  split <;> exact h

end

end Sys2Proof.Machine
end

section
/-!
PROOFS. The stacks of a core (R218, R239): what leaves them as they are, what shortens them, and what fills them.
-/

namespace Sys2Proof.Machine

/-- The loop stack and the return stack. -/
def CoreState.stacks (c : CoreState) : List LoopRec × List (BitVec 14) := (c.loops, c.rets)

theorem stacksOk_iff {c : CoreState} : c.stacksOk = true ↔ c.loops.length ≤ 4 ∧ c.rets.length ≤ 16 := by simp [CoreState.stacksOk]

theorem stacksOk_of_stacks {c d : CoreState} (h : d.stacks = c.stacks) (hc : c.stacksOk = true) : d.stacksOk = true := by
  obtain ⟨hl, hr⟩ : d.loops = c.loops ∧ d.rets = c.rets := by simpa [CoreState.stacks] using h
  simpa [CoreState.stacksOk, hl, hr] using hc

/-! ### Registers, accumulators and pointers leave them -/

section
variable (c : CoreState)

theorem foldl_stacks {α : Type} {f : CoreState → α → CoreState} (hf : ∀ d x, (f d x).stacks = d.stacks) (l : List α) :
    (l.foldl f c).stacks = c.stacks :=
  List.foldlRecOn (motive := fun d => d.stacks = c.stacks) l f rfl fun d hd x _ => (hf d x).trans hd

@[simp] theorem setG_stacks (k : Nat) (v : Word) : (c.setG k v).stacks = c.stacks := rfl
@[simp] theorem setSt_stacks (k : Nat) (b : Bool) : (c.setSt k b).stacks = c.stacks := rfl
@[simp] theorem putAcc_stacks (k : Nat) (z : Int) : (c.putAcc k z).stacks = c.stacks := rfl
@[simp] theorem loadAcc_stacks (k : Nat) (z : Int) : (c.loadAcc k z).stacks = c.stacks := rfl
@[simp] theorem setPtr_stacks (k v : Nat) : (c.setPtr k v).stacks = c.stacks := rfl

@[simp] theorem accumulate_stacks (k : Nat) (z : Int) : (c.accumulate k z).2.stacks = c.stacks := by
  unfold CoreState.accumulate
  repeat' split
  all_goals rfl

@[simp] theorem moveSat_stacks (sat : Bool) : (c.moveSat sat).stacks = c.stacks := by
  unfold CoreState.moveSat
  split
  · rfl
  · extract_lets d
    split <;> rfl

@[simp] theorem loadReg_stacks (r : Nat) (v : Word) : (c.loadReg r v).stacks = c.stacks := by
  unfold CoreState.loadReg
  split <;> rfl

@[simp] theorem setLen_stacks (k : Nat) (v : BitVec 15) : (c.setLen k v).stacks = c.stacks := by
  unfold CoreState.setLen
  extract_lets d
  split <;> rfl

theorem applyMoves_stacks (ms : List Move) (o : MoveOut) (before : CoreState) : (applyMoves ms o before c).stacks = c.stacks :=
  (moveSat_stacks ..).trans ((foldl_stacks _ (fun _ _ => setPtr_stacks ..) ms).trans (foldl_stacks c (fun _ _ => loadReg_stacks ..) o.loads))

theorem setModes_stacks (arg : BitVec 16) : (setModes arg c).stacks = c.stacks := by
  refine foldl_stacks c (fun d k => ?_) _
  repeat' split
  all_goals rfl

theorem clearSticky_stacks (arg : BitVec 16) : (clearSticky arg c).stacks = c.stacks := by
  refine foldl_stacks c (fun d k => ?_) _
  split <;> rfl

theorem writeSpecial_stacks {c d : CoreState} {spec : Nat} {v : Word} (h : writeSpecial c spec v = some d) : d.stacks = c.stacks := by
  unfold writeSpecial at h
  split at h
  case h_8 => cases h
  all_goals
    obtain rfl := Option.some.inj h
    rfl

/-! ### Where a core goes on (R238, R239) -/

/-- A loop that ends leaves the stack shorter. -/
theorem loopEnd_stacks : ∀ l : List LoopRec, (loopEnd c l).loops.length ≤ l.length ∧ (loopEnd c l).rets = c.rets
  | [] => ⟨le_rfl, rfl⟩
  | l :: rest => by
    unfold loopEnd
    split
    · split
      · exact ⟨le_rfl, rfl⟩
      · obtain ⟨hl, hr⟩ := loopEnd_stacks rest
        exact ⟨hl.trans (Nat.le_succ _), hr⟩
    · exact ⟨le_rfl, rfl⟩

theorem leaveLoops_length (pc t : BitVec 14) : ∀ l : List LoopRec, (leaveLoops pc t l).length ≤ l.length
  | [] => le_rfl
  | l :: rest => by
    have ih := leaveLoops_length pc t rest
    simp only [leaveLoops]
    split
    · exact ih.trans (Nat.le_succ _)
    · exact Nat.succ_le_succ ih

theorem goOn_stacksOk {c : CoreState} (h : c.stacksOk = true) (a : After) : (goOn c a).stacksOk = true := by
  obtain ⟨hl, hr⟩ := stacksOk_iff.mp h
  match a with
  | .seq =>
    obtain ⟨hl', hr'⟩ := loopEnd_stacks c c.loops
    exact stacksOk_iff.mpr ⟨hl'.trans hl, by simpa only [goOn, hr'] using hr⟩
  | .to t => exact stacksOk_iff.mpr ⟨(leaveLoops_length ..).trans hl, hr⟩
  | .resume t => exact h

end

/-! ### What fills and empties them (R239, R262) -/

theorem pushLoop_stacksOk {c : CoreState} (h : c.stacksOk = true) (hl : ¬4 ≤ c.loops.length) (l : LoopRec) :
    { c with loops := l :: c.loops }.stacksOk = true := by
  obtain ⟨-, hr⟩ := stacksOk_iff.mp h
  exact stacksOk_iff.mpr ⟨Nat.lt_of_not_le hl, hr⟩

theorem pushRet_stacksOk {c : CoreState} (h : c.stacksOk = true) (hr : ¬16 ≤ c.rets.length) (a : BitVec 14) :
    { c with rets := a :: c.rets }.stacksOk = true := by
  obtain ⟨hl, -⟩ := stacksOk_iff.mp h
  exact stacksOk_iff.mpr ⟨hl, Nat.lt_of_not_le hr⟩

theorem popRet_stacksOk {c : CoreState} (h : c.stacksOk = true) {a : BitVec 14} {rest : List (BitVec 14)} (hc : c.rets = a :: rest) :
    { c with rets := rest }.stacksOk = true := by
  obtain ⟨hl, hr⟩ := stacksOk_iff.mp h
  rw [hc] at hr
  exact stacksOk_iff.mpr ⟨hl, Nat.le_of_succ_le hr⟩

/-! ### The stacks of every core -/

/-- No core holds more than four loops or more than sixteen return addresses. -/
def StacksOk (s : State) : Prop := ∀ m : Nat, (s.core m).stacksOk = true

theorem StacksOk.of_cores {s t : State} (hs : StacksOk s) (h : t.cores = s.cores) : StacksOk t := fun m =>
  core_of_cores h m ▸ hs m

theorem core_out (s : State) {m : Nat} (h : ¬m < 7) : s.core m = {} := by simp [State.core, Vector.getD, h]

theorem stacksOk_of_coreIds {s : State} (hs : ∀ m : CoreId, (s.core m).stacksOk = true) : StacksOk s := fun m =>
  if h : m < 7 then hs ⟨m, h⟩ else core_out s h ▸ rfl

section
variable {s : State} (hs : StacksOk s) (n : Nat)
include hs

theorem StacksOk.setCore {c : CoreState} (hc : c.stacksOk = true) : StacksOk (s.setCore n c) := fun m => by
  by_cases hm : m = n
  · subst hm
    by_cases h : m < 7
    · rwa [setCore_core_eq _ _ _ h]
    · rw [core_out _ h]
      rfl
  · rw [setCore_core_ne _ _ _ _ hm]
    exact hs m

/-- A core whose other parts are replaced. -/
theorem StacksOk.setOther {c : CoreState} (hc : c.stacks = (s.core n).stacks) : StacksOk (s.setCore n c) :=
  hs.setCore n (stacksOk_of_stacks hc (hs n))

/-! ### Cycles, run states and exceptions (R238, R242 to R244, R253) -/

theorem StacksOk.stallCore (k : Nat) : StacksOk (stallCore n k s) := hs.setOther n rfl

theorem StacksOk.stallFree : StacksOk (stallFree n s) := StacksOk.stallCore (s := (s.fresh 16).2) hs n _

theorem StacksOk.addCycles (i : Instr) (cost : Nat) : StacksOk (addCycles i n cost s) := hs.setOther n rfl

theorem StacksOk.haltCore : StacksOk (haltCore n s) :=
  (hs.setOther n (c := { s.core n with former := s.coreState n }) rfl).of_cores ((traceCore_cores ..).trans (enterRun_cores ..))

theorem StacksOk.haltDue : StacksOk (haltDue n s) := by
  unfold Machine.haltDue
  split
  · exact hs.haltCore n
  · exact hs

theorem StacksOk.enterExc (cause : Nat) (epc : BitVec 14) : StacksOk (enterExc n cause epc s) := by
  unfold Machine.enterExc
  extract_lets c word d
  have hd : StacksOk (s.setCore n d) := hs.setOther n rfl
  exact (StacksOk.stallCore (hd.of_cores (wr_cores ..)) n 4).of_cores (traceCore_cores ..)

/-- An error response waits while EXL is 1; else its flag is taken down and the exception entered. -/
theorem StacksOk.takeAsync : StacksOk (takeAsync n s) := by
  unfold Machine.takeAsync
  extract_lets c
  repeat' split
  · exact hs
  · exact (hs.setOther n (c := { c with ldErr := false }) rfl).enterExc n _ _
  · exact (hs.setOther n (c := { c with stErr := false }) rfl).enterExc n _ _
  · exact hs

/-- A core that faults raises NMI of the others, and the fault of SV may reset the device. -/
theorem StacksOk.faultCore (why : Nat) : StacksOk (faultCore n why s) := by
  unfold Machine.faultCore
  extract_lets c s1 s2 s3 s4 s5 s6 s7
  have h1 : s1.cores = s.cores := enterRun_cores ..
  have h2 : s2.cores = s.cores := by
    refine (foldl_cores (fun t x => ?_) _).trans h1
    split <;> rfl
  have h3 : StacksOk s3 := (hs.of_cores h2).setCore n (stacksOk_of_stacks (c := s.core n) rfl (hs n))
  have h5 : StacksOk s5 := h3.of_cores rfl
  have h6 : StacksOk s6 := h5.of_cores (by simp only [s6]; split <;> exact logUnit_cores ..)
  have h7 : StacksOk s7 := by
    refine List.foldlRecOn (motive := StacksOk) _ _ h6 fun t ht m _ => ?_
    split
    · exact ht.setOther m rfl
    · exact ht
  split
  · exact fun m => by
      rw [resetBy, coldReset_core]
      rfl
  · exact h7

theorem StacksOk.syncCauses (causes : List Nat) (epc : BitVec 14) : StacksOk (syncCauses n causes epc s) := by
  unfold Machine.syncCauses
  extract_lets c all
  split
  · exact hs.faultCore n 1
  · clear_value all
    cases all with
    | nil => exact hs
    | cons k rest => exact (hs.setOther n (c := { c with causes := rest }) rfl).enterExc n k epc

theorem StacksOk.boundary (raised : List Nat) : StacksOk (boundary n raised s) := by
  unfold Machine.boundary
  split
  · exact hs
  · extract_lets c t
    have ht : StacksOk t := by
      simp only [t]
      split
      · refine StacksOk.syncCauses ?_ n raised _
        split <;> exact hs
      · exact hs
    exact (ht.takeAsync n).haltDue n

/-! ### Answers of global accesses (R233, R235) -/

theorem StacksOk.answer (x : GlobalAcc) : StacksOk (answer n x s) := by
  unfold Machine.answer
  extract_lets c d e
  have hd : d.stacks = (s.core n).stacks := by
    simp only [d]
    split <;> rfl
  have he : e.stacks = (s.core n).stacks := by
    simp only [e]
    split <;> exact hd
  split
  · exact hs.setOther n hd
  · exact (hs.setOther n he).of_cores (recordErr_cores ..)

theorem StacksOk.answerOne (x : GlobalAcc) : StacksOk (answerOne n x s) :=
  (hs.setOther n (c := { s.core n with out := (s.core n).out.erase x }) rfl).answer n x

theorem StacksOk.answerAll : StacksOk (answerAll n s) :=
  List.foldlRecOn (motive := StacksOk) _ _ (hs.setOther n (c := { s.core n with out := [] }) rfl) fun _ ht x _ => ht.answer n x

theorem StacksOk.awaitAll : StacksOk (awaitAll n s) := by
  unfold Machine.awaitAll
  split
  · exact hs
  · exact (hs.answerAll n).stallFree n

end

theorem StacksOk.awaitLoads (n : Nat) (uses : List Nat) : ∀ (fuel : Nat) {s : State}, StacksOk s → StacksOk (awaitLoads n uses fuel s)
  | 0, _, hs => hs
  | fuel + 1, s, hs => by
    unfold Machine.awaitLoads
    extract_lets c hit
    split
    · exact hs
    · exact StacksOk.awaitLoads n uses fuel ((hs.answerOne n _).stallFree n)

/-! ### An instruction (R241) -/

/-- What an instruction makes of the stacks, and its action behind its end. -/
def KRes.StacksOk : KRes → Prop
  | .stop _ t => Machine.StacksOk t
  | .ok t _ _ _ _ post => Machine.StacksOk t ∧ ∀ u, Machine.StacksOk u → Machine.StacksOk (post u)

/-- An instruction without an action on the device. -/
theorem KRes.ok_stacksOk {t : State} (h : Machine.StacksOk t) {next : After} {raised : List Nat} {cost : Nat}
    {len : Option (Nat × BitVec 15)} : (KRes.ok t next raised cost len id).StacksOk := ⟨h, fun _ => id⟩

theorem KRes.plain_stacksOk {t : State} (h : Machine.StacksOk t) {raised : List Nat} : (KRes.plain t raised).StacksOk := KRes.ok_stacksOk h

section
variable {n : Nat} {i : Instr} {body : State → KRes}

theorem issueInstr_stacksOk (hb : ∀ t, StacksOk t → (body t).StacksOk) {s : State} (hs : StacksOk s) : StacksOk (issueInstr n i body s) := by
  unfold issueInstr
  extract_lets t c stopped
  have ht : StacksOk t := hs.awaitLoads n _ 17
  clear_value t
  have hstop : ∀ cause u, StacksOk u → StacksOk (stopped cause u) := fun cause u hu =>
    ((hu.addCycles n i 1).syncCauses n _ _).boundary n _
  split
  · exact (ht.takeAsync n).haltDue n
  · split
    · exact hstop _ _ (ht.of_cores (countParity_cores ..))
    · split
      · exact hstop _ _ ht
      · have hr := hb t ht
        split
        next cause u heq =>
          rw [heq] at hr
          exact hstop _ _ hr
        next u next raised cost len post heq =>
          rw [heq] at hr
          obtain ⟨hu, hpost⟩ := hr
          have hend : StacksOk (u.setCore n (endOf (u.core n) next len)) :=
            hu.setCore n (stacksOk_of_stacks (c := goOn (u.core n) next) rfl (goOn_stacksOk (hu n) next))
          exact (hpost _ ((hend.addCycles n i cost).of_cores (traceAfter_cores n next))).boundary n _

theorem runInstr_stacksOk (hb : ∀ t, StacksOk t → (body t).StacksOk) {s : State} (hs : StacksOk s) : StacksOk (runInstr n i body s) := by
  unfold runInstr
  split
  · refine issueInstr_stacksOk hb ?_
    split <;> exact hs
  · exact hs

end

end Sys2Proof.Machine
end

section
/-!
PROOFS. The stacks stay within their depths whatever a core carries out (R218, R239, R262).
-/

namespace Sys2Proof.Machine

section
variable {n : Nat} {i : Instr} {s : State} (hs : StacksOk s)
include hs

/-! ### MAC, ALU, IMM and ACC classes -/

theorem withMoves_stacksOk {ms : List Move} {writes : Option Nat} {f : CoreState → Arith} (hf : ∀ c, (f c).core.stacks = c.stacks) :
    (withMoves n ms writes f s).StacksOk := by
  unfold withMoves
  extract_lets c o
  have ho : StacksOk o.s := hs.of_cores (doMoves_cores ..)
  split
  · exact hs
  · split
    · exact hs
    · split
      · exact hs.of_cores (readDm_cores ..)
      · exact KRes.plain_stacksOk (ho.setCore n (stacksOk_of_stacks ((applyMoves_stacks ..).trans (hf c)) (hs n)))

theorem runMoves_stacksOk {ms : List Move} {writes : Option Nat} {f : CoreState → Arith} (hf : ∀ c, (f c).core.stacks = c.stacks) :
    StacksOk (runInstr n i (withMoves n ms writes f) s) :=
  runInstr_stacksOk (fun _ ht => withMoves_stacksOk ht hf) hs

theorem macLoad_stacksOk {ad : Nat} {ms : List Move} {z : CoreState → Int} : StacksOk (macLoad i n ad ms z s) :=
  runMoves_stacksOk hs fun c => loadAcc_stacks c ad _

theorem macAdd_stacksOk {ad : Nat} {ms : List Move} {z : CoreState → Int} : StacksOk (macAdd i n ad ms z s) :=
  runMoves_stacksOk hs fun c => accumulate_stacks c ad _

theorem aluOp_stacksOk {d : Nat} {mv : Option Move} {f : CoreState → AluOut} : StacksOk (aluOp i n d mv f s) :=
  runMoves_stacksOk hs fun _ => rfl

theorem aluTest_stacksOk {mv : Option Move} {f : CoreState → AluOut} : StacksOk (aluTest i n mv f s) :=
  runMoves_stacksOk hs fun _ => rfl

theorem accOp_stacksOk {f : CoreState → Arith} (hf : ∀ c, (f c).core.stacks = c.stacks) : StacksOk (accOp i n f s) :=
  runMoves_stacksOk hs hf

theorem accAdd_stacksOk {ad : Nat} {z : CoreState → Int} : StacksOk (accAdd i n ad z s) :=
  accOp_stacksOk hs fun c => accumulate_stacks c ad _

theorem accBits_stacksOk {ad g lo w : Nat} : StacksOk (accBits i n ad g lo w s) := accOp_stacksOk hs fun _ => rfl

theorem accRead_stacksOk {g : Nat} {v : CoreState → Word} : StacksOk (accRead i n g v s) := accOp_stacksOk hs fun _ => rfl

/-! ### Local loads and stores, and the ADDR class -/

theorem localLoad_stacksOk {reg : Nat} {at_ : CoreState → Nat} : StacksOk (localLoad i n reg at_ s) := by
  refine runInstr_stacksOk (fun t ht => ?_) hs
  have hread : StacksOk (readDm n (at_ (t.core n)) t).2 := ht.of_cores (readDm_cores ..)
  dsimp only
  split
  · exact ht
  · split
    · next heq =>
      rw [heq] at hread
      exact hread
    · next heq =>
      rw [heq] at hread
      exact KRes.plain_stacksOk (hread.setCore n (stacksOk_of_stacks (loadReg_stacks ..) (ht n)))

theorem localStore_stacksOk {reg : Nat} {at_ : CoreState → Nat} : StacksOk (localStore i n reg at_ s) := by
  refine runInstr_stacksOk (fun t ht => ?_) hs
  dsimp only
  split
  · exact ht
  · exact KRes.plain_stacksOk ((ht.of_cores (writeDm_cores ..)).setCore n (stacksOk_of_stacks (moveSat_stacks ..) (ht n)))

theorem addrOp_stacksOk {f : CoreState → CoreState × Option (Nat × BitVec 15)} (hf : ∀ c, (f c).1.stacks = c.stacks) :
    StacksOk (addrOp i n f s) :=
  runInstr_stacksOk (fun _ ht => KRes.ok_stacksOk (ht.setOther n (hf _))) hs

/-! ### FLOW class -/

theorem go_stacksOk {t : BitVec 14} {cost : Nat} : (go t cost s).StacksOk := KRes.ok_stacksOk hs

theorem goIf_stacksOk {b : Bool} {t : BitVec 14} : (goIf b t s).StacksOk := by
  cases b
  · exact KRes.ok_stacksOk hs
  · exact go_stacksOk hs

/-- A call pushes on a return stack that is not full. -/
theorem callTo_stacksOk {t : CoreState → BitVec 14} {cost : Nat} : (callTo n t cost (s.core n) s).StacksOk := by
  unfold callTo
  split
  · exact hs
  · next hr => exact go_stacksOk (hs.setCore n (pushRet_stacksOk (hs n) hr _))

/-- A loop begins on a loop stack that is not full. -/
theorem startLoop_stacksOk {count : Nat} {stop : BitVec 14} : (startLoop n count stop (s.core n) s).StacksOk := by
  unfold startLoop
  split
  · exact hs
  · split
    · exact hs
    · next hl =>
      split
      · exact go_stacksOk hs
      · exact KRes.plain_stacksOk (hs.setCore n (pushLoop_stacksOk (hs n) hl _))

theorem ret_stacksOk : KRes.StacksOk (match (s.core n).rets with
    | [] => .stop X_RSUNF s
    | t :: rest => go t 3 (s.setCore n { s.core n with rets := rest })) := by
  split
  · exact hs
  · next heq => exact go_stacksOk (hs.setCore n (popRet_stacksOk (hs n) heq))

/-! ### SYS class -/

theorem thenDo_stacksOk {post : State → State} (hp : ∀ u, StacksOk u → StacksOk (post u)) : (thenDo post s).StacksOk := ⟨hs, hp⟩

end

section
variable {n : Nat} {i : Instr} {f : CoreState → State → KRes} (hf : ∀ t, StacksOk t → (f (t.core n) t).StacksOk) {s : State} (hs : StacksOk s)
include hf hs

theorem flowOp_stacksOk : StacksOk (flowOp i n f s) := runInstr_stacksOk hf hs

theorem sysOp_stacksOk : StacksOk (sysOp i n f s) := runInstr_stacksOk hf hs

end

/-- Whatever a core carries out but a global access answers a state whose stacks are within their depths. -/
theorem exec_stacksOk {i : Instr} {n : CoreId} {w : Word} {s : State} (henc : encodeKloko i = some (n, w)) (hg : globalInstr i = false)
    (hs : StacksOk s) : ∃ t, exec i s = .next t ∧ StacksOk t := by
  cases i
  case pmov => exact ⟨_, rfl, runMoves_stacksOk hs fun _ => rfl⟩
  case mpy | mpysu => exact ⟨_, rfl, macLoad_stacksOk hs⟩
  case mac | msu | macsu | macuu | accx => exact ⟨_, rfl, macAdd_stacksOk hs⟩
  case mov | add | adc | sub | sbc | adds | subs | neg | abs | and | or | xor | andn | not | shl | shr | sra | min | max | cls | mull
      | ldi | addi | andi | ori | xori | shli | shri | srai =>
    exact ⟨_, rfl, aluOp_stacksOk hs⟩
  case cmp | tst | cmpi => exact ⟨_, rfl, aluTest_stacksOk hs⟩
  case ldih => exact ⟨_, rfl, runMoves_stacksOk hs fun _ => rfl⟩
  case clra | lda | mova | tsta => exact ⟨_, rfl, accOp_stacksOk hs fun _ => rfl⟩
  case mva => exact ⟨_, rfl, accOp_stacksOk hs fun c => moveSat_stacks ..⟩
  case adda | suba | nega | asla | asra => exact ⟨_, rfl, accAdd_stacksOk hs⟩
  case wral | wrah | wrag => exact ⟨_, rfl, accBits_stacksOk hs⟩
  case rdal | rdah | rdag | norma => exact ⟨_, rfl, accRead_stacksOk hs⟩
  case ldx | ldd => exact ⟨_, rfl, localLoad_stacksOk hs⟩
  case stx | std => exact ⟨_, rfl, localStore_stacksOk hs⟩
  case ldg | stg | aadd | aswp => cases hg
  case ldli | ldlg => exact ⟨_, rfl, addrOp_stacksOk hs fun c => setLen_stacks ..⟩
  case ldpi | ldbi | ldmi | ldpg | ldbg | ldmg | rdar | modp | modpm => exact ⟨_, rfl, addrOp_stacksOk hs fun _ => rfl⟩
  case br => exact ⟨_, rfl, flowOp_stacksOk (fun _ ht => goIf_stacksOk ht) hs⟩
  case jmp | jr => exact ⟨_, rfl, flowOp_stacksOk (fun _ ht => go_stacksOk ht) hs⟩
  case call | callr => exact ⟨_, rfl, flowOp_stacksOk (fun _ ht => callTo_stacksOk ht) hs⟩
  case ret => exact ⟨_, rfl, flowOp_stacksOk (fun _ ht => ret_stacksOk ht) hs⟩
  case rte => exact ⟨_, rfl, flowOp_stacksOk (fun _ ht => KRes.ok_stacksOk (ht.setOther _ (by rfl))) hs⟩
  case loop | loopg =>
    refine ⟨_, rfl, flowOp_stacksOk (fun _ ht => ?_) hs⟩
    exact startLoop_stacksOk ht
  case dbnz => exact ⟨_, rfl, flowOp_stacksOk (fun _ ht => goIf_stacksOk (ht.setOther _ (setG_stacks ..))) hs⟩
  case trap => exact ⟨_, rfl, flowOp_stacksOk (fun _ ht => KRes.plain_stacksOk (ht.setOther _ (by rfl))) hs⟩
  case brk =>
    refine ⟨_, rfl, flowOp_stacksOk (fun _ ht => ?_) hs⟩
    exact ht
  case nop => exact ⟨_, rfl, sysOp_stacksOk (fun _ ht => KRes.plain_stacksOk ht) hs⟩
  case mvs =>
    refine ⟨_, rfl, sysOp_stacksOk (fun _ ht => ?_) hs⟩
    split
    · exact KRes.plain_stacksOk (ht.setOther _ (setG_stacks ..))
    · exact ht
  case mvsr =>
    refine ⟨_, rfl, sysOp_stacksOk (fun _ ht => ?_) hs⟩
    split
    · next hw => exact KRes.plain_stacksOk (ht.setOther _ (writeSpecial_stacks hw))
    · exact ht
  case setm => exact ⟨_, rfl, sysOp_stacksOk (fun _ ht => KRes.plain_stacksOk (ht.setOther _ (setModes_stacks ..))) hs⟩
  case clrst => exact ⟨_, rfl, sysOp_stacksOk (fun _ ht => KRes.plain_stacksOk (ht.setOther _ (clearSticky_stacks ..))) hs⟩
  case fence => exact ⟨_, rfl, sysOp_stacksOk (fun _ ht => thenDo_stacksOk ht fun _ hu => hu.awaitAll _) hs⟩
  case wait =>
    refine ⟨_, rfl, sysOp_stacksOk (fun _ ht => thenDo_stacksOk ht fun _ hu => ?_) hs⟩
    split
    · exact hu
    · exact hu.of_cores (enterRun_cores ..)
  case halt => exact ⟨_, rfl, sysOp_stacksOk (fun _ ht => thenDo_stacksOk ht fun _ hu => (hu.awaitAll _).of_cores (enterRun_cores ..)) hs⟩
  case signal =>
    refine ⟨_, rfl, sysOp_stacksOk (fun _ ht => ?_) hs⟩
    dsimp only
    split
    · exact ht
    · exact thenDo_stacksOk ht fun _ hu => hu.of_cores rfl
  all_goals cases henc

/-- Settles O29: only CALL and LOOP fill a stack, and only one that is not full; every other part of an instruction leaves the stacks or
takes from them, and a reset of the device empties them. -/
theorem klokoStacks : Obligations.KlokoStacks := by
  intro i n w s henc hg _ hs
  obtain ⟨t, ht, hok⟩ := exec_stacksOk henc hg (stacksOk_of_coreIds hs)
  exact ⟨t, ht, fun m => hok m⟩

end Sys2Proof.Machine
end
